-- ==== Sys2Proof/Word.lean ====
section
/-! DEFINITION. The plain words of the model: bytes, instants, the numbered things of the booth (projectors,
houses, ports), and a bank of like records with its one read and one write. -/

namespace Sys2Proof

/-- A byte of the serial line. -/
abbrev Byte := BitVec 8

/-- An instant, in tenths of a millisecond on the model's own time axis (R2 measures in tenths). -/
abbrev Instant := Nat

/-- A projector, and with it its lamp, douser, transport unit and cue reader: projector `n` of the reference is
`n - 1` here (00_scope, Numbering). -/
abbrev Proj := Fin 8

/-- A house, and with it its house controller, light channel and sound gate: house `h` is `h - 1` here. -/
abbrev HouseId := Fin 4

/-- A port: port `n` is `n - 1` here. Ports 0 to 7 are the projection ports, 8 to 11 the observation ports. -/
abbrev PortId := Fin 12

/-- A side of a house. -/
inductive Side where
  | a
  | b
deriving DecidableEq, Repr

/-- The other side of the house. -/
def Side.other : Side → Side
  | .a => .b
  | .b => .a

/-- A fixed number of like records, one per projector, house or port. -/
abbrev Bank (α : Type) (n : Nat) := Vector α n

/-- The record at place `i`. -/
def Bank.cell {α : Type} {n : Nat} (b : Bank α n) (i : Fin n) : α := Vector.get b i

/-- The bank with the record at place `i` replaced. -/
def Bank.put {α : Type} {n : Nat} (b : Bank α n) (i : Fin n) (x : α) : Bank α n := Vector.set b i x

/-- Milliseconds as tenths of a millisecond. -/
def ms (n : Nat) : Nat := 10 * n

/-- The eight projectors in number order. -/
def allProjs : List Proj := [0, 1, 2, 3, 4, 5, 6, 7]

/-- The four houses in number order. -/
def allHouses : List HouseId := [0, 1, 2, 3]

/-- The twelve ports in number order. -/
def allPorts : List PortId := [0, 1, 2, 3, 4, 5, 6, 7, 8, 9, 10, 11]

end Sys2Proof
end

