-- ==== Sys2Proof/Syntax.lean ====
section
/-! DEFINITION. The commands of the block: one constructor of `Instr` for each row of spec/opcode_table.json, and the
request records of the console link (R162, R170) that the request rows stand for.

Every command carries, first, the time `dt` that has passed since the command before it was taken, in tenths of a
millisecond: the rules measure times between events, and the commands are the only place where time can be said
(log entry 1). An event on a field line names its projector, house or port by a numbered type, because a field line
exists for each of them and for nothing else. A request carries its fields as the record carries them, in bytes and
words, because the owners' rules judge numbers outside their ranges. -/

namespace Sys2Proof

/-- Which end switch of a douser (3.3). -/
inductive DouserSwitch where
  | openEnd
  | closedEnd
deriving DecidableEq, Repr

/-- What the two end switches of a douser read: `true` is closed. -/
structure SwitchPair where
  openEnd : Bool
  closedEnd : Bool
deriving DecidableEq, Repr, Inhabited

/-- The field inputs that are read at power-on (R48, R139, R155, R157). -/
structure FieldInputs where
  dousers : Bank SwitchPair 8
  upSwitches : Bank Bool 12
  downSwitches : Bank Bool 12
  fusibleOpen : Bool
  emergencyPressed : Bool
  gateHeat : Bank Bool 8
  temperature : Nat
deriving DecidableEq, Repr

/-- A light cue's trigger (R84). -/
inductive CueTrigger where
  | start
  | tab
  | frame (n : Nat)
  | ending
deriving DecidableEq, Repr

/-- A light-cue trigger as ADD REEL carries it: its code is one of the four of R170. -/
inductive TriggerCode where
  | start
  | tab
  | frame
  | ending
deriving DecidableEq, Repr

/-- One light cue of an ADD REEL record (R170, reel entry layout). -/
structure CueSpec where
  trigger : TriggerCode
  frame : BitVec 16
  target : BitVec 16
  fade : BitVec 16
deriving DecidableEq, Repr

/-- The given fields of a reel entry as ADD REEL carries them (R84, R170). The side is a byte, since a side other
than A or B is refused with RANGE by R86 and not with FORMAT. -/
structure ReelSpec where
  reel : Byte
  side : Byte
  leader : BitVec 16
  picture : BitVec 16
  motorFrame : BitVec 16
  changeFrame : BitVec 16
  last : Bool
  cues : List CueSpec
deriving DecidableEq, Repr

/-- The form of DROP TEST (R156, R162). -/
inductive DropForm where
  | port
  | house
deriving DecidableEq, Repr

/-- The subject of STATUS (R166). -/
inductive StatusSubject where
  | house
  | projector
  | lamp
  | ports
deriving DecidableEq, Repr

/-- A complete record of the serial line, without its sync and check bytes: its kind and its payload. -/
structure Record where
  kind : Byte
  payload : List Byte
deriving DecidableEq, Repr

/-- A request of the request table of R162, its fields as the record carries them. -/
inductive Request where
  | runMotor (p : Byte)
  | stopMotor (p : Byte)
  | setSpeed (h speed : Byte)
  | setCueSense (p threshold hysteresis : Byte)
  | cueClear (p : Byte)
  | douserTrial (p : Byte)
  | strike (p : Byte)
  | extinguish (p : Byte)
  | setArc (p current : Byte) (voltage : BitVec 16) (autostrike : Bool)
  | loadCarbon (p : Byte) (length : BitVec 16)
  | clearProgram (h : Byte)
  | addReel (h : Byte) (entry : ReelSpec)
  | armReel (p reel : Byte) (start : Option (BitVec 16))
  | unarm (p : Byte)
  | start (h : Byte)
  | hold (h : Byte)
  | changeNow (h : Byte)
  | setHouseLevels (h : Byte) (hold runout brk emergency : BitVec 16)
  | lightsSet (h : Byte) (target fade : BitVec 16)
  | lightsRelease (h : Byte) (fade : BitVec 16)
  | clearSafety (h : Byte)
  | armPort (n : Byte)
  | dropTest (form : DropForm) (n : Byte)
  | clearEmergency
  | status (subject : StatusSubject) (n first : Byte)
  | readLog (seq : BitVec 16)
  | setClock (time : BitVec 24)
  | restart
deriving DecidableEq, Repr

/-- The commands: one constructor for each row of spec/opcode_table.json. -/
inductive Instr where
  -- the console link
  | powerOn (dt : Nat) (inputs : FieldInputs)
  | receiveByte (dt : Nat) (b : Byte) (stopOk : Bool)
  | syncHalfTimeout (dt : Nat)
  | interByteGap (dt : Nat)
  | lineBreak (dt : Nat)
  | formatRefusal (dt : Nat) (kind : Byte) (payload : List Byte)
  | transmitEnd (dt : Nat)
  | clockAdvance (dt : Nat)
  -- the console's requests
  | runMotor (dt : Nat) (p : Byte)
  | stopMotor (dt : Nat) (p : Byte)
  | setSpeed (dt : Nat) (h speed : Byte)
  | setCueSense (dt : Nat) (p threshold hysteresis : Byte)
  | cueClear (dt : Nat) (p : Byte)
  | douserTrial (dt : Nat) (p : Byte)
  | strike (dt : Nat) (p : Byte)
  | extinguish (dt : Nat) (p : Byte)
  | setArc (dt : Nat) (p current : Byte) (voltage : BitVec 16) (autostrike : Bool)
  | loadCarbon (dt : Nat) (p : Byte) (length : BitVec 16)
  | clearProgram (dt : Nat) (h : Byte)
  | addReel (dt : Nat) (h : Byte) (entry : ReelSpec)
  | armReel (dt : Nat) (p reel : Byte) (start : Option (BitVec 16))
  | unarm (dt : Nat) (p : Byte)
  | start (dt : Nat) (h : Byte)
  | hold (dt : Nat) (h : Byte)
  | changeNow (dt : Nat) (h : Byte)
  | setHouseLevels (dt : Nat) (h : Byte) (hold runout brk emergency : BitVec 16)
  | lightsSet (dt : Nat) (h : Byte) (target fade : BitVec 16)
  | lightsRelease (dt : Nat) (h : Byte) (fade : BitVec 16)
  | clearSafety (dt : Nat) (h : Byte)
  | armPort (dt : Nat) (n : Byte)
  | dropTest (dt : Nat) (form : DropForm) (n : Byte)
  | clearEmergency (dt : Nat)
  | status (dt : Nat) (subject : StatusSubject) (n first : Byte)
  | readLog (dt : Nat) (seq : BitVec 16)
  | setClock (dt : Nat) (time : BitVec 24)
  | restart (dt : Nat) (switches : Bank SwitchPair 8)
  -- the transport units
  | tachPulse (dt : Nat) (p : Proj) (reading : Byte)
  | runupLimit (dt : Nat) (p : Proj)
  | missingPulseDeadline (dt : Nat) (p : Proj)
  | breakDeadline (dt : Nat) (p : Proj)
  | runDownExpiry (dt : Nat) (p : Proj)
  -- the changeover and the panel buttons
  | delayEnd (dt : Nat) (h : HouseId)
  | crossingOpenInstant (dt : Nat) (h : HouseId)
  | crossingCloseInstant (dt : Nat) (h : HouseId)
  | soundInstant (dt : Nat) (h : HouseId)
  | holdButton (dt : Nat) (h : HouseId)
  | changeButton (dt : Nat) (h : HouseId)
  -- the douser units
  | douserSwitchCloses (dt : Nat) (p : Proj) (sw : DouserSwitch)
  | travelLimit (dt : Nat) (p : Proj)
  | trialPauseEnd (dt : Nat) (p : Proj)
  -- the lamp units
  | arcReading (dt : Nat) (p : Proj) (volts amps : Nat)
  | supplyLimit (dt : Nat) (p : Proj)
  | feedPulseSend (dt : Nat) (p : Proj)
  | feedSensePulse (dt : Nat) (p : Proj) (amps : Nat)
  | feedStall (dt : Nat) (p : Proj)
  | settleEnd (dt : Nat) (p : Proj)
  | voltageSample (dt : Nat) (p : Proj) (volts : Nat)
  | blankOutEnd (dt : Nat) (p : Proj)
  | arcOut (dt : Nat) (p : Proj)
  | bandEpisodeExpiry (dt : Nat) (p : Proj)
  | minuteEnd (dt : Nat) (p : Proj)
  -- the light channels
  | fadeStep (dt : Nat) (h : HouseId)
  -- the port controller
  | upSwitchCloses (dt : Nat) (n : PortId)
  | upSwitchOpens (dt : Nat) (n : PortId)
  | downSwitchCloses (dt : Nat) (n : PortId)
  | downSwitchOpens (dt : Nat) (n : PortId)
  | armWindowEnd (dt : Nat) (n : PortId)
  | confirmationLimit (dt : Nat) (n : PortId)
  | fusibleLinkOpens (dt : Nat)
  | fusibleLinkCloses (dt : Nat)
  | gateHeatAsserts (dt : Nat) (p : Proj)
  | gateHeatDeasserts (dt : Nat) (p : Proj)
  | emergencyButtonPress (dt : Nat)
  | emergencyButtonRelease (dt : Nat)
  | temperatureReading (dt : Nat) (degrees : Nat)
deriving DecidableEq, Repr

end Sys2Proof
end

