-- ==== Sys2Proof/Config.lean ====
section
/-! DEFINITION. What the reference leaves open, as free values: constants without a body, so that nothing in Lean
can evaluate them and a theorem about a free value holds for every value of it. Each is applied to the model's own
counter `State.draws`, so that two choices of one run are independent of each other. -/

namespace Sys2Proof.Config

/-- R165: while the transmitter is IDLE, a reply and a report may arrive together, and either may be taken first.
`true`: the reply is sent first. Log entry 4. -/
opaque replyFirst : Nat → Bool

/-- R96, R125: a fire cause's hold of a house and the failure that the same fire brings to one of its projectors
(a port leaving HELD) reach the house together, and either may be taken first. `true`: the failure. Log entry 5. -/
opaque failureFirst : Nat → Bool

/-- R48: at a restart a douser takes its state from its switches. What the two switches of a douser read at an instant at
which no command tells it. Log entry 6. -/
opaque douserSwitches : Nat → Proj → SwitchPair

end Sys2Proof.Config
end

