-- ==== Sys2Proof/Machine/State.lean ====
section
/-! DEFINITION. The state of the controller as plain data: one record per block instance, as the reference's tables
give them, the reasons a step may stop for, and the state after reset. Fields that are the model's own (log entries 1,
2, 3, 4, 6, 7 and 20) are named so in their docstrings. -/

namespace Sys2Proof.Machine

/-! ## Transport units (R1) -/

/-- R1: the transport states. -/
inductive TransportState where
  | stopped
  | starting
  | running
  | stopping
  | broken
deriving DecidableEq, Repr

/-- R1: whether a pulse is overdue while RUNNING. -/
inductive MissState where
  | normal
  | miss1
deriving DecidableEq, Repr

/-- R1: the reel entry a projector holds. -/
structure Armed where
  house : HouseId
  reel : Nat
  start : Nat
deriving DecidableEq, Repr

/-- R1: the projector record. -/
structure Transport where
  state : TransportState
  counter : Nat
  armed : Option Armed
  runUp : Nat
  lockCount : Nat
  lockRunStart : Option Instant
  motorOn : Option Instant
  lastPulse : Option Instant
  miss : MissState
  outCount : Nat
  speedFault : Bool
  recovery : Nat
  /-- The instant the transport became STOPPING, from which R13 measures; present while STOPPING (model's own, log 2). -/
  stoppingSince : Option Instant
deriving DecidableEq, Repr

/-- R18: the power-on values. -/
def Transport.powerOn : Transport where
  state := .stopped
  counter := 0
  armed := none
  runUp := 3000
  lockCount := 0
  lockRunStart := none
  motorOn := none
  lastPulse := none
  miss := .normal
  outCount := 0
  speedFault := false
  recovery := 0
  stoppingSince := none

/-! ## Cue readers (R20) -/

/-- R20: the reader states. -/
inductive ReaderState where
  | off
  | hunt
  | watch
  | inTab
  | gap
deriving DecidableEq, Repr

/-- R20: why a group cannot be read. -/
inductive BadReason where
  | tape
  | spacing
  | count
deriving DecidableEq, Repr

/-- 2.5: the code of a cue entry. `ending` is END. -/
inductive CueCode where
  | motor
  | change
  | lights
  | ending
  | bad
deriving DecidableEq, Repr

/-- 2.5: the source of a cue entry. -/
inductive CueSource where
  | tab
  | counted
deriving DecidableEq, Repr

/-- 2.5: an entry of a cue queue. -/
structure CueEntry where
  code : CueCode
  frame : Nat
  source : CueSource
  bad : Option BadReason
deriving DecidableEq, Repr

/-- R20: the group in assembly. -/
structure TabGroup where
  frame : Nat
  tabs : Nat
  bad : Option BadReason
  tabFrames : Nat
  gapFrames : Nat
deriving DecidableEq, Repr

/-- R20: the cue reader record. -/
structure Reader where
  state : ReaderState
  threshold : Nat
  hysteresis : Nat
  group : Option TabGroup
  held : List CueEntry
  queue : List CueEntry
deriving DecidableEq, Repr

/-- R35: the power-on values. -/
def Reader.powerOn : Reader where
  state := .off
  threshold := 128
  hysteresis := 16
  group := none
  held := []
  queue := []

/-! ## Douser units (R36) -/

/-- R36: the douser states. -/
inductive DouserState where
  | closed
  | opening
  | opened
  | closing
  | stuck
deriving DecidableEq, Repr

/-- R36: the direction the drive output is set to, and the direction of a travel. -/
inductive DriveDir where
  | opens
  | closes
deriving DecidableEq, Repr

/-- R36: the travel in progress; the limit is in ms. -/
structure Travel where
  dir : DriveDir
  start : Instant
  full : Bool
  limit : Nat
deriving DecidableEq, Repr

/-- R36: the phases of a douser trial. -/
inductive TrialPhase where
  | travel
  | pause
deriving DecidableEq, Repr

/-- R36: the trial record. -/
structure Trial where
  completed : Nat
  phase : TrialPhase
  pauseEnd : Option Instant
deriving DecidableEq, Repr

/-- What the two end switches of a douser read, and the instant at which a command told it (model's own, log 6). -/
structure ToldSwitches where
  pair : SwitchPair
  instant : Instant
deriving DecidableEq, Repr

/-- R36: the douser record. -/
structure Douser where
  state : DouserState
  drive : DriveDir
  travel : Option Travel
  openTime : Nat
  closeTime : Nat
  lastOpen : Option Nat
  lastClose : Option Nat
  trial : Option Trial
  /-- What the two end switches read when a command last told it (the input pins of 00_scope; model's own, log 6). It
  holds for that instant alone: a blade may leave its switch, driven or by hand, and no command tells of it. -/
  switches : Option ToldSwitches
deriving DecidableEq, Repr

/-! ## Lamp units (R51, R73) -/

/-- R51: the lamp states. -/
inductive LampState where
  | off
  | striking
  | settling
  | burning
deriving DecidableEq, Repr

/-- R51: the step of the strike sequence. -/
inductive StrikePhase where
  | supply
  | sweep
  | draw
deriving DecidableEq, Repr

/-- R51: why the lamp last became OFF. -/
inductive StopReason where
  | host
  | strikeSupply
  | strikeContact
  | noArc
  | arcOut
  | feed
  | stub
  | fire
  | restart
deriving DecidableEq, Repr

/-- R55: the direction of a feed pulse. -/
inductive FeedDir where
  | forward
  | reverse
deriving DecidableEq, Repr

/-- R51: the feed pulse sent and not yet confirmed. -/
structure FeedPulse where
  dir : FeedDir
  sent : Instant
deriving DecidableEq, Repr

/-- R51: the burst in progress. -/
structure Burst where
  asked : Nat
  sent : Nat
  confirmed : Nat
deriving DecidableEq, Repr

/-- R51: a run of current readings out of band. -/
structure BandEpisode where
  start : Instant
  reported : Bool
deriving DecidableEq, Repr

/-- R73: the minute of burning in progress. -/
structure Minute where
  start : Instant
  pulses : Nat
deriving DecidableEq, Repr

/-- R73: whether the lamp will last the armed reel, and what it was judged on. -/
structure Sufficiency where
  sufficient : Bool
  need : Nat
  frames : Nat
deriving DecidableEq, Repr

/-- R51 and R73: the lamp record. -/
structure Lamp where
  state : LampState
  phase : Option StrikePhase
  phaseStart : Option Instant
  highSupply : Nat
  sweepPulses : Nat
  drawPulses : Nat
  settleStart : Option Instant
  current : Nat
  voltage : Nat
  autostrike : Bool
  restrikeUsed : Bool
  samples : List Nat
  outstanding : Option FeedPulse
  lastSend : Option Instant
  burst : Option Burst
  deferred : Bool
  blankEnd : Option Instant
  stalls : Nat
  lowStart : Option Instant
  band : Option BandEpisode
  stop : Option StopReason
  account : Nat
  rate : Nat
  minute : Option Minute
  sufficiency : Option Sufficiency
  carbonLow : Bool
  /-- The last reading of the arc current: the "present reading" of R67 (model's own, log 2). -/
  amps : Nat
  /-- When the next reading of R59 is due; present while the lamp is lit (model's own, log 2). -/
  nextSample : Option Instant
deriving DecidableEq, Repr

/-- R72, R83: the power-on values. -/
def Lamp.powerOn : Lamp where
  state := .off
  phase := none
  phaseStart := none
  highSupply := 0
  sweepPulses := 0
  drawPulses := 0
  settleStart := none
  current := 60
  voltage := 550
  autostrike := false
  restrikeUsed := false
  samples := []
  outstanding := none
  lastSend := none
  burst := none
  deferred := false
  blankEnd := none
  stalls := 0
  lowStart := none
  band := none
  stop := none
  account := 0
  rate := 72
  minute := none
  sufficiency := none
  carbonLow := false
  amps := 0
  nextSample := none

/-! ## House controllers (R84, R93, R103, R104, R118, R122) -/

/-- R84: where a reel stands in the show. `finished` is DONE. -/
inductive ReelStatus where
  | pending
  | armed
  | showing
  | interrupted
  | finished
deriving DecidableEq, Repr

/-- R84: a light cue of a reel entry. -/
structure LightCue where
  trigger : CueTrigger
  target : Nat
  fade : Nat
  fired : Bool
deriving DecidableEq, Repr

/-- R84: a reel entry. -/
structure ReelEntry where
  reel : Nat
  side : Side
  leader : Nat
  picture : Nat
  motorFrame : Option Nat
  changeFrame : Option Nat
  last : Bool
  cues : List LightCue
  status : ReelStatus
deriving DecidableEq, Repr

/-- R93: the house states. `finished` is DONE. -/
inductive HouseState where
  | idle
  | ready
  | starting
  | showing
  | ending
  | hold
  | finished
deriving DecidableEq, Repr

/-- R93: the hold reasons. -/
inductive HoldReason where
  | runout
  | brk
  | host
  | panel
  | fire
  | emergency
  | lamp
  | douser
  | start
deriving DecidableEq, Repr

/-- R49: what the sound gate selects: NONE or a side. -/
inductive Gate where
  | none
  | side (s : Side)
deriving DecidableEq, Repr

/-- R93: the phases of the end record. -/
inductive EndPhase where
  | dousing
  | runOut
  | stopping
deriving DecidableEq, Repr

/-- R93: the end record. -/
structure EndRecord where
  phase : EndPhase
  pulses : Nat
deriving DecidableEq, Repr

/-- R103: the phases of a changeover record. -/
inductive ChangePhase where
  | waitReady
  | delay
  | runup
  | locked
  | due
  | crossing
deriving DecidableEq, Repr

/-- R103: the motor sources. -/
inductive MotorSource where
  | tab
  | counted
  | manual
  | implied
deriving DecidableEq, Repr

/-- R103: the change sources. -/
inductive ChangeSource where
  | tab
  | counted
  | manual
  | loss
deriving DecidableEq, Repr

/-- R103: the loss reasons. -/
inductive LossReason where
  | brk
  | lamp
  | douser
  | fire
deriving DecidableEq, Repr

/-- R103: the fields a record has in CROSSING. -/
structure Crossing where
  start : Instant
  openOffset : Nat
  soundOffset : Nat
  closeOffset : Option Nat
  switched : Bool
  /-- Whether the open command of R116 has been given (model's own, log 2). -/
  openGiven : Bool
  /-- Whether the close command of R116 has been given (model's own, log 2). -/
  closeGiven : Bool
  /-- The outgoing frame counter at T, which CHANGEOVER DONE carries (R117). -/
  outFrame : Nat
deriving DecidableEq, Repr

/-- R103: the changeover record. -/
structure Changeover where
  incoming : Proj
  phase : ChangePhase
  motorSource : MotorSource
  motorFrame : Nat
  changeFrame : Nat
  delay : Option Nat
  delayEnd : Option Instant
  held : Option CueSource
  changeSource : Option ChangeSource
  loss : Option LossReason
  crossing : Option Crossing
deriving DecidableEq, Repr

/-- R104: the reel marks of the live reel. -/
structure ReelMarks where
  motorTaken : Bool
  changeTaken : Bool
  countedMotor : Bool
  countedChange : Bool
  badReported : Bool
deriving DecidableEq, Repr

/-- R104: every mark clear. -/
def ReelMarks.clear : ReelMarks := ⟨false, false, false, false, false⟩

/-- R118: the phases of the retiring record. -/
inductive RetirePhase where
  | toTail
  | runOut
  | stopping
deriving DecidableEq, Repr

/-- R118: the retiring record. -/
structure Retiring where
  projector : Proj
  phase : RetirePhase
  pulses : Nat
deriving DecidableEq, Repr

/-- R93: the house levels. -/
structure HouseLevels where
  hold : Nat
  runout : Nat
  brk : Nat
  emergency : Nat
deriving DecidableEq, Repr

/-- R93, R104, R118, R122: the house record. -/
structure House where
  state : HouseState
  holdReason : Option HoldReason
  plan : List ReelEntry
  startingSide : Option Side
  liveSide : Option Side
  gate : Gate
  dark : Bool
  change : Option Changeover
  ending : Option EndRecord
  levels : HouseLevels
  speed : Nat
  marks : ReelMarks
  retiring : Option Retiring
  runoutCount : Option Nat
deriving DecidableEq, Repr

/-- R102: the power-on values. -/
def House.powerOn : House where
  state := .idle
  holdReason := none
  plan := []
  startingSide := none
  liveSide := none
  gate := .none
  dark := false
  change := none
  ending := none
  levels := ⟨600, 300, 300, 1000⟩
  speed := 24
  marks := ReelMarks.clear
  retiring := none
  runoutCount := none

/-! ## Light channels (R126) -/

/-- R126: the origin of a program target. -/
inductive Origin where
  | cue (reel : Nat) (trigger : CueTrigger)
  | hold
  | runout
  | brk
deriving DecidableEq, Repr

/-- R126: a program target held back by the MANUAL layer. -/
structure PendingTarget where
  target : Nat
  origin : Origin
deriving DecidableEq, Repr

/-- R126: the fade in progress. -/
structure Fade where
  startLevel : Nat
  target : Nat
  steps : Nat
  step : Nat
  start : Instant
deriving DecidableEq, Repr

/-- R126: the light channel record. -/
structure Light where
  level : Nat
  drive : Nat
  safetyActive : Bool
  safetyTarget : Nat
  manualActive : Bool
  manualTarget : Nat
  manualFade : Nat
  programTarget : Nat
  programFade : Nat
  pending : Option PendingTarget
  fade : Option Fade
deriving DecidableEq, Repr

/-- R137: the power-on values. -/
def Light.powerOn : Light where
  level := 1000
  drive := 255
  safetyActive := false
  safetyTarget := 1000
  manualActive := false
  manualTarget := 1000
  manualFade := 0
  programTarget := 1000
  programFade := 0
  pending := none
  fade := none

/-! ## The port controller (R139, R144, R145, R153, R155) -/

/-- R139: the port states. -/
inductive PortState where
  | down
  | arming
  | held
  | dropping
  | jammed
deriving DecidableEq, Repr

/-- R139: the drop link. -/
structure DropLink where
  seq : Nat
  discarded : Bool
  /-- Of a discarded record: whether PORT DROPPED has been queued for it (model's own, log 20). -/
  reported : Bool
deriving DecidableEq, Repr

/-- R139: a port record. The switch fields are `true` while the switch is closed. -/
structure Port where
  state : PortState
  windowEnd : Option Instant
  releasedAt : Option Instant
  link : Option DropLink
  upSwitch : Bool
  downSwitch : Bool
deriving DecidableEq, Repr

/-- R144: the causes of a drop record. -/
inductive DropCause where
  | fusible
  | emergency
  | critical
  | filmFire
  | douser
  | self
  | test
deriving DecidableEq, Repr

/-- R144: what became of a listed port; times in ms. -/
inductive DropOutcome where
  | pending
  | closed (time : Nat)
  | jammed
  | late (time : Nat)
  | already
deriving DecidableEq, Repr

/-- R144: a port of a drop record's list. -/
structure PortEntry where
  port : PortId
  outcome : DropOutcome
deriving DecidableEq, Repr

/-- R144: a drop record. -/
structure DropRecord where
  seq : Nat
  cause : DropCause
  projector : Option Proj
  footage : Option Nat
  time : Option Nat
  ports : List PortEntry
deriving DecidableEq, Repr

/-- R155: the booth grade. -/
inductive Grade where
  | normal
  | warm
  | hot
  | critical
deriving DecidableEq, Repr

/-- The booth-level state of the port controller (R139, R144, R145, R153, R155). DOUSER and TEST are momentary
causes (9.4) and are active in no state between two commands. -/
structure Booth where
  fusible : Bool
  emergency : Bool
  critical : Bool
  filmFire : Bank Bool 8
  grade : Grade
  temperature : Nat
  pressed : Bool
  fusibleOpen : Bool
  log : List DropRecord
  nextSeq : Nat
  /-- When the next temperature reading of R155 is due (model's own, log 2). -/
  nextReading : Instant
deriving DecidableEq, Repr

/-! ## The console link (R159) -/

/-- R160: the record in assembly. -/
structure Assembly where
  kind : Option Byte
  length : Option Byte
  payload : List Byte
  sum : Byte
  lastByte : Instant
deriving DecidableEq, Repr

/-- R159: the receive state. In HUNT the sync half is present, with the instant of its 0xC3, while it is set. -/
inductive ReceiveState where
  | hunt (half : Option Instant)
  | assemble (a : Assembly)
deriving DecidableEq, Repr

/-- 10.3: the refusals. -/
inductive RefusalReason where
  | state
  | target
  | full
  | duplicate
  | geometry
  | notReady
  | fire
  | heat
  | carbon
  | active
  | range
  | format
deriving DecidableEq, Repr

/-- R109, R107: the reasons of UNEXPECTED. -/
inductive UnexpectedReason where
  | noFollowing
  | noLightCue
  | notLast
deriving DecidableEq, Repr

/-- R170: the phases of FEED STALL. -/
inductive StallPhase where
  | sweep
  | draw
  | burst
deriving DecidableEq, Repr

/-- R64: the causes of SHORT FEED. -/
inductive ShortCause where
  | stall
  | host
  | arcOut
  | noArc
  | fire
  | stub
  | restrike
deriving DecidableEq, Repr

/-- R40, R42: the travel that DOUSER STUCK names. -/
inductive StuckTravel where
  | opening
  | closing
  | uncommanded (sw : DouserSwitch)
deriving DecidableEq, Repr

/-- R46, R47: the outcomes of a douser trial. -/
inductive TrialOutcome where
  | complete
  | fire
  | motor
  | stuck
  | house
deriving DecidableEq, Repr

/-- R67: the side of the band a reading lies on. -/
inductive BandSide where
  | low
  | high
deriving DecidableEq, Repr

/-- R98, R121: the panel buttons. -/
inductive PanelButton where
  | hold
  | change
deriving DecidableEq, Repr

/-- R160, R161: the reasons of a line error. -/
inductive LineErrorReason where
  | check
  | length
  | framing
  | overrun
deriving DecidableEq, Repr

/-- R159: the origins of RESTARTED. -/
inductive RestartOrigin where
  | powerOn
  | restart
deriving DecidableEq, Repr

/-- R117: what CHANGEOVER DONE carries. -/
structure ChangeoverReport where
  outgoing : Proj
  outgoingReel : Nat
  incoming : Proj
  incomingReel : Nat
  motorSource : MotorSource
  changeSource : Option ChangeSource
  loss : Option LossReason
  delay : Option Nat
  openOffset : Nat
  closeOffset : Option Nat
  soundOffset : Nat
  outFrame : Nat
deriving DecidableEq, Repr

/-- The report kinds of R170, each with the fields its rule gives it. A footage that a report carries beside a frame
is that frame divided by 16, truncated (00_scope), and is computed where the report is laid out in bytes. -/
inductive ReportBody where
  | pulseMissing (frame : Nat)
  | speedFault (frame : Nat)
  | locked (measured runUp frame : Nat)
  | runupFail (lockCount frame : Nat)
  | filmBreak (frame : Nat)
  | cueSeen (e : CueEntry)
  | cueBad (frame : Nat) (reason : Option BadReason)
  | queueFull (e : CueEntry)
  | unexpected (e : CueEntry) (reason : UnexpectedReason)
  | late (e : CueEntry)
  | shortLead (shortfall motorFrame changeFrame leaderLeft runUp : Nat)
  | changeoverDone (r : ChangeoverReport)
  | runout (reel frame : Nat) (phase : Option ChangePhase)
  | showEnd (reel frame : Nat) (onBreak : Bool)
  | struck (current voltage sweepPulses account : Nat) (automatic : Bool)
  | strikeFail (reason : StopReason) (highSupply sweepPulses : Nat)
  | arcOut (restriking : Bool) (was : LampState)
  | feedStall (phase : StallPhase) (asked confirmed stalls : Nat)
  | shortFeed (asked confirmed : Nat) (cause : ShortCause)
  | current (reading setPoint : Nat) (side : BandSide)
  | burnout (account : Nat) (frame : Option Nat)
  | carbonShort (reel account need frames rate : Nat)
  | carbonLow (account need frames rate frame : Nat)
  | douserStuck (travel : StuckTravel) (elapsed learned : Nat)
  | trialDone (outcome : TrialOutcome) (completed openTime closeTime : Nat)
  | portHeld
  | armLapsed
  | portDropped (seq : Nat) (cause : Option DropCause) (projector : Option Proj)
  | portDroppedLate (seq : Nat) (port : PortId) (time : Nat)
  | portJammed (seq : Nat)
  | tempGrade (old new : Grade) (reading : Nat)
  | fireCauseOn (cause : DropCause) (projector : Option Proj) (seq : Nat)
  | fireCauseOff (cause : DropCause) (projector : Option Proj)
  | panelIgnored (button : PanelButton) (state : HouseState) (reason : Option RefusalReason)
  | lineError (check length framing overrun : Nat)
  | reportsLost (count : Nat)
  | restarted (origin : RestartOrigin)
deriving DecidableEq, Repr

/-- R164, R170: a report with its subject number and the time of day at its joining, when that was valid. -/
structure Report where
  subject : Nat
  time : Option Nat
  body : ReportBody
deriving DecidableEq, Repr

/-- R127: the layers of a light channel, highest first. -/
inductive Layer where
  | safety
  | manual
  | program
deriving DecidableEq, Repr

/-- R163: the payload of DONE that the owner's rule names. -/
inductive DonePayload where
  | nothing
  | cueCleared (frame : Nat) (reason : Option BadReason)
  | cueSense (threshold hysteresis : Nat)
  | arc (current voltage : Nat) (autostrike : Bool)
  | account (pulses : Nat)
  | entryCount (n : Nat)
  | judged (s : Option Sufficiency)
  | levels (l : HouseLevels)
  | lights (layer : Layer) (target : Nat)
  | manualInactive
  | released (target : Nat) (origin : Option Origin)
  | portState (s : PortState)
  | sequence (seq : Nat)
deriving DecidableEq, Repr

/-- R92: which of the six readiness conditions fail. -/
structure ReadyFailures where
  entryArmed : Bool
  stopped : Bool
  burning : Bool
  sufficient : Bool
  portHeld : Bool
  douserClosed : Bool
deriving DecidableEq, Repr

/-- R163: the detail of REFUSED that the refusing rule names. -/
inductive RefusalDetail where
  | nothing
  | notReady (reel : Option Nat) (failures : ReadyFailures)
  | causes (l : List (DropCause × Option Proj))
deriving DecidableEq, Repr

/-- R163: a reply. STATUS holds its fields as bytes, as they stand at the instant the request is taken (R166). -/
inductive Reply where
  | done (request : Byte) (payload : DonePayload)
  | refused (request : Byte) (reason : RefusalReason) (detail : RefusalDetail)
  | status (payload : List Byte)
  | log (oldest newest : Nat) (records : List DropRecord)
deriving DecidableEq, Repr

/-- R159, R165: the transmitter: IDLE, SENDING the reply in the slot, or SENDING a report that has left the queue. -/
inductive Transmitter where
  | idle
  | reply
  | report (r : Report)
deriving DecidableEq, Repr

/-- R159: the link record. -/
structure Link where
  receive : ReceiveState
  buffer : List Record
  slot : Option Reply
  queue : List Report
  lost : Option Nat
  transmitter : Transmitter
  clock : Option Nat
  /-- When the next advance of the time of day falls (R168); present while the time of day is valid (model's own, log 2). -/
  nextSecond : Option Instant
deriving DecidableEq, Repr

/-- R159, R165: the link after power-on: RESTARTED (POWER-ON) has joined the empty queue of an IDLE transmitter, and
its sending has begun (log entry 3). -/
def Link.powerOn : Link where
  receive := .hunt none
  buffer := []
  slot := none
  queue := []
  lost := none
  transmitter := .report ⟨0, none, .restarted .powerOn⟩
  clock := none
  nextSecond := none

/-! ## The whole state -/

/-- The state of the controller: the eight kinds of block (00_scope), the queue of waiting commands, and the model's
own instant and counter of free choices. -/
structure State where
  link : Link
  transports : Bank Transport 8
  readers : Bank Reader 8
  dousers : Bank Douser 8
  lamps : Bank Lamp 8
  houses : Bank House 4
  lights : Bank Light 4
  ports : Bank Port 12
  booth : Booth
  /-- The present instant (model's own, log 1). -/
  now : Instant
  /-- How many free choices have been drawn (model's own, log 4). -/
  draws : Nat
  /-- The commands that wait, first in, first out. -/
  pending : List Instr
deriving DecidableEq, Repr

/-- Why a step stops with a fault: no command of the reference stops the controller, so there is no reason. -/
inductive Fault where
deriving DecidableEq, Repr

/-- Why a step is refused. -/
inductive Refusal where
  /-- Raised by a command's arm that has no meaning yet; no arm does. Safe: the model stops. -/
  | notModelled (mnemonic : String)
deriving DecidableEq, Repr

/-- R48 at power-on with the closed switch closed: CLOSED, nothing learned (log entry 7 for the switch). -/
def Douser.reset : Douser where
  state := .closed
  drive := .closes
  travel := none
  openTime := 250
  closeTime := 250
  lastOpen := none
  lastClose := none
  trial := none
  switches := some ⟨⟨false, true⟩, 0⟩

/-- R157: a port at power-on: DOWN, whatever its switches show; here the down switch is closed (log entry 7). -/
def Port.reset : Port where
  state := .down
  windowEnd := none
  releasedAt := none
  link := none
  upSwitch := false
  downSwitch := true

/-- R157: the booth-level state at power-on, with the fusible-link line closed, the button released and no gate heat
(log entry 7). -/
def Booth.reset : Booth where
  fusible := false
  emergency := false
  critical := false
  filmFire := Vector.replicate 8 false
  grade := .normal
  temperature := 0
  pressed := false
  fusibleOpen := false
  log := []
  nextSeq := 1
  nextReading := ms 1000

/-- The machine after reset: every block at its power-on values (R18, R35, R48, R72, R83, R102, R137, R157, R159), the
field inputs at rest, and no command waiting. -/
def State.reset : State where
  link := Link.powerOn
  transports := Vector.replicate 8 Transport.powerOn
  readers := Vector.replicate 8 Reader.powerOn
  dousers := Vector.replicate 8 Douser.reset
  lamps := Vector.replicate 8 Lamp.powerOn
  houses := Vector.replicate 4 House.powerOn
  lights := Vector.replicate 4 Light.powerOn
  ports := Vector.replicate 12 Port.reset
  booth := Booth.reset
  now := 0
  draws := 0
  pending := []

end Sys2Proof.Machine
end

