-- ==== Sys2Proof/Machine/Access.lean ====
section
/-! DEFINITION. The one read and the one write of each bank of records, and of the link, the booth and the clock.
Every other operation goes through these. -/

namespace Sys2Proof.Machine

/-- The transport unit of projector `p`. -/
def State.tr (s : State) (p : Proj) : Transport := s.transports.cell p

/-- The cue reader of projector `p`. -/
def State.rd (s : State) (p : Proj) : Reader := s.readers.cell p

/-- The douser unit of projector `p`. -/
def State.ds (s : State) (p : Proj) : Douser := s.dousers.cell p

/-- The lamp unit of lamp `p`. -/
def State.lp (s : State) (p : Proj) : Lamp := s.lamps.cell p

/-- The house controller of house `h`. -/
def State.hs (s : State) (h : HouseId) : House := s.houses.cell h

/-- The light channel of house `h`. -/
def State.lt (s : State) (h : HouseId) : Light := s.lights.cell h

/-- The record of port `n`. -/
def State.pt (s : State) (n : PortId) : Port := s.ports.cell n

/-- Replace the transport record of `p`. -/
def State.setTr (s : State) (p : Proj) (x : Transport) : State := { s with transports := s.transports.put p x }

/-- Replace the cue reader record of `p`. -/
def State.setRd (s : State) (p : Proj) (x : Reader) : State := { s with readers := s.readers.put p x }

/-- Replace the douser record of `p`. -/
def State.setDs (s : State) (p : Proj) (x : Douser) : State := { s with dousers := s.dousers.put p x }

/-- Replace the lamp record of `p`. -/
def State.setLp (s : State) (p : Proj) (x : Lamp) : State := { s with lamps := s.lamps.put p x }

/-- Replace the house record of `h`. -/
def State.setHs (s : State) (h : HouseId) (x : House) : State := { s with houses := s.houses.put h x }

/-- Replace the light channel record of `h`. -/
def State.setLt (s : State) (h : HouseId) (x : Light) : State := { s with lights := s.lights.put h x }

/-- Replace the record of port `n`. -/
def State.setPt (s : State) (n : PortId) (x : Port) : State := { s with ports := s.ports.put n x }

/-- Replace the link record. -/
def State.setLink (s : State) (x : Link) : State := { s with link := x }

/-- Replace the booth-level state. -/
def State.setBooth (s : State) (x : Booth) : State := { s with booth := x }

/-- Replace the counter of free choices. -/
def State.setDraws (s : State) (n : Nat) : State := { s with draws := n }

/-- Let `dt` tenths of a millisecond pass. -/
def State.elapse (s : State) (dt : Nat) : State := { s with now := s.now + dt }

/-- Whether a deadline has been reached at instant `now`; an absent deadline is not running. -/
def due (deadline : Option Instant) (now : Instant) : Bool :=
  match deadline with
  | none => false
  | some t => decide (t ≤ now)

/-- The instant `n` ms after an optional instant. -/
def after (start : Option Instant) (n : Nat) : Option Instant := start.map (· + ms n)

/-- The whole milliseconds between two instants, the fraction discarded. -/
def elapsedMs (start now : Instant) : Nat := (now - start) / 10

end Sys2Proof.Machine
end

