-- ==== Sys2Proof/Machine/Operands.lean ====
section
/-! DEFINITION. How a command's numbers name things: projector, house and port numbers of a request, the numbering of
00_scope, and the clamps, ranges and rounded formulas of the chapters. -/

namespace Sys2Proof.Machine

/-! ## Numbering (00_scope) -/

/-- The projector that a request's number names, if it names one (1 to 8). -/
def projOf (b : Byte) : Option Proj :=
  if h : 1 ≤ b.toNat ∧ b.toNat ≤ 8 then some ⟨b.toNat - 1, by omega⟩ else none

/-- The house that a request's number names, if it names one (1 to 4). -/
def houseOfNumber (b : Byte) : Option HouseId :=
  if h : 1 ≤ b.toNat ∧ b.toNat ≤ 4 then some ⟨b.toNat - 1, by omega⟩ else none

/-- The port that a request's number names, if it names one (1 to 12). -/
def portOf (b : Byte) : Option PortId :=
  if h : 1 ≤ b.toNat ∧ b.toNat ≤ 12 then some ⟨b.toNat - 1, by omega⟩ else none

/-- The number of a projector, lamp or douser on the line. -/
def projNumber (p : Proj) : Nat := p.val + 1

/-- The number of a house on the line. -/
def houseNumber (h : HouseId) : Nat := h.val + 1

/-- The number of a port on the line. -/
def portNumber (n : PortId) : Nat := n.val + 1

/-- The house that projector `p` serves: projectors 2h−1 and 2h serve house h. -/
def houseOf (p : Proj) : HouseId := ⟨p.val / 2, by omega⟩

/-- The side of projector `p`: 2h−1 is side A, 2h is side B. -/
def sideOf (p : Proj) : Side := if p.val % 2 = 0 then .a else .b

/-- The projector of a side of a house. -/
def projAt (h : HouseId) (sd : Side) : Proj :=
  match sd with
  | .a => ⟨2 * h.val, by omega⟩
  | .b => ⟨2 * h.val + 1, by omega⟩

/-- The other projector of `p`'s house. -/
def otherProj (p : Proj) : Proj := projAt (houseOf p) (sideOf p).other

/-- The projection port of projector `p`. -/
def projPort (p : Proj) : PortId := ⟨p.val, by omega⟩

/-- The observation port of house `h`: port 8 + h. -/
def obsPort (h : HouseId) : PortId := ⟨8 + h.val, by omega⟩

/-- The projector of a projection port; observation ports have none. -/
def portProj (n : PortId) : Option Proj := if h : n.val < 8 then some ⟨n.val, h⟩ else none

/-- The house of a port (R156): port p, p from 1 to 8, has the house of projector p; port 8 + h has house h. -/
def portHouse (n : PortId) : HouseId :=
  if h : n.val < 8 then houseOf ⟨n.val, h⟩ else ⟨n.val - 8, by omega⟩

/-! ## Clamps (00_scope, Clamping) and saturation -/

/-- Replace a value below the range by its lowest member and a value above it by its highest. -/
def clamp (lo hi x : Nat) : Nat := max lo (min hi x)

/-- R5: the frame counter after one counted pulse; it stays at 65535. -/
def countFrame (c : Nat) : Nat := min 65535 (c + 1)

/-- Footage: frames divided by 16, truncated (00_scope). -/
def footage (frames : Nat) : Nat := frames / 16

/-! ## Formulas -/

/-- R7 and R41: a learned time after one clamped measurement: floor((3 × old + measured + 2) / 4). -/
def learn (old measured : Nat) : Nat := (3 * old + measured + 2) / 4

/-- R2: an interval of `u` tenths is in tolerance at speed `s`. -/
def inTolerance (u s : Nat) : Bool := decide (9800 ≤ u * s ∧ u * s ≤ 10200)

/-- R2: a time of `u` tenths since the last counted pulse makes the pulse overdue at speed `s`. -/
def overdue (u s : Nat) : Bool := decide (15000 ≤ u * s)

/-- R2: a time of `u` tenths since the last counted pulse makes the film broken at speed `s`. -/
def brokenAfter (u s : Nat) : Bool := decide (25000 ≤ u * s)

/-- R37: the limit of an opening travel, 2 × To + 100 ms, and R39: of a closing travel, 2 × Tc + 100 ms. -/
def travelLimit (learned : Nat) : Nat := 2 * learned + 100

/-- R59: the mean of five voltage samples, floor((sum + 2) / 5); undefined with fewer. -/
def sampleMean (samples : List Nat) : Option Nat :=
  if samples.length = 5 then some ((samples.sum + 2) / 5) else none

/-- R62: the size of a burst, ceil((M − Vs) / 2) clamped to 1 to 16. -/
def burstSize (mean setPoint : Nat) : Nat := clamp 1 16 ((mean - setPoint + 1) / 2)

/-- R77: the starting rate floor(6 × I / 5). -/
def startingRate (i : Nat) : Nat := 6 * i / 5

/-- R78: the burn rate after a minute of `pulses`: floor((7 × R + P + 4) / 8), clamped to 255. -/
def filterRate (rate pulses : Nat) : Nat := min 255 ((7 * rate + pulses + 4) / 8)

/-- R79: need(F) = floor((R × F + 60 × s − 1) / (60 × s)) + 300. -/
def carbonNeed (rate frames speed : Nat) : Nat := (rate * frames + 60 * speed - 1) / (60 * speed) + 300

/-- R67: a reading `c` is in the band of the set point `i`. -/
def inBand (c i : Nat) : Bool := decide (85 * i ≤ 100 * c ∧ 100 * c ≤ 115 * i)

/-- R67: the side of the band an out-of-band reading lies on. -/
def bandSide (c i : Nat) : BandSide := if 100 * c < 85 * i then .low else .high

/-- R129: the dimmer drive of a level: floor((L × L × 255 + 500000) / 1000000). -/
def driveOf (level : Nat) : Nat := (level * level * 255 + 500000) / 1000000

/-- R128: the level at step `k` of a fade: L0 + trunc((Lt − L0) × k / N), the quotient truncated toward zero. -/
def fadeLevel (from0 to1 steps k : Nat) : Nat :=
  ((from0 : Int) + (((to1 : Int) - from0) * k).tdiv steps).toNat

/-- R111, steps 1 and 3: the ms that `frames` frames take at speed `s`, floor((frames × 2000 + s) / (2 × s)). -/
def framesMs (frames s : Nat) : Nat := (frames * 2000 + s) / (2 * s)

/-- R111, steps 1 to 3: the time the outgoing takes to the change frame (t_out). -/
def timeOut (motorFrame changeFrame s : Nat) : Nat := framesMs (changeFrame - motorFrame) s

/-- R111, steps 2 and 3: the time the incoming takes to its first picture frame (t_in). -/
def timeIn (leaderLeft runUp s : Nat) : Nat :=
  let fu := runUp * s / 2000
  if leaderLeft > fu then runUp + framesMs (leaderLeft - fu) s else runUp

/-- R155: the entry value of each grade above NORMAL, read from a reading: the highest grade whose entry value it
reaches. -/
def gradeEntered (t : Nat) : Grade :=
  if 55 ≤ t then .critical else if 45 ≤ t then .hot else if 35 ≤ t then .warm else .normal

/-- R155: the order of the grades. -/
def Grade.rank : Grade → Nat
  | .normal => 0
  | .warm => 1
  | .hot => 2
  | .critical => 3

/-- R155: the grade a falling reading steps down to from the grade in force. -/
def gradeLeft (g : Grade) (t : Nat) : Grade :=
  match g with
  | .normal => .normal
  | .warm => if t ≤ 32 then .normal else .warm
  | .hot => if t ≤ 42 then (if t ≤ 32 then .normal else .warm) else .hot
  | .critical => if t ≤ 52 then (if t ≤ 42 then (if t ≤ 32 then .normal else .warm) else .hot) else .critical

/-- R155: the grade after a reading. -/
def gradeAfter (g : Grade) (t : Nat) : Grade :=
  if g.rank < (gradeEntered t).rank then gradeEntered t else gradeLeft g t

/-- R145: the sequence number after `n`: 1 follows 65535. -/
def nextSequence (n : Nat) : Nat := if n = 65535 then 1 else n + 1

/-- R168: the second after a time of day: 0 follows 86399. -/
def nextTimeOfDay (t : Nat) : Nat := if t = 86399 then 0 else t + 1

end Sys2Proof.Machine
end

