-- ==== Sys2Proof/Machine/Flags.lean ====
section
/-! DEFINITION. The conditions and outputs that the reference computes from the records and does not store: the
assembling flag, the gating condition, the held, live, next and following entries, readiness, the fire causes that
cover a port, and the outputs that follow a state. -/

namespace Sys2Proof.Machine

/-- The speed of projector `p`'s house. -/
def State.speedOf (s : State) (p : Proj) : Nat := (s.hs (houseOf p)).speed

/-! ## Outputs that follow a record -/

/-- R1: the motor contactor is closed while STARTING or RUNNING. -/
def Transport.contactor (t : Transport) : Bool := t.state = .starting ∨ t.state = .running

/-- R52: the rectifier contactor is closed while the lamp is STRIKING, SETTLING or BURNING. -/
def Lamp.contactor (l : Lamp) : Bool := decide (l.state ≠ .off)

/-- R52: the current set-point output: I while the contactor is closed, 0 while it is open. -/
def Lamp.setPoint (l : Lamp) : Nat := if l.contactor then l.current else 0

/-- R139: the hold magnet is energized while the port is ARMING or HELD. -/
def Port.magnet (p : Port) : Bool := p.state = .arming ∨ p.state = .held

/-! ## Cue readers and lamps -/

/-- R29: the assembling flag is raised while the reader is IN TAB or GAP. -/
def Reader.assembling (r : Reader) : Bool := r.state = .inTab ∨ r.state = .gap

/-- R51: a lamp is lit while it is SETTLING or BURNING. -/
def Lamp.lit (l : Lamp) : Bool := l.state = .settling ∨ l.state = .burning

/-- R60: a burst is due, whatever the assembling flag says; the size it would have. -/
def Lamp.burstDue (l : Lamp) : Option Nat :=
  match sampleMean l.samples with
  | none => none
  | some m =>
    if l.lit ∧ l.voltage + 10 ≤ m ∧ l.burst = none ∧ l.blankEnd = none then some (burstSize m l.voltage) else none

/-! ## Fire causes (9.4) -/

/-- 9.4: the ports a lasting or momentary cause covers. `named` are the named ports of SELF and TEST. -/
def coverage (cause : DropCause) (p : Option Proj) (named : List PortId) : List PortId :=
  match cause with
  | .fusible | .emergency | .critical => allPorts
  | .filmFire => match p with
    | some p => [projPort p, obsPort (houseOf p)]
    | none => []
  | .douser => match p with
    | some p => [projPort p]
    | none => []
  | .self | .test => named

/-- R139: the active fire causes. No rule gives the order in which they are listed; the model lists FUSIBLE, EMERGENCY,
CRITICAL, then FILM FIRE by projector number (DESIGN CHOICE, log entry 44). DOUSER and TEST are never active between commands. -/
def Booth.active (b : Booth) : List (DropCause × Option Proj) :=
  (if b.fusible then [(.fusible, none)] else []) ++
  (if b.emergency then [(.emergency, none)] else []) ++
  (if b.critical then [(.critical, none)] else []) ++
  (allProjs.filter (fun p => b.filmFire.cell p)).map (fun p => (.filmFire, some p))

/-- R140: the active fire causes that cover port `n`, in the order of `Booth.active` (log entry 44). -/
def Booth.covering (b : Booth) (n : PortId) : List (DropCause × Option Proj) :=
  b.active.filter (fun c => (coverage c.1 c.2 []).contains n)

/-- Whether an active fire cause covers port `n`. -/
def Booth.covers (b : Booth) (n : PortId) : Bool := !(b.covering n).isEmpty

/-- R133, R134: the active safety causes of house `h`, in the order of `Booth.active` (log entry 44). -/
def Booth.safetyCauses (b : Booth) (h : HouseId) : List (DropCause × Option Proj) :=
  b.active.filter (fun c => match c.2 with
    | none => true
    | some p => houseOf p = h)

/-- R16: a fire cause is active whose consequences stop the motors of house `h` (the same causes as R133 lists). -/
def Booth.stopsMotors (b : Booth) (h : HouseId) : Bool := !(b.safetyCauses h).isEmpty

/-! ## Dousers -/

/-- R37: the trial case of the gating condition. -/
def State.trialCase (s : State) (p : Proj) : Bool :=
  (s.ds p).trial.isSome ∧ (s.lp p).state = .off ∧ (s.tr p).state = .stopped

/-- R37: the gating condition of douser `p`. -/
def State.gating (s : State) (p : Proj) : Bool :=
  ((s.tr p).state = .running ∧ (s.lp p).state = .burning ∧ (s.pt (projPort p)).state = .held) ∨ s.trialCase p

/-- R151: the three conditions of the DOUSER cause hold together. -/
def State.douserHazard (s : State) (p : Proj) : Bool :=
  (s.ds p).state = .stuck ∧ (s.tr p).state ≠ .running ∧ (s.lp p).state ≠ .off

/-! ## Reel entries -/

/-- The first entry of a plan with a reel number; R85 keeps the numbers distinct. -/
def findReel (plan : List ReelEntry) (reel : Nat) : Option ReelEntry := plan.find? (fun e => e.reel = reel)

/-- The tail of a reel: leader plus picture (00_scope, Terms). -/
def ReelEntry.tail (e : ReelEntry) : Nat := e.leader + e.picture

/-- R89: the entry that projector `p` holds. -/
def State.heldEntry (s : State) (p : Proj) : Option ReelEntry :=
  match (s.tr p).armed with
  | none => none
  | some a => findReel (s.hs a.house).plan a.reel

/-- R20: the leader frames that the reader of `p` measures against. -/
def State.leaderOf (s : State) (p : Proj) : Nat :=
  match s.heldEntry p with
  | none => 0
  | some e => e.leader

/-- The projector of a house's live side. -/
def State.liveProj (s : State) (h : HouseId) : Option Proj := (s.hs h).liveSide.map (projAt h)

/-- The projector of a house's starting side. -/
def State.startingProj (s : State) (h : HouseId) : Option Proj := (s.hs h).startingSide.map (projAt h)

/-- The live entry of a house: the entry its live projector holds. -/
def State.liveEntry (s : State) (h : HouseId) : Option ReelEntry := (s.liveProj h).bind s.heldEntry

/-- R85: the next entry, the first in plan order that is not DONE. -/
def nextEntry (plan : List ReelEntry) : Option ReelEntry := plan.find? (fun e => e.status ≠ .finished)

/-- The entries of a plan that stand after the one with a reel number. -/
def entriesAfter (plan : List ReelEntry) (reel : Nat) : List ReelEntry :=
  (plan.dropWhile (fun e => e.reel ≠ reel)).drop 1

/-- R105: the following entry, the first after the live entry that is not DONE; a last reel has none. -/
def State.followingEntry (s : State) (h : HouseId) : Option ReelEntry :=
  match s.liveEntry h with
  | none => none
  | some e => if e.last then none else nextEntry (entriesAfter (s.hs h).plan e.reel)

/-! ## Readiness (R92, R105) -/

/-- R92: whether `p` holds an entry whose status is ARMED. -/
def State.holdsArmed (s : State) (p : Proj) : Bool :=
  match s.heldEntry p with
  | none => false
  | some e => e.status = .armed

/-- R92: whether the lamp of `p` is judged sufficient. -/
def State.isSufficient (s : State) (p : Proj) : Bool :=
  match (s.lp p).sufficiency with
  | none => false
  | some x => x.sufficient

/-- R92: which of the six readiness conditions of `p` fail. -/
def State.readyFailures (s : State) (p : Proj) : ReadyFailures where
  entryArmed := !s.holdsArmed p
  stopped := decide ((s.tr p).state ≠ .stopped)
  burning := decide ((s.lp p).state ≠ .burning)
  sufficient := !s.isSufficient p
  portHeld := decide ((s.pt (projPort p)).state ≠ .held)
  douserClosed := decide ((s.ds p).state ≠ .closed)

/-- R92: no readiness condition fails. -/
def ReadyFailures.none : ReadyFailures := ⟨false, false, false, false, false, false⟩

/-- R92: projector `p` is READY. -/
def State.ready (s : State) (p : Proj) : Bool := s.readyFailures p = ReadyFailures.none

/-- R105: projector `p` is ready to follow in house `h`: READY, holding the following entry. -/
def State.readyToFollow (s : State) (h : HouseId) (p : Proj) : Bool :=
  s.ready p && match s.followingEntry h, (s.tr p).armed with
    | some e, some a => a.house = h ∧ a.reel = e.reel
    | _, _ => false

/-- R103: whether the incoming's motor has been started. -/
def ChangePhase.started : ChangePhase → Bool
  | .waitReady | .delay => false
  | .runup | .locked | .due | .crossing => true

/-- R97: a show is in progress: STARTING, SHOWING or ENDING. -/
def HouseState.inShow : HouseState → Bool
  | .starting | .showing | .ending => true
  | .idle | .ready | .hold | .finished => false

/-- R100, R122: the frame at or past which the live reel has reached its tail. -/
def State.atTail (s : State) (p : Proj) : Bool :=
  match s.heldEntry p with
  | none => false
  | some e => decide (e.tail ≤ (s.tr p).counter)

/-! ## Light channels (R127) -/

/-- R127: the controlling layer. -/
def Light.controlling (l : Light) : Layer :=
  if l.safetyActive then .safety else if l.manualActive then .manual else .program

/-- R127: the effective target. -/
def Light.effective (l : Light) : Nat :=
  if l.safetyActive then l.safetyTarget else if l.manualActive then l.manualTarget else l.programTarget

end Sys2Proof.Machine
end

