-- ==== Sys2Proof/Machine/Reports.lean ====
section
/-! DEFINITION. The report queue and the transmitter (R164, R165): how a report joins, how a record's sending begins,
and how the transmitter chooses its next record. -/

namespace Sys2Proof.Machine

/-- R164: the report queue holds at most 24 reports. -/
def reportCapacity : Nat := 24

/-- R164: the lost mark after one more report that found the queue full; the count stops at 65535. -/
def bumpLost (lost : Option Nat) : Option Nat :=
  match lost with
  | none => some 1
  | some n => some (min 65535 (n + 1))

/-- R164, R165: the report at the head of the queue leaves it and its sending begins; if the lost mark is set, REPORTS
LOST is queued in the place just freed and the mark is cleared. -/
def Link.sendHead (l : Link) : Link :=
  match l.queue with
  | [] => l
  | r :: rest =>
    match l.lost with
    | none => { l with queue := rest, transmitter := .report r }
    | some n =>
      { l with
        queue := rest ++ [⟨0, l.clock, .reportsLost n⟩]
        lost := none
        transmitter := .report r }

/-- R164: a report joins the queue at its tail, or is lost where the queue is full; an IDLE transmitter begins sending
it at once (R165). -/
def Link.enqueue (l : Link) (subject : Nat) (body : ReportBody) : Link :=
  if l.queue.length < reportCapacity then
    let l1 := { l with queue := l.queue ++ [⟨subject, l.clock, body⟩] }
    if l1.transmitter = .idle then l1.sendHead else l1
  else { l with lost := bumpLost l.lost }

/-- R165: what the transmitter does when it is free: a reply in the slot is sent next, otherwise the report at the head
of the queue, otherwise it becomes IDLE. -/
def Link.choose (l : Link) : Link :=
  if l.slot.isSome then { l with transmitter := .reply }
  else match l.queue with
    | [] => { l with transmitter := .idle }
    | _ :: _ => l.sendHead

/-- R164: a block places a report in the report queue. -/
def State.report (s : State) (subject : Nat) (body : ReportBody) : State :=
  s.setLink (s.link.enqueue subject body)

/-- A report whose subject is a projector, lamp or douser. -/
def State.reportProj (s : State) (p : Proj) (body : ReportBody) : State := s.report (projNumber p) body

/-- A report whose subject is a house. -/
def State.reportHouse (s : State) (h : HouseId) (body : ReportBody) : State := s.report (houseNumber h) body

/-- A report whose subject is a port. -/
def State.reportPort (s : State) (n : PortId) (body : ReportBody) : State := s.report (portNumber n) body

/-- A report of the booth or the link. -/
def State.reportBooth (s : State) (body : ReportBody) : State := s.report 0 body

end Sys2Proof.Machine
end

