-- ==== Sys2Proof/Machine/Ops.lean ====
section
/-! DEFINITION. A rule in progress, and the operations inside one block that the rules of several blocks share: the
light channel (R127 to R133), the cue queue (R30, R31), regulation bursts (R55, R60 to R62), the douser commands
(R37 to R39, R44), the sound gate (R49, R50) and trials (R47).

A command is one rule, whole and indivisible (95_what_each_step_holds). `Rule` is that rule part-way: the state as
changed so far, the changes that other blocks have yet to see (`agenda`, in the order in which they came about), and
whether a reply was placed while the transmitter was IDLE. Machine/Settle.lean lets the blocks see the agenda. -/

namespace Sys2Proof.Machine

/-- A change of one block's record that another block acts on in the same rule. -/
inductive Signal where
  /-- The transport of a projector has come into a state. -/
  | transport (p : Proj) (to1 : TransportState)
  /-- R8: a transport has failed its run-up. -/
  | runupFailed (p : Proj)
  /-- R68: a lamp has left BURNING; whether it went to a restrike (R66). -/
  | lampLeft (p : Proj) (restrike : Bool)
  /-- R68: a lamp has become OFF. -/
  | lampOff (p : Proj)
  /-- R58: a lamp has become BURNING. -/
  | lampBurning (p : Proj)
  /-- R54: a lamp has left OFF. -/
  | lampStruck (p : Proj)
  /-- R142: the projection port of a projector has left HELD. -/
  | portLeft (p : Proj)
  /-- R140, R141: the projection port of a projector has become HELD. -/
  | portHeld (p : Proj)
  /-- R40, R42, R43: a douser has become CLOSED, OPEN or STUCK. -/
  | douser (p : Proj) (to1 : DouserState)
  /-- R30: an entry has joined the cue queue of a projector. -/
  | cues (p : Proj)
  /-- R80, R89, R91: a condition of readiness in a house may have come to hold. -/
  | readiness (h : HouseId)
deriving DecidableEq, Repr

/-- A rule in progress. -/
structure Rule where
  st : State
  agenda : List Signal
  tie : Bool
deriving DecidableEq, Repr

/-- A command's rule begins: `dt` has passed since the command before it. -/
def Rule.begin (s : State) (dt : Nat) : Rule := ⟨s.elapse dt, [], false⟩

/-- Change the state of a rule in progress. -/
def Rule.upd (r : Rule) (f : State → State) : Rule := { r with st := f r.st }

/-- Put a change on the agenda. -/
def Rule.emit (r : Rule) (x : Signal) : Rule := { r with agenda := r.agenda ++ [x] }

/-! ## Light channels -/

/-- R129: the level becomes `v` and the drive follows. -/
def Light.setLevel (l : Light) (v : Nat) : Light := { l with level := v, drive := driveOf v }

/-- R127: a fade of `f` tenths of a second begins from the present level toward the effective target. -/
def Light.fadeTo (l : Light) (now : Instant) (f : Nat) : Light :=
  if 2 * f = 0 then { l.setLevel l.effective with fade := none }
  else if l.effective = l.level then { l with fade := none }
  else { l with fade := some ⟨l.level, l.effective, 2 * f, 0, now⟩ }

/-- R130: a program target is given to the channel. -/
def Light.giveProgram (l : Light) (now : Instant) (target fade : Nat) (origin : Origin) : Light :=
  let l1 := { l with programTarget := target, programFade := fade }
  if l1.manualActive then { l1 with pending := some ⟨target, origin⟩ }
  else if l1.safetyActive then l1
  else l1.fadeTo now fade

/-- R133: the SAFETY layer is activated; the level jumps to the emergency level. -/
def Light.activateSafety (l : Light) (now : Instant) : Light :=
  if l.safetyActive then l else { l with safetyActive := true }.fadeTo now 0

/-- R99, R133: the house controller hands the channel its emergency level. -/
def Light.giveEmergency (l : Light) (now : Instant) (level : Nat) : Light :=
  let l1 := { l with safetyTarget := level }
  if l1.safetyActive then l1.fadeTo now 0 else l1

/-- R130: the house controller gives house `h` a program target. -/
def State.programTarget (s : State) (h : HouseId) (target fade : Nat) (origin : Origin) : State :=
  s.setLt h ((s.lt h).giveProgram s.now target fade origin)

/-- R133: the port controller activates the SAFETY layer of house `h`. -/
def State.activateSafety (s : State) (h : HouseId) : State :=
  s.setLt h ((s.lt h).activateSafety s.now)

/-! ## Reel entries and light cues -/

/-- Change the entry of a plan that has a reel number. -/
def mapReel (plan : List ReelEntry) (reel : Nat) (f : ReelEntry → ReelEntry) : List ReelEntry :=
  plan.map (fun e => if e.reel = reel then f e else e)

/-- Change the entry of house `h`'s plan that has a reel number. -/
def State.modReel (s : State) (h : HouseId) (reel : Nat) (f : ReelEntry → ReelEntry) : State :=
  s.setHs h { s.hs h with plan := mapReel (s.hs h).plan reel f }

/-- Give an entry a status. -/
def State.setStatus (s : State) (h : HouseId) (reel : Nat) (status : ReelStatus) : State :=
  s.modReel h reel (fun e => { e with status := status })

/-- R131: set the fired marks of the cues that meet a condition and have theirs clear. -/
def markFired (cues : List LightCue) (cond : CueTrigger → Bool) : List LightCue :=
  cues.map (fun c => if !c.fired && cond c.trigger then { c with fired := true } else c)

/-- R130, R131: give the program targets of fired cues, in order. -/
def State.giveCues (s : State) (h : HouseId) (reel : Nat) : List LightCue → State
  | [] => s
  | c :: rest => (s.programTarget h c.target c.fade (.cue reel c.trigger)).giveCues h reel rest

/-- R131: the light cues of an entry whose trigger meets a condition fire, in list order. -/
def State.fireCues (s : State) (h : HouseId) (reel : Nat) (cond : CueTrigger → Bool) : State :=
  match findReel (s.hs h).plan reel with
  | none => s
  | some e =>
    (s.modReel h reel (fun x => { x with cues := markFired x.cues cond })).giveCues h reel
      (e.cues.filter (fun c => !c.fired && cond c.trigger))

/-- R132: a FRAME cue whose frame the counter has reached. -/
def frameReached (counter : Nat) (t : CueTrigger) : Bool :=
  match t with
  | .frame n => decide (n ≤ counter)
  | _ => false

/-- R132: the test of the live entry's FRAME cues, made while the house is SHOWING. -/
def State.fireFrameCues (s : State) (h : HouseId) : State :=
  match s.liveProj h, s.liveEntry h with
  | some p, some e =>
    if (s.hs h).state = .showing then s.fireCues h e.reel (frameReached (s.tr p).counter) else s
  | _, _ => s

/-- R109: set the fired mark of the first TAB cue that has it clear, and give that cue. -/
def fireFirstTab : List LightCue → Option (LightCue × List LightCue)
  | [] => none
  | c :: rest =>
    if c.trigger = .tab ∧ c.fired = false then some (c, { c with fired := true } :: rest)
    else match fireFirstTab rest with
      | none => none
      | some (x, rest') => some (x, c :: rest')

/-! ## The sound gate -/

/-- R49: a selection of a side is taken while the transport of that side's projector is RUNNING. -/
def State.selectSide (s : State) (h : HouseId) (sd : Side) : State :=
  if (s.tr (projAt h sd)).state = .running then s.setHs h { s.hs h with gate := .side sd } else s

/-- R49: a selection of NONE is always taken. -/
def State.selectNone (s : State) (h : HouseId) : State := s.setHs h { s.hs h with gate := .none }

/-- R50: the watch on the selected projector, whose transport has left RUNNING. -/
def State.soundWatch (s : State) (p : Proj) : State :=
  if (s.hs (houseOf p)).gate = .side (sideOf p) then s.selectNone (houseOf p) else s

/-! ## Dousers -/

/-- R37: an open command to douser `p`. -/
def State.openCommand (s : State) (p : Proj) : State :=
  let d := s.ds p
  if s.gating p ∧ (d.state = .closed ∨ d.state = .closing) then
    s.setDs p { d with
      drive := .opens
      state := .opening
      travel := some ⟨.opens, s.now, decide (d.state = .closed), travelLimit d.openTime⟩ }
  else s

/-- R39: a close command to douser `p`, which drives a STUCK one toward closed, in a picture loss too (log entry 38). -/
def State.closeCommand (s : State) (p : Proj) : State :=
  let d := s.ds p
  match d.state with
  | .opened | .opening =>
    s.setDs p { d with
      drive := .closes
      state := .closing
      travel := some ⟨.closes, s.now, decide (d.state = .opened), travelLimit d.closeTime⟩ }
  | .closing | .closed => s
  | .stuck => s.setDs p { d with drive := .closes }

/-- R38: the watch on the gating condition: an OPEN or OPENING douser whose condition does not hold is closed. -/
def State.gatingWatch (s : State) (p : Proj) : State :=
  if ((s.ds p).state = .opened ∨ (s.ds p).state = .opening) ∧ ¬ s.gating p then s.closeCommand p else s

/-- R44: douser `p` has become OPEN: the house's other douser, if OPEN, is given a close command. -/
def State.interlock (s : State) (p : Proj) : State :=
  if (s.ds (otherProj p)).state = .opened then s.closeCommand (otherProj p) else s

/-- R46, R47: a trial ends with an outcome, which TRIAL DONE reports; R38 then closes an open douser. -/
def State.endTrial (s : State) (p : Proj) (outcome : TrialOutcome) : State :=
  match (s.ds p).trial with
  | none => s
  | some t =>
    let d := s.ds p
    ((s.setDs p { d with trial := none }).reportProj p
      (.trialDone outcome t.completed d.openTime d.closeTime)).gatingWatch p

/-! ## Feed pulses and bursts -/

/-- R55, R56, R57, R62: the direction of the feed pulse that lamp `l` has to send next, if any. -/
def Lamp.wanted (l : Lamp) : Option FeedDir :=
  match l.phase with
  | some .sweep => some .forward
  | some .draw => some .reverse
  | some .supply => none
  | none => match l.burst with
    | some b => if b.sent < b.asked then some .forward else none
    | none => none

/-- R55: 50 ms have passed since the last send. -/
def Lamp.spaced (l : Lamp) (now : Instant) : Bool :=
  match l.lastSend with
  | none => true
  | some t => decide (t + ms 50 ≤ now)

/-- R62: each send of a burst raises the pulses sent by one. -/
def Lamp.countSend (l : Lamp) : Lamp :=
  { l with burst := l.burst.map (fun b => { b with sent := b.sent + 1 }) }

/-- R55: the next pulse of the phase or burst is sent, once none is outstanding and the spacing allows. -/
def Lamp.trySend (l : Lamp) (now : Instant) : Lamp :=
  match l.wanted with
  | none => l
  | some dir =>
    if l.outstanding = none ∧ l.spaced now then
      { l.countSend with outstanding := some ⟨dir, now⟩, lastSend := some now }
    else l

/-- R60, R61, R62: the evaluation of a burst, with the assembling flag as given. -/
def Lamp.evaluate (l : Lamp) (assembling : Bool) (now : Instant) : Lamp :=
  match l.burstDue with
  | none => { l with deferred := false }
  | some n =>
    if assembling then { l with deferred := true }
    else { l with burst := some ⟨n, 0, 0⟩, deferred := false }.trySend now

/-- R60: lamp `p` evaluates whether a burst is due. -/
def State.evalBurst (s : State) (p : Proj) : State :=
  s.setLp p ((s.lp p).evaluate (s.rd p).assembling s.now)

/-! ## Cue queues -/

/-- R30: the queue holds at most 8 entries. -/
def cueCapacity : Nat := 8

/-- R30: an entry that is to join the cue queue of `p` joins at its tail with CUE SEEN, or is dropped with QUEUE FULL. -/
def Rule.joinCue (r : Rule) (p : Proj) (e : CueEntry) : Rule :=
  let d := r.st.rd p
  if d.queue.length < cueCapacity then
    (r.upd (fun s => (s.setRd p { d with queue := d.queue ++ [e] }).reportProj p (.cueSeen e))).emit (.cues p)
  else r.upd (fun s => s.reportProj p (.queueFull e))

/-- R28, R31: entries join in order, each under R30. -/
def Rule.joinCues (r : Rule) (p : Proj) : List CueEntry → Rule
  | [] => r
  | e :: rest => (r.joinCue p e).joinCues p rest

/-- R31: a COUNTED entry is offered to the reader of `p`: it joins at once, or is held behind the group in assembly. -/
def Rule.offerCounted (r : Rule) (p : Proj) (code : CueCode) : Rule :=
  let d := r.st.rd p
  let e : CueEntry := ⟨code, (r.st.tr p).counter, .counted, none⟩
  if d.group.isSome then
    if d.held.length < 2 then r.upd (fun s => s.setRd p { d with held := d.held ++ [e] })
    else r.upd (fun s => s.reportProj p (.queueFull e))
  else r.joinCue p e

/-- R22: the transport of `p` has left STARTING or RUNNING: the reader is OFF, and a group in assembly is abandoned:
the assembling flag falls (R29, R61) and the held counted entries then join. -/
def Rule.readerStops (r : Rule) (p : Proj) : Rule :=
  let d := r.st.rd p
  if d.assembling then
    (r.upd (fun s => (s.setRd p { d with state := .off, group := none, held := [] }).evalBurst p)).joinCues p d.held
  else r.upd (fun s => s.setRd p { d with state := .off })

/-- R20, R22, R35: HUNT below the leader, WATCH at or past it. -/
def huntOrWatch (counter leader : Nat) : ReaderState := if counter < leader then .hunt else .watch

/-- R22: the motor of an ARMED projector starts: the reader takes up HUNT or WATCH; of an EMPTY one it stays OFF. -/
def State.readerStarts (s : State) (p : Proj) : State :=
  match (s.tr p).armed with
  | none => s
  | some _ => s.setRd p { s.rd p with state := huntOrWatch (s.tr p).counter (s.leaderOf p), group := none }

/-- R104: the bad head reported mark is cleared when the entry leaves the head of the live queue. -/
def State.clearBadMark (s : State) (p : Proj) : State :=
  let h := houseOf p
  if s.liveProj h = some p then s.setHs h { s.hs h with marks := { (s.hs h).marks with badReported := false } } else s

/-- R21: the reader takes a state, and its group, held counted entries and queue are discarded; where the assembling
flag falls, the lamp unit evaluates (R29, R61). -/
def State.readerDiscards (s : State) (p : Proj) (state : ReaderState) : State :=
  let d := s.rd p
  let s1 := (s.setRd p { d with state := state, group := none, held := [], queue := [] }).clearBadMark p
  if d.assembling then s1.evalBurst p else s1

/-! ## Sufficiency (R80) -/

/-- R79: the frames remaining of an entry from a frame counter. -/
def framesLeft (e : ReelEntry) (counter : Nat) : Nat := e.tail - counter

/-- R80: the judgement of lamp `p` as the records now stand; absent while the projector is EMPTY. -/
def State.judge (s : State) (p : Proj) : Option Sufficiency :=
  match s.heldEntry p with
  | none => none
  | some e =>
    let fr := framesLeft e (s.tr p).counter
    let need := carbonNeed (s.lp p).rate fr (s.speedOf p)
    some ⟨decide (need ≤ (s.lp p).account), need, fr⟩

/-- R80: sufficiency is evaluated afresh; a lamp that has become sufficient may complete its projector's readiness. -/
def Rule.evalSufficiency (r : Rule) (p : Proj) : Rule :=
  let r1 := r.upd (fun s => s.setLp p { s.lp p with sufficiency := s.judge p })
  if r1.st.isSufficient p ∧ ¬ r.st.isSufficient p then r1.emit (.readiness (houseOf p)) else r1

end Sys2Proof.Machine
end

