-- ==== Sys2Proof/Machine/Actions.lean ====
section
/-! DEFINITION. The actions that one block takes on another's command and that other blocks then see: motor start and
stop (R3, R4), a lamp's stopping and striking (R54, R64, R68, R70), disarming (R91), the release of a port and the drop
record (R142 to R146), and the activation of a fire cause (R148). Each puts what it changed on the agenda. -/

namespace Sys2Proof.Machine

/-! ## Transports -/

/-- R47: a trial on `p` stops because its transport leaves STOPPED. R3: the motor start of a STOPPED transport. -/
def Rule.motorStart (r : Rule) (p : Proj) : Rule :=
  let t := r.st.tr p
  if t.state = .stopped then
    (r.upd (fun s =>
      ((s.setTr p { t with
        state := .starting
        motorOn := some s.now
        lastPulse := none
        lockRunStart := none
        lockCount := 0
        outCount := 0
        miss := .normal
        speedFault := false
        recovery := 0 }).endTrial p .motor).readerStarts p)).emit (.transport p .starting)
  else r

/-- R122: the runout count becomes absent when the transport of the projector that ran out leaves RUNNING. -/
def State.dropRunoutCount (s : State) (p : Proj) : State :=
  let h := houseOf p
  if s.liveProj h = some p then s.setHs h { s.hs h with runoutCount := none } else s

/-- What follows in the same rule when the transport of `p` leaves RUNNING: R38, R50 and R122. -/
def State.leaveRunning (s : State) (p : Proj) : State :=
  ((s.gatingWatch p).soundWatch p).dropRunoutCount p

/-- R4: a motor stop. -/
def Rule.motorStop (r : Rule) (p : Proj) : Rule :=
  let t := r.st.tr p
  let stopped (s : State) : State := s.setTr p { t with
    state := .stopping
    lockCount := 0
    lockRunStart := none
    motorOn := none
    miss := .normal
    stoppingSince := some s.now }
  match t.state with
  | .starting => ((r.upd stopped).readerStops p).emit (.transport p .stopping)
  | .running => (((r.upd stopped).readerStops p).upd (fun s => s.leaveRunning p)).emit (.transport p .stopping)
  | .stopped | .stopping | .broken => r

/-! ## Lamps -/

/-- R68: the fields that a lamp leaving a lit state or a strike makes absent, empty or clear. -/
def Lamp.clearRun (l : Lamp) : Lamp :=
  { l with
    phase := none
    phaseStart := none
    settleStart := none
    outstanding := none
    burst := none
    blankEnd := none
    lowStart := none
    band := none
    samples := []
    deferred := false
    minute := none
    nextSample := none }

/-- R64: a burst that ends short queues SHORT FEED with the cause that ended it. -/
def State.endBurst (s : State) (p : Proj) (cause : ShortCause) : State :=
  match (s.lp p).burst with
  | none => s
  | some b => if b.confirmed < b.asked then s.reportProj p (.shortFeed b.asked b.confirmed cause) else s

/-- R64: the cause that SHORT FEED names for a stop reason; the other reasons stop no burst, or queue none. -/
def StopReason.shortCause : StopReason → Option ShortCause
  | .host => some .host
  | .arcOut => some .arcOut
  | .noArc => some .noArc
  | .fire => some .fire
  | .stub => some .stub
  | .strikeSupply | .strikeContact | .feed | .restart => none

/-- R64 for the stop reasons that queue a SHORT FEED. -/
def State.endBurstFor (s : State) (p : Proj) (reason : StopReason) : State :=
  match reason.shortCause with
  | some c => s.endBurst p c
  | none => s

/-- R68: the signals of a lamp that leaves its state; BURNING is left to a restrike or not. -/
def Rule.emitLampLeft (r : Rule) (p : Proj) (was : LampState) (restrike : Bool) : Rule :=
  if was = .burning then r.emit (.lampLeft p restrike) else r

/-- R68: lamp `p` becomes OFF with a stop reason. -/
def Rule.lampStops (r : Rule) (p : Proj) (reason : StopReason) : Rule :=
  let l := r.st.lp p
  let r1 := r.upd (fun s => s.endBurstFor p reason)
  let r2 := r1.upd (fun s => s.setLp p { (s.lp p).clearRun with state := .off, stop := some reason })
  let r3 := if l.lit then r2.upd (fun s => s.closeCommand p) else r2
  (r3.emitLampLeft p l.state false).emit (.lampOff p)

/-- R69, R70: a lamp that is not OFF becomes OFF with the reason; an OFF lamp keeps its stop reason. -/
def Rule.extinguish (r : Rule) (p : Proj) (reason : StopReason) : Rule :=
  if (r.st.lp p).state = .off then r else r.lampStops p reason

/-- R54: a strike sequence begins with the supply phase; R53, R66: the stall count is set to 0. -/
def Rule.strikeBegins (r : Rule) (p : Proj) : Rule :=
  let wasOff := (r.st.lp p).state = .off
  let r1 := r.upd (fun s => (s.setLp p { (s.lp p).clearRun with
    state := .striking
    phase := some .supply
    phaseStart := some s.now
    highSupply := 0
    sweepPulses := 0
    drawPulses := 0
    stalls := 0 }).gatingWatch p)
  if wasOff then r1.emit (.lampStruck p) else r1

/-! ## Disarming (R91) -/

/-- R91: the status of an entry whose projector gives it up. -/
def ReelStatus.given : ReelStatus → ReelStatus
  | .armed => .pending
  | .pending => .pending
  | .showing => .showing
  | .interrupted => .interrupted
  | .finished => .finished

/-- R91: the entry that `p` holds changes status as `p` gives it up. -/
def State.giveUpEntry (s : State) (p : Proj) : State :=
  match (s.tr p).armed with
  | none => s
  | some a => s.modReel a.house a.reel (fun e => { e with status := e.status.given })

/-- R91: projector `p` is disarmed; R14: a BROKEN transport becomes STOPPED. -/
def Rule.disarm (r : Rule) (p : Proj) : Rule :=
  let t := r.st.tr p
  let broken := t.state = .broken
  let r1 := r.upd (fun s =>
    (((s.giveUpEntry p).setTr p { t with
      armed := none
      counter := 0
      state := if broken then .stopped else t.state }).readerDiscards p .off))
  let r2 := r1.upd (fun s => s.setLp p { s.lp p with sufficiency := none })
  let r3 := r2.emit (.readiness (houseOf p))
  if broken then r3.emit (.transport p .stopped) else r3

/-! ## Drop records and ports -/

/-- R145: the drop log holds at most 16 records. -/
def logCapacity : Nat := 16

/-- R144: the outcome a listed port takes at the writing. -/
def Port.listed (p : Port) : DropOutcome := if p.state = .held ∨ p.state = .arming then .pending else .already

/-- R146: no DROPPING port carries the link with its mark clear, so the record it names is settled. -/
def State.settled (s : State) (l : DropLink) : Bool :=
  allPorts.all (fun n => !decide ((s.pt n).state = .dropping ∧ (s.pt n).link = some l))

/-- R145: the drop link of a port whose record leaves the log is marked discarded; `settled` says whether the record was
settled by then, and so reported (log entry 20). -/
def Port.unlink (p : Port) (seq : Nat) (settled : Bool) : Port :=
  { p with link := p.link.map (fun l =>
    if l.seq = seq then { l with discarded := true, reported := settled } else l) }

/-- R145: where the log is full its oldest record is discarded. -/
def State.trimLog (s : State) : State :=
  if s.booth.log.length < logCapacity then s
  else match s.booth.log with
    | [] => s
    | old :: rest =>
      let settled := s.settled ⟨old.seq, false, false⟩
      { s.setBooth { s.booth with log := rest } with ports := s.ports.map (fun p => p.unlink old.seq settled) }

/-- R144: the footage a record carries: present when its projector is ARMED. -/
def State.dropFootage (s : State) (projector : Option Proj) : Option Nat :=
  match projector with
  | none => none
  | some p => if (s.tr p).armed.isSome then some (footage (s.tr p).counter) else none

/-- R144, R145: a drop record is written for the listed ports, before they are released. -/
def State.writeRecord (s : State) (cause : DropCause) (projector : Option Proj) (listed : List PortId) : State :=
  let rec1 : DropRecord :=
    { seq := s.booth.nextSeq
      cause := cause
      projector := projector
      footage := s.dropFootage projector
      time := s.link.clock
      ports := listed.map (fun n => ⟨n, (s.pt n).listed⟩) }
  let s1 := s.trimLog
  s1.setBooth { s1.booth with log := s1.booth.log ++ [rec1], nextSeq := nextSequence s.booth.nextSeq }

/-- R146: set the outcome of port `n` in a record. -/
def DropRecord.setOutcome (d : DropRecord) (n : PortId) (o : DropOutcome) : DropRecord :=
  { d with ports := d.ports.map (fun e => if e.port = n then { e with outcome := o } else e) }

/-- R146: the outcome of port `n` is written into the record its drop link names, where the link's mark is clear. -/
def State.writeOutcome (s : State) (n : PortId) (o : DropOutcome) : State :=
  match (s.pt n).link with
  | none => s
  | some l =>
    if l.discarded then s
    else s.setBooth { s.booth with log := s.booth.log.map (fun d => if d.seq = l.seq then d.setOutcome n o else d) }

/-- R146: the links to the discarded record `seq` note that it has been reported settled. -/
def Port.noteReported (p : Port) (seq : Nat) : Port :=
  { p with link := p.link.map (fun l => if l.seq = seq ∧ l.discarded then { l with reported := true } else l) }

/-- R146: PORT DROPPED for a discarded record. No link with its mark clear names it, so one that was not settled before is
settled at the first judgement after its discarding, and only that one finds it not yet reported. Its cause and projector
went with it (log entry 20). -/
def State.judgeDiscarded (s : State) (l : DropLink) : State :=
  if l.reported then s
  else { s.reportBooth (.portDropped l.seq none none) with ports := s.ports.map (fun p => p.noteReported l.seq) }

/-- R146: PORT DROPPED when a record becomes settled, with the record's cause and projector. -/
def State.judgeSettled (s : State) (l : DropLink) : State :=
  if l.discarded then s.judgeDiscarded l
  else if s.settled l then
    match s.booth.log.find? (fun d => d.seq = l.seq) with
    | some d => s.reportBooth (.portDropped l.seq (some d.cause) d.projector)
    | none => s.reportBooth (.portDropped l.seq none none)
  else s

/-- R142: port `n` is released under the record `seq`; only a HELD or ARMING port is. -/
def Rule.release (r : Rule) (seq : Nat) (n : PortId) : Rule :=
  let p := r.st.pt n
  if p.state = .held ∨ p.state = .arming then
    let linked := { p with windowEnd := none, link := some ⟨seq, false, false⟩ }
    let r1 :=
      if p.downSwitch then
        r.upd (fun s => ((s.setPt n linked).writeOutcome n (.closed 0)).setPt n { linked with state := .down, link := none })
      else r.upd (fun s => s.setPt n { linked with state := .dropping, releasedAt := some s.now })
    match portProj n with
    | some q => if p.state = .held then (r1.upd (fun s => s.closeCommand q)).emit (.portLeft q) else r1
    | none => r1
  else r

/-- R142: the listed ports are released, in order. -/
def Rule.releaseAll (r : Rule) (seq : Nat) : List PortId → Rule
  | [] => r
  | n :: rest => (r.release seq n).releaseAll seq rest

/-- R47, R148: every trial on a projector whose port is covered stops with outcome FIRE. -/
def State.stopTrials (s : State) : List PortId → State
  | [] => s
  | n :: rest =>
    match portProj n with
    | some p => (s.endTrial p .fire).stopTrials rest
    | none => s.stopTrials rest

/-- R148: TEST queues no FIRE CAUSE, and a self-drop is no cause. -/
def DropCause.announced : DropCause → Bool
  | .test | .self => false
  | .fusible | .emergency | .critical | .filmFire | .douser => true

/-- R144, R142, R146: a record is written, its ports are released, and its settlement is judged, after FIRE CAUSE where
the drop is the activation of an announced cause. -/
def Rule.drop (r : Rule) (cause : DropCause) (projector : Option Proj) (listed : List PortId) : Rule :=
  let seq := r.st.booth.nextSeq
  let r1 := (r.upd (fun s => s.writeRecord cause projector listed)).releaseAll seq listed
  let r2 := if cause.announced then r1.upd (fun s => s.reportBooth (.fireCauseOn cause projector seq)) else r1
  r2.upd (fun s => s.judgeSettled ⟨seq, false, false⟩)

/-- R148: the activation of a cause up to its consequences: the record, the releases, FIRE CAUSE, and the trials. -/
def Rule.activation (r : Rule) (cause : DropCause) (projector : Option Proj) (listed : List PortId) : Rule :=
  (r.drop cause projector listed).upd (fun s => s.stopTrials listed)

/-- R151: the DOUSER cause of `p` is activated where its three conditions hold: the record, the release of port `p`,
FIRE CAUSE, and the lamp extinguished with reason FIRE, with which the cause ends. Where it is tested among the other
changes of its rule: log entries 40 and 41. -/
def Rule.douserCause (r : Rule) (p : Proj) : Rule :=
  if r.st.douserHazard p then
    (r.activation .douser (some p) (coverage .douser (some p) [])).extinguish p .fire
  else r

end Sys2Proof.Machine
end

