-- ==== Sys2Proof/Machine/Show.lean ====
section
/-! DEFINITION. The house controller's rules over the show and the changeover: hold (R97), the abandoned start (R96),
the live cue queue (R106 to R110), alignment and start (R111, R112), the crossing (R114 to R117, R119), the retiring
projector (R118), runout (R122), the end sequence (R100, R101) and the loss of the live picture (R123, R124). -/

namespace Sys2Proof.Machine

/-! ## The house record -/

/-- Change the record of house `h`. -/
def State.modHs (s : State) (h : HouseId) (f : House → House) : State := s.setHs h (f (s.hs h))

/-- Change the house's changeover record, where one is present. -/
def State.modChange (s : State) (h : HouseId) (f : Changeover → Changeover) : State :=
  s.modHs h (fun x => { x with change := x.change.map f })

/-- Change the reel marks of the house (R104). -/
def State.modMarks (s : State) (h : HouseId) (f : ReelMarks → ReelMarks) : State :=
  s.modHs h (fun x => { x with marks := f x.marks })

/-- The status of the live entry of house `h` is set. -/
def State.setLiveStatus (s : State) (h : HouseId) (status : ReelStatus) : State :=
  match s.liveEntry h with
  | none => s
  | some e => s.setStatus h e.reel status

/-- A close command to both dousers of the house. -/
def State.closeBoth (s : State) (h : HouseId) : State :=
  (s.closeCommand (projAt h .a)).closeCommand (projAt h .b)

/-- R131: the START trigger. -/
def isStart (t : CueTrigger) : Bool := decide (t = .start)

/-- R131: the END trigger. -/
def isEnding (t : CueTrigger) : Bool := decide (t = .ending)

/-- The hold reason of a loss reason (R123). -/
def LossReason.hold : LossReason → HoldReason
  | .brk => .brk
  | .lamp => .lamp
  | .douser => .douser
  | .fire => .fire

/-! ## Hold (R97) -/

/-- R97: a changeover record is dropped; an incoming whose motor has been started is disarmed. At the end sequence (R100)
nothing else is done to that incoming (log entry 37). -/
def Rule.dropChange (r : Rule) (h : HouseId) : Rule :=
  match (r.st.hs h).change with
  | none => r
  | some c =>
    let r1 := r.upd (fun s => s.modHs h (fun x => { x with change := none }))
    if c.phase.started then r1.disarm c.incoming else r1

/-- R97: in a hold the live entry of a SHOWING or ENDING house becomes INTERRUPTED; of a STARTING house the starting
entry stays ARMED. -/
def State.interrupt (s : State) (h : HouseId) : State :=
  match (s.hs h).state with
  | .showing | .ending => s.setLiveStatus h .interrupted
  | .starting | .idle | .ready | .hold | .finished => s

/-- R97, R123: a house in a show enters HOLD. `lights` says whether the hold level is given, as it is but for a loss
hold with reason BREAK. -/
def Rule.enterHold (r : Rule) (h : HouseId) (reason : HoldReason) (lights : Bool) : Rule :=
  let r1 := r.upd (fun s => (s.closeBoth h).selectNone h)
  let r2 := ((r1.motorStop (projAt h .a)).motorStop (projAt h .b)).dropChange h
  r2.upd (fun s =>
    let s1 := s.interrupt h
    let s2 := if lights then s1.programTarget h (s1.hs h).levels.hold 30 .hold else s1
    s2.modHs h (fun x => { x with
      startingSide := none
      ending := none
      dark := false
      state := .hold
      holdReason := some reason }))

/-- R97, R149, R150: the consequence of a fire cause for a house: a show is held, a held house takes the new reason, and
the other states are not changed. -/
def Rule.fireHold (r : Rule) (h : HouseId) (reason : HoldReason) : Rule :=
  match (r.st.hs h).state with
  | .starting | .showing | .ending => r.enterHold h reason true
  | .hold => r.upd (fun s => s.modHs h (fun x => { x with holdReason := some reason }))
  | .idle | .ready | .finished => r

/-- R123: a loss hold. -/
def Rule.lossHold (r : Rule) (h : HouseId) (reason : LossReason) : Rule :=
  r.enterHold h reason.hold (decide (reason ≠ .brk))

/-- R96: the start of house `h` is abandoned. -/
def Rule.abandonStart (r : Rule) (h : HouseId) (p : Proj) (reason : HoldReason) : Rule :=
  (r.motorStop p).upd (fun s =>
    ((((s.closeBoth h).selectNone h).programTarget h (s.hs h).levels.hold 30 .hold).modHs h
      (fun x => { x with startingSide := none, state := .hold, holdReason := some reason })))

/-! ## The end of the show (R100, R101) -/

/-- R101: while DOUSING, the live douser becomes CLOSED or STUCK: the sound is cut and the run-out begins. -/
def State.endDoused (s : State) (h : HouseId) : State :=
  match (s.hs h).ending with
  | some ⟨.dousing, n⟩ => (s.selectNone h).modHs h (fun x => { x with ending := some ⟨.runOut, n⟩ })
  | some ⟨.runOut, _⟩ | some ⟨.stopping, _⟩ | none => s

/-- R100: the end sequence begins; a record is dropped with its incoming only disarmed (log entry 37). -/
def Rule.endSequence (r : Rule) (h : HouseId) : Rule :=
  match r.st.liveProj h, r.st.liveEntry h with
  | some p, some e =>
    (r.dropChange h).upd (fun s =>
      let s1 := ((s.closeCommand p).fireCues h e.reel isEnding).modHs h (fun x => { x with
        dark := false
        ending := some ⟨.dousing, 0⟩
        state := .ending })
      if (s1.ds p).state = .closed then s1.endDoused h else s1)
  | _, _ => r

/-- R101: the end completes, on a break or with the transport STOPPED. -/
def Rule.endCompletes (r : Rule) (h : HouseId) (p : Proj) (onBreak : Bool) : Rule :=
  match r.st.heldEntry p with
  | none => r
  | some e =>
    let frame := (r.st.tr p).counter
    let r1 := r.upd (fun s => (s.setStatus h e.reel .finished).modHs h (fun x => { x with
      ending := none
      state := .finished }))
    let r2 := if onBreak then r1 else r1.disarm p
    r2.upd (fun s => s.reportHouse h (.showEnd e.reel frame onBreak))

/-- R101: a counted pulse of the live projector in RUN-OUT. -/
def Rule.countEndPulse (r : Rule) (h : HouseId) (p : Proj) : Rule :=
  match (r.st.hs h).ending with
  | some ⟨.runOut, n⟩ =>
    if n + 1 < 48 then r.upd (fun s => s.modHs h (fun x => { x with ending := some ⟨.runOut, n + 1⟩ }))
    else (r.upd (fun s => s.modHs h (fun x => { x with ending := some ⟨.stopping, 48⟩ }))).motorStop p
  | some ⟨.dousing, _⟩ | some ⟨.stopping, _⟩ | none => r

/-! ## Runout (R122) -/

/-- R122: a changeover record is dropped at runout; an incoming in RUNUP, LOCKED or DUE is stopped, closed and disarmed. -/
def Rule.runoutDrop (r : Rule) (h : HouseId) : Rule :=
  match (r.st.hs h).change with
  | none => r
  | some c =>
    let r1 := r.upd (fun s => s.modHs h (fun x => { x with change := none }))
    if c.phase.started then
      ((r1.motorStop c.incoming).upd (fun s => s.closeCommand c.incoming)).disarm c.incoming
    else r1

/-- R122: runout. -/
def Rule.runout (r : Rule) (h : HouseId) : Rule :=
  match r.st.liveProj h, r.st.liveEntry h with
  | some p, some e =>
    let phase := (r.st.hs h).change.map (fun c => c.phase)
    let r1 := (r.upd (fun s => (s.closeCommand p).selectNone h)).runoutDrop h
    r1.upd (fun s =>
      let s1 := (s.setStatus h e.reel .interrupted).fireCues h e.reel isEnding
      let s2 := s1.programTarget h (s1.hs h).levels.runout 30 .runout
      (s2.modHs h (fun x => { x with
        dark := false
        state := .hold
        holdReason := some .runout
        runoutCount := some 0 })).reportHouse h (.runout e.reel (s2.tr p).counter phase))
  | _, _ => r

/-- R122: a counted pulse of the projector that ran out. -/
def Rule.countRunoutPulse (r : Rule) (h : HouseId) (p : Proj) (n : Nat) : Rule :=
  if n + 1 < 48 then r.upd (fun s => s.modHs h (fun x => { x with runoutCount := some (n + 1) }))
  else (r.upd (fun s => s.modHs h (fun x => { x with runoutCount := none }))).motorStop p

/-- R100, R122: the test of the tail at the live frame counter. -/
def Rule.tailTest (r : Rule) (h : HouseId) : Rule :=
  match r.st.liveProj h, r.st.liveEntry h with
  | some p, some e =>
    if (r.st.hs h).state = .showing ∧ r.st.atTail p then
      if e.last then r.endSequence h
      else if (r.st.hs h).change.map (fun c => c.phase) = some .crossing then r
      else r.runout h
    else r
  | _, _ => r

/-! ## The crossing (R114 to R117) -/

/-- R118: the former outgoing becomes the retiring projector; one whose transport is BROKEN or STOPPED is disarmed at once. -/
def Rule.retire (r : Rule) (h : HouseId) (p : Proj) : Rule :=
  let t := r.st.tr p
  if t.state = .broken ∨ t.state = .stopped then r.disarm p
  else
    let tail := match r.st.heldEntry p with
      | some e => e.tail
      | none => 0
    let make (phase : RetirePhase) : Rule :=
      r.upd (fun s => s.modHs h (fun x => { x with retiring := some ⟨p, phase, 0⟩ }))
    if t.counter < tail then make .toTail
    else if t.counter = tail then make .runOut
    else (make .stopping).motorStop p

/-- R118: a counted pulse of the retiring projector. -/
def Rule.countRetirePulse (r : Rule) (h : HouseId) (p : Proj) : Rule :=
  match (r.st.hs h).retiring with
  | none => r
  | some x =>
    if x.projector ≠ p then r
    else match x.phase with
      | .toTail =>
        if r.st.atTail p then r.upd (fun s => s.modHs h (fun y => { y with retiring := some ⟨p, .runOut, 0⟩ })) else r
      | .runOut =>
        if x.pulses + 1 < 48 then
          r.upd (fun s => s.modHs h (fun y => { y with retiring := some ⟨p, .runOut, x.pulses + 1⟩ }))
        else (r.upd (fun s => s.modHs h (fun y => { y with retiring := some ⟨p, .stopping, 48⟩ }))).motorStop p
      | .stopping => r

/-- R118: the retiring transport has become STOPPING: the record waits as in its own STOPPING phase; has become STOPPED
or BROKEN: the projector is disarmed and the record becomes absent. -/
def Rule.retireSees (r : Rule) (h : HouseId) (p : Proj) (to1 : TransportState) : Rule :=
  match (r.st.hs h).retiring with
  | none => r
  | some x =>
    if x.projector ≠ p then r
    else match to1 with
      | .stopping => r.upd (fun s => s.modHs h (fun y => { y with retiring := some { x with phase := .stopping } }))
      | .stopped | .broken => (r.upd (fun s => s.modHs h (fun y => { y with retiring := none }))).disarm p
      | .starting | .running => r

/-- R115: the offsets of a crossing from To of the incoming and Tc of the outgoing douser. -/
def crossingOffsets (openTime closeTime : Nat) (outgoing : DouserState) : Nat × Option Nat × Nat :=
  match outgoing with
  | .opened | .opening =>
    let sound := (max openTime closeTime + 1) / 2
    if closeTime ≤ openTime then (0, some ((openTime - closeTime + 1) / 2), sound)
    else ((closeTime - openTime + 1) / 2, some 0, sound)
  | .closed | .closing | .stuck => (0, none, (openTime + 1) / 2)

/-- R116: the open command of the crossing, where its offset is the given one and it is still to be given. -/
def State.crossingOpen (s : State) (h : HouseId) (c : Changeover) (x : Crossing) (offset : Nat) : State :=
  if x.openGiven = false ∧ x.openOffset = offset then
    (s.openCommand c.incoming).modChange h (fun c => { c with
      crossing := c.crossing.map (fun x => { x with openGiven := true }) })
  else s

/-- R116: the close command of the crossing. -/
def State.crossingClose (s : State) (h : HouseId) (c : Changeover) (x : Crossing) (offset : Nat) : State :=
  if x.closeGiven = false ∧ x.closeOffset = some offset then
    (s.closeCommand (otherProj c.incoming)).modChange h (fun c => { c with
      crossing := c.crossing.map (fun x => { x with closeGiven := true }) })
  else s

/-- R116: the sound instant of the crossing: the gate selects the incoming side and the incoming START cues fire. -/
def State.crossingSound (s : State) (h : HouseId) (c : Changeover) (x : Crossing) (offset : Nat) : State :=
  if x.switched = false ∧ x.soundOffset = offset then
    let s1 := s.selectSide h (sideOf c.incoming)
    let s2 : State := match s1.heldEntry c.incoming with
      | some e => s1.fireCues h e.reel isStart
      | none => s1
    s2.modChange h (fun c => { c with crossing := c.crossing.map (fun x => { x with switched := true }) })
  else s

/-- R116: what falls at T plus an offset; instants that coincide are given in the one rule. -/
def State.crossingAt (s : State) (h : HouseId) (offset : Nat) : State :=
  match (s.hs h).change with
  | none => s
  | some c => match c.crossing with
    | none => s
    | some x => ((s.crossingOpen h c x offset).crossingClose h c x offset).crossingSound h c x offset

/-- R115: the crossing begins: the offsets are computed, the END cues of the outgoing entry fire, and what falls at T
itself is given. -/
def Rule.beginCrossing (r : Rule) (h : HouseId) (c : Changeover) : Rule :=
  let out := otherProj c.incoming
  r.upd (fun s =>
    let o := crossingOffsets (s.ds c.incoming).openTime (s.ds out).closeTime (s.ds out).state
    let x : Crossing :=
      { start := s.now
        openOffset := o.1
        soundOffset := o.2.2
        closeOffset := o.2.1
        switched := false
        openGiven := false
        closeGiven := false
        outFrame := (s.tr out).counter }
    let s1 := s.modChange h (fun c => { c with phase := .crossing, crossing := some x })
    let s2 : State := match s1.heldEntry out with
      | some e => s1.fireCues h e.reel isEnding
      | none => s1
    s2.crossingAt h 0)

/-- R114: a record in DUE begins its crossing once the incoming is RUNNING at picture. -/
def Rule.crossingTest (r : Rule) (h : HouseId) : Rule :=
  match (r.st.hs h).change with
  | none => r
  | some c =>
    if c.phase = .due ∧ (r.st.tr c.incoming).state = .running ∧
        r.st.leaderOf c.incoming ≤ (r.st.tr c.incoming).counter then
      r.beginCrossing h c
    else r

/-- R108, R120, R123: the record enters DUE with a change source, and the crossing test is made. -/
def Rule.enterDue (r : Rule) (h : HouseId) (source : ChangeSource) (loss : Option LossReason) : Rule :=
  (r.upd (fun s => (s.modChange h (fun c => { c with
    phase := .due
    changeSource := some source
    loss := loss
    held := none
    delayEnd := none })).modMarks h (fun m => { m with changeTaken := true }))).crossingTest h

/-! ## Start alignment (R111, R112) -/

/-- R105: the incoming is started: a motor start, given only while it is ready to follow. -/
def Rule.startIncoming (r : Rule) (c : Changeover) : Rule := r.motorStart c.incoming

/-- R112: the delay end has fallen: the incoming is started into RUNUP, or its start is withheld. -/
def Rule.delayFalls (r : Rule) (h : HouseId) (c : Changeover) : Rule :=
  if r.st.readyToFollow h c.incoming then
    (r.upd (fun s => s.modChange h (fun c => { c with phase := .runup, delayEnd := none, held := none }))).startIncoming c
  else r.upd (fun s => s.modChange h (fun c => { c with delayEnd := none }))

/-- R111: the start delay d of a record, with the shortfall where it would be negative. -/
def startDelay (tOut tIn : Nat) : Nat := min 20000 (tOut - tIn)

/-- R111, R112: the start alignment is computed and the record enters DELAY; a delay of 0 falls in the same rule. -/
def Rule.align (r : Rule) (h : HouseId) (c : Changeover) : Rule :=
  let s := r.st
  let speed := (s.hs h).speed
  let lr := s.leaderOf c.incoming - (s.tr c.incoming).counter
  let tr := (s.tr c.incoming).runUp
  let tOut := timeOut c.motorFrame c.changeFrame speed
  let tIn := timeIn lr tr speed
  let d := startDelay tOut tIn
  let r1 := if tOut < tIn then
      r.upd (fun s => s.reportHouse h (.shortLead (tIn - tOut) c.motorFrame c.changeFrame lr tr))
    else r
  let r2 := r1.upd (fun s => s.modChange h (fun x => { x with
    phase := .delay
    motorFrame := c.motorFrame
    delay := some d
    delayEnd := some (s.now + ms d) }))
  if d = 0 then r2.delayFalls h c else r2

/-- R112: the incoming of a waiting record becomes ready to follow. -/
def Rule.readinessTest (r : Rule) (h : HouseId) : Rule :=
  match (r.st.hs h).change with
  | none => r
  | some c =>
    if r.st.readyToFollow h c.incoming then
      match c.phase, c.held with
      | .waitReady, none => r.align h { c with motorFrame := (r.st.tr (otherProj c.incoming)).counter }
      | .waitReady, some src =>
        (r.startIncoming c).enterDue h (match src with | .tab => .tab | .counted => .counted) none
      | .delay, none =>
        if c.delayEnd = none then
          (r.upd (fun s => s.modChange h (fun c => { c with phase := .runup }))).startIncoming c
        else r
      | .delay, some src =>
        if c.delayEnd = none then
          (r.startIncoming c).enterDue h (match src with | .tab => .tab | .counted => .counted) none
        else r
      | .runup, _ | .locked, _ | .due, _ | .crossing, _ => r
    else r

/-! ## The live cue queue (R106 to R110) -/

/-- R107: the expected change frame c of a record timed from m. -/
def changeFrameOf (e : ReelEntry) (m speed : Nat) : Nat :=
  match e.changeFrame with
  | some c => c
  | none => min 65535 (m + 8 * speed)

/-- A new changeover record (R107, R108, R120). -/
def newChange (incoming : Proj) (source : MotorSource) (m c : Nat) : Changeover where
  incoming := incoming
  phase := .waitReady
  motorSource := source
  motorFrame := m
  changeFrame := c
  delay := none
  delayEnd := none
  held := none
  changeSource := none
  loss := none
  crossing := none

/-- R107, R108, R120: a record is created; the motor taken mark is set. -/
def State.createChange (s : State) (h : HouseId) (c : Changeover) : State :=
  (s.modHs h (fun x => { x with change := some c })).modMarks h (fun m => { m with motorTaken := true })

/-- R107: a MOTOR entry. -/
def Rule.takeMotor (r : Rule) (h : HouseId) (p : Proj) (live : ReelEntry) (e : CueEntry) : Rule :=
  if r.st.followingEntry h = none then r.upd (fun s => s.reportHouse h (.unexpected e .noFollowing))
  else if (r.st.hs h).change.isSome ∨ (r.st.hs h).marks.motorTaken then r.upd (fun s => s.reportHouse h (.late e))
  else
    let src : MotorSource := match e.source with | .tab => .tab | .counted => .counted
    let c := newChange (otherProj p) src e.frame (changeFrameOf live e.frame (r.st.hs h).speed)
    let r1 := r.upd (fun s => s.createChange h c)
    if r1.st.readyToFollow h c.incoming then r1.align h c else r1

/-- R108: the change source of a CHANGE entry's source. -/
def CueSource.change : CueSource → ChangeSource
  | .tab => .tab
  | .counted => .counted

/-- R108: a held change is recorded and the change taken mark is set. -/
def State.holdChange (s : State) (h : HouseId) (source : CueSource) : State :=
  (s.modChange h (fun c => { c with held := some source })).modMarks h (fun m => { m with changeTaken := true })

/-- R108: a CHANGE entry. -/
def Rule.takeChange (r : Rule) (h : HouseId) (p : Proj) (live : ReelEntry) (e : CueEntry) : Rule :=
  let isLate := r.upd (fun s => s.reportHouse h (.late e))
  if r.st.followingEntry h = none then r.upd (fun s => s.reportHouse h (.unexpected e .noFollowing))
  else match (r.st.hs h).change with
    | none =>
      if (r.st.hs h).marks.changeTaken then isLate
      else
        let m := (r.st.tr p).counter
        let c := newChange (otherProj p) .implied m (changeFrameOf live m (r.st.hs h).speed)
        let r1 := r.upd (fun s => s.createChange h c)
        if r1.st.readyToFollow h c.incoming then (r1.startIncoming c).enterDue h e.source.change none
        else r1.upd (fun s => s.holdChange h e.source)
    | some c =>
      match c.phase with
      | .waitReady => if c.held.isSome then isLate else r.upd (fun s => s.holdChange h e.source)
      | .delay =>
        if c.held.isSome then isLate
        else if r.st.readyToFollow h c.incoming then (r.startIncoming c).enterDue h e.source.change none
        else r.upd (fun s => s.holdChange h e.source)
      | .runup | .locked => r.enterDue h e.source.change none
      | .due | .crossing => isLate

/-- R109: a LIGHTS entry. -/
def Rule.takeLights (r : Rule) (h : HouseId) (live : ReelEntry) (e : CueEntry) : Rule :=
  match fireFirstTab live.cues with
  | none => r.upd (fun s => s.reportHouse h (.unexpected e .noLightCue))
  | some (cue, cues) => r.upd (fun s =>
      (s.modReel h live.reel (fun x => { x with cues := cues })).giveCues h live.reel [cue])

/-- R109: an END entry. -/
def Rule.takeEnd (r : Rule) (h : HouseId) (live : ReelEntry) (e : CueEntry) : Rule :=
  if live.last then r.endSequence h else r.upd (fun s => s.reportHouse h (.unexpected e .notLast))

/-- R106: a BAD head blocks the queue, and CUE BAD is queued once for it. -/
def State.reportBadHead (s : State) (h : HouseId) (p : Proj) (e : CueEntry) : State :=
  if (s.hs h).marks.badReported then s
  else (s.reportProj p (.cueBad e.frame e.bad)).modMarks h (fun m => { m with badReported := true })

/-- R106: an entry that is not BAD is acted on by its code. -/
def Rule.takeEntry (r : Rule) (h : HouseId) (p : Proj) (live : ReelEntry) (e : CueEntry) : Rule :=
  match e.code with
  | .motor => r.takeMotor h p live e
  | .change => r.takeChange h p live e
  | .lights => r.takeLights h live e
  | .ending => r.takeEnd h live e
  | .bad => r

/-- R106: while the house is SHOWING the heads of the live queue are taken in turn; `fuel` bounds the number taken. -/
def Rule.takeHeads : Nat → HouseId → Rule → Rule
  | 0, _, r => r
  | fuel + 1, h, r =>
    if (r.st.hs h).state = .showing then
      match r.st.liveProj h, r.st.liveEntry h with
      | some p, some live =>
        match (r.st.rd p).queue with
        | [] => r
        | e :: rest =>
          if e.code = .bad then r.upd (fun s => s.reportBadHead h p e)
          else ((r.upd (fun s => s.setRd p { s.rd p with queue := rest })).takeEntry h p live e).takeHeads fuel h
      | _, _ => r
    else r

/-- R106: the live queue is read as far as it goes: every entry it holds, and once more for a BAD head behind them. -/
def Rule.takeCues (r : Rule) (h : HouseId) : Rule :=
  match r.st.liveProj h with
  | none => r
  | some p => r.takeHeads ((r.st.rd p).queue.length + 1) h

/-- R110, R32: the head of the live queue is BAD. -/
def State.badHead (s : State) (p : Proj) : Bool :=
  match (s.rd p).queue with
  | [] => false
  | e :: _ => e.code = .bad

/-- R110: whether the counted fallback may offer an entry: SHOWING, a following entry, no BAD head, and the live counter
at or past the expected frame plus its margin. -/
def State.counterPasses (s : State) (h : HouseId) (p : Proj) (expected : Option Nat) (margin : Nat) : Bool :=
  match expected with
  | none => false
  | some n =>
    (s.hs h).state = .showing ∧ (s.followingEntry h).isSome ∧ ¬ s.badHead p ∧ n + margin ≤ (s.tr p).counter

/-- R110: the counted fallback: MOTOR 48 frames, CHANGE 12 frames past its expected frame. -/
def Rule.countedFallback (r : Rule) (h : HouseId) : Rule :=
  match r.st.liveProj h, r.st.liveEntry h with
  | some p, some e =>
    let m := (r.st.hs h).marks
    let r1 :=
      if r.st.counterPasses h p e.motorFrame 48 ∧ m.motorTaken = false ∧ m.countedMotor = false then
        ((r.offerCounted p .motor).upd (fun s => s.modMarks h (fun m => { m with countedMotor := true }))).takeCues h
      else r
    let m1 := (r1.st.hs h).marks
    if r1.st.counterPasses h p e.changeFrame 12 ∧ m1.changeTaken = false ∧ m1.countedChange = false then
      ((r1.offerCounted p .change).upd (fun s => s.modMarks h (fun m => { m with countedChange := true }))).takeCues h
    else r1
  | _, _ => r

/-! ## The live picture (R95) and the completion of a crossing (R117) -/

/-- R95: the live picture begins once the starting projector is RUNNING at or past its leader. -/
def Rule.pictureTest (r : Rule) (h : HouseId) : Rule :=
  match (r.st.hs h).state, (r.st.hs h).startingSide with
  | .starting, some sd =>
    let p := projAt h sd
    match r.st.heldEntry p with
    | none => r
    | some e =>
      if (r.st.tr p).state = .running ∧ e.leader ≤ (r.st.tr p).counter then
        let r1 := r.upd (fun s =>
          ((((s.openCommand p).selectSide h sd).fireCues h e.reel isStart).setStatus h e.reel .showing).modHs h
            (fun x => { x with liveSide := some sd, startingSide := none, state := .showing, marks := ReelMarks.clear }))
        (((r1.upd (fun s => s.fireFrameCues h)).takeCues h).countedFallback h).tailTest h
      else r
  | _, _ => r

/-- R117: the conditions of a crossing's completion. -/
def State.crossingDone (s : State) (c : Changeover) : Bool :=
  match c.phase, c.crossing with
  | .crossing, some x =>
    x.switched ∧ (s.ds c.incoming).state = .opened ∧
      ((s.ds (otherProj c.incoming)).state = .closed ∨ (s.ds (otherProj c.incoming)).state = .stuck)
  | _, _ => false

/-- R117: what CHANGEOVER DONE carries. -/
def State.changeoverReport (s : State) (c : Changeover) (x : Crossing) : ChangeoverReport :=
  let reelOf (p : Proj) : Nat := match (s.tr p).armed with
    | some a => a.reel
    | none => 0
  { outgoing := otherProj c.incoming
    outgoingReel := reelOf (otherProj c.incoming)
    incoming := c.incoming
    incomingReel := reelOf c.incoming
    motorSource := c.motorSource
    changeSource := c.changeSource
    loss := c.loss
    delay := c.delay
    openOffset := x.openOffset
    closeOffset := x.closeOffset
    soundOffset := x.soundOffset
    outFrame := x.outFrame }

/-- The status of the entry that projector `p` holds is set. -/
def State.setHeldStatus (s : State) (p : Proj) (status : ReelStatus) : State :=
  match (s.tr p).armed with
  | none => s
  | some a => s.setStatus a.house a.reel status

/-- R117: a crossing completes. -/
def Rule.completionTest (r : Rule) (h : HouseId) : Rule :=
  match (r.st.hs h).change with
  | none => r
  | some c =>
    match c.crossing with
    | none => r
    | some x =>
      if r.st.crossingDone c then
        let out := otherProj c.incoming
        let rep := r.st.changeoverReport c x
        let r1 := r.upd (fun s =>
          ((s.setHeldStatus c.incoming .showing).setHeldStatus out .finished).modHs h (fun y => { y with
            change := none
            liveSide := some (sideOf c.incoming)
            marks := ReelMarks.clear
            dark := false }))
        let r2 := (r1.retire h out).upd (fun s => s.reportHouse h (.changeoverDone rep))
        (r2.upd (fun s => s.fireFrameCues h)).takeCues h
      else r

/-! ## Failures and losses (R96, R113, R119, R123, R124) -/

/-- R113: the incoming fails in RUNUP, LOCKED or DUE. -/
def Rule.incomingFails (r : Rule) (h : HouseId) (c : Changeover) : Rule :=
  let q := c.incoming
  let r1 := ((r.motorStop q).upd (fun s =>
    (s.closeCommand q).modHs h (fun x => { x with change := none }))).disarm q
  if c.changeSource = some .loss then
    match c.loss with
    | some reason => r1.lossHold h reason
    | none => r1
  else r1

/-- R119: the first failure that the outgoing's state shows. -/
def State.outgoingFailure (s : State) (p : Proj) : Option LossReason :=
  if (s.tr p).state ≠ .running then some .brk
  else if (s.lp p).state ≠ .burning then some .lamp
  else if (s.pt (projPort p)).state ≠ .held then some .fire
  else if (s.ds p).state = .stuck then some .douser
  else none

/-- R119: a crossing is abandoned because its incoming fails. -/
def Rule.abandonCrossing (r : Rule) (h : HouseId) (c : Changeover) : Rule :=
  let q := c.incoming
  let out := otherProj q
  let r1 := ((r.upd (fun s => s.closeCommand q)).motorStop q).upd
    (fun s => s.modHs h (fun x => { x with change := none }))
  let r2 := r1.disarm q
  match r2.st.outgoingFailure out with
  | none =>
    if r2.st.atTail out then r2.runout h
    else r2.upd (fun s => (s.openCommand out).selectSide h (sideOf out))
  | some reason => r2.lossHold h (match c.loss with | some l => l | none => reason)

/-- R123: the live picture is lost. `restrike` says that the lamp has gone to a restrike. The close command drives a STUCK
douser toward closed (R39; log entry 38). -/
def Rule.pictureLoss (r : Rule) (h : HouseId) (p : Proj) (reason : LossReason) (restrike : Bool) : Rule :=
  let r1 := r.upd (fun s =>
    let s1 := (s.modHs h (fun x => { x with dark := false })).closeCommand p
    let s2 := if (s1.tr p).state ≠ .running then s1.selectNone h else s1
    if reason = .brk then s2.programTarget h (s2.hs h).levels.brk 10 .brk else s2)
  match (r1.st.hs h).change with
  | some c =>
    match c.phase with
    | .delay =>
      if r1.st.readyToFollow h c.incoming then (r1.startIncoming c).enterDue h .loss (some reason)
      else (r1.upd (fun s => s.modHs h (fun x => { x with change := none }))).lossHold h reason
    | .waitReady => (r1.upd (fun s => s.modHs h (fun x => { x with change := none }))).lossHold h reason
    | .runup | .locked => r1.enterDue h .loss (some reason)
    | .due => r1.upd (fun s => (s.modChange h (fun c => { c with
        changeSource := some .loss
        loss := if c.changeSource = some .loss then c.loss else some reason })).modMarks h
          (fun m => { m with changeTaken := true }))
    | .crossing => r1
  | none =>
    if reason = .lamp ∧ restrike = true ∧ (r1.st.tr p).state = .running then
      r1.upd (fun s => s.modHs h (fun x => { x with dark := true }))
    else r1.lossHold h reason

/-- R124: the live lamp of a dark house becomes BURNING again: the flag is cleared and, if no crossing has begun, the
live douser is opened. -/
def State.lampReturns (s : State) (p : Proj) : State :=
  let h := houseOf p
  if (s.hs h).state = .showing ∧ (s.hs h).dark ∧ s.liveProj h = some p then
    let s1 := s.modHs h (fun x => { x with dark := false })
    if (s.hs h).change.map (fun c => c.phase) = some .crossing then s1 else s1.openCommand p
  else s

/-- R124: the live lamp of a dark house becomes OFF: the loss rule is applied afresh with reason LAMP. -/
def Rule.darkLampOff (r : Rule) (p : Proj) : Rule :=
  let h := houseOf p
  if (r.st.hs h).state = .showing ∧ (r.st.hs h).dark ∧ r.st.liveProj h = some p then r.pictureLoss h p .lamp false else r

/-- The events by which a projector fails a show (R96, R113, R123). -/
inductive Failure where
  | runup
  | brk
  | lamp (restrike : Bool)
  | port
  | stuck
deriving DecidableEq, Repr

/-- R96: the hold reason of a failure before the picture begins. -/
def Failure.startReason : Failure → HoldReason
  | .runup => .start
  | .brk => .brk
  | .lamp _ => .lamp
  | .port => .fire
  | .stuck => .douser

/-- R123: the loss reason of a failure of the live projector; a run-up failure is none, since it was not RUNNING. -/
def Failure.lossReason : Failure → Option LossReason
  | .runup => none
  | .brk => some .brk
  | .lamp _ => some .lamp
  | .port => some .fire
  | .stuck => some .douser

/-- R123: whether the failure is a lamp gone to a restrike. -/
def Failure.restrike : Failure → Bool
  | .lamp b => b
  | .runup | .brk | .port | .stuck => false

/-- R113, R119: the incoming of the record, if `p` is it, fails by its phase. -/
def Rule.changeSees (r : Rule) (h : HouseId) (p : Proj) : Rule :=
  match (r.st.hs h).change with
  | none => r
  | some c =>
    if c.incoming ≠ p then r
    else match c.phase with
      | .runup | .locked | .due => r.incomingFails h c
      | .crossing => r.abandonCrossing h c
      | .waitReady | .delay => r

/-- R96, R101, R113, R119, R123: the house controller sees a failure of projector `p`. -/
def Rule.failure (r : Rule) (p : Proj) (f : Failure) : Rule :=
  let h := houseOf p
  match (r.st.hs h).state with
  | .starting => if r.st.startingProj h = some p then r.abandonStart h p f.startReason else r
  | .showing =>
    if r.st.liveProj h = some p then
      match f.lossReason with
      | some reason => r.pictureLoss h p reason f.restrike
      | none => r
    else r.changeSees h p
  | .ending => if r.st.liveProj h = some p ∧ f = .brk then r.endCompletes h p true else r
  | .idle | .ready | .hold | .finished => r

end Sys2Proof.Machine
end

