-- ==== Sys2Proof/Machine/Settle.lean ====
section
/-! DEFINITION. The rest of a rule: the blocks see, in order, the changes that other blocks have made (the agenda), a
tie between a reply and a report is broken (R165), and the rule ends in a next state. Also the activation of the fire
causes that hold houses, with their consequences (R148 to R150), and the ending of a cause (R152). -/

namespace Sys2Proof.Machine

/-- What a house controller looks at whenever a record it reads has changed: the live picture's beginning (R95), the
readiness of a waiting incoming (R112), the beginning (R114) and the completion (R117) of a crossing. -/
def Rule.look (r : Rule) (h : HouseId) : Rule :=
  (((r.pictureTest h).readinessTest h).crossingTest h).completionTest h

/-- R113: a record in RUNUP enters LOCKED when its incoming transport becomes RUNNING. -/
def State.lockChange (s : State) (p : Proj) : State :=
  s.modChange (houseOf p) (fun c =>
    if c.incoming = p ∧ c.phase = .runup then { c with phase := .locked } else c)

/-- R101: the live transport of an ENDING house becomes STOPPED after the run-out: the end completes. -/
def Rule.endStops (r : Rule) (p : Proj) : Rule :=
  let h := houseOf p
  if (r.st.hs h).state = .ending ∧ r.st.liveProj h = some p ∧
      (r.st.hs h).ending.map (fun e => e.phase) = some .stopping then
    r.endCompletes h p false
  else r

/-- R101: the live douser of an ENDING house has become CLOSED or STUCK. -/
def State.endDouserSees (s : State) (p : Proj) : State :=
  let h := houseOf p
  if (s.hs h).state = .ending ∧ s.liveProj h = some p then s.endDoused h else s

/-- R106: an entry has joined the queue of `p`; the house reads it where `p` is live. -/
def Rule.cuesJoined (r : Rule) (p : Proj) : Rule :=
  if r.st.liveProj (houseOf p) = some p then r.takeCues (houseOf p) else r

/-- What a change of a transport's state brings about in the house controller and the port controller, in this order (log
entry 40). -/
def Rule.transportSeen (r : Rule) (p : Proj) (to1 : TransportState) : Rule :=
  let h := houseOf p
  match to1 with
  | .starting => r
  | .running => (r.upd (fun s => s.lockChange p)).look h
  | .stopping => ((r.retireSees h p .stopping).douserCause p).look h
  | .stopped => (((r.endStops p).retireSees h p .stopped).douserCause p).look h
  | .broken => (((r.failure p .brk).retireSees h p .broken).douserCause p).look h

/-- What a change of a douser's state brings about in the house controller and the port controller, in this order (log entry
40). -/
def Rule.douserSeen (r : Rule) (p : Proj) (to1 : DouserState) : Rule :=
  let h := houseOf p
  match to1 with
  | .closed => (r.upd (fun s => s.endDouserSees p)).look h
  | .opened => r.look h
  | .stuck => (((r.failure p .stuck).upd (fun s => s.endDouserSees p)).douserCause p).look h
  | .opening | .closing => r

/-- The blocks see one change of the agenda. -/
def Rule.sees (r : Rule) (x : Signal) : Rule :=
  match x with
  | .transport p to1 => r.transportSeen p to1
  | .runupFailed p => (r.failure p .runup).look (houseOf p)
  | .lampLeft p restrike => (r.failure p (.lamp restrike)).look (houseOf p)
  | .lampOff p => r.darkLampOff p
  | .lampBurning p => (r.upd (fun s => s.lampReturns p)).look (houseOf p)
  | .lampStruck p => r.douserCause p
  | .portLeft p => (r.failure p .port).look (houseOf p)
  | .portHeld p => r.look (houseOf p)
  | .douser p to1 => r.douserSeen p to1
  | .cues p => r.cuesJoined p
  | .readiness h => r.look h

/-- More changes than one rule can bring about (log entry 8). -/
def settleBound : Nat := 512

/-- The blocks see the agenda, first in, first out, until nothing is left on it: what a rule has put on it is seen after all
the changes of that rule (log entries 34 and 41). -/
def Rule.settle : Nat → Rule → Rule
  | 0, r => r
  | n + 1, r =>
    match r.agenda with
    | [] => r
    | x :: rest => (Rule.sees { r with agenda := rest } x).settle n

/-- R165: a reply and a report have come to an IDLE transmitter in one rule: either is sent first. -/
def Rule.breakTie (r : Rule) : Rule :=
  if r.tie = true ∧ r.st.link.queue ≠ [] then
    r.upd (fun s =>
      if Config.replyFirst s.draws then s.setDraws (s.draws + 1)
      else (s.setLink s.link.sendHead).setDraws (s.draws + 1))
  else r

/-- A rule ends: the blocks come to rest, and the transmitter's tie is broken. -/
def Rule.finish (r : Rule) : Host.Outcome State Fault Refusal :=
  .next (r.settle settleBound).breakTie.st

/-! ## Fire causes (R148 to R150, R152) -/

/-- R149, R150: the houses that the consequences of a cause reach. -/
def fireHouses (cause : DropCause) (p : Option Proj) : List HouseId :=
  match cause, p with
  | .fusible, _ | .emergency, _ | .critical, _ => allHouses
  | .filmFire, some p => [houseOf p]
  | .filmFire, none | .douser, _ | .self, _ | .test, _ => []

/-- R149, R150: the projectors that the consequences of a cause reach. -/
def fireProjs (cause : DropCause) (p : Option Proj) : List Proj :=
  (fireHouses cause p).flatMap (fun h => [projAt h .a, projAt h .b])

/-- 9.4: the hold reason of a cause. -/
def DropCause.hold : DropCause → HoldReason
  | .emergency => .emergency
  | .fusible | .critical | .filmFire | .douser | .self | .test => .fire

/-- A rule carried on over a list, in order. -/
def Rule.each {α : Type} (r : Rule) (f : Rule → α → Rule) : List α → Rule
  | [] => r
  | x :: rest => (f r x).each f rest

/-- R149, R150: the consequences: houses held, lamps extinguished, motors stopped, SAFETY layers activated. The DOUSER cause
(R151) is tested after all of them (log entry 41). -/
def Rule.consequences (r : Rule) (cause : DropCause) (p : Option Proj) : Rule :=
  (((r.each (fun r h => r.fireHold h cause.hold) (fireHouses cause p)).each
    (fun r q => r.extinguish q .fire) (fireProjs cause p)).each
    (fun r q => r.motorStop q) (fireProjs cause p)).each
    (fun r h => r.upd (fun s => s.activateSafety h)) (fireHouses cause p)

/-- Make a lasting cause active or inactive. DOUSER, SELF and TEST are held in no record. -/
def Booth.setActive (b : Booth) (cause : DropCause) (p : Option Proj) (v : Bool) : Booth :=
  match cause, p with
  | .fusible, _ => { b with fusible := v }
  | .emergency, _ => { b with emergency := v }
  | .critical, _ => { b with critical := v }
  | .filmFire, some p => { b with filmFire := b.filmFire.put p v }
  | .filmFire, none | .douser, _ | .self, _ | .test, _ => b

/-- R148: a house that the cause reaches is in a show, and a port of its projectors has left HELD: the failure of a
projector and the hold of its house reach the house together. -/
def Rule.holdMeetsFailure (r : Rule) (cause : DropCause) (p : Option Proj) : Bool :=
  !r.agenda.isEmpty && (fireHouses cause p).any (fun h => (r.st.hs h).state.inShow)

/-- R148: FUSIBLE, EMERGENCY, CRITICAL or a FILM FIRE is activated, in one rule. Where a failure and the hold reach a
house together, either is taken first (R96, R125). -/
def Rule.fire (r : Rule) (cause : DropCause) (p : Option Proj) : Rule :=
  let r1 := (r.upd (fun s => s.setBooth (s.booth.setActive cause p true))).activation cause p (coverage cause p [])
  if r1.holdMeetsFailure cause p then
    let r2 := r1.upd (fun s => s.setDraws (s.draws + 1))
    if Config.failureFirst r1.st.draws then (r2.settle settleBound).consequences cause p else r2.consequences cause p
  else r1.consequences cause p

/-- R152: a lasting cause is ended. -/
def Rule.endCause (r : Rule) (cause : DropCause) (p : Option Proj) : Rule :=
  r.upd (fun s => (s.setBooth (s.booth.setActive cause p false)).reportBooth (.fireCauseOff cause p))

end Sys2Proof.Machine
end

