-- ==== Sys2Proof/Machine/Answers.lean ====
section
/-! DEFINITION. What an owner's decision of a request answers (R162, R163), before the console link makes it a reply. -/

namespace Sys2Proof.Machine

/-- The answer to a request. -/
inductive Answer where
  | done (payload : DonePayload)
  | refused (reason : RefusalReason) (detail : RefusalDetail)
  | status (payload : List Byte)
  | log (oldest newest : Nat) (records : List DropRecord)
deriving DecidableEq, Repr

/-- R163: the reply to a request of a kind. -/
def Answer.reply (a : Answer) (kind : Byte) : Reply :=
  match a with
  | .done x => .done kind x
  | .refused reason detail => .refused kind reason detail
  | .status x => .status x
  | .log oldest newest records => .log oldest newest records

/-- A decision: the answer, and the rule with what the accepted request does. -/
structure Decision where
  answer : Answer
  rule : Rule
deriving DecidableEq, Repr

/-- A refused request changes nothing (R162). -/
def Rule.refuse (r : Rule) (reason : RefusalReason) : Decision := ⟨.refused reason .nothing, r⟩

/-- A refusal with the detail its rule names. -/
def Rule.refuseWith (r : Rule) (reason : RefusalReason) (detail : RefusalDetail) : Decision := ⟨.refused reason detail, r⟩

/-- DONE with no payload. -/
def Rule.done (r : Rule) : Decision := ⟨.done .nothing, r⟩

/-- DONE with the payload the owner's rule names. -/
def Rule.doneWith (r : Rule) (payload : DonePayload) : Decision := ⟨.done payload, r⟩

end Sys2Proof.Machine
end

