-- ==== Sys2Proof/Machine/Ports.lean ====
section
/-! DEFINITION. Fire shutters and booth protection (chapter 9): the port switches and limits, the events of the fire
causes, the booth temperature, and the requests ARM PORT, DROP TEST and CLEAR EMERGENCY. -/

namespace Sys2Proof.Machine

/-! ## Port switches -/

/-- R140, R141: port `n` becomes HELD; a projection port may complete its projector's readiness. -/
def Rule.becomesHeld (r : Rule) (n : PortId) : Rule :=
  let r1 := r.upd (fun s => (s.setPt n { s.pt n with state := .held, windowEnd := none }).reportPort n .portHeld)
  match portProj n with
  | some p => r1.emit (.portHeld p)
  | none => r1

/-- R141, R143: the up switch of port `n` closes. -/
def Rule.upCloses (r : Rule) (n : PortId) : Rule :=
  let r1 := r.upd (fun s => s.setPt n { s.pt n with upSwitch := true })
  if (r.st.pt n).state = .arming then r1.becomesHeld n else r1

/-- UP_SWITCH_CLOSES (R141). -/
def execUpSwitchCloses (dt : Nat) (n : PortId) (s : State) : Host.Outcome State Fault Refusal :=
  ((Rule.begin s dt).upCloses n).finish

/-- R147: the up switch of port `n` opens; a HELD port self-drops. -/
def Rule.upOpens (r : Rule) (n : PortId) : Rule :=
  let r1 := r.upd (fun s => s.setPt n { s.pt n with upSwitch := false })
  if (r.st.pt n).state = .held then r1.drop .self (portProj n) [n] else r1

/-- UP_SWITCH_OPENS (R147). -/
def execUpSwitchOpens (dt : Nat) (n : PortId) (s : State) : Host.Outcome State Fault Refusal :=
  ((Rule.begin s dt).upOpens n).finish

/-- R143: the time from the release instant, in whole ms. -/
def Port.fallTime (p : Port) (now : Instant) : Nat :=
  match p.releasedAt with
  | none => 0
  | some t => elapsedMs t now

/-- R143: a released port is confirmed DOWN. -/
def Port.landed (p : Port) : Port := { p with state := .down, releasedAt := none, link := none }

/-- R143, R146: a DROPPING port comes down: outcome CLOSED, and its record's settlement is judged. -/
def State.confirmDrop (s : State) (n : PortId) : State :=
  let p := s.pt n
  let s1 := (s.writeOutcome n (.closed (p.fallTime s.now))).setPt n p.landed
  match p.link with
  | none => s1
  | some l => s1.judgeSettled l

/-- R143, R146: a JAMMED port comes down: outcome LATE, reported in a second PORT DROPPED. The settlement of a discarded
record is judged first; another's has been judged at the jam, and this port does not change it. -/
def State.confirmLate (s : State) (n : PortId) : State :=
  let p := s.pt n
  let time := p.fallTime s.now
  let s1 := (s.writeOutcome n (.late time)).setPt n p.landed
  match p.link with
  | none => s1
  | some l => (if l.discarded then s1.judgeDiscarded l else s1).reportBooth (.portDroppedLate l.seq n time)

/-- R143: the down switch of port `n` closes. -/
def State.downCloses (s : State) (n : PortId) : State :=
  let s1 := s.setPt n { s.pt n with downSwitch := true }
  match (s.pt n).state with
  | .dropping => s1.confirmDrop n
  | .jammed => s1.confirmLate n
  | .down | .arming | .held => s1

/-- DOWN_SWITCH_CLOSES (R143). -/
def execDownSwitchCloses (dt : Nat) (n : PortId) (s : State) : Host.Outcome State Fault Refusal :=
  ((Rule.begin s dt).upd (fun s => s.downCloses n)).finish

/-- DOWN_SWITCH_OPENS (R143): the reading only. -/
def execDownSwitchOpens (dt : Nat) (n : PortId) (s : State) : Host.Outcome State Fault Refusal :=
  ((Rule.begin s dt).upd (fun s => s.setPt n { s.pt n with downSwitch := false })).finish

/-- R141: the arm window of an ARMING port ends. -/
def State.windowEnds (s : State) (n : PortId) : State :=
  let p := s.pt n
  if p.state = .arming ∧ due p.windowEnd s.now = true then
    (s.setPt n { p with state := .down, windowEnd := none }).reportPort n .armLapsed
  else s

/-- ARM_WINDOW_END (R141). -/
def execArmWindowEnd (dt : Nat) (n : PortId) (s : State) : Host.Outcome State Fault Refusal :=
  ((Rule.begin s dt).upd (fun s => s.windowEnds n)).finish

/-- R143, R146: the confirmation limit of a DROPPING port ends: JAMMED, and its record's settlement is judged. -/
def State.jams (s : State) (n : PortId) : State :=
  let p := s.pt n
  if p.state = .dropping ∧ due (after p.releasedAt 1000) s.now = true then
    let s1 := (s.writeOutcome n .jammed).setPt n { p with state := .jammed }
    match p.link with
    | none => s1.reportPort n (.portJammed 0)
    | some l => (s1.reportPort n (.portJammed l.seq)).judgeSettled l
  else s

/-- CONFIRMATION_LIMIT (R143). -/
def execConfirmationLimit (dt : Nat) (n : PortId) (s : State) : Host.Outcome State Fault Refusal :=
  ((Rule.begin s dt).upd (fun s => s.jams n)).finish

/-! ## The events of the fire causes -/

/-- R148: the fusible-link line opens. -/
def Rule.fusibleOpens (r : Rule) : Rule :=
  let r1 := r.upd (fun s => s.setBooth { s.booth with fusibleOpen := true })
  if r.st.booth.fusible then r1 else r1.fire .fusible none

/-- FUSIBLE_LINK_OPENS (R148, R149). -/
def execFusibleLinkOpens (dt : Nat) (s : State) : Host.Outcome State Fault Refusal :=
  (Rule.begin s dt).fusibleOpens.finish

/-- R152: the fusible-link line closes. -/
def Rule.fusibleCloses (r : Rule) : Rule :=
  let r1 := r.upd (fun s => s.setBooth { s.booth with fusibleOpen := false })
  if r.st.booth.fusible then r1.endCause .fusible none else r1

/-- FUSIBLE_LINK_CLOSES (R152). -/
def execFusibleLinkCloses (dt : Nat) (s : State) : Host.Outcome State Fault Refusal :=
  (Rule.begin s dt).fusibleCloses.finish

/-- R150: the gate heat sensor of projector `p` asserts. -/
def Rule.gateHeats (r : Rule) (p : Proj) : Rule :=
  if r.st.booth.filmFire.cell p then r else r.fire .filmFire (some p)

/-- GATE_HEAT_ASSERTS (R150). -/
def execGateHeatAsserts (dt : Nat) (p : Proj) (s : State) : Host.Outcome State Fault Refusal :=
  ((Rule.begin s dt).gateHeats p).finish

/-- R150: the gate heat sensor of projector `p` deasserts. -/
def Rule.gateCools (r : Rule) (p : Proj) : Rule :=
  if r.st.booth.filmFire.cell p then r.endCause .filmFire (some p) else r

/-- GATE_HEAT_DEASSERTS (R150, R152). -/
def execGateHeatDeasserts (dt : Nat) (p : Proj) (s : State) : Host.Outcome State Fault Refusal :=
  ((Rule.begin s dt).gateCools p).finish

/-- R153: a press of the EMERGENCY button. -/
def Rule.emergencyPressed (r : Rule) : Rule :=
  let r1 := r.upd (fun s => s.setBooth { s.booth with pressed := true })
  if r.st.booth.emergency then r1 else r1.fire .emergency none

/-- EMERGENCY_BUTTON_PRESS (R153). -/
def execEmergencyButtonPress (dt : Nat) (s : State) : Host.Outcome State Fault Refusal :=
  (Rule.begin s dt).emergencyPressed.finish

/-- EMERGENCY_BUTTON_RELEASE (R153): the pressed state only. -/
def execEmergencyButtonRelease (dt : Nat) (s : State) : Host.Outcome State Fault Refusal :=
  ((Rule.begin s dt).upd (fun s => s.setBooth { s.booth with pressed := false })).finish

/-! ## Booth temperature -/

/-- R155: a reading is recorded and graded; CRITICAL is activated or ended, after TEMP GRADE. -/
def Rule.gradeReading (r : Rule) (t : Nat) : Rule :=
  let old := r.st.booth.grade
  let new := gradeAfter old t
  let r1 := r.upd (fun s => s.setBooth { s.booth with temperature := t, grade := new })
  if new = old then r1
  else
    let r2 := r1.upd (fun s => s.reportBooth (.tempGrade old new t))
    if new = .critical then (if r2.st.booth.critical then r2 else r2.fire .critical none)
    else if old = .critical then (if r2.st.booth.critical then r2.endCause .critical none else r2)
    else r2

/-- R155: the temperature is read once a second. -/
def Rule.readTemperature (r : Rule) (t : Nat) : Rule :=
  if due (some r.st.booth.nextReading) r.st.now then
    (r.upd (fun s => s.setBooth { s.booth with nextReading := s.booth.nextReading + ms 1000 })).gradeReading t
  else r

/-- TEMPERATURE_READING (R155). -/
def execTemperatureReading (dt : Nat) (degrees : Nat) (s : State) : Host.Outcome State Fault Refusal :=
  ((Rule.begin s dt).readTemperature degrees).finish

/-! ## Requests -/

/-- R140: the arm window. -/
def armWindow : Nat := 30000

/-- ARM PORT (R140). -/
def Rule.decideArmPort (r : Rule) (b : Byte) : Decision :=
  match portOf b with
  | none => r.refuse .target
  | some n =>
    let p := r.st.pt n
    let causes := r.st.booth.covering n
    if p.state ≠ .down then r.refuse .state
    else if causes ≠ [] then r.refuseWith .fire (.causes causes)
    else if p.upSwitch then (r.becomesHeld n).doneWith (.portState .held)
    else (r.upd (fun s => s.setPt n { p with state := .arming, windowEnd := some (s.now + ms armWindow) })).doneWith
      (.portState .arming)

/-- R156: the ports that a DROP TEST names. -/
def namedPorts (form : DropForm) (b : Byte) : Option (List PortId) :=
  match form with
  | .port => (portOf b).map (fun n => [n])
  | .house => (houseOfNumber b).map (fun h => [projPort (projAt h .a), projPort (projAt h .b), obsPort h])

/-- DROP TEST (R156). -/
def Rule.decideDropTest (r : Rule) (form : DropForm) (b : Byte) : Decision :=
  match namedPorts form b with
  | none => r.refuse .target
  | some ports =>
    if ports.any (fun n => (r.st.hs (portHouse n)).state.inShow) then r.refuse .state
    else (r.activation .test none ports).doneWith (.sequence r.st.booth.nextSeq)

/-- CLEAR EMERGENCY (R154). -/
def Rule.decideClearEmergency (r : Rule) : Decision :=
  if r.st.booth.emergency then
    if r.st.booth.pressed then r.refuse .state else (r.endCause .emergency none).done
  else r.done

end Sys2Proof.Machine
end

