-- ==== Sys2Proof/Decode.lean ====
section
/-! DEFINITION. How the console's requests are spelled on the serial line (R162, R170): the record of a request and the
request of a record, total on any record. spec/opcode_table.json gives its rows no bits, so no word spells a command
(log entry 10). -/

namespace Sys2Proof

/-! ## Bytes and words -/

/-- R170: a number in two bytes, most significant first. -/
def wordBytes (w : BitVec 16) : List Byte := [w.extractLsb' 8 8, w.extractLsb' 0 8]

/-- R170: the number of two bytes. -/
def wordOf (hi lo : Byte) : BitVec 16 := hi ++ lo

/-- R170: a number in three bytes, most significant first. -/
def tripleBytes (w : BitVec 24) : List Byte := [w.extractLsb' 16 8, w.extractLsb' 8 8, w.extractLsb' 0 8]

/-- R170: the number of three bytes. -/
def tripleOf (hi mid lo : Byte) : BitVec 24 := (hi ++ mid) ++ lo

/-- R170: a flag: 0 clear, 1 set; no other code is of the set (R162). -/
def flagOf (b : Byte) : Option Bool := if b = 0 then some false else if b = 1 then some true else none

/-- R170: the byte of a flag. -/
def flagByte (b : Bool) : Byte := if b then 1 else 0

/-! ## Codes of the fixed sets (R162, R170) -/

/-- R170: the trigger of a code. -/
def triggerOfCode (b : Byte) : Option TriggerCode :=
  if b = 1 then some .start else if b = 2 then some .tab else if b = 3 then some .frame
  else if b = 4 then some .ending else none

/-- R170: the code of a trigger. -/
def codeOfTrigger : TriggerCode → Byte
  | .start => 1
  | .tab => 2
  | .frame => 3
  | .ending => 4

/-- R162, R170: the form of DROP TEST: PORT or HOUSE. -/
def formOfCode (b : Byte) : Option DropForm := if b = 1 then some .port else if b = 2 then some .house else none

/-- R170: the code of a form. -/
def codeOfForm : DropForm → Byte
  | .port => 1
  | .house => 2

/-- R166, R170: the subject of STATUS: HOUSE, PROJECTOR, LAMP or PORTS. -/
def subjectOfCode (b : Byte) : Option StatusSubject :=
  if b = 1 then some .house else if b = 2 then some .projector else if b = 3 then some .lamp
  else if b = 4 then some .ports else none

/-- R170: the code of a subject. -/
def codeOfSubject : StatusSubject → Byte
  | .house => 1
  | .projector => 2
  | .lamp => 3
  | .ports => 4

/-! ## The reel entry (R170) -/

/-- R170: the seven bytes of a light cue. -/
def cueBytes (c : CueSpec) : List Byte :=
  codeOfTrigger c.trigger :: (wordBytes c.frame ++ wordBytes c.target ++ wordBytes c.fade)

/-- R170: the light cues of a reel entry: as many as the count says, with no byte left over. -/
def parseCues : Nat → List Byte → Option (List CueSpec)
  | 0, [] => some []
  | 0, _ :: _ => none
  | n + 1, t :: f1 :: f0 :: g1 :: g0 :: d1 :: d0 :: rest =>
    match triggerOfCode t, parseCues n rest with
    | some trigger, some cues => some (⟨trigger, wordOf f1 f0, wordOf g1 g0, wordOf d1 d0⟩ :: cues)
    | _, _ => none
  | _ + 1, _ => none

/-- R170: the bytes of a reel entry. -/
def entryBytes (e : ReelSpec) : List Byte :=
  [e.reel, e.side] ++ wordBytes e.leader ++ wordBytes e.picture ++ wordBytes e.motorFrame ++
  wordBytes e.changeFrame ++ [flagByte e.last, BitVec.ofNat 8 e.cues.length] ++ e.cues.flatMap cueBytes

/-- R86, R162, R170: the reel entry of its bytes: at most 4 light cues, and a length that agrees with their count. -/
def parseEntry : List Byte → Option ReelSpec
  | reel :: side :: l1 :: l0 :: p1 :: p0 :: m1 :: m0 :: c1 :: c0 :: last :: count :: rest =>
    if count.toNat ≤ 4 then
      match flagOf last, parseCues count.toNat rest with
      | some last, some cues =>
        some ⟨reel, side, wordOf l1 l0, wordOf p1 p0, wordOf m1 m0, wordOf c1 c0, last, cues⟩
      | _, _ => none
    else none
  | _ => none

/-! ## Requests -/

/-- R170: the kind of a request: 16 upward in the order of the request table of R162. -/
def Request.kind : Request → Byte
  | .runMotor _ => 16
  | .stopMotor _ => 17
  | .setSpeed _ _ => 18
  | .setCueSense _ _ _ => 19
  | .cueClear _ => 20
  | .douserTrial _ => 21
  | .strike _ => 22
  | .extinguish _ => 23
  | .setArc _ _ _ _ => 24
  | .loadCarbon _ _ => 25
  | .clearProgram _ => 26
  | .addReel _ _ => 27
  | .armReel _ _ _ => 28
  | .unarm _ => 29
  | .start _ => 30
  | .hold _ => 31
  | .changeNow _ => 32
  | .setHouseLevels _ _ _ _ _ => 33
  | .lightsSet _ _ _ => 34
  | .lightsRelease _ _ => 35
  | .clearSafety _ => 36
  | .armPort _ => 37
  | .dropTest _ _ => 38
  | .clearEmergency => 39
  | .status _ _ _ => 40
  | .readLog _ => 41
  | .setClock _ => 42
  | .restart => 43

/-- R162, R170: the payload of a request. -/
def Request.payload : Request → List Byte
  | .runMotor p => [p]
  | .stopMotor p => [p]
  | .setSpeed h speed => [h, speed]
  | .setCueSense p t y => [p, t, y]
  | .cueClear p => [p]
  | .douserTrial p => [p]
  | .strike p => [p]
  | .extinguish p => [p]
  | .setArc p i v auto => [p, i] ++ wordBytes v ++ [flagByte auto]
  | .loadCarbon p length => p :: wordBytes length
  | .clearProgram h => [h]
  | .addReel h e => h :: entryBytes e
  | .armReel p reel frame => match frame with
    | none => [p, reel]
    | some w => [p, reel] ++ wordBytes w
  | .unarm p => [p]
  | .start h => [h]
  | .hold h => [h]
  | .changeNow h => [h]
  | .setHouseLevels h a b c d => h :: (wordBytes a ++ wordBytes b ++ wordBytes c ++ wordBytes d)
  | .lightsSet h target fade => h :: (wordBytes target ++ wordBytes fade)
  | .lightsRelease h fade => h :: wordBytes fade
  | .clearSafety h => [h]
  | .armPort n => [n]
  | .dropTest form n => [codeOfForm form, n]
  | .clearEmergency => []
  | .status subject n first => [codeOfSubject subject, n, first]
  | .readLog seq => wordBytes seq
  | .setClock time => tripleBytes time
  | .restart => []

/-- The record of a request. -/
def recordOf (q : Request) : Record := ⟨q.kind, q.payload⟩

/-- A payload of one byte. -/
def one (f : Byte → Request) : List Byte → Option Request
  | [a] => some (f a)
  | _ => none

/-- A payload of one byte and one word. -/
def byteWord (f : Byte → BitVec 16 → Request) : List Byte → Option Request
  | [a, w1, w0] => some (f a (wordOf w1 w0))
  | _ => none

/-- SET SPEED's payload. -/
def parseSetSpeed : List Byte → Option Request
  | [h, speed] => some (.setSpeed h speed)
  | _ => none

/-- SET CUE SENSE's payload. -/
def parseSetCueSense : List Byte → Option Request
  | [p, t, y] => some (.setCueSense p t y)
  | _ => none

/-- SET ARC's payload; the autostrike choice is of its set. -/
def parseSetArc : List Byte → Option Request
  | [p, i, v1, v0, auto] => (flagOf auto).map (fun a => .setArc p i (wordOf v1 v0) a)
  | _ => none

/-- ADD REEL's payload. -/
def parseAddReel : List Byte → Option Request
  | h :: rest => (parseEntry rest).map (fun e => .addReel h e)
  | [] => none

/-- ARM REEL's payload: 2 bytes without a start frame and 4 with one. -/
def parseArmReel : List Byte → Option Request
  | [p, reel] => some (.armReel p reel none)
  | [p, reel, w1, w0] => some (.armReel p reel (some (wordOf w1 w0)))
  | _ => none

/-- SET HOUSE LEVELS' payload. -/
def parseLevels : List Byte → Option Request
  | [h, a1, a0, b1, b0, c1, c0, d1, d0] =>
    some (.setHouseLevels h (wordOf a1 a0) (wordOf b1 b0) (wordOf c1 c0) (wordOf d1 d0))
  | _ => none

/-- LIGHTS SET's payload. -/
def parseLightsSet : List Byte → Option Request
  | [h, t1, t0, f1, f0] => some (.lightsSet h (wordOf t1 t0) (wordOf f1 f0))
  | _ => none

/-- DROP TEST's payload; the form is of its set. -/
def parseDropTest : List Byte → Option Request
  | [form, n] => (formOfCode form).map (fun f => .dropTest f n)
  | _ => none

/-- STATUS's payload; the subject is of its set. -/
def parseStatus : List Byte → Option Request
  | [subject, n, first] => (subjectOfCode subject).map (fun x => .status x n first)
  | _ => none

/-- READ LOG's payload. -/
def parseReadLog : List Byte → Option Request
  | [s1, s0] => some (.readLog (wordOf s1 s0))
  | _ => none

/-- SET CLOCK's payload. -/
def parseSetClock : List Byte → Option Request
  | [t2, t1, t0] => some (.setClock (tripleOf t2 t1 t0))
  | _ => none

/-- A request with no payload. -/
def bare (q : Request) : List Byte → Option Request
  | [] => some q
  | _ :: _ => none

/-- R162: the request of a record; none where the kind is no request's, the length is not the kind's, or a field that
names a choice from a fixed set carries a code outside it: such a record is refused with FORMAT. -/
def parseRequest (r : Record) : Option Request :=
  match r.kind.toNat with
  | 16 => one .runMotor r.payload
  | 17 => one .stopMotor r.payload
  | 18 => parseSetSpeed r.payload
  | 19 => parseSetCueSense r.payload
  | 20 => one .cueClear r.payload
  | 21 => one .douserTrial r.payload
  | 22 => one .strike r.payload
  | 23 => one .extinguish r.payload
  | 24 => parseSetArc r.payload
  | 25 => byteWord .loadCarbon r.payload
  | 26 => one .clearProgram r.payload
  | 27 => parseAddReel r.payload
  | 28 => parseArmReel r.payload
  | 29 => one .unarm r.payload
  | 30 => one .start r.payload
  | 31 => one .hold r.payload
  | 32 => one .changeNow r.payload
  | 33 => parseLevels r.payload
  | 34 => parseLightsSet r.payload
  | 35 => byteWord .lightsRelease r.payload
  | 36 => one .clearSafety r.payload
  | 37 => one .armPort r.payload
  | 38 => parseDropTest r.payload
  | 39 => bare .clearEmergency r.payload
  | 40 => parseStatus r.payload
  | 41 => parseReadLog r.payload
  | 42 => parseSetClock r.payload
  | 43 => bare .restart r.payload
  | _ => none

/-- The command that a word spells by the table's bits: spec/opcode_table.json gives none of its rows bits, so none. -/
def decodeTableWord (_nbits _w : Nat) : Option Instr := none

end Sys2Proof
end

