-- ==== Sys2Proof/Machine/Changes.lean ====
section
/-! DEFINITION. The changeover's own commands (chapter 7): the delay end, the instants of a crossing, and the change made
by hand from the console (CHANGE NOW) or the panel. -/

namespace Sys2Proof.Machine

/-! ## Instants -/

/-- R112: the delay end of the record in DELAY falls. -/
def Rule.delayEnds (r : Rule) (h : HouseId) : Rule :=
  match (r.st.hs h).change with
  | none => r
  | some c => if c.phase = .delay ∧ due c.delayEnd r.st.now = true then r.delayFalls h c else r

/-- DELAY_END (R112). -/
def execDelayEnd (dt : Nat) (h : HouseId) (s : State) : Host.Outcome State Fault Refusal :=
  ((Rule.begin s dt).delayEnds h).finish

/-- The crossing in progress in house `h`. -/
def State.crossing (s : State) (h : HouseId) : Option Crossing := (s.hs h).change.bind (fun c => c.crossing)

/-- R116: what falls at T plus an offset is given once that instant has been reached. -/
def Rule.crossingInstant (r : Rule) (h : HouseId) (start : Instant) (offset : Nat) : Rule :=
  if due (some (start + ms offset)) r.st.now then (r.upd (fun s => s.crossingAt h offset)).look h else r

/-- CROSSING_OPEN_INSTANT (R116). -/
def execCrossingOpenInstant (dt : Nat) (h : HouseId) (s : State) : Host.Outcome State Fault Refusal :=
  let r := Rule.begin s dt
  match s.crossing h with
  | none => r.finish
  | some x => (r.crossingInstant h x.start x.openOffset).finish

/-- CROSSING_CLOSE_INSTANT (R116): given when a_out is present. -/
def execCrossingCloseInstant (dt : Nat) (h : HouseId) (s : State) : Host.Outcome State Fault Refusal :=
  let r := Rule.begin s dt
  match s.crossing h with
  | none => r.finish
  | some x => match x.closeOffset with
    | none => r.finish
    | some n => (r.crossingInstant h x.start n).finish

/-- SOUND_INSTANT (R116). -/
def execSoundInstant (dt : Nat) (h : HouseId) (s : State) : Host.Outcome State Fault Refusal :=
  let r := Rule.begin s dt
  match s.crossing h with
  | none => r.finish
  | some x => (r.crossingInstant h x.start x.soundOffset).finish

/-! ## Changes made by hand -/

/-- R120: the incoming that a manual change would use is fit: its motor has been started, or it is ready to follow. -/
def State.manualFit (s : State) (h : HouseId) : Bool :=
  match (s.hs h).change with
  | some c => c.phase = .runup ∨ c.phase = .locked ∨ s.readyToFollow h c.incoming
  | none => match s.liveProj h with
    | some p => s.readyToFollow h (otherProj p)
    | none => false

/-- R120: the checks from the second on; the refusal of the first that fails. -/
def State.changeRefusal (s : State) (h : HouseId) : Option RefusalReason :=
  let phase := (s.hs h).change.map (fun c => c.phase)
  if (s.hs h).state ≠ .showing then some .state
  else if s.followingEntry h = none then some .state
  else if phase = some .due ∨ phase = some .crossing then some .state
  else if ¬ s.manualFit h then some .notReady
  else none

/-- R120: the motor taken mark is set. -/
def Rule.markMotorTaken (r : Rule) (h : HouseId) : Rule :=
  r.upd (fun s => s.modMarks h (fun m => { m with motorTaken := true }))

/-- R120: an accepted manual change. -/
def Rule.manualChange (r : Rule) (h : HouseId) : Rule :=
  match (r.st.hs h).change with
  | some c =>
    match c.phase with
    | .waitReady | .delay => ((r.markMotorTaken h).startIncoming c).enterDue h .manual none
    | .runup | .locked => (r.markMotorTaken h).enterDue h .manual none
    | .due | .crossing => r
  | none =>
    match r.st.liveProj h, r.st.liveEntry h with
    | some p, some live =>
      let m := (r.st.tr p).counter
      let c := newChange (otherProj p) .manual m (changeFrameOf live m (r.st.hs h).speed)
      ((r.upd (fun s => s.createChange h c)).startIncoming c).enterDue h .manual none
    | _, _ => r

/-- CHANGE NOW (R120). -/
def Rule.decideChangeNow (r : Rule) (b : Byte) : Decision :=
  match houseOfNumber b with
  | none => r.refuse .target
  | some h =>
    match r.st.changeRefusal h with
    | some reason => r.refuse reason
    | none => (r.manualChange h).done

/-- R121: a press of the CHANGE button. -/
def Rule.changePressed (r : Rule) (h : HouseId) : Rule :=
  match r.st.changeRefusal h with
  | some reason => r.upd (fun s => s.reportHouse h (.panelIgnored .change (s.hs h).state (some reason)))
  | none => r.manualChange h

/-- CHANGE_BUTTON (R121). -/
def execChangeButton (dt : Nat) (h : HouseId) (s : State) : Host.Outcome State Fault Refusal :=
  ((Rule.begin s dt).changePressed h).finish

end Sys2Proof.Machine
end

