-- ==== Sys2Proof/Machine/Dousers.lean ====
section
/-! DEFINITION. Dousers (chapter 3): the switch closures, the travel limit, the trial's pause, and the request DOUSER
TRIAL. -/

namespace Sys2Proof.Machine

/-! ## Switches and the end of a travel -/

/-- R41: a learned time after a measured full travel, clamped to 40 to 1200 ms. -/
def learnTravel (old measured : Nat) : Nat := learn old (clamp 40 1200 measured)

/-- R40, R41: what a measured travel teaches. -/
def Douser.measure (d : Douser) (now : Instant) : Douser :=
  match d.travel with
  | none => d
  | some t =>
    if t.full then
      let time := elapsedMs t.start now
      match t.dir with
      | .opens => { d with openTime := learnTravel d.openTime time, lastOpen := some time }
      | .closes => { d with closeTime := learnTravel d.closeTime time, lastClose := some time }
    else d

/-- What a switch closure tells of the two switches at its instant: the blade is at that end (log entry 6). -/
def switchReading : DouserSwitch → SwitchPair
  | .openEnd => ⟨true, false⟩
  | .closedEnd => ⟨false, true⟩

/-- R46: a trial whose travel has ended at its switch: the next pause begins, or the trial is complete, with the douser OPEN
too (log entry 35). A travel that another block gave in the pause counts with the others (log entry 42). -/
def State.trialTravelEnds (s : State) (p : Proj) : State :=
  match (s.ds p).trial with
  | none => s
  | some t =>
    if t.completed + 1 < 8 then
      s.setDs p { s.ds p with trial := some ⟨t.completed + 1, .pause, some (s.now + ms 500)⟩ }
    else (s.setDs p { s.ds p with trial := some ⟨t.completed + 1, t.phase, t.pauseEnd⟩ }).endTrial p .complete

/-- R40: a travel ends at its switch. -/
def Rule.travelEnds (r : Rule) (p : Proj) (to1 : DouserState) : Rule :=
  let r1 := r.upd (fun s => s.setDs p { (s.ds p).measure s.now with state := to1, travel := none })
  let r2 := if to1 = .opened then r1.upd (fun s => s.interlock p) else r1
  (r2.upd (fun s => s.trialTravelEnds p)).emit (.douser p to1)

/-- R40: an uncommanded movement. -/
def Rule.uncommanded (r : Rule) (p : Proj) (sw : DouserSwitch) : Rule :=
  (r.upd (fun s => (s.setDs p { s.ds p with state := .stuck, drive := .closes }).reportProj p
    (.douserStuck (.uncommanded sw) 0 0))).emit (.douser p .stuck)

/-- R43: a STUCK douser leaves STUCK at the closure of either switch. -/
def Rule.unstick (r : Rule) (p : Proj) (sw : DouserSwitch) : Rule :=
  match sw with
  | .closedEnd =>
    (r.upd (fun s => s.setDs p { s.ds p with state := .closed, drive := .closes })).emit (.douser p .closed)
  | .openEnd =>
    let r1 := r.upd (fun s => s.setDs p { s.ds p with state := .opened })
    if (r.st.ds p).drive = .opens ∧ r1.st.gating p = true then
      (r1.upd (fun s => s.interlock p)).emit (.douser p .opened)
    else r1.upd (fun s => s.closeCommand p)

/-- R40: a switch of douser `p` closes. -/
def Rule.switchCloses (r : Rule) (p : Proj) (sw : DouserSwitch) : Rule :=
  let r1 := r.upd (fun s => s.setDs p { s.ds p with switches := some ⟨switchReading sw, s.now⟩ })
  match (r.st.ds p).state, sw with
  | .opening, .openEnd => r1.travelEnds p .opened
  | .closing, .closedEnd => r1.travelEnds p .closed
  | .opened, .closedEnd => r1.uncommanded p .closedEnd
  | .closed, .openEnd => r1.uncommanded p .openEnd
  | .stuck, sw => r1.unstick p sw
  | .opening, .closedEnd | .closing, .openEnd | .opened, .openEnd | .closed, .closedEnd => r1

/-- DOUSER_SWITCH_CLOSES (R40, R43). -/
def execDouserSwitchCloses (dt : Nat) (p : Proj) (sw : DouserSwitch) (s : State) : Host.Outcome State Fault Refusal :=
  ((Rule.begin s dt).switchCloses p sw).finish

/-! ## Sticking -/

/-- R42: the travel that DOUSER STUCK names. -/
def DriveDir.stuckTravel : DriveDir → StuckTravel
  | .opens => .opening
  | .closes => .closing

/-- R47: a douser on trial has become STUCK at its travel limit: a trial in TRAVEL stops with outcome STUCK, and, as
the rule says, no travel stops one in its PAUSE (how a travel can fall into a pause: log entry 42). -/
def State.trialSticks (s : State) (p : Proj) : State :=
  match (s.ds p).trial with
  | none => s
  | some t => match t.phase with
    | .travel => s.endTrial p .stuck
    | .pause => s

/-- R42: the travel limit expires with no travel-ending closure. -/
def Rule.travelExpires (r : Rule) (p : Proj) : Rule :=
  let d := r.st.ds p
  match d.travel with
  | none => r
  | some t =>
    if (d.state = .opening ∨ d.state = .closing) ∧ due (some (t.start + ms t.limit)) r.st.now = true then
      (r.upd (fun s => ((s.setDs p { d with state := .stuck, travel := none }).reportProj p
        (.douserStuck t.dir.stuckTravel t.limit ((t.limit - 100) / 2))).trialSticks p)).emit (.douser p .stuck)
    else r

/-- TRAVEL_LIMIT (R42). -/
def execTravelLimit (dt : Nat) (p : Proj) (s : State) : Host.Outcome State Fault Refusal :=
  ((Rule.begin s dt).travelExpires p).finish

/-! ## The trial -/

/-- R46: the pause ends and the next trial travel is commanded. -/
def Rule.pauseEnds (r : Rule) (p : Proj) : Rule :=
  let d := r.st.ds p
  match d.trial with
  | none => r
  | some t =>
    if t.phase = .pause ∧ due t.pauseEnd r.st.now = true then
      let r1 := r.upd (fun s => s.setDs p { d with trial := some ⟨t.completed, .travel, none⟩ })
      match d.state with
      | .closed => r1.upd (fun s => s.openCommand p)
      | .opened => r1.upd (fun s => s.closeCommand p)
      | .opening | .closing | .stuck => r1
    else r

/-- TRIAL_PAUSE_END (R46). -/
def execTrialPauseEnd (dt : Nat) (p : Proj) (s : State) : Host.Outcome State Fault Refusal :=
  ((Rule.begin s dt).pauseEnds p).finish

/-- DOUSER TRIAL (R45). -/
def Rule.decideDouserTrial (r : Rule) (b : Byte) : Decision :=
  match projOf b with
  | none => r.refuse .target
  | some p =>
    let s := r.st
    if (s.ds p).trial.isSome ∨ (s.ds (otherProj p)).trial.isSome ∨ (s.ds p).state ≠ .closed ∨
        (s.lp p).state ≠ .off ∨ (s.tr p).state ≠ .stopped ∨ (s.hs (houseOf p)).state.inShow then r.refuse .state
    else if s.booth.covers (projPort p) then r.refuse .fire
    else (r.upd (fun s => (s.setDs p { s.ds p with trial := some ⟨0, .travel, none⟩ }).openCommand p)).done

end Sys2Proof.Machine
end

