-- ==== Sys2Proof/Machine/Frames.lean ====
section
/-! DEFINITION. Byte layouts (R166, R167, R170): the payloads of reports, replies, STATUS and LOG, the drop record, the
reel entry as a house STATUS sends it, and the frame on the line. Where the reference leaves an encoding open, log entry
9 says what is done. -/

namespace Sys2Proof.Machine

/-! ## Numbers, marks and lists -/

/-- A number in one byte; a number above the byte stops at 255. -/
def be1 (n : Nat) : List Byte := [BitVec.ofNat 8 (min 255 n)]

/-- A number in two bytes, most significant first; a number above them stops at 65535. -/
def be2 (n : Nat) : List Byte :=
  let m := min 65535 n
  [BitVec.ofNat 8 (m / 256), BitVec.ofNat 8 m]

/-- A number in three bytes, most significant first. -/
def be3 (n : Nat) : List Byte :=
  let m := min 16777215 n
  [BitVec.ofNat 8 (m / 65536), BitVec.ofNat 8 (m / 256), BitVec.ofNat 8 m]

/-- A mark or flag: 0 clear, 1 set. -/
def mark (b : Bool) : List Byte := if b then [1] else [0]

/-- An optional name or number whose range excludes 0: 0 when absent. -/
def optCode {α : Type} (f : α → Nat) (x : Option α) : List Byte :=
  match x with
  | none => [0]
  | some v => be1 (f v)

/-- Any other optional field: a presence byte, then its value, or as many zero bytes. -/
def optField {α : Type} (size : Nat) (f : α → List Byte) (x : Option α) : List Byte :=
  match x with
  | none => 0 :: List.replicate size 0
  | some v => 1 :: f v

/-- An ordered list: a count byte, then the elements. -/
def listBytes {α : Type} (f : α → List Byte) (l : List α) : List Byte := be1 l.length ++ l.flatMap f

/-! ## The codes of the names -/

/-- R1's order. -/
def TransportState.code : TransportState → Nat
  | .stopped => 1
  | .starting => 2
  | .running => 3
  | .stopping => 4
  | .broken => 5

/-- R1's order. -/
def MissState.code : MissState → Nat
  | .normal => 1
  | .miss1 => 2

/-- R20's order. -/
def ReaderState.code : ReaderState → Nat
  | .off => 1
  | .hunt => 2
  | .watch => 3
  | .inTab => 4
  | .gap => 5

/-- R20's order. -/
def BadReason.code : BadReason → Nat
  | .tape => 1
  | .spacing => 2
  | .count => 3

/-- 2.5's order. -/
def CueCode.code : CueCode → Nat
  | .motor => 1
  | .change => 2
  | .lights => 3
  | .ending => 4
  | .bad => 5

/-- 2.5's order. -/
def CueSource.code : CueSource → Nat
  | .tab => 1
  | .counted => 2

/-- R36's order. -/
def DouserState.code : DouserState → Nat
  | .closed => 1
  | .opening => 2
  | .opened => 3
  | .closing => 4
  | .stuck => 5

/-- R36's order. -/
def DriveDir.code : DriveDir → Nat
  | .opens => 1
  | .closes => 2

/-- R51's order. -/
def LampState.code : LampState → Nat
  | .off => 1
  | .striking => 2
  | .settling => 3
  | .burning => 4

/-- R51's order. -/
def StrikePhase.code : StrikePhase → Nat
  | .supply => 1
  | .sweep => 2
  | .draw => 3

/-- R51's order. -/
def StopReason.code : StopReason → Nat
  | .host => 1
  | .strikeSupply => 2
  | .strikeContact => 3
  | .noArc => 4
  | .arcOut => 5
  | .feed => 6
  | .stub => 7
  | .fire => 8
  | .restart => 9

/-- R84's order. -/
def ReelStatus.code : ReelStatus → Nat
  | .pending => 1
  | .armed => 2
  | .showing => 3
  | .interrupted => 4
  | .finished => 5

/-- R93's order. -/
def HouseState.code : HouseState → Nat
  | .idle => 1
  | .ready => 2
  | .starting => 3
  | .showing => 4
  | .ending => 5
  | .hold => 6
  | .finished => 7

/-- R93's order. -/
def HoldReason.code : HoldReason → Nat
  | .runout => 1
  | .brk => 2
  | .host => 3
  | .panel => 4
  | .fire => 5
  | .emergency => 6
  | .lamp => 7
  | .douser => 8
  | .start => 9

/-- R84's order, and R170's for a side: 1 A, 2 B. -/
def sideCode : Side → Nat
  | .a => 1
  | .b => 2

/-- R49's order. -/
def Gate.code : Gate → Nat
  | .none => 1
  | .side .a => 2
  | .side .b => 3

/-- R93's order. -/
def EndPhase.code : EndPhase → Nat
  | .dousing => 1
  | .runOut => 2
  | .stopping => 3

/-- R103's order. -/
def ChangePhase.code : ChangePhase → Nat
  | .waitReady => 1
  | .delay => 2
  | .runup => 3
  | .locked => 4
  | .due => 5
  | .crossing => 6

/-- R103's order. -/
def MotorSource.code : MotorSource → Nat
  | .tab => 1
  | .counted => 2
  | .manual => 3
  | .implied => 4

/-- R103's order. -/
def ChangeSource.code : ChangeSource → Nat
  | .tab => 1
  | .counted => 2
  | .manual => 3
  | .loss => 4

/-- R103's order. -/
def LossReason.code : LossReason → Nat
  | .brk => 1
  | .lamp => 2
  | .douser => 3
  | .fire => 4

/-- R139's order. -/
def PortState.code : PortState → Nat
  | .down => 1
  | .arming => 2
  | .held => 3
  | .dropping => 4
  | .jammed => 5

/-- R144's order. -/
def DropCause.code : DropCause → Nat
  | .fusible => 1
  | .emergency => 2
  | .critical => 3
  | .filmFire => 4
  | .douser => 5
  | .self => 6
  | .test => 7

/-- R170, TEMP GRADE. -/
def Grade.code : Grade → Nat
  | .normal => 1
  | .warm => 2
  | .hot => 3
  | .critical => 4

/-- 10.3, the refusal table's order. -/
def RefusalReason.code : RefusalReason → Nat
  | .state => 1
  | .target => 2
  | .full => 3
  | .duplicate => 4
  | .geometry => 5
  | .notReady => 6
  | .fire => 7
  | .heat => 8
  | .carbon => 9
  | .active => 10
  | .range => 11
  | .format => 12

/-- R170, UNEXPECTED. -/
def UnexpectedReason.code : UnexpectedReason → Nat
  | .noFollowing => 1
  | .noLightCue => 2
  | .notLast => 3

/-- R170, FEED STALL. -/
def StallPhase.code : StallPhase → Nat
  | .sweep => 1
  | .draw => 2
  | .burst => 3

/-- R170, SHORT FEED. -/
def ShortCause.code : ShortCause → Nat
  | .stall => 1
  | .host => 2
  | .arcOut => 3
  | .noArc => 4
  | .fire => 5
  | .stub => 6
  | .restrike => 7

/-- R170, DOUSER STUCK: the travel, and the switch that closed. -/
def StuckTravel.bytes : StuckTravel → List Byte
  | .opening => [1, 0]
  | .closing => [2, 0]
  | .uncommanded .openEnd => [3, 1]
  | .uncommanded .closedEnd => [3, 2]

/-- R170, TRIAL DONE. -/
def TrialOutcome.code : TrialOutcome → Nat
  | .complete => 1
  | .fire => 2
  | .motor => 3
  | .stuck => 4
  | .house => 5

/-- R170, CURRENT. -/
def BandSide.code : BandSide → Nat
  | .low => 1
  | .high => 2

/-- R170, PANEL IGNORED. -/
def PanelButton.code : PanelButton → Nat
  | .hold => 1
  | .change => 2

/-- R170, RESTARTED. -/
def RestartOrigin.code : RestartOrigin → Nat
  | .powerOn => 1
  | .restart => 2

/-- R127's order. -/
def Layer.code : Layer → Nat
  | .safety => 1
  | .manual => 2
  | .program => 3

/-- R170: the set of failing readiness conditions, bits 0 to 5 in the order of R92. -/
def ReadyFailures.byte (f : ReadyFailures) : Byte :=
  BitVec.ofNat 8 (f.entryArmed.toNat + 2 * f.stopped.toNat + 4 * f.burning.toNat + 8 * f.sufficient.toNat +
    16 * f.portHeld.toNat + 32 * f.douserClosed.toNat)

/-- R170: a fire cause of a list: its code and its projector, 0 when absent. -/
def causeBytes (c : DropCause × Option Proj) : List Byte := be1 c.1.code ++ optCode projNumber c.2

/-! ## Reports -/

/-- R170: the report kinds. -/
def ReportBody.kind : ReportBody → Byte
  | .pulseMissing _ => 64
  | .speedFault _ => 65
  | .locked _ _ _ => 66
  | .runupFail _ _ => 67
  | .filmBreak _ => 68
  | .cueSeen _ => 69
  | .cueBad _ _ => 70
  | .queueFull _ => 71
  | .unexpected _ _ => 72
  | .late _ => 73
  | .shortLead _ _ _ _ _ => 74
  | .changeoverDone _ => 75
  | .runout _ _ _ => 76
  | .showEnd _ _ _ => 77
  | .struck _ _ _ _ _ => 78
  | .strikeFail _ _ _ => 79
  | .arcOut _ _ => 80
  | .feedStall _ _ _ _ => 81
  | .shortFeed _ _ _ => 82
  | .current _ _ _ => 83
  | .burnout _ _ => 84
  | .carbonShort _ _ _ _ _ => 85
  | .carbonLow _ _ _ _ _ => 86
  | .douserStuck _ _ _ => 87
  | .trialDone _ _ _ _ => 88
  | .portHeld => 89
  | .armLapsed => 90
  | .portDropped _ _ _ => 91
  | .portDroppedLate _ _ _ => 91
  | .portJammed _ => 92
  | .tempGrade _ _ _ => 93
  | .fireCauseOn _ _ _ => 94
  | .fireCauseOff _ _ => 94
  | .panelIgnored _ _ _ => 95
  | .lineError _ _ _ _ => 96
  | .reportsLost _ => 97
  | .restarted _ => 98

/-- R170: the code, frame position and source of a cue entry. -/
def cueHead (e : CueEntry) : List Byte := be1 e.code.code ++ be2 e.frame ++ be1 e.source.code

/-- R170: what CHANGEOVER DONE carries. -/
def ChangeoverReport.bytes (c : ChangeoverReport) : List Byte :=
  be1 (projNumber c.outgoing) ++ be1 c.outgoingReel ++ be1 (projNumber c.incoming) ++ be1 c.incomingReel ++
  be1 c.motorSource.code ++ optCode ChangeSource.code c.changeSource ++ optCode LossReason.code c.loss ++
  optField 2 be2 c.delay ++ be2 c.openOffset ++ optField 2 be2 c.closeOffset ++ be2 c.soundOffset ++ be2 c.outFrame

/-- R170: the fields of a report after its header. -/
def ReportBody.bytes : ReportBody → List Byte
  | .pulseMissing f => be2 f
  | .speedFault f => be2 f
  | .locked measured runUp f => be2 measured ++ be2 runUp ++ be2 f
  | .runupFail n f => be1 n ++ be2 f
  | .filmBreak f => be2 f ++ be2 (footage f)
  | .cueSeen e => be1 e.code.code ++ be2 e.frame ++ be2 (footage e.frame) ++ be1 e.source.code ++
      optCode BadReason.code e.bad
  | .cueBad f reason => be2 f ++ be2 (footage f) ++ optCode BadReason.code reason
  | .queueFull e => cueHead e
  | .unexpected e reason => cueHead e ++ be1 reason.code
  | .late e => cueHead e
  | .shortLead shortfall m c lr tr => be2 shortfall ++ be2 m ++ be2 c ++ be2 lr ++ be2 tr
  | .changeoverDone c => c.bytes
  | .runout reel f phase => be1 reel ++ be2 f ++ be2 (footage f) ++ optCode ChangePhase.code phase
  | .showEnd reel f onBreak => be1 reel ++ be2 f ++ be2 (footage f) ++ mark onBreak
  | .struck i v sweep account auto => be1 i ++ be2 v ++ be1 sweep ++ be2 account ++ mark auto
  | .strikeFail reason high sweep => be1 reason.code ++ be2 high ++ be1 sweep
  | .arcOut restriking was => (if restriking then [2] else [1]) ++ be1 was.code
  | .feedStall phase asked confirmed stalls => be1 phase.code ++ be1 asked ++ be1 confirmed ++ be1 stalls
  | .shortFeed asked confirmed cause => be1 asked ++ be1 confirmed ++ be1 cause.code
  | .current reading i side => be1 reading ++ be1 i ++ be1 side.code
  | .burnout account f => be2 account ++ optField 4 (fun f => be2 f ++ be2 (footage f)) f
  | .carbonShort reel account need fr rate => be1 reel ++ be2 account ++ be2 need ++ be2 fr ++ be1 rate
  | .carbonLow account need fr rate f => be2 account ++ be2 need ++ be2 fr ++ be1 rate ++ be2 (footage f)
  | .douserStuck travel elapsed learned => travel.bytes ++ be2 elapsed ++ be2 learned
  | .trialDone outcome n o c => be1 outcome.code ++ be1 n ++ be2 o ++ be2 c
  | .portHeld => []
  | .armLapsed => []
  | .portDropped seq cause p => be2 seq ++ optCode DropCause.code cause ++ optCode projNumber p ++ [0, 0, 0]
  | .portDroppedLate seq n time => be2 seq ++ [0, 0] ++ be1 (portNumber n) ++ be2 time
  | .portJammed seq => be2 seq
  | .tempGrade old new t => be1 old.code ++ be1 new.code ++ be1 t
  | .fireCauseOn cause p seq => [1] ++ be1 cause.code ++ optCode projNumber p ++ be2 seq
  | .fireCauseOff cause p => [2] ++ be1 cause.code ++ optCode projNumber p ++ [0, 0]
  | .panelIgnored button st reason => be1 button.code ++ be1 st.code ++ optCode RefusalReason.code reason
  | .lineError c l f o => be1 c ++ be1 l ++ be1 f ++ be1 o
  | .reportsLost n => be2 n
  | .restarted origin => be1 origin.code

/-- R170: a report as a record: the common header, then the fields of its kind. -/
def Report.record (r : Report) : Record :=
  ⟨r.body.kind, be1 r.subject ++ optField 3 be3 r.time ++ r.body.bytes⟩

/-! ## Drop records -/

/-- R170: an outcome and its time, 0 where it has none. -/
def DropOutcome.bytes : DropOutcome → List Byte
  | .pending => [1, 0, 0]
  | .closed t => 2 :: be2 t
  | .jammed => [3, 0, 0]
  | .late t => 4 :: be2 t
  | .already => [5, 0, 0]

/-- R170: the drop record layout. -/
def DropRecord.bytes (d : DropRecord) : List Byte :=
  be2 d.seq ++ be1 d.cause.code ++ optCode projNumber d.projector ++ optField 2 be2 d.footage ++
  optField 3 be3 d.time ++ listBytes (fun e => be1 (portNumber e.port) ++ e.outcome.bytes) d.ports

/-! ## Replies -/

/-- R84, R170: a trigger's code and its frame n, 0 unless FRAME. -/
def triggerBytes : CueTrigger → List Byte
  | .start => 1 :: be2 0
  | .tab => 2 :: be2 0
  | .frame n => 3 :: be2 n
  | .ending => 4 :: be2 0

/-- R126: the origin of a program target: 1 a light cue with its reel and trigger, 2 HOLD, 3 RUNOUT, 4 BREAK. -/
def Origin.bytes : Origin → List Byte
  | .cue reel trigger => 1 :: (be1 reel ++ triggerBytes trigger)
  | .hold => [2, 0, 0, 0, 0]
  | .runout => [3, 0, 0, 0, 0]
  | .brk => [4, 0, 0, 0, 0]

/-- R73: SUFFICIENT or SHORT, the need and the frames remaining. -/
def Sufficiency.bytes (x : Sufficiency) : List Byte :=
  be1 (if x.sufficient then 1 else 2) ++ be2 x.need ++ be2 x.frames

/-- R99: the four levels. -/
def HouseLevels.bytes (l : HouseLevels) : List Byte := be2 l.hold ++ be2 l.runout ++ be2 l.brk ++ be2 l.emergency

/-- R163: the payload of DONE, in the order of the rule that names it. -/
def DonePayload.bytes : DonePayload → List Byte
  | .nothing => []
  | .cueCleared f reason => be2 f ++ be2 (footage f) ++ optCode BadReason.code reason
  | .cueSense t h => be1 t ++ be1 h
  | .arc i v auto => be1 i ++ be2 v ++ mark auto
  | .account n => be2 n
  | .entryCount n => be1 n
  | .judged x => match x with
    | some x => x.bytes
    | none => [0, 0, 0, 0, 0]
  | .levels l => l.bytes
  | .lights layer target => be1 layer.code ++ be2 target
  | .manualInactive => [0]
  | .released target origin => 1 :: (be2 target ++ optField 5 Origin.bytes origin)
  | .portState st => be1 st.code
  | .sequence n => be2 n

/-- R163: the detail of REFUSED. -/
def RefusalDetail.bytes : RefusalDetail → List Byte
  | .nothing => []
  | .notReady reel f => optCode id reel ++ [f.byte]
  | .causes l => listBytes causeBytes l

/-- R163, R167, R170: a reply as a record. A STATUS reply holds the fields of R166 without a request kind (log entry 43). -/
def Reply.record : Reply → Record
  | .done kind payload => ⟨128, kind :: payload.bytes⟩
  | .refused kind reason detail => ⟨129, kind :: (be1 reason.code ++ detail.bytes)⟩
  | .status payload => ⟨130, payload⟩
  | .log oldest newest records => ⟨131, be2 oldest ++ be2 newest ++ listBytes DropRecord.bytes records⟩

/-! ## STATUS (R166) -/

/-- R170: a plan entry in the reel entry layout, then its status byte and its fired marks. -/
def ReelEntry.bytes (e : ReelEntry) : List Byte :=
  be1 e.reel ++ be1 (sideCode e.side) ++ be2 e.leader ++ be2 e.picture ++ be2 (e.motorFrame.getD 0) ++
  be2 (e.changeFrame.getD 0) ++ mark e.last ++
  listBytes (fun c => triggerBytes c.trigger ++ be2 c.target ++ be2 c.fade) e.cues ++ be1 e.status.code ++
  [BitVec.ofNat 8 ((e.cues.map (fun c => c.fired.toNat)).zipIdx.map (fun x => x.1 * 2 ^ x.2)).sum]

/-- R93: the house record as STATUS shows it, without the plan, which follows at the end. -/
def House.bytes (x : House) : List Byte :=
  be1 x.state.code ++ optCode HoldReason.code x.holdReason ++ optCode sideCode x.startingSide ++
  optCode sideCode x.liveSide ++ be1 x.gate.code ++ mark x.dark ++
  optCode (fun e => e.phase.code) x.ending ++ x.levels.bytes ++ be1 x.speed

/-- R103: the crossing's offsets as STATUS shows them. -/
def Crossing.bytes (x : Crossing) : List Byte :=
  be2 x.openOffset ++ be2 x.soundOffset ++ optField 2 be2 x.closeOffset

/-- R103: the changeover record as STATUS shows it. -/
def Changeover.bytes (c : Changeover) : List Byte :=
  be1 (projNumber c.incoming) ++ be1 c.phase.code ++ be1 c.motorSource.code ++ be2 c.motorFrame ++ be2 c.changeFrame ++
  optField 2 be2 c.delay ++ optCode CueSource.code c.held ++ optCode ChangeSource.code c.changeSource ++
  optCode LossReason.code c.loss ++ optField 7 Crossing.bytes c.crossing

/-- R126: the light channel as STATUS shows it. -/
def Light.bytes (l : Light) : List Byte :=
  be2 l.level ++ be1 l.drive ++ mark l.safetyActive ++ be2 l.safetyTarget ++ mark l.manualActive ++
  be2 l.manualTarget ++ be2 l.manualFade ++ be2 l.programTarget ++ be2 l.programFade ++
  optField 7 (fun x => be2 x.target ++ x.origin.bytes) l.pending ++
  optField 8 (fun f => be2 f.startLevel ++ be2 f.target ++ be2 f.steps ++ be2 f.step) l.fade

/-- R166: whether a projector is READY, and which conditions fail. -/
def State.readyBytes (s : State) (p : Proj) : List Byte := mark (s.ready p) ++ [(s.readyFailures p).byte]

/-- R166: as many whole entries as keep the payload within the room left. -/
def fitEntries (room : Nat) : List ReelEntry → List (List Byte)
  | [] => []
  | e :: rest => if e.bytes.length ≤ room then e.bytes :: fitEntries (room - e.bytes.length) rest else []

/-- R166: STATUS of a house, from the first entry asked. -/
def State.houseStatus (s : State) (h : HouseId) (first : Nat) : List Byte :=
  let x := s.hs h
  let head := x.bytes ++ optField 21 Changeover.bytes x.change ++ (s.lt h).bytes ++
    s.readyBytes (projAt h .a) ++ s.readyBytes (projAt h .b) ++ be1 x.plan.length
  let entries := fitEntries (249 - head.length) (x.plan.drop first)
  head ++ be1 entries.length ++ entries.flatten

/-- R1: the projector record as STATUS shows it. -/
def Transport.bytes (t : Transport) : List Byte :=
  be1 t.state.code ++ be2 t.counter ++
  optField 4 (fun a => be1 (houseNumber a.house) ++ be1 a.reel ++ be2 a.start) t.armed ++
  be2 t.runUp ++ be1 t.lockCount ++ be1 t.miss.code ++ mark t.speedFault

/-- R20: the cue reader as STATUS shows it. -/
def Reader.bytes (d : Reader) : List Byte :=
  be1 d.state.code ++ be1 d.threshold ++ be1 d.hysteresis ++
  optField 2 (fun g => be1 g.tabs ++ optCode BadReason.code g.bad) d.group ++
  listBytes (fun e => cueHead e ++ optCode BadReason.code e.bad) d.queue

/-- R36: the douser record as STATUS shows it. -/
def Douser.bytes (d : Douser) : List Byte :=
  be1 d.state.code ++ be1 d.drive.code ++ be2 d.openTime ++ be2 d.closeTime ++
  optField 2 be2 d.lastOpen ++ optField 2 be2 d.lastClose ++ optField 1 (fun t => be1 t.completed) d.trial

/-- R166: STATUS of a projector. -/
def State.projectorStatus (s : State) (p : Proj) : List Byte := (s.tr p).bytes ++ (s.rd p).bytes ++ (s.ds p).bytes

/-- R51, R73: the lamp record as STATUS shows it. -/
def Lamp.bytes (l : Lamp) : List Byte :=
  be1 l.state.code ++ optCode StrikePhase.code l.phase ++ be1 l.sweepPulses ++ be1 l.drawPulses ++ be1 l.current ++
  be2 l.voltage ++ mark l.autostrike ++ mark l.restrikeUsed ++ listBytes be2 l.samples ++
  optField 2 be2 (sampleMean l.samples) ++
  optField 3 (fun b => be1 b.asked ++ be1 b.sent ++ be1 b.confirmed) l.burst ++ mark l.deferred ++ be1 l.stalls ++
  optCode StopReason.code l.stop ++ be2 l.account ++ be1 l.rate ++ optField 5 Sufficiency.bytes l.sufficiency ++
  mark l.carbonLow

/-- R139: a port record as STATUS shows it. -/
def Port.bytes (p : Port) : List Byte :=
  be1 p.state.code ++ mark p.magnet ++ mark p.upSwitch ++ mark p.downSwitch ++
  optField 3 (fun l => be2 l.seq ++ mark l.discarded) p.link

/-- R166: STATUS of the ports: the twelve records and the booth-level state (the order of the causes: log entry 44). -/
def State.portsStatus (s : State) : List Byte :=
  allPorts.flatMap (fun n => (s.pt n).bytes) ++ listBytes causeBytes s.booth.active ++ be1 s.booth.grade.code ++
  be1 s.booth.temperature ++ mark s.booth.pressed ++ mark (!s.booth.fusibleOpen) ++ be2 s.booth.nextSeq

/-! ## Frames -/

/-- R160, R170: the check byte, which brings the sum of kind, length, payload and check to 0 modulo 256. -/
def recordCheck (r : Record) : Byte := -(r.kind + BitVec.ofNat 8 r.payload.length + r.payload.sum)

/-- R170: the frame of a record: sync, kind, length, payload, check. -/
def recordFrame (r : Record) : List Byte :=
  [0xC3, 0x3C, r.kind, BitVec.ofNat 8 r.payload.length] ++ r.payload ++ [recordCheck r]

/-- R165: the record that the transmitter is sending. -/
def Link.sending (l : Link) : Option Record :=
  match l.transmitter with
  | .idle => none
  | .reply => l.slot.map Reply.record
  | .report r => some r.record

end Sys2Proof.Machine
end

