-- ==== Sys2Proof/Machine/Lamps.lean ====
section
/-! DEFINITION. The carbon arc and the burn account (chapters 4 and 5): the strike sequence, feed pulses, regulation,
arc out and restrike, current monitoring, the minute of burning, and the requests STRIKE, EXTINGUISH, SET ARC and LOAD
CARBON. -/

namespace Sys2Proof.Machine

/-- Change the record of lamp `p`. -/
def State.modLp (s : State) (p : Proj) (f : Lamp → Lamp) : State := s.setLp p (f (s.lp p))

/-! ## The strike sequence -/

/-- R56: contact is a current of 20 A or more. -/
def contactAmps : Nat := 20

/-- R57: the draw begins. -/
def Lamp.drawBegins (l : Lamp) (now : Instant) : Lamp :=
  { l with phase := some .draw, drawPulses := 0 }.trySend now

/-- R56: the sweep begins; the current is read at once. -/
def Lamp.sweepBegins (l : Lamp) (amps : Nat) (now : Instant) : Lamp :=
  let l1 := { l with phase := some .sweep, phaseStart := none, sweepPulses := 0 }
  if contactAmps ≤ amps then l1.drawBegins now else l1.trySend now

/-- R58: the lamp becomes SETTLING; the current is read at this instant. -/
def Lamp.settleBegins (l : Lamp) (amps : Nat) (now : Instant) : Lamp :=
  { l with
    state := .settling
    phase := none
    settleStart := some now
    samples := []
    burst := none
    blankEnd := none
    deferred := false
    amps := amps
    nextSample := some (now + ms 100)
    lowStart := if amps < 10 then some now else none }

/-- R54: the rectifier is up. -/
def rectifierUp (volts amps : Nat) : Bool := decide (600 ≤ volts ∨ contactAmps ≤ amps)

/-- R65: the low-current start after a reading. -/
def Lamp.watchLow (l : Lamp) (amps : Nat) (now : Instant) : Lamp :=
  if amps < 10 then { l with lowStart := some (l.lowStart.getD now) } else { l with lowStart := none }

/-- R67: the band episode after a reading. -/
def Lamp.watchBand (l : Lamp) (amps : Nat) (now : Instant) : Lamp :=
  if inBand amps l.current then { l with band := none }
  else { l with band := some (l.band.getD ⟨now, false⟩) }

/-- R52: a reading of the arc voltage and current, taken by the rules that test it. R54 takes it in the supply phase of a
restrike too, right after the arc out of R65 (log entry 36). -/
def Lamp.read (l : Lamp) (volts amps : Nat) (now : Instant) : Lamp :=
  let l1 := { l with amps := amps }
  match l.state with
  | .off => l
  | .striking =>
    match l.phase with
    | some .supply =>
      let l2 := { l1 with highSupply := max l.highSupply volts }
      if rectifierUp volts amps then l2.sweepBegins amps now else l2
    | some .sweep | some .draw | none => l1
  | .settling => l1.watchLow amps now
  | .burning => (l1.watchLow amps now).watchBand amps now

/-- ARC_READING (R52). -/
def execArcReading (dt : Nat) (p : Proj) (volts amps : Nat) (s : State) : Host.Outcome State Fault Refusal :=
  ((Rule.begin s dt).upd (fun s => s.modLp p (fun l => l.read volts amps s.now))).finish

/-- R54: 2000 ms have passed in the supply phase. -/
def Rule.supplyExpires (r : Rule) (p : Proj) : Rule :=
  let l := r.st.lp p
  if l.phase = some .supply ∧ due (after l.phaseStart 2000) r.st.now = true then
    (r.lampStops p .strikeSupply).upd (fun s => s.reportProj p (.strikeFail .strikeSupply l.highSupply 0))
  else r

/-- SUPPLY_LIMIT (R54). -/
def execSupplyLimit (dt : Nat) (p : Proj) (s : State) : Host.Outcome State Fault Refusal :=
  ((Rule.begin s dt).supplyExpires p).finish

/-! ## Feed pulses -/

/-- FEED_PULSE_SEND (R55): the next pulse is sent, once none is outstanding and 50 ms have passed since the last send. -/
def execFeedPulseSend (dt : Nat) (p : Proj) (s : State) : Host.Outcome State Fault Refusal :=
  ((Rule.begin s dt).upd (fun s => s.modLp p (fun l => l.trySend s.now))).finish

/-- R55: how long a pulse waits for its confirmation. -/
def stallLimit : Nat := 150

/-- R75, R78: the account is debited by one; a debit made while BURNING is counted in the minute. -/
def Lamp.debit (l : Lamp) : Lamp :=
  { l with
    account := l.account - 1
    minute := if l.state = .burning then l.minute.map (fun m => { m with pulses := m.pulses + 1 }) else l.minute }

/-- R55, R56, R57, R62: the phase or burst counts a confirmed pulse. A burst whose last pulse this is, is complete. -/
def Lamp.countConfirmed (l : Lamp) (now : Instant) : Lamp :=
  match l.phase with
  | some .sweep => { l with sweepPulses := l.sweepPulses + 1 }
  | some .draw => { l with drawPulses := l.drawPulses + 1 }
  | some .supply => l
  | none => match l.burst with
    | none => l
    | some b =>
      if b.confirmed + 1 < b.asked then { l with burst := some { b with confirmed := b.confirmed + 1 } }
      else { l with burst := none, stalls := 0, blankEnd := some (now + ms 2000) }

/-- R76: the stub limit. -/
def stubLimit : Nat := 300

/-- R76: what BURNOUT carries of the film, when the projector is ARMED. -/
def State.armedFrame (s : State) (p : Proj) : Option Nat :=
  if (s.tr p).armed.isSome then some (s.tr p).counter else none

/-- R66: the lamp is in an automatic restrike: in its supply, sweep, draw or settling with the restrike-used flag set, which
each accepted STRIKE and each restart clear. -/
def Lamp.inRestrike (l : Lamp) : Bool := l.restrikeUsed && decide (l.state = .striking ∨ l.state = .settling)

/-- R63, R76: lamp `p` becomes OFF with a stop reason by a failure of its burst or at its stub; R66: one that falls in a
restrike is reported with STRIKE FAIL too (of a first strike: DEDUCED, log entry 45; the order: log entry 16). -/
def Rule.lampFails (r : Rule) (p : Proj) (reason : StopReason) : Rule :=
  if (r.st.lp p).inRestrike then (r.lampStops p reason).upd (fun s => s.reportProj p (.strikeFail reason 0 0))
  else r.lampStops p reason

/-- R76: the stub stops the lamp. -/
def Rule.burnout (r : Rule) (p : Proj) : Rule :=
  (r.upd (fun s => s.reportProj p (.burnout (s.lp p).account (s.armedFrame p)))).lampFails p .stub

/-- R56, R57, R58, R62: what follows a counted confirmation: contact, the next pulse, the end of the sweep without
contact, or settling. -/
def Rule.goOn (r : Rule) (p : Proj) (amps : Nat) : Rule :=
  let l := r.st.lp p
  match l.phase with
  | some .sweep =>
    if contactAmps ≤ amps then r.upd (fun s => s.modLp p (fun l => { l with amps := amps }.drawBegins s.now))
    else if l.sweepPulses < 40 then r.upd (fun s => s.modLp p (fun l => { l with amps := amps }.trySend s.now))
    else (r.lampStops p .strikeContact).upd (fun s => s.reportProj p (.strikeFail .strikeContact 0 l.sweepPulses))
  | some .draw =>
    if l.drawPulses < 12 then r.upd (fun s => s.modLp p (fun l => l.trySend s.now))
    else r.upd (fun s => s.modLp p (fun l => l.settleBegins amps s.now))
  | some .supply => r
  | none => r.upd (fun s => s.modLp p (fun l => l.trySend s.now))

/-- R75: what follows a confirmed forward pulse: the debit, the stub test (R76), and sufficiency (R80). -/
def Rule.confirmForward (r : Rule) (p : Proj) (amps : Nat) : Rule :=
  let r1 := r.upd (fun s => s.modLp p (fun l => l.debit.countConfirmed s.now))
  let r2 := if (r1.st.lp p).account ≤ stubLimit then r1.burnout p else r1.goOn p amps
  r2.evalSufficiency p

/-- R55, R57: what follows a confirmed reverse pulse, which is not debited. -/
def Rule.confirmReverse (r : Rule) (p : Proj) (amps : Nat) : Rule :=
  (r.upd (fun s => s.modLp p (fun l => l.countConfirmed s.now))).goOn p amps

/-- R55: a feed-sense pulse confirms the outstanding pulse within 150 ms of its send instant; another is ignored. -/
def Rule.feedSense (r : Rule) (p : Proj) (amps : Nat) : Rule :=
  match (r.st.lp p).outstanding with
  | none => r
  | some f =>
    if r.st.now ≤ f.sent + ms stallLimit then
      let r1 := r.upd (fun s => s.modLp p (fun l => { l with outstanding := none }))
      match f.dir with
      | .forward => r1.confirmForward p amps
      | .reverse => r1.confirmReverse p amps
    else r

/-- FEED_SENSE_PULSE (R55): `amps` is the arc current at this instant, which R56 and R58 read. -/
def execFeedSensePulse (dt : Nat) (p : Proj) (amps : Nat) (s : State) : Host.Outcome State Fault Refusal :=
  ((Rule.begin s dt).feedSense p amps).finish

/-- R56, R57: a sweep or draw pulse stalls, which ends the strike. -/
def Rule.strikeStalls (r : Rule) (p : Proj) (phase : StallPhase) : Rule :=
  ((r.upd (fun s => s.reportProj p (.feedStall phase 0 0 0))).lampStops p .feed).upd
    (fun s => s.reportProj p (.strikeFail .feed 0 0))

/-- R63: a burst pulse stalls, which ends the burst; a third in a row stops the lamp. -/
def Rule.burstStalls (r : Rule) (p : Proj) (b : Burst) : Rule :=
  let n := (r.st.lp p).stalls + 1
  let r1 := r.upd (fun s => ((s.modLp p (fun l => { l with stalls := n, burst := none })).reportProj p
    (.feedStall .burst b.asked b.confirmed n)).reportProj p (.shortFeed b.asked b.confirmed .stall))
  if n < 3 then r1.upd (fun s => s.modLp p (fun l => { l with blankEnd := some (s.now + ms 2000) }))
  else r1.lampFails p .feed

/-- R55: 150 ms have passed from the send instant with no feed-sense pulse. -/
def Rule.stall (r : Rule) (p : Proj) : Rule :=
  let l := r.st.lp p
  if due (after (l.outstanding.map (fun f => f.sent)) stallLimit) r.st.now then
    let r1 := r.upd (fun s => s.modLp p (fun l => { l with outstanding := none }))
    match l.phase, l.burst with
    | some .sweep, _ => r1.strikeStalls p .sweep
    | some .draw, _ => r1.strikeStalls p .draw
    | none, some b => r1.burstStalls p b
    | some .supply, _ | none, none => r1
  else r

/-- FEED_STALL (R55, R56, R57, R63). -/
def execFeedStall (dt : Nat) (p : Proj) (s : State) : Host.Outcome State Fault Refusal :=
  ((Rule.begin s dt).stall p).finish

/-! ## Settling and regulation -/

/-- R58, R78: 10 s have passed from the settle start: the lamp becomes BURNING. -/
def Rule.settles (r : Rule) (p : Proj) : Rule :=
  let l := r.st.lp p
  if l.state = .settling ∧ due (after l.settleStart 10000) r.st.now = true then
    (r.upd (fun s => (s.setLp p { l with state := .burning, settleStart := none, minute := some ⟨s.now, 0⟩ }).reportProj p
      (.struck l.current l.voltage l.sweepPulses l.account l.restrikeUsed))).emit (.lampBurning p)
  else r

/-- SETTLE_END (R58). -/
def execSettleEnd (dt : Nat) (p : Proj) (s : State) : Host.Outcome State Fault Refusal :=
  ((Rule.begin s dt).settles p).finish

/-- R59: a reading joins the voltage samples at the tail; where there are 5 the oldest leaves first. -/
def joinSample (samples : List Nat) (volts : Nat) : List Nat :=
  (if samples.length < 5 then samples else samples.drop 1) ++ [volts]

/-- R59: a voltage reading of a lit lamp, followed at once by an evaluation under R60. -/
def State.sample (s : State) (p : Proj) (volts : Nat) : State :=
  let l := s.lp p
  if l.lit = true ∧ due l.nextSample s.now = true then
    (s.setLp p { l with
      samples := joinSample l.samples volts
      nextSample := l.nextSample.map (fun t => t + ms 100) }).evalBurst p
  else s

/-- VOLTAGE_SAMPLE (R59). -/
def execVoltageSample (dt : Nat) (p : Proj) (volts : Nat) (s : State) : Host.Outcome State Fault Refusal :=
  ((Rule.begin s dt).upd (fun s => s.sample p volts)).finish

/-- R62: the blank-out ends, and R60 is evaluated. -/
def State.blankOutEnds (s : State) (p : Proj) : State :=
  if due (s.lp p).blankEnd s.now then (s.modLp p (fun l => { l with blankEnd := none })).evalBurst p else s

/-- BLANK_OUT_END (R62). -/
def execBlankOutEnd (dt : Nat) (p : Proj) (s : State) : Host.Outcome State Fault Refusal :=
  ((Rule.begin s dt).upd (fun s => s.blankOutEnds p)).finish

/-! ## Arc out and autostrike -/

/-- R53, R66: the least burn account that a strike needs. -/
def strikeAccount : Nat := 400

/-- R53, R66: the booth grade permits a strike. -/
def Booth.coolEnough (b : Booth) : Bool := b.grade = .normal ∨ b.grade = .warm

/-- R66: an automatic restrike of lamp `p` is permitted. -/
def State.restrikePermitted (s : State) (p : Proj) : Bool :=
  let l := s.lp p
  l.autostrike ∧ l.restrikeUsed = false ∧ strikeAccount ≤ l.account ∧ s.booth.coolEnough ∧
    ¬ s.booth.covers (projPort p)

/-- R66: the automatic restrike. -/
def Rule.restrike (r : Rule) (p : Proj) : Rule :=
  let was := (r.st.lp p).state
  let r1 := r.upd (fun s => ((s.modLp p (fun l => { l with restrikeUsed := true })).endBurst p .restrike).reportProj p
    (.arcOut true was))
  ((r1.strikeBegins p).upd (fun s => s.closeCommand p)).emitLampLeft p was true

/-- R65: the arc is out. -/
def Rule.arcGoesOut (r : Rule) (p : Proj) : Rule :=
  let l := r.st.lp p
  if l.lit = true ∧ due (after l.lowStart 200) r.st.now = true then
    if r.st.restrikePermitted p then r.restrike p
    else if l.state = .settling then
      (r.lampStops p .noArc).upd (fun s => s.reportProj p (.strikeFail .noArc 0 0))
    else (r.lampStops p .arcOut).upd (fun s => s.reportProj p (.arcOut false .burning))
  else r

/-- ARC_OUT (R65, R66). -/
def execArcOut (dt : Nat) (p : Proj) (s : State) : Host.Outcome State Fault Refusal :=
  ((Rule.begin s dt).arcGoesOut p).finish

/-! ## Current monitoring and the minute -/

/-- R67: 5 s have passed from the start of a band episode not yet reported. -/
def State.bandExpires (s : State) (p : Proj) : State :=
  let l := s.lp p
  match l.band with
  | none => s
  | some e =>
    if l.state = .burning ∧ e.reported = false ∧ due (some (e.start + ms 5000)) s.now = true then
      (s.setLp p { l with band := some { e with reported := true } }).reportProj p
        (.current l.amps l.current (bandSide l.amps l.current))
    else s

/-- BAND_EPISODE_EXPIRY (R67). -/
def execBandEpisodeExpiry (dt : Nat) (p : Proj) (s : State) : Host.Outcome State Fault Refusal :=
  ((Rule.begin s dt).upd (fun s => s.bandExpires p)).finish

/-- R82: whether the carbon-low test applies: the entry held is SHOWING and the mark is clear. -/
def State.carbonTestApplies (s : State) (p : Proj) : Bool :=
  match s.heldEntry p with
  | none => false
  | some e => e.status = .showing ∧ (s.lp p).carbonLow = false

/-- R82: the carbon-low test. -/
def State.carbonLowTest (s : State) (p : Proj) : State :=
  let l := s.lp p
  match l.sufficiency with
  | none => s
  | some x =>
    if s.carbonTestApplies p = true ∧ x.sufficient = false then
      (s.setLp p { l with carbonLow := true }).reportProj p
        (.carbonLow l.account x.need x.frames l.rate (s.tr p).counter)
    else s

/-- R78: 60 s of BURNING have passed: the burn rate is filtered, the carbon-low test is made, a new minute begins. -/
def Rule.minuteEnds (r : Rule) (p : Proj) : Rule :=
  let l := r.st.lp p
  match l.minute with
  | none => r
  | some m =>
    if l.state = .burning ∧ due (some (m.start + ms 60000)) r.st.now = true then
      let rate := filterRate l.rate m.pulses
      let r1 := r.upd (fun s => s.setLp p { l with rate := rate, minute := some ⟨s.now, 0⟩ })
      let r2 := if rate = l.rate then r1 else r1.evalSufficiency p
      r2.upd (fun s => s.carbonLowTest p)
    else r

/-- MINUTE_END (R78, R82). -/
def execMinuteEnd (dt : Nat) (p : Proj) (s : State) : Host.Outcome State Fault Refusal :=
  ((Rule.begin s dt).minuteEnds p).finish

/-! ## Requests -/

/-- STRIKE (R53). -/
def Rule.decideStrike (r : Rule) (b : Byte) : Decision :=
  match projOf b with
  | none => r.refuse .target
  | some p =>
    let s := r.st
    if (s.lp p).state ≠ .off ∨ (s.ds p).trial.isSome then r.refuse .state
    else if (s.lp p).account < strikeAccount then r.refuse .carbon
    else if ¬ s.booth.coolEnough then r.refuse .heat
    else if s.booth.covers (projPort p) then r.refuse .fire
    else ((r.upd (fun s => s.modLp p (fun l => { l with restrikeUsed := false }))).strikeBegins p).done

/-- EXTINGUISH (R69). -/
def Rule.decideExtinguish (r : Rule) (b : Byte) : Decision :=
  match projOf b with
  | none => r.refuse .target
  | some p => (r.extinguish p .host).done

/-- R67: the band episode when SET ARC changes I: kept unless the present reading lies within the new band. -/
def Lamp.reband (l : Lamp) : Lamp := if inBand l.amps l.current then { l with band := none } else l

/-- R71, R77: the settings a SET ARC puts in force. -/
def Lamp.setArc (l : Lamp) (i v : Nat) (autostrike : Bool) : Lamp :=
  let l1 := { l with current := i, voltage := v, autostrike := autostrike }
  if i = l.current then l1 else { l1 with rate := startingRate i }.reband

/-- SET ARC (R71). -/
def Rule.decideSetArc (r : Rule) (b current : Byte) (voltage : BitVec 16) (autostrike : Bool) : Decision :=
  match projOf b with
  | none => r.refuse .target
  | some p =>
    let i := clamp 40 90 current.toNat
    let v := clamp 450 700 voltage.toNat
    let r1 := r.upd (fun s => s.modLp p (fun l => l.setArc i v autostrike))
    (if i = (r.st.lp p).current then r1 else r1.evalSufficiency p).doneWith (.arc i v autostrike)

/-- R74: the pulses of a loaded length, clamped to 50 to 450 mm. -/
def loadedPulses (length : Nat) : Nat := clamp 50 450 length * 10

/-- LOAD CARBON (R74). -/
def Rule.decideLoadCarbon (r : Rule) (b : Byte) (length : BitVec 16) : Decision :=
  match projOf b with
  | none => r.refuse .target
  | some p =>
    if (r.st.lp p).state ≠ .off then r.refuse .state
    else
      let n := loadedPulses length.toNat
      ((r.upd (fun s => s.modLp p (fun l => { l with account := n }))).evalSufficiency p).doneWith (.account n)

end Sys2Proof.Machine
end

