-- ==== Sys2Proof/Machine/Lights.lean ====
section
/-! DEFINITION. House lights (chapter 8): the fade step and the requests LIGHTS SET, LIGHTS RELEASE and CLEAR SAFETY. -/

namespace Sys2Proof.Machine

/-- R128: when step `k + 1` of a fade falls. -/
def Fade.nextStep (f : Fade) : Instant := f.start + ms (50 * (f.step + 1))

/-- R128: one step of the fade in progress. -/
def Light.stepFade (l : Light) (now : Instant) : Light :=
  match l.fade with
  | none => l
  | some f =>
    if due (some f.nextStep) now then
      let k := f.step + 1
      { l.setLevel (fadeLevel f.startLevel f.target f.steps k) with
        fade := if k < f.steps then some { f with step := k } else none }
    else l

/-- FADE_STEP (R128). -/
def execFadeStep (dt : Nat) (h : HouseId) (s : State) : Host.Outcome State Fault Refusal :=
  ((Rule.begin s dt).upd (fun s => s.setLt h ((s.lt h).stepFade s.now))).finish

/-- R135: the MANUAL layer becomes active, or stays active, with a target and a fade. -/
def Light.setManual (l : Light) (now : Instant) (target fade : Nat) : Light :=
  let l1 := { l with manualActive := true, manualTarget := target, manualFade := fade }
  if l.safetyActive then l1 else l1.fadeTo now fade

/-- LIGHTS SET (R135). -/
def Rule.decideLightsSet (r : Rule) (b : Byte) (target fade : BitVec 16) : Decision :=
  match houseOfNumber b with
  | none => r.refuse .target
  | some h =>
    let r1 := r.upd (fun s =>
      s.setLt h ((s.lt h).setManual s.now (clamp 0 1000 target.toNat) (clamp 0 600 fade.toNat)))
    r1.doneWith (.lights (r1.st.lt h).controlling (r1.st.lt h).effective)

/-- R136: the MANUAL layer is released over a fade; the pending program target becomes absent. -/
def Light.release (l : Light) (now : Instant) (fade : Nat) : Light :=
  let l1 := { l with manualActive := false, pending := none }
  if l.safetyActive then l1 else l1.fadeTo now fade

/-- LIGHTS RELEASE (R136). -/
def Rule.decideLightsRelease (r : Rule) (b : Byte) (fade : BitVec 16) : Decision :=
  match houseOfNumber b with
  | none => r.refuse .target
  | some h =>
    let l := r.st.lt h
    if l.manualActive then
      (r.upd (fun s => s.setLt h ((s.lt h).release s.now (clamp 0 600 fade.toNat)))).doneWith
        (.released l.programTarget (l.pending.map (fun x => x.origin)))
    else r.doneWith .manualInactive

/-- R134: the SAFETY layer becomes inactive and a fade of 30 begins toward the new effective target. -/
def Light.clearSafety (l : Light) (now : Instant) : Light := { l with safetyActive := false }.fadeTo now 30

/-- CLEAR SAFETY (R134). The DONE carries the layer and the target where SAFETY was inactive already too (log entry 39). -/
def Rule.decideClearSafety (r : Rule) (b : Byte) : Decision :=
  match houseOfNumber b with
  | none => r.refuse .target
  | some h =>
    let causes := r.st.booth.safetyCauses h
    if causes ≠ [] then r.refuseWith .fire (.causes causes)
    else
      let r1 := if (r.st.lt h).safetyActive then r.upd (fun s => s.setLt h ((s.lt h).clearSafety s.now)) else r
      r1.doneWith (.lights (r1.st.lt h).controlling (r1.st.lt h).effective)

end Sys2Proof.Machine
end

