-- ==== Sys2Proof/Machine/Reset.lean ====
section
/-! DEFINITION. Power-on and restart (R18, R19, R35, R48, R72, R83, R102, R137, R138, R157, R158, R159, R169): what each
block's records become. -/

namespace Sys2Proof.Machine

/-! ## Dousers (R48) -/

/-- R48: the state that a douser takes from its switches: its state and, where it is CLOSING, whether the travel is full. -/
def douserFrom (sw : SwitchPair) : DouserState × Option Bool :=
  if sw.closedEnd then (.closed, none) else if sw.openEnd then (.closing, some true) else (.closing, some false)

/-- R48: a douser takes its state from its switches, with the drive toward closed. -/
def Douser.fromSwitches (d : Douser) (sw : SwitchPair) (now : Instant) : Douser :=
  let x := douserFrom sw
  { d with
    state := x.1
    drive := .closes
    travel := x.2.map (fun full => ⟨.closes, now, full, travelLimit d.closeTime⟩)
    trial := none
    switches := some ⟨sw, now⟩ }

/-! ## Restart -/

/-- R19: a transport at an accepted restart. -/
def Transport.restart (t : Transport) : Transport :=
  { t with
    state := .stopped
    lockCount := 0
    lockRunStart := none
    motorOn := none
    lastPulse := none
    miss := .normal
    outCount := 0
    speedFault := false
    recovery := 0
    stoppingSince := none }

/-- R20, R35: the state of a reader at a restart: OFF for an EMPTY projector, otherwise HUNT or WATCH. -/
def State.restartReaderState (s : State) (p : Proj) : ReaderState :=
  if (s.tr p).armed.isSome then huntOrWatch (s.tr p).counter (s.leaderOf p) else .off

/-- R35: a reader at an accepted restart. -/
def Reader.restart (d : Reader) (state : ReaderState) : Reader :=
  { d with state := state, group := none, held := [], queue := [] }

/-- R72, R83: a lamp at an accepted restart. -/
def Lamp.restart (l : Lamp) : Lamp :=
  { l.clearRun with
    state := .off
    highSupply := 0
    sweepPulses := 0
    drawPulses := 0
    restrikeUsed := false
    stalls := 0
    stop := if l.state = .off then l.stop else some .restart }

/-- R102: a house at an accepted restart. -/
def House.restart (x : House) : House :=
  { x with
    startingSide := none
    gate := .none
    dark := false
    change := none
    ending := none
    marks := ReelMarks.clear
    retiring := none
    runoutCount := none }

/-- R138: a light channel at an accepted restart; `safety` says whether a safety cause of its house is active. -/
def Light.restart (l : Light) (safety : Bool) (now : Instant) : Light :=
  let l1 := { l with manualActive := false, pending := none, safetyActive := l.safetyActive && safety, fade := none }
  if l1.effective = l1.level then l1 else l1.fadeTo now 30

/-- A state carried on over a list, in order. -/
def State.each {α : Type} (s : State) (f : State → α → State) : List α → State
  | [] => s
  | x :: rest => (f s x).each f rest

/-- What the end switches of `d` read at instant `now`, where a command has told it at that very instant. -/
def Douser.reading (d : Douser) (now : Instant) : Option SwitchPair :=
  match d.switches with
  | none => none
  | some x => if x.instant = now then some x.pair else none

/-- R48: douser `p` at a restart reads its switches: what a command tells of them at this instant, or a free value (log
entry 6). -/
def State.restartDouser (s : State) (p : Proj) : State :=
  match (s.ds p).reading s.now with
  | some sw => s.setDs p ((s.ds p).fromSwitches sw s.now)
  | none => (s.setDs p ((s.ds p).fromSwitches (Config.douserSwitches s.draws p) s.now)).setDraws (s.draws + 1)

/-- R83: the sufficiency of a projector that is still ARMED is evaluated afresh. -/
def State.restartJudge (s : State) (p : Proj) : State := s.setLp p { s.lp p with sufficiency := s.judge p }

/-- R169: every block but the link takes its restart values. -/
def State.restartBlocks (s : State) : State :=
  let s1 := s.each (fun s p => s.setTr p (s.tr p).restart) allProjs
  let s2 := s1.each (fun s p => s.setRd p ((s.rd p).restart (s.restartReaderState p))) allProjs
  let s3 := s2.each (fun s p => s.setLp p (s.lp p).restart) allProjs
  let s4 := s3.each State.restartDouser allProjs
  let s5 := s4.each State.restartJudge allProjs
  let s6 := s5.each (fun s h => s.setHs h (s.hs h).restart) allHouses
  s6.each (fun s h => s.setLt h ((s.lt h).restart (!(s.booth.safetyCauses h).isEmpty) s.now)) allHouses

/-- R169: the link at an accepted restart: the report queue is emptied, the lost mark cleared, and RESTARTED queued. -/
def Link.restart (l : Link) : Link :=
  { l with queue := [], lost := none }.enqueue 0 (.restarted .restart)

/-- R169: a show or a motor runs. -/
def State.busy (s : State) : Bool :=
  allHouses.any (fun h => (s.hs h).state.inShow) ||
  allProjs.any (fun p => (s.tr p).state = .starting ∨ (s.tr p).state = .running ∨ (s.tr p).state = .stopping)

/-- RESTART (R169). -/
def Rule.decideRestart (r : Rule) : Decision :=
  if r.st.busy then r.refuse .active
  else (r.upd (fun s => s.restartBlocks.setLink s.link.restart)).done

/-! ## Power-on -/

/-- R48: a douser at power-on. -/
def Douser.powerOn (sw : SwitchPair) (now : Instant) : Douser := Douser.fromSwitches
  { state := .closed
    drive := .closes
    travel := none
    openTime := 250
    closeTime := 250
    lastOpen := none
    lastClose := none
    trial := none
    switches := none } sw now

/-- R157: a port at power-on: DOWN, with its switches as read. -/
def Port.powerOn (up down : Bool) : Port :=
  { state := .down, windowEnd := none, releasedAt := none, link := none, upSwitch := up, downSwitch := down }

/-- R157: the booth-level state at power-on, before the inputs are read as events. -/
def Booth.powerOn (i : FieldInputs) (now : Instant) : Booth :=
  { fusible := false
    emergency := false
    critical := false
    filmFire := Vector.replicate 8 false
    grade := .normal
    temperature := i.temperature
    pressed := i.emergencyPressed
    fusibleOpen := i.fusibleOpen
    log := []
    nextSeq := 1
    nextReading := now + ms 1000 }

/-- R159: the state at power-on, with RESTARTED (POWER-ON) queued and its sending begun. The commands that wait and the
model's own instant and counter of choices are kept. -/
def State.powerOn (s : State) (i : FieldInputs) : State :=
  { link := Link.powerOn
    transports := Vector.replicate 8 Transport.powerOn
    readers := Vector.replicate 8 Reader.powerOn
    dousers := i.dousers.map (fun sw => Douser.powerOn sw s.now)
    lamps := Vector.replicate 8 Lamp.powerOn
    houses := Vector.replicate 4 House.powerOn
    lights := Vector.replicate 4 Light.powerOn
    ports := Vector.ofFn (fun n => Port.powerOn (i.upSwitches.cell n) (i.downSwitches.cell n))
    booth := Booth.powerOn i s.now
    now := s.now
    draws := s.draws
    pending := s.pending }

/-- R157: the inputs are read as events: the fusible-link line, the button, the gate heat sensors in projector order,
and the first temperature reading, graded from NORMAL. -/
def Rule.readInputs (r : Rule) (i : FieldInputs) : Rule :=
  let r1 := if i.fusibleOpen then r.fire .fusible none else r
  let r2 := if i.emergencyPressed then r1.fire .emergency none else r1
  let r3 := r2.each (fun r p => if i.gateHeat.cell p then r.gateHeats p else r) allProjs
  r3.gradeReading i.temperature

/-- POWER_ON (R159, R157). -/
def execPowerOn (dt : Nat) (inputs : FieldInputs) (s : State) : Host.Outcome State Fault Refusal :=
  (((Rule.begin s dt).upd (fun s => s.powerOn inputs)).readInputs inputs).finish

end Sys2Proof.Machine
end

