-- ==== Sys2Proof/Machine/Shows.lean ====
section
/-! DEFINITION. Show programs (chapter 6): the requests CLEAR PROGRAM, ADD REEL, ARM REEL, UNARM, START, HOLD and SET
HOUSE LEVELS, and the HOLD button. -/

namespace Sys2Proof.Machine

/-! ## The reel plan -/

/-- R85: a plan holds at most 12 entries. -/
def planCapacity : Nat := 12

/-- R170: the side of a reel entry: 1 A, 2 B. -/
def sideOfCode (b : Byte) : Option Side := if b.toNat = 1 then some .a else if b.toNat = 2 then some .b else none

/-- R170: an optional field whose range excludes 0 is sent as 0 when absent. -/
def optFrame (w : BitVec 16) : Option Nat := if w.toNat = 0 then none else some w.toNat

/-- R84: the trigger of a light cue. -/
def triggerOf (c : CueSpec) : CueTrigger :=
  match c.trigger with
  | .start => .start
  | .tab => .tab
  | .frame => .frame c.frame.toNat
  | .ending => .ending

/-- R86: a light cue as the plan holds it, its target and fade clamped. -/
def cueOf (c : CueSpec) : LightCue := ⟨triggerOf c, clamp 0 1000 c.target.toNat, clamp 0 600 c.fade.toNat, false⟩

/-- R86: the fields that are checked against their ranges; the entry they give. -/
def entryOf (e : ReelSpec) : Option ReelEntry :=
  match sideOfCode e.side with
  | none => none
  | some sd =>
    if 1 ≤ e.reel.toNat ∧ e.reel.toNat ≤ 99 ∧ e.leader.toNat ≤ 960 ∧
        1 ≤ e.picture.toNat ∧ e.picture.toNat ≤ 48000 then
      some
        { reel := e.reel.toNat
          side := sd
          leader := e.leader.toNat
          picture := e.picture.toNat
          motorFrame := optFrame e.motorFrame
          changeFrame := optFrame e.changeFrame
          last := e.last
          cues := e.cues.map cueOf
          status := .pending }
    else none

/-- R86: an expected frame, when present, lies on the reel. -/
def onReel (frame : Option Nat) (tail : Nat) : Bool :=
  match frame with
  | none => true
  | some n => decide (n ≤ tail)

/-- R86: the geometry check. -/
def ReelEntry.geometry (e : ReelEntry) : Bool :=
  onReel e.motorFrame e.tail && onReel e.changeFrame e.tail &&
    match e.motorFrame, e.changeFrame with
    | some m, some c => decide (m < c)
    | _, _ => true

/-- R86: the entry joins the plan at its tail; an IDLE house becomes READY. -/
def House.addReel (x : House) (e : ReelEntry) : House :=
  { x with plan := x.plan ++ [e], state := if x.state = .idle then .ready else x.state }

/-- ADD REEL (R86). -/
def Rule.decideAddReel (r : Rule) (b : Byte) (spec : ReelSpec) : Decision :=
  match houseOfNumber b with
  | none => r.refuse .target
  | some h =>
    let x := r.st.hs h
    if x.state ≠ .idle ∧ x.state ≠ .ready then r.refuse .state
    else match entryOf spec with
      | none => r.refuse .range
      | some e =>
        if planCapacity ≤ x.plan.length then r.refuse .full
        else if (findReel x.plan e.reel).isSome then r.refuse .duplicate
        else if x.plan.any (fun y => y.last) then r.refuse .state
        else if ¬ e.geometry then r.refuse .geometry
        else (r.upd (fun s => s.modHs h (fun x => x.addReel e))).doneWith (.entryCount (x.plan.length + 1))

/-- R87: a projector of the house is ARMED and its transport is not STOPPED. -/
def State.armedAndMoving (s : State) (p : Proj) : Bool := (s.tr p).armed.isSome ∧ (s.tr p).state ≠ .stopped

/-- R87: an ARMED projector is disarmed. -/
def Rule.disarmArmed (r : Rule) (p : Proj) : Rule := if (r.st.tr p).armed.isSome then r.disarm p else r

/-- CLEAR PROGRAM (R87). -/
def Rule.decideClearProgram (r : Rule) (b : Byte) : Decision :=
  match houseOfNumber b with
  | none => r.refuse .target
  | some h =>
    if (r.st.hs h).state.inShow ∨ r.st.armedAndMoving (projAt h .a) ∨ r.st.armedAndMoving (projAt h .b) then
      r.refuse .state
    else (((r.disarmArmed (projAt h .a)).disarmArmed (projAt h .b)).upd (fun s => s.modHs h (fun x =>
      { x with plan := [], state := .idle, holdReason := none, liveSide := none }))).done

/-! ## Arming -/

/-- R89: what an accepted ARM REEL does to the plan entry: it is ARMED, with every fired mark clear. -/
def ReelEntry.arm (e : ReelEntry) : ReelEntry :=
  { e with status := .armed, cues := e.cues.map (fun c => { c with fired := false }) }

/-- R89: the records that an accepted ARM REEL sets, before sufficiency is evaluated. -/
def State.arm (s : State) (h : HouseId) (p : Proj) (e : ReelEntry) (start : Nat) : State :=
  let s1 := (s.modReel h e.reel ReelEntry.arm).setTr p { s.tr p with armed := some ⟨h, e.reel, start⟩, counter := start }
  let s2 := s1.readerDiscards p (huntOrWatch start e.leader)
  s2.setLp p { s2.lp p with carbonLow := false }

/-- R81: CARBON SHORT at an ARM REEL whose lamp is short. -/
def State.carbonShort (s : State) (p : Proj) (reel : Nat) : State :=
  match (s.lp p).sufficiency with
  | none => s
  | some x =>
    if x.sufficient then s
    else s.reportProj p (.carbonShort reel (s.lp p).account x.need x.frames (s.lp p).rate)

/-- R89: what an accepted ARM REEL does. -/
def Rule.arm (r : Rule) (h : HouseId) (p : Proj) (e : ReelEntry) (start : Nat) : Rule :=
  (((r.upd (fun s => s.arm h p e start)).evalSufficiency p).upd (fun s => s.carbonShort p e.reel)).emit (.readiness h)

/-- ARM REEL (R88). -/
def Rule.decideArmReel (r : Rule) (b reel : Byte) (start : Option (BitVec 16)) : Decision :=
  match projOf b with
  | none => r.refuse .target
  | some p =>
    let h := houseOf p
    if (r.st.tr p).armed.isSome ∨ (r.st.tr p).state ≠ .stopped ∨ (r.st.hs h).state = .idle then r.refuse .state
    else match findReel (r.st.hs h).plan reel.toNat with
      | none => r.refuse .target
      | some e =>
        let frame := match start with
          | none => 0
          | some w => w.toNat
        if (e.status ≠ .pending ∧ e.status ≠ .interrupted) ∨ e.side ≠ sideOf p then r.refuse .state
        else if e.tail ≤ frame then r.refuse .geometry
        else
          let r1 := r.arm h p e frame
          r1.doneWith (.judged (r1.st.lp p).sufficiency)

/-- R90: projector `p` holds an entry whose status is SHOWING. -/
def State.holdsShowing (s : State) (p : Proj) : Bool :=
  match s.heldEntry p with
  | none => false
  | some e => e.status = .showing

/-- R90: projector `p` is the incoming of its house's record in RUNUP, LOCKED, DUE or CROSSING. -/
def State.startedIncoming (s : State) (p : Proj) : Bool :=
  match (s.hs (houseOf p)).change with
  | none => false
  | some c => c.incoming = p ∧ c.phase.started

/-- UNARM (R90). -/
def Rule.decideUnarm (r : Rule) (b : Byte) : Decision :=
  match projOf b with
  | none => r.refuse .target
  | some p =>
    if ((r.st.tr p).state ≠ .stopped ∧ (r.st.tr p).state ≠ .broken) ∨ r.st.holdsShowing p ∨ r.st.startedIncoming p then
      r.refuse .state
    else (r.disarm p).done

/-! ## Starting and holding -/

/-- R94: the readiness conditions that fail for the start of an entry: those of the projector of its side, the first
judged on this entry. -/
def State.startFailures (s : State) (h : HouseId) (e : ReelEntry) : ReadyFailures :=
  let p := projAt h e.side
  let holds := (s.tr p).armed.map (fun a => (a.house, a.reel)) = some (h, e.reel)
  { s.readyFailures p with entryArmed := !(decide (holds ∧ e.status = .armed)) }

/-- R94: what an accepted START does. R47: a trial on either projector stops, since its house becomes STARTING. -/
def Rule.startShow (r : Rule) (h : HouseId) (e : ReelEntry) : Rule :=
  (r.upd (fun s => ((s.modHs h (fun x => { x with
    holdReason := none
    dark := false
    startingSide := some e.side
    state := .starting })).endTrial (projAt h .a) .house).endTrial (projAt h .b) .house)).motorStart (projAt h e.side)

/-- START (R94). -/
def Rule.decideStart (r : Rule) (b : Byte) : Decision :=
  match houseOfNumber b with
  | none => r.refuse .target
  | some h =>
    let x := r.st.hs h
    if x.state ≠ .ready ∧ x.state ≠ .hold then r.refuse .state
    else match nextEntry x.plan with
      | none => r.refuseWith .notReady (.notReady none ReadyFailures.none)
      | some e =>
        if r.st.startFailures h e = ReadyFailures.none then (r.startShow h e).done
        else r.refuseWith .notReady (.notReady (some e.reel) (r.st.startFailures h e))

/-- HOLD (R98). -/
def Rule.decideHold (r : Rule) (b : Byte) : Decision :=
  match houseOfNumber b with
  | none => r.refuse .target
  | some h => if (r.st.hs h).state.inShow then (r.enterHold h .host true).done else r.refuse .state

/-- R98: a press of the HOLD button. -/
def Rule.holdPressed (r : Rule) (h : HouseId) : Rule :=
  if (r.st.hs h).state.inShow then r.enterHold h .panel true
  else r.upd (fun s => s.reportHouse h (.panelIgnored .hold (s.hs h).state none))

/-- HOLD_BUTTON (R98). -/
def execHoldButton (dt : Nat) (h : HouseId) (s : State) : Host.Outcome State Fault Refusal :=
  ((Rule.begin s dt).holdPressed h).finish

/-- SET HOUSE LEVELS (R99). -/
def Rule.decideSetHouseLevels (r : Rule) (b : Byte) (hold runout brk emergency : BitVec 16) : Decision :=
  match houseOfNumber b with
  | none => r.refuse .target
  | some h =>
    let l : HouseLevels := ⟨clamp 0 1000 hold.toNat, clamp 0 1000 runout.toNat, clamp 0 1000 brk.toNat,
      clamp 0 1000 emergency.toNat⟩
    (r.upd (fun s => (s.modHs h (fun x => { x with levels := l })).setLt h
      ((s.lt h).giveEmergency s.now l.emergency))).doneWith (.levels l)

end Sys2Proof.Machine
end

