-- ==== Sys2Proof/Machine/Cues.lean ====
section
/-! DEFINITION. Cue tabs (chapter 2): the examination of a frame's reading, the closing of a group, and the requests
CUE CLEAR and SET CUE SENSE. -/

namespace Sys2Proof.Machine

/-! ## Examining frames -/

/-- R24: a reading is high when it is at least T. -/
def Reader.high (d : Reader) (reading : Nat) : Bool := decide (d.threshold ≤ reading)

/-- R24: a reading is low when it is at most T − H. -/
def Reader.low (d : Reader) (reading : Nat) : Bool := decide (reading ≤ d.threshold - d.hysteresis)

/-- R26, R27: a group takes a bad reason if it has none yet. -/
def TabGroup.fault (g : TabGroup) (b : BadReason) : TabGroup :=
  match g.bad with
  | none => { g with bad := some b }
  | some _ => g

/-- R25: a high reading in WATCH begins a tab and a new group. -/
def Reader.watchFrame (d : Reader) (frame reading : Nat) : Reader :=
  if d.high reading then { d with state := .inTab, group := some ⟨frame, 1, none, 1, 0⟩ }
  else { d with state := .watch }

/-- R26: the tab goes on for one more frame; past 6 frames the group takes TAPE, with the tab frames held at 7. -/
def TabGroup.tabGoesOn (g : TabGroup) : TabGroup :=
  if 6 ≤ g.tabFrames then { g with tabFrames := 7 }.fault .tape else { g with tabFrames := g.tabFrames + 1 }

/-- R26: an examined frame in IN TAB. -/
def Reader.tabFrame (d : Reader) (g : TabGroup) (reading : Nat) : Reader :=
  if d.low reading then { d with state := .gap, group := some { g with gapFrames := 0 } }
  else { d with group := some g.tabGoesOn }

/-- R27: a new tab of the same group begins with the gap frames as given. -/
def TabGroup.nextTab (g : TabGroup) (gap : Nat) : TabGroup :=
  let g1 := { g with tabs := min 5 (g.tabs + 1), tabFrames := 1, gapFrames := gap }
  let g2 := if gap < 2 then g1.fault .spacing else g1
  if g2.tabs = 5 then g2.fault .count else g2

/-- R28: the code of a closing group. -/
def TabGroup.code (g : TabGroup) : CueCode :=
  match g.bad with
  | some _ => .bad
  | none => match g.tabs with
    | 1 => .motor
    | 2 => .change
    | 3 => .lights
    | 4 => .ending
    | _ => .bad

/-- R28: the cue entry of a closing group. -/
def TabGroup.entry (g : TabGroup) : CueEntry := ⟨g.code, g.frame, .tab, g.bad⟩

/-- R28, R29: the group closes: its entry joins, the assembling flag falls (the lamp unit evaluates, R61), and the held
counted entries join behind it. -/
def Rule.closeGroup (r : Rule) (p : Proj) (g : TabGroup) : Rule :=
  let r1 := r.joinCue p g.entry
  let held := (r1.st.rd p).held
  (r1.upd (fun s => (s.setRd p { s.rd p with state := .watch, group := none, held := [] }).evalBurst p)).joinCues p held

/-- R27: an examined frame in GAP. -/
def Rule.gapFrame (r : Rule) (p : Proj) (g : TabGroup) (reading : Nat) : Rule :=
  let d := r.st.rd p
  let gap := g.gapFrames + 1
  if d.high reading then r.upd (fun s => s.setRd p { d with state := .inTab, group := some (g.nextTab gap) })
  else if 8 ≤ gap then r.closeGroup p g
  else r.upd (fun s => s.setRd p { d with group := some { g with gapFrames := gap } })

/-- R23 to R27: the reader examines the reading of a counted pulse, while its transport is STARTING or RUNNING and the
reader is not OFF. -/
def Rule.examine (r : Rule) (p : Proj) (reading : Nat) : Rule :=
  let d := r.st.rd p
  let t := r.st.tr p
  if t.state = .starting ∨ t.state = .running then
    match d.state, d.group with
    | .off, _ => r
    | .hunt, _ =>
      if t.counter < r.st.leaderOf p then r else r.upd (fun s => s.setRd p (d.watchFrame t.counter reading))
    | .watch, _ => r.upd (fun s => s.setRd p (d.watchFrame t.counter reading))
    | .inTab, some g => r.upd (fun s => s.setRd p (d.tabFrame g reading))
    | .gap, some g => r.gapFrame p g reading
    | .inTab, none | .gap, none => r
  else r

/-! ## Requests -/

/-- CUE CLEAR (R33): the BAD head is removed; R106, R110: the house then takes entries and offers counted ones. -/
def Rule.decideCueClear (r : Rule) (b : Byte) : Decision :=
  match projOf b with
  | none => r.refuse .target
  | some p =>
    match (r.st.rd p).queue with
    | [] => r.refuse .state
    | e :: rest =>
      if e.code = .bad then
        let h := houseOf p
        let r1 := r.upd (fun s => (s.setRd p { s.rd p with queue := rest }).clearBadMark p)
        let r2 := if r1.st.liveProj h = some p then (r1.takeCues h).countedFallback h else r1
        r2.doneWith (.cueCleared e.frame e.bad)
      else r.refuse .state

/-- R34: the threshold and the hysteresis that a SET CUE SENSE puts in force. -/
def cueSense (threshold hysteresis : Nat) : Nat × Nat :=
  let t := clamp 16 240 threshold
  (t, min (clamp 4 64 hysteresis) (t - 8))

/-- SET CUE SENSE (R34). -/
def Rule.decideSetCueSense (r : Rule) (b threshold hysteresis : Byte) : Decision :=
  match projOf b with
  | none => r.refuse .target
  | some p =>
    let v := cueSense threshold.toNat hysteresis.toNat
    (r.upd (fun s => s.setRd p { s.rd p with threshold := v.1, hysteresis := v.2 })).doneWith (.cueSense v.1 v.2)

end Sys2Proof.Machine
end

