-- ==== Sys2Proof/Machine/Transport.lean ====
section
/-! DEFINITION. Film transport (chapter 1): tach pulses, the deadlines of the transport unit, and the requests RUN
MOTOR, STOP MOTOR and SET SPEED. -/

namespace Sys2Proof.Machine

/-! ## Tach pulses -/

/-- R6: the lock count and the lock-run start after an interval tested while STARTING. -/
def Transport.lockStep (t : Transport) (prev now : Instant) (speed : Nat) : Transport :=
  if inTolerance (now - prev) speed then
    { t with
      lockCount := t.lockCount + 1
      lockRunStart := if t.lockCount = 0 then some prev else t.lockRunStart }
  else { t with lockCount := 0, lockRunStart := none }

/-- R7: the measured run-up time, from the motor-on instant to the lock-run start, in whole ms. -/
def Transport.measuredRunUp (t : Transport) : Nat :=
  match t.motorOn, t.lockRunStart with
  | some on, some start => elapsedMs on start
  | _, _ => 0

/-- R7: the learned run-up time after a measurement, clamped to 500 to 6000 ms. -/
def learnRunUp (old measured : Nat) : Nat := learn old (clamp 500 6000 measured)

/-- R7: the eighth consecutive in-tolerance interval makes the transport RUNNING. -/
def Transport.lock (t : Transport) : Transport :=
  { t with
    state := .running
    runUp := learnRunUp t.runUp t.measuredRunUp
    motorOn := none
    lockRunStart := none
    miss := .normal
    outCount := 0
    speedFault := false
    recovery := 0 }

/-- R10: the bookkeeping of an interval tested while RUNNING. -/
def Transport.speedStep (t : Transport) (good : Bool) : Transport :=
  if t.speedFault then
    if good then
      if t.recovery + 1 = 8 then { t with speedFault := false, outCount := 0, recovery := 0 }
      else { t with recovery := t.recovery + 1 }
    else { t with recovery := 0 }
  else if good then { t with outCount := 0 }
  else if t.outCount + 1 = 24 then { t with outCount := 24, speedFault := true, recovery := 0 }
  else { t with outCount := t.outCount + 1 }

/-- R5: the counter and the last pulse instant after a counted pulse. -/
def Transport.count (t : Transport) (now : Instant) : Transport :=
  { t with counter := countFrame t.counter, lastPulse := some now }

/-- R5, R6, R7: a counted pulse while STARTING. -/
def Rule.pulseStarting (r : Rule) (p : Proj) : Rule :=
  let t := r.st.tr p
  let now := r.st.now
  match t.lastPulse with
  | none => r.upd (fun s => s.setTr p (t.count now))
  | some prev =>
    let t1 := (t.lockStep prev now (r.st.speedOf p)).count now
    if t1.lockCount = 8 then
      (r.upd (fun s => (s.setTr p t1.lock).reportProj p
        (.locked t1.measuredRunUp t1.lock.runUp t1.counter))).emit (.transport p .running)
    else r.upd (fun s => s.setTr p t1)

/-- R5, R9, R10: a counted pulse while RUNNING. -/
def Rule.pulseRunning (r : Rule) (p : Proj) : Rule :=
  let t := r.st.tr p
  let now := r.st.now
  match t.lastPulse with
  | none => r.upd (fun s => s.setTr p { t.count now with miss := .normal })
  | some prev =>
    let t1 := ({ t with miss := .normal }.speedStep (inTolerance (now - prev) (r.st.speedOf p))).count now
    let r1 := r.upd (fun s => s.setTr p t1)
    if t1.speedFault ∧ ¬ t.speedFault then r1.upd (fun s => s.reportProj p (.speedFault t1.counter)) else r1

/-- R5: a counted pulse while STOPPING, which is not tested (R13). -/
def Rule.pulseStopping (r : Rule) (p : Proj) : Rule :=
  r.upd (fun s => s.setTr p ((s.tr p).count s.now))

/-- R101, R122: the counts that a pulse of a live projector raises in a house that is ENDING, or has run out. -/
def Rule.countLivePulse (r : Rule) (h : HouseId) (p : Proj) : Rule :=
  if r.st.liveProj h = some p then
    match (r.st.hs h).state, (r.st.hs h).runoutCount with
    | .ending, _ => r.countEndPulse h p
    | .hold, some n => r.countRunoutPulse h p n
    | _, _ => r
  else r

/-- R106, R110, R122, R132: what a counted pulse of the live projector brings about while the house is SHOWING. -/
def Rule.showPulse (r : Rule) (h : HouseId) (p : Proj) : Rule :=
  if (r.st.hs h).state = .showing ∧ r.st.liveProj h = some p then
    ((((r.takeCues h).upd (fun s => s.fireFrameCues h)).countedFallback h).tailTest h)
  else r

/-- R5: the house controller sees the counter's new value. -/
def Rule.housePulse (r : Rule) (p : Proj) : Rule :=
  let h := houseOf p
  ((((r.countLivePulse h p).countRetirePulse h p).showPulse h p).pictureTest h).crossingTest h

/-- R5: the counted pulse is passed to the cue reader, the lamp unit and the house controller. -/
def Rule.passPulse (r : Rule) (p : Proj) (reading : Nat) : Rule :=
  ((r.examine p reading).evalSufficiency p).housePulse p

/-- R5: a tach pulse. -/
def Rule.pulse (r : Rule) (p : Proj) (reading : Nat) : Rule :=
  match (r.st.tr p).state with
  | .starting => (r.pulseStarting p).passPulse p reading
  | .running => (r.pulseRunning p).passPulse p reading
  | .stopping => (r.pulseStopping p).passPulse p reading
  | .stopped | .broken => r

/-- TACH_PULSE (R5): `reading` is the cue sensor's reflectance for the frame. -/
def execTachPulse (dt : Nat) (p : Proj) (reading : Byte) (s : State) : Host.Outcome State Fault Refusal :=
  ((Rule.begin s dt).pulse p reading.toNat).finish

/-! ## Deadlines -/

/-- R8: the run-up limit. -/
def runUpLimit : Nat := 6000

/-- R8: the run-up limit expires while STARTING. -/
def Rule.runUpExpires (r : Rule) (p : Proj) : Rule :=
  let t := r.st.tr p
  if t.state = .starting ∧ due (after t.motorOn runUpLimit) r.st.now = true then
    let r1 := r.upd (fun s => (s.setTr p { t with
      state := .stopping
      lockCount := 0
      lockRunStart := none
      motorOn := none
      stoppingSince := some s.now }).reportProj p (.runupFail t.lockCount t.counter))
    ((r1.readerStops p).emit (.runupFailed p)).emit (.transport p .stopping)
  else r

/-- RUNUP_LIMIT (R8). -/
def execRunupLimit (dt : Nat) (p : Proj) (s : State) : Host.Outcome State Fault Refusal :=
  ((Rule.begin s dt).runUpExpires p).finish

/-- The time since the last counted pulse meets a test of R2. -/
def State.silent (s : State) (p : Proj) (test : Nat → Nat → Bool) : Bool :=
  match (s.tr p).lastPulse with
  | none => false
  | some u => test (s.now - u) (s.speedOf p)

/-- R11: the missing-pulse deadline falls. -/
def Rule.pulseMissing (r : Rule) (p : Proj) : Rule :=
  let t := r.st.tr p
  if t.state = .running ∧ t.miss = .normal ∧ r.st.silent p overdue = true then
    r.upd (fun s => (s.setTr p { t with miss := .miss1 }).reportProj p (.pulseMissing t.counter))
  else r

/-- MISSING_PULSE_DEADLINE (R11). -/
def execMissingPulseDeadline (dt : Nat) (p : Proj) (s : State) : Host.Outcome State Fault Refusal :=
  ((Rule.begin s dt).pulseMissing p).finish

/-- R12: the break deadline falls. BREAK is queued before what the held counted entries bring as they join (R22; log entry
16), and the house takes those entries before it sees the loss (R106, R123; log entry 34). -/
def Rule.filmBreaks (r : Rule) (p : Proj) : Rule :=
  let t := r.st.tr p
  if t.state = .running ∧ r.st.silent p brokenAfter = true then
    let r1 := r.upd (fun s => (s.setTr p { t with state := .broken, miss := .normal, lockCount := 0 }).reportProj p
      (.filmBreak t.counter))
    ((r1.readerStops p).upd (fun s => s.leaveRunning p)).emit (.transport p .broken)
  else r

/-- BREAK_DEADLINE (R12). -/
def execBreakDeadline (dt : Nat) (p : Proj) (s : State) : Host.Outcome State Fault Refusal :=
  ((Rule.begin s dt).filmBreaks p).finish

/-- R13: the end of the 500 ms, from the later of the instant the transport became STOPPING and the last pulse. -/
def Transport.runDownEnd (t : Transport) : Option Instant :=
  match t.stoppingSince, t.lastPulse with
  | some a, some b => some (max a b + ms 500)
  | some a, none => some (a + ms 500)
  | none, some b => some (b + ms 500)
  | none, none => none

/-- R13: 500 ms have passed with no counted pulse. -/
def Rule.runsDown (r : Rule) (p : Proj) : Rule :=
  let t := r.st.tr p
  if t.state = .stopping ∧ due t.runDownEnd r.st.now = true then
    (r.upd (fun s => s.setTr p { t with state := .stopped, stoppingSince := none })).emit (.transport p .stopped)
  else r

/-- RUN_DOWN_EXPIRY (R13). -/
def execRunDownExpiry (dt : Nat) (p : Proj) (s : State) : Host.Outcome State Fault Refusal :=
  ((Rule.begin s dt).runsDown p).finish

/-! ## Requests -/

/-- RUN MOTOR (R16). -/
def Rule.decideRunMotor (r : Rule) (b : Byte) : Decision :=
  match projOf b with
  | none => r.refuse .target
  | some p =>
    if (r.st.tr p).armed.isSome ∨ (r.st.hs (houseOf p)).state.inShow ∨ (r.st.tr p).state ≠ .stopped then r.refuse .state
    else if r.st.booth.stopsMotors (houseOf p) then r.refuse .fire
    else (r.motorStart p).done

/-- STOP MOTOR (R17). -/
def Rule.decideStopMotor (r : Rule) (b : Byte) : Decision :=
  match projOf b with
  | none => r.refuse .target
  | some p => if (r.st.tr p).armed.isSome then r.refuse .state else (r.motorStop p).done

/-- SET SPEED (R15). -/
def Rule.decideSetSpeed (r : Rule) (b speed : Byte) : Decision :=
  match houseOfNumber b with
  | none => r.refuse .target
  | some h =>
    if speed.toNat ≠ 24 ∧ speed.toNat ≠ 25 then r.refuse .range
    else if (r.st.tr (projAt h .a)).state ≠ .stopped ∨ (r.st.tr (projAt h .b)).state ≠ .stopped then r.refuse .state
    else (((r.upd (fun s => s.modHs h (fun x => { x with speed := speed.toNat }))).evalSufficiency
      (projAt h .a)).evalSufficiency (projAt h .b)).done

end Sys2Proof.Machine
end

