-- ==== Sys2Proof/Machine/Link.lean ====
section
/-! DEFINITION. The console link (chapter 10): the receiver, the receive buffer and its line errors, the decision of
requests, the transmitter's end of a record, the clock, and the requests STATUS, READ LOG and SET CLOCK. -/

namespace Sys2Proof.Machine

/-! ## The link's own requests -/

/-- STATUS (R166). -/
def Rule.decideStatus (r : Rule) (subject : StatusSubject) (n first : Byte) : Decision :=
  match subject with
  | .house => match houseOfNumber n with
    | none => r.refuse .target
    | some h => ⟨.status (r.st.houseStatus h first.toNat), r⟩
  | .projector => match projOf n with
    | none => r.refuse .target
    | some p => ⟨.status (r.st.projectorStatus p), r⟩
  | .lamp => match projOf n with
    | none => r.refuse .target
    | some p => ⟨.status (r.st.lp p).bytes, r⟩
  | .ports => ⟨.status r.st.portsStatus, r⟩

/-- R167: the sequence number of a record, 0 where there is none. -/
def seqOf (d : Option DropRecord) : Nat :=
  match d with
  | none => 0
  | some d => d.seq

/-- READ LOG (R167). -/
def Rule.decideReadLog (r : Rule) (seq : BitVec 16) : Decision :=
  let log := r.st.booth.log
  if seq.toNat = 0 then r.refuse .range
  else ⟨.log (seqOf log.head?) (seqOf log.getLast?) ((log.dropWhile (fun d => d.seq ≠ seq.toNat)).take 4), r⟩

/-- SET CLOCK (R168). -/
def Rule.decideSetClock (r : Rule) (time : BitVec 24) : Decision :=
  if 86399 < time.toNat then r.refuse .range
  else (r.upd (fun s => s.setLink { s.link with clock := some time.toNat, nextSecond := some (s.now + ms 1000) })).done

/-! ## Deciding requests -/

/-- R162: a request is handed to the owner of its kind, which decides it under its own rule. -/
def Rule.ask (r : Rule) (q : Request) : Decision :=
  match q with
  | .runMotor p => r.decideRunMotor p
  | .stopMotor p => r.decideStopMotor p
  | .setSpeed h speed => r.decideSetSpeed h speed
  | .setCueSense p t y => r.decideSetCueSense p t y
  | .cueClear p => r.decideCueClear p
  | .douserTrial p => r.decideDouserTrial p
  | .strike p => r.decideStrike p
  | .extinguish p => r.decideExtinguish p
  | .setArc p i v auto => r.decideSetArc p i v auto
  | .loadCarbon p length => r.decideLoadCarbon p length
  | .clearProgram h => r.decideClearProgram h
  | .addReel h e => r.decideAddReel h e
  | .armReel p reel frame => r.decideArmReel p reel frame
  | .unarm p => r.decideUnarm p
  | .start h => r.decideStart h
  | .hold h => r.decideHold h
  | .changeNow h => r.decideChangeNow h
  | .setHouseLevels h a b c d => r.decideSetHouseLevels h a b c d
  | .lightsSet h target fade => r.decideLightsSet h target fade
  | .lightsRelease h fade => r.decideLightsRelease h fade
  | .clearSafety h => r.decideClearSafety h
  | .armPort n => r.decideArmPort n
  | .dropTest form n => r.decideDropTest form n
  | .clearEmergency => r.decideClearEmergency
  | .status subject n first => r.decideStatus subject n first
  | .readLog seq => r.decideReadLog seq
  | .setClock time => r.decideSetClock time
  | .restart => r.decideRestart

/-- R162: the decision of a record: FORMAT where it is no request's. -/
def Rule.decideRecord (r : Rule) (d : Record) : Decision :=
  match parseRequest d with
  | none => r.refuse .format
  | some q => r.ask q

/-- R169: the kind of RESTART, whose reply goes before RESTARTED. -/
def restartKind : Byte := 43

/-- R165: an IDLE transmitter is taken for the reply that the decision of a record will place. -/
def Rule.claim (r : Rule) : Rule :=
  r.upd (fun s => s.setLink { s.link with
    transmitter := if s.link.transmitter = .idle then .reply else s.link.transmitter })

/-- R162, R163, R165: a record is taken for decision, and its reply placed in the slot; an IDLE transmitter begins to
send it. Reports of the same rule may be taken first (`tie`, R165), but for RESTARTED (R169). -/
def Rule.takeRecord (r : Rule) (d : Record) : Rule :=
  let idle := decide (r.st.link.transmitter = .idle)
  let x := r.claim.decideRecord d
  { x.rule.upd (fun s => s.setLink { s.link with slot := some (x.answer.reply d.kind) }) with
    tie := r.tie || (idle && decide (d.kind ≠ restartKind)) }

/-! ## Receiving -/

/-- R161: the counts of a LINE ERROR with one more error of a reason, stopping at 255. -/
def bumpError (reason : LineErrorReason) (b : ReportBody) : ReportBody :=
  match b, reason with
  | .lineError c l f o, .check => .lineError (min 255 (c + 1)) l f o
  | .lineError c l f o, .length => .lineError c (min 255 (l + 1)) f o
  | .lineError c l f o, .framing => .lineError c l (min 255 (f + 1)) o
  | .lineError c l f o, .overrun => .lineError c l f (min 255 (o + 1))
  | b, _ => b

/-- R161: a LINE ERROR report waits in the queue. -/
def ReportBody.isLineError : ReportBody → Bool
  | .lineError _ _ _ _ => true
  | _ => false

/-- R161: a line error raises a count in a waiting LINE ERROR, or queues a new one. -/
def State.lineError (s : State) (reason : LineErrorReason) : State :=
  if s.link.queue.any (fun x => x.body.isLineError) then
    s.setLink { s.link with queue := s.link.queue.map (fun x => { x with body := bumpError reason x.body }) }
  else s.reportBooth (bumpError reason (.lineError 0 0 0 0))

/-- R161: the receive buffer holds at most 2 complete records. -/
def bufferCapacity : Nat := 2

/-- R161, R162: a complete record: taken at once where the buffer is empty and the slot empty, otherwise joining the
buffer, or discarded with OVERRUN. -/
def Rule.arrives (r : Rule) (d : Record) : Rule :=
  let l := r.st.link
  if l.buffer = [] ∧ l.slot = none then r.takeRecord d
  else if l.buffer.length < bufferCapacity then r.upd (fun s => s.setLink { s.link with buffer := s.link.buffer ++ [d] })
  else r.upd (fun s => s.lineError .overrun)

/-- Set the receive state. -/
def State.setReceive (s : State) (x : ReceiveState) : State := s.setLink { s.link with receive := x }

/-- R160: a byte in HUNT. -/
def huntByte (half : Option Instant) (b : Byte) (now : Instant) : ReceiveState :=
  if b = 0xC3 then .hunt (some now)
  else if b = 0x3C ∧ half.isSome then .assemble ⟨none, none, [], 0, now⟩
  else .hunt none

/-- R160: the check byte of a record in assembly. -/
def Rule.checkByte (r : Rule) (a : Assembly) (kind b : Byte) : Rule :=
  let r1 := r.upd (fun s => s.setReceive (.hunt none))
  if a.sum + b = 0 then r1.arrives ⟨kind, a.payload⟩ else r1.upd (fun s => s.lineError .check)

/-- R160: a byte in ASSEMBLE: the kind, the length, the payload, then the check byte. -/
def Rule.assembleByte (r : Rule) (a : Assembly) (b : Byte) : Rule :=
  let now := r.st.now
  let keep (a : Assembly) : Rule := r.upd (fun s => s.setReceive (.assemble a))
  match a.kind, a.length with
  | none, _ => keep { a with kind := some b, sum := a.sum + b, lastByte := now }
  | some _, none =>
    if 250 < b.toNat then r.upd (fun s => (s.setReceive (.hunt none)).lineError .length)
    else keep { a with length := some b, sum := a.sum + b, lastByte := now }
  | some kind, some n =>
    if a.payload.length < n.toNat then
      keep { a with payload := a.payload ++ [b], sum := a.sum + b, lastByte := now }
    else r.checkByte a kind b

/-- R160: a byte is received, with or without a good stop bit. -/
def Rule.receive (r : Rule) (b : Byte) (stopOk : Bool) : Rule :=
  match r.st.link.receive with
  | .hunt half =>
    if stopOk then r.upd (fun s => s.setReceive (huntByte half b s.now)) else r.upd (fun s => s.setReceive (.hunt none))
  | .assemble a =>
    if stopOk then r.assembleByte a b else r.upd (fun s => (s.setReceive (.hunt none)).lineError .framing)

/-- RECEIVE_BYTE (R160). -/
def execReceiveByte (dt : Nat) (b : Byte) (stopOk : Bool) (s : State) : Host.Outcome State Fault Refusal :=
  ((Rule.begin s dt).receive b stopOk).finish

/-- R160: 20 ms have passed from a 0xC3 with no following byte. -/
def State.halfExpires (s : State) : State :=
  match s.link.receive with
  | .hunt half => if due (after half 20) s.now then s.setReceive (.hunt none) else s
  | .assemble _ => s

/-- SYNC_HALF_TIMEOUT (R160). -/
def execSyncHalfTimeout (dt : Nat) (s : State) : Host.Outcome State Fault Refusal :=
  ((Rule.begin s dt).upd State.halfExpires).finish

/-- R160: 20 ms have passed from the last byte of the record in assembly. -/
def State.gapExpires (s : State) : State :=
  match s.link.receive with
  | .hunt _ => s
  | .assemble a => if due (some (a.lastByte + ms 20)) s.now then s.setReceive (.hunt none) else s

/-- INTER_BYTE_GAP (R160). -/
def execInterByteGap (dt : Nat) (s : State) : Host.Outcome State Fault Refusal :=
  ((Rule.begin s dt).upd State.gapExpires).finish

/-- LINE_BREAK (R160): the record in assembly is discarded, and the receiver is in HUNT with the half clear. -/
def execLineBreak (dt : Nat) (s : State) : Host.Outcome State Fault Refusal :=
  ((Rule.begin s dt).upd (fun s => s.setReceive (.hunt none))).finish

/-- FORMAT_REFUSAL (R162): a complete record that is no request's arrives. -/
def execFormatRefusal (dt : Nat) (kind : Byte) (payload : List Byte) (s : State) : Host.Outcome State Fault Refusal :=
  ((Rule.begin s dt).arrives ⟨kind, payload⟩).finish

/-! ## Transmitting -/

/-- R162, R165: the reply has been sent: the slot empties, and a record waiting in the buffer is taken for decision. -/
def Rule.replySent (r : Rule) : Rule :=
  let r1 := r.upd (fun s => s.setLink { s.link with slot := none })
  match r.st.link.buffer with
  | [] => r1
  | d :: rest => (r1.upd (fun s => s.setLink { s.link with buffer := rest })).takeRecord d

/-- R165: a record finishes sending; once the blocks have come to rest the transmitter chooses. -/
def Rule.transmitEnds (r : Rule) : Rule :=
  match r.st.link.transmitter with
  | .idle => r
  | .reply => (r.replySent.settle settleBound).upd (fun s => s.setLink s.link.choose)
  | .report _ => r.upd (fun s => s.setLink s.link.choose)

/-- TRANSMIT_END (R165). -/
def execTransmitEnd (dt : Nat) (s : State) : Host.Outcome State Fault Refusal := (Rule.begin s dt).transmitEnds.finish

/-! ## The clock -/

/-- R168: one second has passed since the time of day was set or last advanced. -/
def Link.tick (l : Link) (now : Instant) : Link :=
  if due l.nextSecond now then
    { l with clock := l.clock.map nextTimeOfDay, nextSecond := l.nextSecond.map (fun t => t + ms 1000) }
  else l

/-- CLOCK_ADVANCE (R168). -/
def execClockAdvance (dt : Nat) (s : State) : Host.Outcome State Fault Refusal :=
  ((Rule.begin s dt).upd (fun s => s.setLink (s.link.tick s.now))).finish

end Sys2Proof.Machine
end

