-- ==== Sys2Proof/Machine/Requests.lean ====
section
/-! DEFINITION. The commands that stand for a console request: the complete record of the request arrives on the line
(R161, R162); it is decided at once where the buffer and the slot are empty, and waits or is lost otherwise (log entry 11). -/

namespace Sys2Proof.Machine

/-- The rule of a request command: its record arrives. -/
def Rule.request (r : Rule) (q : Request) : Rule := r.arrives (recordOf q)

/-- RUN_MOTOR (R16). -/
def execRunMotor (dt : Nat) (p : Byte) (s : State) : Host.Outcome State Fault Refusal :=
  ((Rule.begin s dt).request (.runMotor p)).finish

/-- STOP_MOTOR (R17). -/
def execStopMotor (dt : Nat) (p : Byte) (s : State) : Host.Outcome State Fault Refusal :=
  ((Rule.begin s dt).request (.stopMotor p)).finish

/-- SET_SPEED (R15). -/
def execSetSpeed (dt : Nat) (h speed : Byte) (s : State) : Host.Outcome State Fault Refusal :=
  ((Rule.begin s dt).request (.setSpeed h speed)).finish

/-- SET_CUE_SENSE (R34). -/
def execSetCueSense (dt : Nat) (p threshold hysteresis : Byte) (s : State) : Host.Outcome State Fault Refusal :=
  ((Rule.begin s dt).request (.setCueSense p threshold hysteresis)).finish

/-- CUE_CLEAR (R33). -/
def execCueClear (dt : Nat) (p : Byte) (s : State) : Host.Outcome State Fault Refusal :=
  ((Rule.begin s dt).request (.cueClear p)).finish

/-- DOUSER_TRIAL (R45). -/
def execDouserTrial (dt : Nat) (p : Byte) (s : State) : Host.Outcome State Fault Refusal :=
  ((Rule.begin s dt).request (.douserTrial p)).finish

/-- STRIKE (R53). -/
def execStrike (dt : Nat) (p : Byte) (s : State) : Host.Outcome State Fault Refusal :=
  ((Rule.begin s dt).request (.strike p)).finish

/-- EXTINGUISH (R69). -/
def execExtinguish (dt : Nat) (p : Byte) (s : State) : Host.Outcome State Fault Refusal :=
  ((Rule.begin s dt).request (.extinguish p)).finish

/-- SET_ARC (R71). -/
def execSetArc (dt : Nat) (p current : Byte) (voltage : BitVec 16) (autostrike : Bool) (s : State) : Host.Outcome State Fault Refusal :=
  ((Rule.begin s dt).request (.setArc p current voltage autostrike)).finish

/-- LOAD_CARBON (R74). -/
def execLoadCarbon (dt : Nat) (p : Byte) (length : BitVec 16) (s : State) : Host.Outcome State Fault Refusal :=
  ((Rule.begin s dt).request (.loadCarbon p length)).finish

/-- CLEAR_PROGRAM (R87). -/
def execClearProgram (dt : Nat) (h : Byte) (s : State) : Host.Outcome State Fault Refusal :=
  ((Rule.begin s dt).request (.clearProgram h)).finish

/-- ADD_REEL (R86). -/
def execAddReel (dt : Nat) (h : Byte) (entry : ReelSpec) (s : State) : Host.Outcome State Fault Refusal :=
  ((Rule.begin s dt).request (.addReel h entry)).finish

/-- ARM_REEL (R88). -/
def execArmReel (dt : Nat) (p reel : Byte) (frame : Option (BitVec 16)) (s : State) : Host.Outcome State Fault Refusal :=
  ((Rule.begin s dt).request (.armReel p reel frame)).finish

/-- UNARM (R90). -/
def execUnarm (dt : Nat) (p : Byte) (s : State) : Host.Outcome State Fault Refusal :=
  ((Rule.begin s dt).request (.unarm p)).finish

/-- START (R94). -/
def execStart (dt : Nat) (h : Byte) (s : State) : Host.Outcome State Fault Refusal :=
  ((Rule.begin s dt).request (.start h)).finish

/-- HOLD (R98). -/
def execHold (dt : Nat) (h : Byte) (s : State) : Host.Outcome State Fault Refusal :=
  ((Rule.begin s dt).request (.hold h)).finish

/-- CHANGE_NOW (R120). -/
def execChangeNow (dt : Nat) (h : Byte) (s : State) : Host.Outcome State Fault Refusal :=
  ((Rule.begin s dt).request (.changeNow h)).finish

/-- SET_HOUSE_LEVELS (R99). -/
def execSetHouseLevels (dt : Nat) (h : Byte) (hold runout brk emergency : BitVec 16) (s : State) : Host.Outcome State Fault Refusal :=
  ((Rule.begin s dt).request (.setHouseLevels h hold runout brk emergency)).finish

/-- LIGHTS_SET (R135). -/
def execLightsSet (dt : Nat) (h : Byte) (target fade : BitVec 16) (s : State) : Host.Outcome State Fault Refusal :=
  ((Rule.begin s dt).request (.lightsSet h target fade)).finish

/-- LIGHTS_RELEASE (R136). -/
def execLightsRelease (dt : Nat) (h : Byte) (fade : BitVec 16) (s : State) : Host.Outcome State Fault Refusal :=
  ((Rule.begin s dt).request (.lightsRelease h fade)).finish

/-- CLEAR_SAFETY (R134). -/
def execClearSafety (dt : Nat) (h : Byte) (s : State) : Host.Outcome State Fault Refusal :=
  ((Rule.begin s dt).request (.clearSafety h)).finish

/-- ARM_PORT (R140). -/
def execArmPort (dt : Nat) (n : Byte) (s : State) : Host.Outcome State Fault Refusal :=
  ((Rule.begin s dt).request (.armPort n)).finish

/-- DROP_TEST (R156). -/
def execDropTest (dt : Nat) (form : DropForm) (n : Byte) (s : State) : Host.Outcome State Fault Refusal :=
  ((Rule.begin s dt).request (.dropTest form n)).finish

/-- CLEAR_EMERGENCY (R154). -/
def execClearEmergency (dt : Nat) (s : State) : Host.Outcome State Fault Refusal :=
  ((Rule.begin s dt).request (.clearEmergency)).finish

/-- STATUS (R166). -/
def execStatus (dt : Nat) (subject : StatusSubject) (n first : Byte) (s : State) : Host.Outcome State Fault Refusal :=
  ((Rule.begin s dt).request (.status subject n first)).finish

/-- READ_LOG (R167). -/
def execReadLog (dt : Nat) (seq : BitVec 16) (s : State) : Host.Outcome State Fault Refusal :=
  ((Rule.begin s dt).request (.readLog seq)).finish

/-- SET_CLOCK (R168). -/
def execSetClock (dt : Nat) (time : BitVec 24) (s : State) : Host.Outcome State Fault Refusal :=
  ((Rule.begin s dt).request (.setClock time)).finish

/-- The RESTART whose record arrives now is decided in this rule, and accepted (R162, R169). -/
def State.takesRestart (s : State) : Bool := s.link.buffer = [] ∧ s.link.slot = none ∧ ¬ s.busy

/-- R48: the douser switches are read as the command says (00_scope: they are input pins; log entry 6), where the RESTART
is accepted in this rule. One that is refused or lost reads nothing, and one that waits is not told what they read when it
is taken. -/
def State.readSwitches (s : State) (switches : Bank SwitchPair 8) : State :=
  if s.takesRestart then
    s.each (fun s p => s.setDs p { s.ds p with switches := some ⟨switches.cell p, s.now⟩ }) allProjs
  else s

/-- RESTART (R169): `switches` is what the douser switches read at this instant (R48). -/
def execRestart (dt : Nat) (switches : Bank SwitchPair 8) (s : State) : Host.Outcome State Fault Refusal :=
  (((Rule.begin s dt).upd (fun s => s.readSwitches switches)).request .restart).finish

end Sys2Proof.Machine
end

