-- ==== Sys2Proof/Machine/Dispatch.lean ====
section
/-! DEFINITION. One arm per command: one direct call of its meaning. -/

namespace Sys2Proof.Machine

def exec (i : Instr) (s : State) : Host.Outcome State Fault Refusal :=
  match i with
  | .powerOn dt inputs => Sys2Proof.Machine.execPowerOn dt inputs s
  | .receiveByte dt b stopOk => Sys2Proof.Machine.execReceiveByte dt b stopOk s
  | .syncHalfTimeout dt => Sys2Proof.Machine.execSyncHalfTimeout dt s
  | .interByteGap dt => Sys2Proof.Machine.execInterByteGap dt s
  | .lineBreak dt => Sys2Proof.Machine.execLineBreak dt s
  | .formatRefusal dt kind payload => Sys2Proof.Machine.execFormatRefusal dt kind payload s
  | .transmitEnd dt => Sys2Proof.Machine.execTransmitEnd dt s
  | .clockAdvance dt => Sys2Proof.Machine.execClockAdvance dt s
  | .runMotor dt p => Sys2Proof.Machine.execRunMotor dt p s
  | .stopMotor dt p => Sys2Proof.Machine.execStopMotor dt p s
  | .setSpeed dt h speed => Sys2Proof.Machine.execSetSpeed dt h speed s
  | .setCueSense dt p threshold hysteresis => Sys2Proof.Machine.execSetCueSense dt p threshold hysteresis s
  | .cueClear dt p => Sys2Proof.Machine.execCueClear dt p s
  | .douserTrial dt p => Sys2Proof.Machine.execDouserTrial dt p s
  | .strike dt p => Sys2Proof.Machine.execStrike dt p s
  | .extinguish dt p => Sys2Proof.Machine.execExtinguish dt p s
  | .setArc dt p current voltage autostrike => Sys2Proof.Machine.execSetArc dt p current voltage autostrike s
  | .loadCarbon dt p length => Sys2Proof.Machine.execLoadCarbon dt p length s
  | .clearProgram dt h => Sys2Proof.Machine.execClearProgram dt h s
  | .addReel dt h entry => Sys2Proof.Machine.execAddReel dt h entry s
  | .armReel dt p reel frame => Sys2Proof.Machine.execArmReel dt p reel frame s
  | .unarm dt p => Sys2Proof.Machine.execUnarm dt p s
  | .start dt h => Sys2Proof.Machine.execStart dt h s
  | .hold dt h => Sys2Proof.Machine.execHold dt h s
  | .changeNow dt h => Sys2Proof.Machine.execChangeNow dt h s
  | .setHouseLevels dt h hold runout brk emergency => Sys2Proof.Machine.execSetHouseLevels dt h hold runout brk emergency s
  | .lightsSet dt h target fade => Sys2Proof.Machine.execLightsSet dt h target fade s
  | .lightsRelease dt h fade => Sys2Proof.Machine.execLightsRelease dt h fade s
  | .clearSafety dt h => Sys2Proof.Machine.execClearSafety dt h s
  | .armPort dt n => Sys2Proof.Machine.execArmPort dt n s
  | .dropTest dt form n => Sys2Proof.Machine.execDropTest dt form n s
  | .clearEmergency dt => Sys2Proof.Machine.execClearEmergency dt s
  | .status dt subject n first => Sys2Proof.Machine.execStatus dt subject n first s
  | .readLog dt seq => Sys2Proof.Machine.execReadLog dt seq s
  | .setClock dt time => Sys2Proof.Machine.execSetClock dt time s
  | .restart dt switches => Sys2Proof.Machine.execRestart dt switches s
  | .tachPulse dt p reading => Sys2Proof.Machine.execTachPulse dt p reading s
  | .runupLimit dt p => Sys2Proof.Machine.execRunupLimit dt p s
  | .missingPulseDeadline dt p => Sys2Proof.Machine.execMissingPulseDeadline dt p s
  | .breakDeadline dt p => Sys2Proof.Machine.execBreakDeadline dt p s
  | .runDownExpiry dt p => Sys2Proof.Machine.execRunDownExpiry dt p s
  | .delayEnd dt h => Sys2Proof.Machine.execDelayEnd dt h s
  | .crossingOpenInstant dt h => Sys2Proof.Machine.execCrossingOpenInstant dt h s
  | .crossingCloseInstant dt h => Sys2Proof.Machine.execCrossingCloseInstant dt h s
  | .soundInstant dt h => Sys2Proof.Machine.execSoundInstant dt h s
  | .holdButton dt h => Sys2Proof.Machine.execHoldButton dt h s
  | .changeButton dt h => Sys2Proof.Machine.execChangeButton dt h s
  | .douserSwitchCloses dt p sw => Sys2Proof.Machine.execDouserSwitchCloses dt p sw s
  | .travelLimit dt p => Sys2Proof.Machine.execTravelLimit dt p s
  | .trialPauseEnd dt p => Sys2Proof.Machine.execTrialPauseEnd dt p s
  | .arcReading dt p volts amps => Sys2Proof.Machine.execArcReading dt p volts amps s
  | .supplyLimit dt p => Sys2Proof.Machine.execSupplyLimit dt p s
  | .feedPulseSend dt p => Sys2Proof.Machine.execFeedPulseSend dt p s
  | .feedSensePulse dt p amps => Sys2Proof.Machine.execFeedSensePulse dt p amps s
  | .feedStall dt p => Sys2Proof.Machine.execFeedStall dt p s
  | .settleEnd dt p => Sys2Proof.Machine.execSettleEnd dt p s
  | .voltageSample dt p volts => Sys2Proof.Machine.execVoltageSample dt p volts s
  | .blankOutEnd dt p => Sys2Proof.Machine.execBlankOutEnd dt p s
  | .arcOut dt p => Sys2Proof.Machine.execArcOut dt p s
  | .bandEpisodeExpiry dt p => Sys2Proof.Machine.execBandEpisodeExpiry dt p s
  | .minuteEnd dt p => Sys2Proof.Machine.execMinuteEnd dt p s
  | .fadeStep dt h => Sys2Proof.Machine.execFadeStep dt h s
  | .upSwitchCloses dt n => Sys2Proof.Machine.execUpSwitchCloses dt n s
  | .upSwitchOpens dt n => Sys2Proof.Machine.execUpSwitchOpens dt n s
  | .downSwitchCloses dt n => Sys2Proof.Machine.execDownSwitchCloses dt n s
  | .downSwitchOpens dt n => Sys2Proof.Machine.execDownSwitchOpens dt n s
  | .armWindowEnd dt n => Sys2Proof.Machine.execArmWindowEnd dt n s
  | .confirmationLimit dt n => Sys2Proof.Machine.execConfirmationLimit dt n s
  | .fusibleLinkOpens dt => Sys2Proof.Machine.execFusibleLinkOpens dt s
  | .fusibleLinkCloses dt => Sys2Proof.Machine.execFusibleLinkCloses dt s
  | .gateHeatAsserts dt p => Sys2Proof.Machine.execGateHeatAsserts dt p s
  | .gateHeatDeasserts dt p => Sys2Proof.Machine.execGateHeatDeasserts dt p s
  | .emergencyButtonPress dt => Sys2Proof.Machine.execEmergencyButtonPress dt s
  | .emergencyButtonRelease dt => Sys2Proof.Machine.execEmergencyButtonRelease dt s
  | .temperatureReading dt degrees => Sys2Proof.Machine.execTemperatureReading dt degrees s

end Sys2Proof.Machine
end

