-- ==== Sys2Proof/Safety.lean ====
section
/-! DEFINITION. What the statements speak of: a link that takes a record at once, the reply that a request leaves, a house
that has nothing to do with a show, and the safe states of the booth (the laws that every command keeps). -/

namespace Sys2Proof.Machine

/-! ## The link -/

/-- R161, R162, R165: a record that arrives is taken for decision at once: the buffer and the slot are empty, and a
transmitter that is IDLE has no report waiting. -/
abbrev State.linkReady (s : State) : Prop :=
  s.link.buffer = [] ∧ s.link.slot = none ∧ (s.link.transmitter = .idle → s.link.queue = [])

/-- R163, R165: a reply stands in the slot, and an IDLE transmitter sends it. -/
def Link.replied (l : Link) (x : Reply) : Link :=
  { l with slot := some x, transmitter := if l.transmitter = .idle then .reply else l.transmitter }

/-- The state with a reply placed. -/
def State.replied (s : State) (x : Reply) : State := s.setLink (s.link.replied x)

/-- The command that stands for the arrival of a request's record (log entry 11); `switches` is what RESTART carries
beside it. -/
def commandOf (q : Request) (dt : Nat) (switches : Bank SwitchPair 8) : Instr :=
  match q with
  | .runMotor p => .runMotor dt p
  | .stopMotor p => .stopMotor dt p
  | .setSpeed h speed => .setSpeed dt h speed
  | .setCueSense p t y => .setCueSense dt p t y
  | .cueClear p => .cueClear dt p
  | .douserTrial p => .douserTrial dt p
  | .strike p => .strike dt p
  | .extinguish p => .extinguish dt p
  | .setArc p i v auto => .setArc dt p i v auto
  | .loadCarbon p length => .loadCarbon dt p length
  | .clearProgram h => .clearProgram dt h
  | .addReel h e => .addReel dt h e
  | .armReel p reel frame => .armReel dt p reel frame
  | .unarm p => .unarm dt p
  | .start h => .start dt h
  | .hold h => .hold dt h
  | .changeNow h => .changeNow dt h
  | .setHouseLevels h a b c d => .setHouseLevels dt h a b c d
  | .lightsSet h target fade => .lightsSet dt h target fade
  | .lightsRelease h fade => .lightsRelease dt h fade
  | .clearSafety h => .clearSafety dt h
  | .armPort n => .armPort dt n
  | .dropTest form n => .dropTest dt form n
  | .clearEmergency => .clearEmergency dt
  | .status subject n first => .status dt subject n first
  | .readLog seq => .readLog dt seq
  | .setClock time => .setClock dt time
  | .restart => .restart dt switches

/-- Bytes received one after another, at one instant, each with a good stop bit. -/
def receiveAll : List Byte → State → Host.Outcome State Fault Refusal
  | [], s => .next s
  | b :: rest, s => match exec (.receiveByte 0 b true) s with
    | .next t => receiveAll rest t
    | other => other

/-! ## Power-on -/

/-- R157: the fire causes that the inputs activate at power-on, in their order: FUSIBLE, EMERGENCY, each FILM FIRE in projector
order, and CRITICAL from the first temperature reading (R155). -/
def powerOnCauses (i : FieldInputs) : List (DropCause × Option Proj) :=
  (if i.fusibleOpen then [(.fusible, none)] else []) ++ (if i.emergencyPressed then [(.emergency, none)] else []) ++
    (allProjs.filter (fun p => i.gateHeat.cell p)).map (fun p => (.filmFire, some p)) ++
    (if 55 ≤ i.temperature then [(.critical, none)] else [])

/-- R157, R144: the drop records of the causes activated at power-on, numbered from 1. Every port is DOWN, so each record lists
its ports ALREADY; no projector is ARMED and the time of day is invalid, so it has no footage and no time. -/
def powerOnRecords (i : FieldInputs) : List DropRecord :=
  ((powerOnCauses i).zipIdx 1).map (fun x =>
    { seq := x.2
      cause := x.1.1
      projector := x.1.2
      footage := none
      time := none
      ports := (coverage x.1.1 x.1.2 []).map (fun n => ⟨n, .already⟩) })

/-- R155: the first reading graded from NORMAL. -/
def powerOnGrade (reading : Nat) : Grade :=
  if reading < 35 then .normal else if reading < 45 then .warm else if reading < 55 then .hot else .critical

/-- R146, R148: the two reports of an activation at power-on, whose record is settled at its writing. -/
def DropRecord.announced (d : DropRecord) : List ReportBody :=
  [.fireCauseOn d.cause d.projector d.seq, .portDropped d.seq (some d.cause) d.projector]

/-- R157, R155: the reports that follow RESTARTED (POWER-ON): those of each activation, and TEMP GRADE before those of
CRITICAL. -/
def powerOnReports (i : FieldInputs) : List ReportBody :=
  ((powerOnRecords i).filter (fun d => d.cause ≠ .critical)).flatMap DropRecord.announced ++
    (if i.temperature < 35 then [] else [.tempGrade .normal (powerOnGrade i.temperature) i.temperature]) ++
    ((powerOnRecords i).filter (fun d => d.cause = .critical)).flatMap DropRecord.announced

/-! ## Houses at rest -/

/-- A house that is in no show, has no changeover record, no retiring projector and no runout count: no rule of the house
controller is waiting on its projectors. -/
abbrev State.houseAtRest (s : State) (h : HouseId) : Prop :=
  (s.hs h).state.inShow = false ∧ (s.hs h).change = none ∧ (s.hs h).retiring = none ∧ (s.hs h).dark = false ∧
    (s.hs h).runoutCount = none

/-- The house of a projector is at rest and its douser is not STUCK. -/
abbrev State.atRest (s : State) (p : Proj) : Prop := s.houseAtRest (houseOf p) ∧ (s.ds p).state ≠ .stuck

/-! ## Sufficiency -/

/-- R79, R80: the judgement of lamp `p` against the entry its projector holds: the frames remaining to the tail, the need
at the house's speed, and whether the account covers it. -/
def State.sufficiencyOf (s : State) (p : Proj) : Option Sufficiency :=
  match s.heldEntry p with
  | none => none
  | some e =>
    let frames := e.leader + e.picture - (s.tr p).counter
    let need := ((s.lp p).rate * frames + 60 * s.speedOf p - 1) / (60 * s.speedOf p) + 300
    some ⟨decide (need ≤ (s.lp p).account), need, frames⟩

/-! ## A house in a show -/

/-- Projector `p` is the live one of SHOWING house `h`, RUNNING with entry `e` and more than a frame short of its tail, its
reader WATCHing or assembling with no entry queued or held, and no projector of the house retires or runs out. -/
abbrev State.showsReel (s : State) (h : HouseId) (p : Proj) (e : ReelEntry) : Prop :=
  houseOf p = h ∧ (s.hs h).state = .showing ∧ (s.hs h).liveSide = some (sideOf p) ∧ (s.hs h).retiring = none ∧
    (s.hs h).runoutCount = none ∧ (s.tr p).state = .running ∧ (s.tr p).lastPulse ≠ none ∧ (s.tr p).armed.map (fun a => a.house) = some h ∧
    s.heldEntry p = some e ∧ (s.tr p).counter + 1 < e.leader + e.picture ∧ (s.tr p).counter < 65535 ∧
    (s.rd p).queue = [] ∧ (s.rd p).held = []

/-- The record's incoming is not RUNNING at its picture (R114). -/
abbrev State.shortOfPicture (s : State) (q : Proj) : Prop :=
  (s.tr q).state ≠ .running ∨ (s.tr q).counter < s.leaderOf q

/-- R119: projector `p` can show picture: RUNNING, its lamp BURNING, its port HELD and its douser not STUCK. -/
abbrev State.canShow (s : State) (p : Proj) : Prop :=
  (s.tr p).state = .running ∧ (s.lp p).state = .burning ∧ (s.pt (projPort p)).state = .held ∧ (s.ds p).state ≠ .stuck

/-- R105: projector `q` is the started incoming of the changeover record of SHOWING house `h`, whose phase is one of
`phases`, opposite its live side, and no projector of the house retires. -/
abbrev State.changesTo (s : State) (h : HouseId) (q : Proj) (y : Changeover) (e : ReelEntry) (phases : List ChangePhase) : Prop :=
  houseOf q = h ∧ (s.hs h).state = .showing ∧ (s.hs h).liveSide = some (sideOf (otherProj q)) ∧
    (s.hs h).retiring = none ∧ (s.hs h).change = some y ∧ y.incoming = q ∧ y.phase ∈ phases ∧
    (s.tr q).armed.map (fun a => a.house) = some h ∧ s.heldEntry q = some e

/-- R105, R112: the changeover record `y` of SHOWING house `h`, whose incoming `q` is opposite its live side, waits for `q` to become
ready to follow: in WAIT_READY, or in DELAY with its start withheld. -/
abbrev State.awaits (s : State) (h : HouseId) (q : Proj) (y : Changeover) : Prop :=
  houseOf q = h ∧ (s.hs h).state = .showing ∧ (s.hs h).liveSide = some (sideOf (otherProj q)) ∧ (s.hs h).change = some y ∧
    y.incoming = q ∧ (y.phase = .waitReady ∨ (y.phase = .delay ∧ y.delayEnd = none))

/-- R3, R112: from state `w` to `t` the incoming `q` of house `h` is started, its run-up begun afresh, and nothing else changes but
that house's record and the link, of which this says nothing. -/
abbrev State.starts (w t : State) (h : HouseId) (q : Proj) : Prop :=
  t.tr q = { w.tr q with
      state := .starting
      motorOn := some w.now
      lastPulse := none
      lockRunStart := none
      lockCount := 0
      outCount := 0
      miss := .normal
      speedFault := false
      recovery := 0 } ∧
    (t.rd q).queue = (w.rd q).queue ∧ (∀ x, x ≠ q → t.tr x = w.tr x ∧ t.rd x = w.rd x) ∧ (∀ g, g ≠ h → t.hs g = w.hs g) ∧
    t.dousers = w.dousers ∧ t.lamps = w.lamps ∧ t.lights = w.lights ∧ t.ports = w.ports ∧ t.booth = w.booth

/-- R80: the lamp of projector `p` is judged afresh. -/
def State.judged (s : State) (p : Proj) : State := s.setLp p { s.lp p with sufficiency := s.sufficiencyOf p }

/-- R92, R112: command `c`, an event that can make projector `q` READY, taken `dt` after state `s`, leaves the records that the
house controller reads as they are in `w`: the lamp becomes BURNING (R58) or its projector is judged sufficient (R78, R71), the
port becomes HELD (R141, R140), the douser CLOSED (R40, by a travel that is not full), or the entry is ARMED (R89; the
reader of an EMPTY projector assembles no group, R20). -/
inductive ReadinessEvent (s : State) (dt : Nat) (q : Proj) : Instr → State → Prop where
  | settleEnd (u : Instant) : (s.lp q).state = .settling → (s.lp q).settleStart = some u → u + 100000 ≤ s.now + dt →
      ReadinessEvent s dt q (.settleEnd dt q) (((s.elapse dt).setLp q { s.lp q with
        state := .burning
        settleStart := none
        minute := some ⟨s.now + dt, 0⟩ }).reportProj q (.struck (s.lp q).current (s.lp q).voltage (s.lp q).sweepPulses
          (s.lp q).account (s.lp q).restrikeUsed))
  | minuteEnd (m : Minute) (r : Nat) : (s.lp q).state = .burning → (s.lp q).minute = some m →
      m.start + 600000 ≤ s.now + dt → r = min 255 ((7 * (s.lp q).rate + m.pulses + 4) / 8) → r ≠ (s.lp q).rate →
      ReadinessEvent s dt q (.minuteEnd dt q) (((s.elapse dt).setLp q { s.lp q with
        rate := r
        minute := some ⟨s.now + dt, 0⟩ }).judged q)
  | setArc (b current : Byte) (voltage : BitVec 16) (auto : Bool) (i v : Nat) : b.toNat = q.val + 1 → s.linkReady →
      s.link.transmitter ≠ .idle → i = max 40 (min 90 current.toNat) → v = max 450 (min 700 voltage.toNat) →
      i ≠ (s.lp q).current →
      ReadinessEvent s dt q (.setArc dt b current voltage auto) ((((s.elapse dt).setLp q { s.lp q with
        current := i
        voltage := v
        autostrike := auto
        rate := 6 * i / 5
        band := if 85 * i ≤ 100 * (s.lp q).amps ∧ 100 * (s.lp q).amps ≤ 115 * i then none
          else (s.lp q).band }).judged q).replied (.done 24 (.arc i v auto)))
  | upSwitchCloses : (s.pt (projPort q)).state = .arming →
      ReadinessEvent s dt q (.upSwitchCloses dt (projPort q)) (((s.elapse dt).setPt (projPort q) { s.pt (projPort q) with
        state := .held
        windowEnd := none
        upSwitch := true }).reportPort (projPort q) .portHeld)
  | armPort (b : Byte) : b.toNat = (projPort q).val + 1 → s.linkReady → s.link.transmitter ≠ .idle →
      (s.pt (projPort q)).state = .down → s.booth.covers (projPort q) = false → (s.pt (projPort q)).upSwitch = true →
      ReadinessEvent s dt q (.armPort dt b) ((((s.elapse dt).setPt (projPort q) { s.pt (projPort q) with
        state := .held
        windowEnd := none }).reportPort (projPort q) .portHeld).replied (.done 37 (.portState .held)))
  | douserCloses (x : Travel) : (s.ds q).state = .closing → (s.ds q).travel = some x → x.full = false →
      ReadinessEvent s dt q (.douserSwitchCloses dt q .closedEnd) ((s.elapse dt).setDs q { s.ds q with
        state := .closed
        travel := none
        switches := some ⟨⟨false, true⟩, s.now + dt⟩ })
  | armReel (b reel : Byte) (start : Option (BitVec 16)) (e : ReelEntry) (n : Nat) (w : State) : b.toNat = q.val + 1 →
      s.linkReady → s.link.transmitter ≠ .idle → (s.tr q).armed = none → (s.tr q).state = .stopped →
      (s.rd q).assembling = false →
      findReel (s.hs (houseOf q)).plan reel.toNat = some e → (e.status = .pending ∨ e.status = .interrupted) →
      e.side = sideOf q → n = (match start with | none => 0 | some x => x.toNat) → n < e.leader + e.picture →
      w = ((((s.elapse dt).setHs (houseOf q) { s.hs (houseOf q) with
        plan := (s.hs (houseOf q)).plan.map (fun x => if x.reel = e.reel then
          { x with status := .armed, cues := x.cues.map (fun c => { c with fired := false }) } else x) }).setTr q { s.tr q with
        armed := some ⟨houseOf q, e.reel, n⟩
        counter := n }).setRd q { s.rd q with
        state := if n < e.leader then .hunt else .watch
        group := none
        held := []
        queue := [] }).setLp q { s.lp q with carbonLow := false } →
      ReadinessEvent s dt q (.armReel dt b reel start) ((w.judged q).replied (.done 28 (.judged (w.sufficiencyOf q))))

/-- R110: no counted MOTOR is due on projector `p` with entry `w`: its expected motor frame is not passed by 48 frames, or its
MOTOR has been taken. -/
abbrev State.noCountedMotor (s : State) (p : Proj) (w : ReelEntry) (marks : ReelMarks) : Prop :=
  ∀ n, w.motorFrame = some n → (s.tr p).counter < n + 48 ∨ marks.motorTaken = true

/-- R110: no counted CHANGE is due on projector `p` with entry `w`: its expected change frame is not passed by 12 frames, or
its CHANGE has been taken. -/
abbrev State.noCountedChange (s : State) (p : Proj) (w : ReelEntry) (marks : ReelMarks) : Prop :=
  ∀ n, w.changeFrame = some n → (s.tr p).counter < n + 12 ∨ marks.changeTaken = true

/-! ## Laws of the records of a show

What every command keeps of them, so that a statement about a house may rest on it. -/

/-- R97, R100, R105: a house that is not SHOWING has no changeover record. -/
abbrev State.recordInShow (s : State) (h : HouseId) : Prop := (s.hs h).state ≠ .showing → (s.hs h).change = none

/-- R85: the reel numbers of a house's plan are distinct. -/
abbrev State.distinctReels (s : State) (h : HouseId) : Prop := ((s.hs h).plan.map (fun e => e.reel)).Nodup

/-- R88: a projector is ARMED for its own house only. -/
abbrev State.armedAtHome (s : State) (p : Proj) : Prop := ∀ a, (s.tr p).armed = some a → a.house = houseOf p

/-- R41: the learned times of a douser are at least 40 ms. -/
abbrev State.timesLearned (s : State) (p : Proj) : Prop := 40 ≤ (s.ds p).openTime ∧ 40 ≤ (s.ds p).closeTime

/-! ## The run-down of a reel -/

/-- R151: a transport of `p` that is not RUNNING raises no DOUSER cause: the douser is not STUCK, or the lamp is OFF. -/
abbrev State.noDouserCause (s : State) (p : Proj) : Prop := (s.ds p).state ≠ .stuck ∨ (s.lp p).state = .off

/-- R100, R101: projector `p` is the live one of ENDING house `h` with the last entry `e`, its douser given its close command
and its sound gate on its side or NONE, and `x` is the end record. -/
abbrev State.endsReel (s : State) (h : HouseId) (p : Proj) (e : ReelEntry) (x : EndRecord) : Prop :=
  houseOf p = h ∧ (s.hs h).state = .ending ∧ (s.hs h).liveSide = some (sideOf p) ∧ (s.hs h).ending = some x ∧
    (s.hs h).change = none ∧ (s.hs h).runoutCount = none ∧ (s.hs h).retiring.map (fun y => y.projector) ≠ some p ∧
    (s.tr p).armed.map (fun a => a.house) = some h ∧ s.heldEntry p = some e ∧ s.distinctReels h ∧
    (s.ds p).state ≠ .opened ∧ (s.ds p).state ≠ .opening ∧ (s.ds p).trial = none ∧
    ((s.hs h).gate = .side (sideOf p) ∨ (s.hs h).gate = .none)

/-- R117: the crossing `x` of record `y` of house `h`, to `q` with entry `e` from `out` with entry `g`, wants only the outgoing
douser's closed switch: the sound is switched, the incoming douser OPEN and the outgoing one CLOSING; the incoming has no cue entry
waiting and its light cues have fired. -/
abbrev State.nearlyCrossed (s : State) (h : HouseId) (q out : Proj) (y : Changeover) (x : Crossing) (e g : ReelEntry) : Prop :=
  (s.hs h).state = .showing ∧ (s.hs h).change = some y ∧ y.phase = .crossing ∧ y.crossing = some x ∧ x.switched = true ∧
    y.incoming = q ∧ houseOf q = h ∧ out = otherProj q ∧ (s.hs h).liveSide = some (sideOf out) ∧
    (s.ds q).state = .opened ∧ (s.ds out).state = .closing ∧ (s.ds out).trial = none ∧ (s.ds out).travel ≠ none ∧
    (s.tr q).armed.map (fun a => (a.house, a.reel)) = some (h, e.reel) ∧
    (s.tr out).armed.map (fun a => (a.house, a.reel)) = some (h, g.reel) ∧ e.reel ≠ g.reel ∧
    s.heldEntry q = some e ∧ s.heldEntry out = some g ∧ (∀ w ∈ e.cues, w.fired = true) ∧ (s.rd q).queue = [] ∧
    s.distinctReels h

/-- R118: projector `p` of house `h`, not live, retires with the DONE entry `e`, phase `phase` and `k` run-out pulses, its douser
closing, CLOSED or STUCK and the sound gate not on its side. A STARTING house starts the other projector, which is not RUNNING
yet, and a changeover record waits for this very projector (R107). -/
abbrev State.retires (s : State) (h : HouseId) (p : Proj) (e : ReelEntry) (phase : RetirePhase) (k : Nat) : Prop :=
  houseOf p = h ∧ (s.hs h).retiring = some ⟨p, phase, k⟩ ∧ (s.hs h).liveSide ≠ some (sideOf p) ∧
    ((s.hs h).state = .starting → (s.hs h).startingSide ≠ some (sideOf p) ∧ (s.tr (otherProj p)).state ≠ .running) ∧
    (∀ y, (s.hs h).change = some y → y.phase = .waitReady ∧ y.incoming = p) ∧
    (s.tr p).armed.map (fun a => a.house) = some h ∧ s.heldEntry p = some e ∧ e.status = .finished ∧ s.distinctReels h ∧
    (s.ds p).state ≠ .opened ∧ (s.ds p).state ≠ .opening ∧ (s.hs h).gate ≠ .side (sideOf p)

/-! ## Lamps -/

/-- R54 to R58, R68: a lamp has a strike phase only while it is STRIKING. -/
abbrev Lamp.phased (l : Lamp) : Prop := l.phase ≠ none → l.state = .striking

/-- R68: what a lamp leaves behind when it becomes OFF with a stop reason: every field of the strike, the burst and the
watches absent, empty or clear. -/
def Lamp.stopped (l : Lamp) (reason : StopReason) : Lamp :=
  { l with
    state := .off
    stop := some reason
    phase := none
    phaseStart := none
    settleStart := none
    outstanding := none
    burst := none
    blankEnd := none
    lowStart := none
    band := none
    samples := []
    deferred := false
    minute := none
    nextSample := none }

/-- R54: the lamp as a strike sequence begins. -/
def Lamp.struckAt (l : Lamp) (now : Instant) : Lamp :=
  { l with
    state := .striking
    phase := some .supply
    phaseStart := some now
    highSupply := 0
    sweepPulses := 0
    drawPulses := 0
    stalls := 0
    settleStart := none
    outstanding := none
    burst := none
    blankEnd := none
    lowStart := none
    band := none
    samples := []
    deferred := false
    minute := none
    nextSample := none }

/-- R66: a failure in a restrike of lamp `p`, whose record was `x`, is reported with STRIKE FAIL; one of a first strike or of a
lamp that burns is not (log entry 45). -/
def Link.restrikeFails (l : Link) (p : Proj) (x : Lamp) (reason : StopReason) : Link :=
  if x.restrikeUsed = true ∧ (x.state = .striking ∨ x.state = .settling) then
    l.enqueue (projNumber p) (.strikeFail reason 0 0)
  else l

end Sys2Proof.Machine
end

