-- ==== Sys2Proof/WellFormed.lean ====
section
/-! DEFINITION. Well-formed commands: what the line and the field terminals can carry (00_scope, R162, R170). -/

namespace Sys2Proof

/-- R162, R170: a request that a record of the line can spell: ADD REEL carries at most 4 light cues. -/
def Request.wf : Request → Bool
  | .addReel _ e => decide (e.cues.length ≤ 4)
  | .runMotor .. | .stopMotor .. | .setSpeed .. | .setCueSense .. | .cueClear .. | .douserTrial .. | .strike ..
  | .extinguish .. | .setArc .. | .loadCarbon .. | .clearProgram .. | .armReel .. | .unarm .. | .start ..
  | .hold .. | .changeNow .. | .setHouseLevels .. | .lightsSet .. | .lightsRelease .. | .clearSafety ..
  | .armPort .. | .dropTest .. | .clearEmergency .. | .status .. | .readLog .. | .setClock .. | .restart .. => true

/-- R160, R170: a record's payload is at most 250 bytes. -/
def Record.fits (r : Record) : Bool := decide (r.payload.length ≤ 250)

/-- Units and ranges (00_scope): the measured arc current is 0 to 150 A. -/
def ampsInRange (n : Nat) : Bool := decide (n ≤ 150)

/-- Units and ranges (00_scope): the booth temperature is 0 to 99 degrees. -/
def degreesInRange (n : Nat) : Bool := decide (n ≤ 99)

/-- A command that the booth can send: its request fits a record, its FORMAT_REFUSAL really is one, and its measured
quantities are within their ranges. -/
def Instr.wf (i : Instr) : Bool :=
  match i with
  | .addReel _ h e => (Request.addReel h e).wf
  | .formatRefusal _ kind payload => (Record.mk kind payload).fits && (parseRequest ⟨kind, payload⟩).isNone
  | .powerOn _ inputs => degreesInRange inputs.temperature
  | .temperatureReading _ t => degreesInRange t
  | .arcReading _ _ _ amps => ampsInRange amps
  | .feedSensePulse _ _ amps => ampsInRange amps
  | .receiveByte .. | .syncHalfTimeout .. | .interByteGap .. | .lineBreak .. | .transmitEnd ..
  | .clockAdvance .. | .runMotor .. | .stopMotor .. | .setSpeed .. | .setCueSense .. | .cueClear ..
  | .douserTrial .. | .strike .. | .extinguish .. | .setArc .. | .loadCarbon .. | .clearProgram ..
  | .armReel .. | .unarm .. | .start .. | .hold .. | .changeNow .. | .setHouseLevels .. | .lightsSet ..
  | .lightsRelease .. | .clearSafety .. | .armPort .. | .dropTest .. | .clearEmergency .. | .status ..
  | .readLog .. | .setClock .. | .restart .. | .tachPulse .. | .runupLimit .. | .missingPulseDeadline ..
  | .breakDeadline .. | .runDownExpiry .. | .delayEnd .. | .crossingOpenInstant .. | .crossingCloseInstant ..
  | .soundInstant .. | .holdButton .. | .changeButton .. | .douserSwitchCloses .. | .travelLimit ..
  | .trialPauseEnd .. | .supplyLimit .. | .feedPulseSend .. | .feedStall .. | .settleEnd .. | .voltageSample ..
  | .blankOutEnd .. | .arcOut .. | .bandEpisodeExpiry .. | .minuteEnd .. | .fadeStep .. | .upSwitchCloses ..
  | .upSwitchOpens .. | .downSwitchCloses .. | .downSwitchOpens .. | .armWindowEnd .. | .confirmationLimit ..
  | .fusibleLinkOpens .. | .fusibleLinkCloses .. | .gateHeatAsserts .. | .gateHeatDeasserts ..
  | .emergencyButtonPress .. | .emergencyButtonRelease .. => true

end Sys2Proof
end

