-- ==== Sys2Proof/Certificates/Slice0/Obligations.lean ====
section
/-! DEFINITION. The statements for the provers, chapter by chapter of the reference. In each, `s` is any state, `dt` any
passing of time, and the next state is written out or its fields are; what a statement does not name it says is unchanged.
A statement over several parts is their conjunction. -/

open Sys2Proof Sys2Proof.Machine

/-! ## The step, the state after reset, and power-on -/

/-- The command at the front of the queue is run on the state with the queue's rest. -/
def Obligations.StepRunsTheFrontCommand : Prop :=
  ∀ (c : Instr) (rest : List Instr) (s : State),
    step (s.withPending (c :: rest)) = exec c (s.withPending rest)

/-- Log entry 12: on an empty queue the block idles.

The model's own (log entry 12): a command changes nothing of the queue of waiting commands. -/
def Obligations.QueueIsTakenFromTheFrontOnly : Prop :=
  (∀ s : State, s.pending = [] → step s = .next s) ∧
  (∀ (c : Instr) (s t : State), exec c s = .next t → t.pending = s.pending)

/-- The state after reset meets every law that the invariants speak of. (RESTARTED being sent already, and the inputs at rest,
are the model's: log entries 3 and 7.) -/
def Obligations.ResetMeetsTheLaws : Prop :=
  (∀ p, (State.reset.ds p).state ≠ .opened ∧ (State.reset.ds p).state ≠ .opening) ∧
    (∀ p, (State.reset.hs (houseOf p)).gate ≠ .side (sideOf p)) ∧
    (∀ n, (State.reset.pt n).state ≠ .held ∧ (State.reset.pt n).state ≠ .arming) ∧
    (∀ p, (State.reset.lp p).state = .off ∧ (State.reset.lp p).phase = none) ∧
    (∀ p, (State.reset.tr p).armed = none ∧ State.reset.timesLearned p) ∧
    (∀ h, (State.reset.hs h).change = none ∧ (State.reset.hs h).plan = []) ∧
    (∀ h, (State.reset.lt h).drive = 255 ∧ (State.reset.lt h).level = 1000 ∧ (State.reset.lt h).fade = none ∧
      (State.reset.lt h).safetyTarget = (State.reset.hs h).levels.emergency ∧ (State.reset.lt h).safetyActive = false) ∧
    State.reset.link.queue = [] ∧ State.reset.link.buffer = [] ∧ State.reset.link.slot = none ∧
    State.reset.link.transmitter ≠ .idle ∧ State.reset.link.transmitter ≠ .reply ∧ State.reset.pending = []

/-- R159, R157, R18, R35, R48, R72, R83, R102, R137: at power-on every block takes its power-on values. A cause whose
input is found active is activated (R157), in the order FUSIBLE, EMERGENCY, each FILM FIRE in projector order, CRITICAL:
the drop log holds one record for each, numbered from 1, with its ports ALREADY and no footage and no time, and nothing
else; the first reading is graded from NORMAL (R155); each activation is reported behind RESTARTED with FIRE CAUSE and
PORT DROPPED, CRITICAL after TEMP GRADE. No house or lamp is changed, and the SAFETY layers leave the lights full. With no
input active and a reading below 35 the log and the queue are empty and the grade is NORMAL. (That RESTARTED is being sent
already is log entry 3, that the next reading is due a second later is a field of the model's, log entry 2, and that the
model's own instant goes on across a power-on is log entry 29.) -/
def Obligations.PowerOnTakesThePowerOnValues : Prop :=
  ∀ (s : State) (dt : Nat) (i : FieldInputs), ∃ t, exec (.powerOn dt i) s = .next t ∧
    t.transports = State.reset.transports ∧ t.readers = State.reset.readers ∧ t.houses = State.reset.houses ∧
    t.lamps = State.reset.lamps ∧
    (∀ p, t.ds p =
      { state := if (i.dousers.cell p).closedEnd then .closed else .closing
        drive := .closes
        travel := if (i.dousers.cell p).closedEnd then none
          else some ⟨.closes, s.now + dt, (i.dousers.cell p).openEnd, 600⟩
        openTime := 250
        closeTime := 250
        lastOpen := none
        lastClose := none
        trial := none
        switches := some ⟨i.dousers.cell p, s.now + dt⟩ }) ∧
    (∀ n, t.pt n = ⟨.down, none, none, none, i.upSwitches.cell n, i.downSwitches.cell n⟩) ∧
    (∀ h, t.lt h = { State.reset.lt h with safetyActive := (t.lt h).safetyActive } ∧
      (t.lt h).level = 1000 ∧ (t.lt h).drive = 255 ∧ (t.lt h).fade = none ∧ (t.lt h).manualActive = false ∧
      (t.lt h).programTarget = 1000 ∧ ((t.lt h).safetyActive = true ↔ i.fusibleOpen = true ∨ i.emergencyPressed = true ∨
        55 ≤ i.temperature ∨ ∃ p, houseOf p = h ∧ i.gateHeat.cell p = true)) ∧
    t.booth =
      { fusible := i.fusibleOpen
        emergency := i.emergencyPressed
        critical := decide (55 ≤ i.temperature)
        filmFire := i.gateHeat
        grade := powerOnGrade i.temperature
        temperature := i.temperature
        pressed := i.emergencyPressed
        fusibleOpen := i.fusibleOpen
        log := powerOnRecords i
        nextSeq := (powerOnCauses i).length + 1
        nextReading := s.now + dt + 10000 } ∧
    t.link = (powerOnReports i).foldl (fun l b => l.enqueue 0 b)
      { receive := .hunt none
        buffer := []
        slot := none
        queue := []
        lost := none
        transmitter := .report ⟨0, none, .restarted .powerOn⟩
        clock := none
        nextSecond := none } ∧
    t.link.transmitter = .report ⟨0, none, .restarted .powerOn⟩ ∧ t.link.clock = none ∧ t.link.slot = none ∧
    t.link.buffer = [] ∧ t.link.receive = .hunt none ∧ t.now = s.now + dt ∧ t.draws = s.draws

/-! ## Film transport -/

/-- R16, R3: an accepted RUN MOTOR closes the motor contactor of a STOPPED, EMPTY projector: STARTING, with every field of
a run-up begun afresh and the frame counter and Tr kept. Nothing else changes but the reply.

R17, R4: STOP MOTOR of an EMPTY projector is DONE. A transport that is STARTING or RUNNING becomes STOPPING, its
counter, Tr and speed-fault mark kept; the sound gate leaves a projector that stops, and a douser that is then ungated is
closed (R38, R50). A transport in another state is not changed. -/
def Obligations.MotorsAreStartedAndStopped : Prop :=
  (∀ (s : State) (dt : Nat) (b : Byte) (p : Proj), s.linkReady → b.toNat = p.val + 1 →
    (s.tr p).armed = none → (s.tr p).state = .stopped → (s.hs (houseOf p)).state.inShow = false →
    s.booth.fusible = false → s.booth.emergency = false → s.booth.critical = false →
    s.booth.filmFire.cell p = false → s.booth.filmFire.cell (otherProj p) = false → (s.ds p).trial = none →
    exec (.runMotor dt b) s = .next (((s.elapse dt).setTr p { s.tr p with
      state := .starting
      motorOn := some (s.now + dt)
      lastPulse := none
      lockRunStart := none
      lockCount := 0
      outCount := 0
      miss := .normal
      speedFault := false
      recovery := 0 }).replied (.done 16 .nothing))) ∧
  (∀ (s : State) (dt : Nat) (b : Byte) (p : Proj), s.linkReady → b.toNat = p.val + 1 → (s.tr p).armed = none →
    (((s.tr p).state = .stopped ∨ (s.tr p).state = .stopping ∨ (s.tr p).state = .broken) →
      exec (.stopMotor dt b) s = .next ((s.elapse dt).replied (.done 17 .nothing))) ∧
    (((s.tr p).state = .starting ∨ (s.tr p).state = .running) → s.atRest p → (s.rd p).state = .off →
      ∃ t, exec (.stopMotor dt b) s = .next t ∧
        t.tr p = { s.tr p with
          state := .stopping
          lockCount := 0
          lockRunStart := none
          motorOn := none
          miss := .normal
          stoppingSince := some (s.now + dt) } ∧
        (∀ q, q ≠ p → t.tr q = s.tr q) ∧ (∀ q, q ≠ p → t.ds q = s.ds q) ∧
        t.readers = s.readers ∧ t.lamps = s.lamps ∧ t.lights = s.lights ∧ t.ports = s.ports ∧ t.booth = s.booth ∧
        (∀ h, h ≠ houseOf p → t.hs h = s.hs h) ∧
        ((s.tr p).state = .starting → t.dousers = s.dousers ∧ t.houses = s.houses) ∧
        ((s.tr p).state = .running → (t.hs (houseOf p)).gate ≠ .side (sideOf p) ∧
          (t.ds p).state ≠ .opened ∧ (t.ds p).state ≠ .opening) ∧
        t.link = s.link.replied (.done 17 .nothing)))

/-- R15: SET SPEED is refused with TARGET, RANGE and STATE. Otherwise it is DONE, whatever the house does: the speed given is
the house's speed, by which the deadlines of both its projectors and the start alignment are reckoned from then on, and the
lamp units of both judge sufficiency afresh at it (R79, R80). With no changeover record nothing else changes. The speed is
24 after a power-on, and a RESTART keeps it. -/
def Obligations.SetSpeedPutsTheSpeedInForce : Prop :=
  (∀ (s : State) (dt : Nat) (b v : Byte) (h : HouseId), s.linkReady → b.toNat = h.val + 1 →
    (v.toNat ≠ 24 → v.toNat ≠ 25 →
      exec (.setSpeed dt b v) s = .next ((s.elapse dt).replied (.refused 18 .range .nothing))) ∧
    ((v.toNat = 24 ∨ v.toNat = 25) →
      ((s.tr (projAt h .a)).state ≠ .stopped ∨ (s.tr (projAt h .b)).state ≠ .stopped) →
      exec (.setSpeed dt b v) s = .next ((s.elapse dt).replied (.refused 18 .state .nothing))) ∧
    ((v.toNat = 24 ∨ v.toNat = 25) → (s.tr (projAt h .a)).state = .stopped → (s.tr (projAt h .b)).state = .stopped →
      (s.hs h).change = none → ∃ t, exec (.setSpeed dt b v) s = .next t ∧
        t.hs h = { s.hs h with speed := v.toNat } ∧ (∀ g, g ≠ h → t.hs g = s.hs g) ∧
        (∀ p, houseOf p = h → t.lp p = { s.lp p with sufficiency := t.sufficiencyOf p }) ∧
        (∀ p, houseOf p ≠ h → t.lp p = s.lp p) ∧
        t.transports = s.transports ∧ t.readers = s.readers ∧ t.dousers = s.dousers ∧ t.lights = s.lights ∧
        t.ports = s.ports ∧ t.booth = s.booth ∧ t.link = s.link.replied (.done 18 .nothing))) ∧
  (∀ (s : State) (dt : Nat) (b v : Byte) (h : HouseId), s.linkReady → b.toNat = h.val + 1 →
    (v.toNat = 24 ∨ v.toNat = 25) → (s.tr (projAt h .a)).state = .stopped → (s.tr (projAt h .b)).state = .stopped →
      ∃ t, exec (.setSpeed dt b v) s = .next t ∧
        (t.hs h).speed = v.toNat ∧
        (∀ p, houseOf p = h → t.speedOf p = v.toNat ∧ (t.lp p).sufficiency = t.sufficiencyOf p) ∧
        t.link.slot = some (.done 18 .nothing)) ∧
  (∀ (s : State) (dt : Nat) (b v : Byte) (h : HouseId) (i : FieldInputs) (sw : Bank SwitchPair 8), s.linkReady →
    (b.toNat = 0 ∨ 4 < b.toNat → exec (.setSpeed dt b v) s = .next ((s.elapse dt).replied (.refused 18 .target .nothing))) ∧
    (∃ t, exec (.powerOn dt i) s = .next t ∧ (t.hs h).speed = 24) ∧
    (∃ t, exec (.restart dt sw) s = .next t ∧ (t.hs h).speed = (s.hs h).speed))

/-- R5, R6, R7: a counted pulse while STARTING. The counter rises by one (staying at 65535) and the pulse's instant is
kept. The first pulse is not tested. An interval in tolerance (R2) raises the lock count, the first of a run recording
where the run began; one out of tolerance ends the run. The eighth in a row makes the transport RUNNING and teaches Tr. -/
def Obligations.PulseWhileStarting : Prop :=
  ∀ (s : State) (dt : Nat) (p : Proj) (reading : Byte) (u on start : Instant) (m : Nat),
    s.atRest p → (s.tr p).state = .starting → m = (s.now + dt - u) * s.speedOf p →
    ∃ t, exec (.tachPulse dt p reading) s = .next t ∧
      (∀ q, q ≠ p → t.tr q = s.tr q ∧ t.rd q = s.rd q ∧ t.lp q = s.lp q) ∧
      (t.lp p).sufficiency = t.sufficiencyOf p ∧
      t.dousers = s.dousers ∧ t.houses = s.houses ∧ t.lights = s.lights ∧ t.ports = s.ports ∧ t.booth = s.booth ∧
      ((s.tr p).lastPulse = none →
        t.tr p = { s.tr p with counter := min 65535 ((s.tr p).counter + 1), lastPulse := some (s.now + dt) }) ∧
      ((s.tr p).lastPulse = some u → m < 9800 ∨ 10200 < m → t.tr p = { s.tr p with
        counter := min 65535 ((s.tr p).counter + 1)
        lastPulse := some (s.now + dt)
        lockCount := 0
        lockRunStart := none }) ∧
      ((s.tr p).lastPulse = some u → 9800 ≤ m → m ≤ 10200 → (s.tr p).lockCount < 7 → t.tr p = { s.tr p with
        counter := min 65535 ((s.tr p).counter + 1)
        lastPulse := some (s.now + dt)
        lockCount := (s.tr p).lockCount + 1
        lockRunStart := if (s.tr p).lockCount = 0 then some u else (s.tr p).lockRunStart }) ∧
      ((s.tr p).lastPulse = some u → 9800 ≤ m → m ≤ 10200 → (s.tr p).lockCount = 7 → (s.tr p).motorOn = some on →
        (s.tr p).lockRunStart = some start → t.tr p = { s.tr p with
        counter := min 65535 ((s.tr p).counter + 1)
        lastPulse := some (s.now + dt)
        lockCount := 8
        state := .running
        runUp := (3 * (s.tr p).runUp + max 500 (min 6000 ((start - on) / 10)) + 2) / 4
        motorOn := none
        lockRunStart := none
        miss := .normal
        outCount := 0
        speedFault := false
        recovery := 0 })

/-- R5, R9, R10: a counted pulse while RUNNING ends an overdue condition, and its interval is counted for or against a
speed fault: the twenty-fourth in a row out of tolerance sets the mark, the eighth in a row in tolerance clears it. -/
def Obligations.PulseWhileRunning : Prop :=
  ∀ (s : State) (dt : Nat) (p : Proj) (reading : Byte) (u : Instant) (m : Nat), s.atRest p →
    (s.tr p).state = .running → (s.tr p).lastPulse = some u → m = (s.now + dt - u) * s.speedOf p →
    ∃ t, exec (.tachPulse dt p reading) s = .next t ∧
      (∀ q, q ≠ p → t.tr q = s.tr q ∧ t.rd q = s.rd q ∧ t.lp q = s.lp q) ∧
      (t.lp p).sufficiency = t.sufficiencyOf p ∧
      t.dousers = s.dousers ∧ t.houses = s.houses ∧ t.lights = s.lights ∧ t.ports = s.ports ∧ t.booth = s.booth ∧
      (t.tr p).state = .running ∧ (t.tr p).counter = min 65535 ((s.tr p).counter + 1) ∧
      (t.tr p).lastPulse = some (s.now + dt) ∧ (t.tr p).miss = .normal ∧ (t.tr p).runUp = (s.tr p).runUp ∧
      (t.tr p).lockCount = (s.tr p).lockCount ∧ (t.tr p).armed = (s.tr p).armed ∧
      ((s.tr p).speedFault = false → 9800 ≤ m ∧ m ≤ 10200 →
        (t.tr p).speedFault = false ∧ (t.tr p).outCount = 0 ∧ (t.tr p).recovery = (s.tr p).recovery) ∧
      ((s.tr p).speedFault = false → m < 9800 ∨ 10200 < m → (s.tr p).outCount < 23 →
        (t.tr p).speedFault = false ∧ (t.tr p).outCount = (s.tr p).outCount + 1 ∧
          (t.tr p).recovery = (s.tr p).recovery) ∧
      ((s.tr p).speedFault = false → m < 9800 ∨ 10200 < m → (s.tr p).outCount = 23 →
        (t.tr p).speedFault = true ∧ (t.tr p).outCount = 24 ∧ (t.tr p).recovery = 0) ∧
      ((s.tr p).speedFault = true → m < 9800 ∨ 10200 < m →
        (t.tr p).speedFault = true ∧ (t.tr p).outCount = (s.tr p).outCount ∧ (t.tr p).recovery = 0) ∧
      ((s.tr p).speedFault = true → 9800 ≤ m ∧ m ≤ 10200 → (s.tr p).recovery < 7 →
        (t.tr p).speedFault = true ∧ (t.tr p).outCount = (s.tr p).outCount ∧
          (t.tr p).recovery = (s.tr p).recovery + 1) ∧
      ((s.tr p).speedFault = true → 9800 ≤ m ∧ m ≤ 10200 → (s.tr p).recovery = 7 →
        (t.tr p).speedFault = false ∧ (t.tr p).outCount = 0 ∧ (t.tr p).recovery = 0)

/-- R5, R13: a tach pulse of a transport that is STOPPED or BROKEN is not counted and changes nothing; while STOPPING it
is counted without any test, and starts the 500 ms of R13 again.

R13: a STOPPING transport becomes STOPPED when 500 ms have passed since the later of the instant it became STOPPING
and its last pulse, and not before (a deadline's command before its instant does nothing: log entry 13). -/
def Obligations.RunDownIsWatched : Prop :=
  (∀ (s : State) (dt : Nat) (p : Proj) (reading : Byte),
    ((s.tr p).state = .stopped ∨ (s.tr p).state = .broken →
      exec (.tachPulse dt p reading) s = .next (s.elapse dt)) ∧
    ((s.tr p).state = .stopping → s.houseAtRest (houseOf p) → ∃ t, exec (.tachPulse dt p reading) s = .next t ∧
      t.tr p = { s.tr p with counter := min 65535 ((s.tr p).counter + 1), lastPulse := some (s.now + dt) } ∧
      t.lp p = { s.lp p with sufficiency := t.sufficiencyOf p } ∧
      (∀ q, q ≠ p → t.tr q = s.tr q ∧ t.lp q = s.lp q) ∧
      t.readers = s.readers ∧ t.dousers = s.dousers ∧ t.houses = s.houses ∧ t.lights = s.lights ∧
      t.ports = s.ports ∧ t.booth = s.booth ∧ t.link = s.link)) ∧
  (∀ (s : State) (dt : Nat) (p : Proj) (a b : Instant), s.atRest p → (s.tr p).state = .stopping →
    (s.tr p).stoppingSince = some a → (s.tr p).lastPulse = some b →
    (max a b + 5000 ≤ s.now + dt → exec (.runDownExpiry dt p) s =
      .next ((s.elapse dt).setTr p { s.tr p with state := .stopped, stoppingSince := none })) ∧
    (s.now + dt < max a b + 5000 → exec (.runDownExpiry dt p) s = .next (s.elapse dt)))

/-- R11: the missing-pulse deadline of a RUNNING transport whose miss state is NORMAL falls when the time since the last
counted pulse is one and a half nominal intervals: MISS1, and PULSE MISSING with the frame counter. Before that instant,
or in another state, nothing changes (log entry 13). -/
def Obligations.MissingPulseIsReportedOnce : Prop :=
  ∀ (s : State) (dt : Nat) (p : Proj) (u : Instant), (s.tr p).lastPulse = some u →
    ((s.tr p).state = .running → (s.tr p).miss = .normal → 15000 ≤ (s.now + dt - u) * s.speedOf p →
      exec (.missingPulseDeadline dt p) s = .next (((s.elapse dt).setTr p { s.tr p with miss := .miss1 }).reportProj p
        (.pulseMissing (s.tr p).counter))) ∧
    ((s.tr p).state ≠ .running ∨ (s.tr p).miss = .miss1 ∨ (s.now + dt - u) * s.speedOf p < 15000 →
      exec (.missingPulseDeadline dt p) s = .next (s.elapse dt))

/-- R12: the break deadline of a RUNNING transport falls when the time since the last counted pulse is two and a half
nominal intervals: the motor contactor opens and the transport is BROKEN, its counter kept, with BREAK reported; the
reader is OFF, the sound gate leaves the projector, and its ungated douser is closed.

R8: the run-up limit of a transport still STARTING 6000 ms after its motor-on instant: STOPPING, Tr kept, RUNUP FAIL
with the lock count reached.

R22, R30: at either a group in assembly is abandoned: the reader is OFF with no group, and the held counted entries join the
queue in their order, as far as it has room. With none held there is no report but BREAK or RUNUP FAIL. -/
def Obligations.TransportFailuresStopTheMotor : Prop :=
  (∀ (s : State) (dt : Nat) (p : Proj) (u : Instant), s.atRest p → (s.rd p).assembling = false →
    (s.tr p).state = .running → (s.tr p).lastPulse = some u → 25000 ≤ (s.now + dt - u) * s.speedOf p →
    ∃ t, exec (.breakDeadline dt p) s = .next t ∧
      t.tr p = { s.tr p with state := .broken, miss := .normal, lockCount := 0 } ∧
      t.rd p = { s.rd p with state := .off } ∧
      t.link = s.link.enqueue (projNumber p) (.filmBreak (s.tr p).counter) ∧
      (t.hs (houseOf p)).gate ≠ .side (sideOf p) ∧ (t.ds p).state ≠ .opened ∧ (t.ds p).state ≠ .opening ∧
      (∀ q, q ≠ p → t.tr q = s.tr q ∧ t.rd q = s.rd q ∧ t.ds q = s.ds q) ∧
      (∀ h, h ≠ houseOf p → t.hs h = s.hs h) ∧
      t.lamps = s.lamps ∧ t.lights = s.lights ∧ t.ports = s.ports ∧ t.booth = s.booth) ∧
  (∀ (s : State) (dt : Nat) (p : Proj) (on : Instant), s.atRest p → (s.rd p).assembling = false →
    (s.tr p).state = .starting → (s.tr p).motorOn = some on → on + 60000 ≤ s.now + dt →
    exec (.runupLimit dt p) s = .next ((((s.elapse dt).setTr p { s.tr p with
      state := .stopping
      lockCount := 0
      lockRunStart := none
      motorOn := none
      stoppingSince := some (s.now + dt) }).reportProj p (.runupFail (s.tr p).lockCount (s.tr p).counter)).setRd p
        { s.rd p with state := .off })) ∧
  (∀ (c : Instr) (s : State) (dt : Nat) (p : Proj) (on u : Instant) (t1 : Transport) (x : ReportBody), s.atRest p →
    (s.rd p).assembling = true → (s.rd p).queue.length ≤ 8 →
    ((c = .breakDeadline dt p ∧ (s.tr p).state = .running ∧ (s.tr p).lastPulse = some u ∧
        25000 ≤ (s.now + dt - u) * s.speedOf p ∧ t1 = { s.tr p with state := .broken, miss := .normal, lockCount := 0 } ∧
        x = .filmBreak (s.tr p).counter) ∨
      (c = .runupLimit dt p ∧ (s.tr p).state = .starting ∧ (s.tr p).motorOn = some on ∧ on + 60000 ≤ s.now + dt ∧
        t1 = { s.tr p with
          state := .stopping
          lockCount := 0
          lockRunStart := none
          motorOn := none
          stoppingSince := some (s.now + dt) } ∧
        x = .runupFail (s.tr p).lockCount (s.tr p).counter)) →
    ∃ t, exec c s = .next t ∧ t.tr p = t1 ∧
      t.rd p = { s.rd p with
        state := .off
        group := none
        held := []
        queue := ((s.rd p).queue ++ (s.rd p).held).take 8 } ∧
      ((s.rd p).held = [] → t.link = s.link.enqueue (projNumber p) x) ∧
      (∀ q, q ≠ p → t.tr q = s.tr q ∧ t.rd q = s.rd q ∧ t.ds q = s.ds q ∧ t.lp q = s.lp q) ∧
      (∀ h, h ≠ houseOf p → t.hs h = s.hs h) ∧ t.lights = s.lights ∧ t.ports = s.ports ∧ t.booth = s.booth)

/-! ## Cue tabs -/

/-- R34: SET CUE SENSE is DONE in every state: the threshold is clamped to 16 to 240, then the hysteresis to 4 to 64, and a
hysteresis above the threshold less 8 becomes that. The reply carries both, and nothing else of the reader changes.

R33: CUE CLEAR removes a BAD head, whose position, footage and reason the reply carries; the entry behind it becomes
the head, and the mark that the head was reported is cleared where the projector is live (R104). An empty queue, or a head
that is not BAD, is refused with STATE.

R33, R106, R110: on the live projector of a SHOWING house what follows is then taken: nothing, where the queue is empty and
no expected frame has been passed by its margin; another BAD head, which is reported with CUE BAD; a MOTOR entry, which
makes a record, here of an incoming that is not ready; and with an empty queue the counted MOTOR of an expected motor frame passed
by 48. (The reports are stated for a transmitter that is SENDING.) -/
def Obligations.CueRequestsAreDecided : Prop :=
  (∀ (s : State) (dt : Nat) (b threshold hysteresis : Byte) (p : Proj) (v w : Nat), s.linkReady → b.toNat = p.val + 1 →
    v = max 16 (min 240 threshold.toNat) → w = min (max 4 (min 64 hysteresis.toNat)) (v - 8) →
    exec (.setCueSense dt b threshold hysteresis) s = .next (((s.elapse dt).setRd p { s.rd p with
      threshold := v
      hysteresis := w }).replied (.done 19 (.cueSense v w)))) ∧
  (∀ (s : State) (dt : Nat) (b : Byte) (p : Proj) (e : CueEntry) (rest : List CueEntry), s.linkReady →
    b.toNat = p.val + 1 →
    ((s.rd p).queue = [] → exec (.cueClear dt b) s = .next ((s.elapse dt).replied (.refused 20 .state .nothing))) ∧
    ((s.rd p).queue = e :: rest → e.code ≠ .bad →
      exec (.cueClear dt b) s = .next ((s.elapse dt).replied (.refused 20 .state .nothing))) ∧
    ((s.rd p).queue = e :: rest → e.code = .bad → s.liveProj (houseOf p) ≠ some p →
      exec (.cueClear dt b) s = .next (((s.elapse dt).setRd p { s.rd p with queue := rest }).replied
        (.done 20 (.cueCleared e.frame e.bad)))) ∧
    ((s.rd p).queue = e :: rest → e.code = .bad → (s.hs (houseOf p)).state ≠ .showing →
      s.liveProj (houseOf p) = some p →
      exec (.cueClear dt b) s = .next ((((s.elapse dt).setRd p { s.rd p with queue := rest }).setHs (houseOf p)
        { s.hs (houseOf p) with marks := { (s.hs (houseOf p)).marks with badReported := false } }).replied
        (.done 20 (.cueCleared e.frame e.bad))))) ∧
  (∀ (s : State) (dt : Nat) (b : Byte) (p : Proj) (h : HouseId) (e y : CueEntry) (rest more : List CueEntry)
    (w : ReelEntry) (x : House) (n : Nat), s.linkReady → b.toNat = p.val + 1 → h = houseOf p → x = s.hs h → x.state = .showing →
    s.liveProj h = some p → (s.rd p).queue = e :: rest → e.code = .bad → s.heldEntry p = some w →
    (rest = [] → s.noCountedMotor p w x.marks → s.noCountedChange p w x.marks →
      exec (.cueClear dt b) s = .next ((((s.elapse dt).setRd p { s.rd p with queue := [] }).setHs h
        { x with marks := { x.marks with badReported := false } }).replied (.done 20 (.cueCleared e.frame e.bad)))) ∧
    (rest = y :: more → y.code = .bad → s.link.transmitter ≠ .idle →
      ∃ t, exec (.cueClear dt b) s = .next t ∧ t.rd p = { s.rd p with queue := rest } ∧
        t.hs h = { x with marks := { x.marks with badReported := true } } ∧
        t.link = { s.link.enqueue (projNumber p) (.cueBad y.frame y.bad) with
          slot := some (.done 20 (.cueCleared e.frame e.bad)) } ∧
        (∀ q, q ≠ p → t.rd q = s.rd q) ∧ (∀ g, g ≠ h → t.hs g = s.hs g) ∧ t.transports = s.transports ∧
        t.dousers = s.dousers ∧ t.lamps = s.lamps ∧ t.lights = s.lights ∧ t.ports = s.ports ∧ t.booth = s.booth) ∧
    (rest = [y] → y.code = .motor → s.noCountedChange p w x.marks → s.followingEntry h ≠ none →
      x.change = none → x.marks.motorTaken = false → s.readyToFollow h (otherProj p) = false →
      exec (.cueClear dt b) s = .next ((((s.elapse dt).setRd p { s.rd p with queue := [] }).setHs h { x with
        change := some
          { incoming := otherProj p
            phase := .waitReady
            motorSource := match y.source with | .tab => .tab | .counted => .counted
            motorFrame := y.frame
            changeFrame := match w.changeFrame with
              | some k => k
              | none => min 65535 (y.frame + 8 * x.speed)
            delay := none
            delayEnd := none
            held := none
            changeSource := none
            loss := none
            crossing := none }
        marks := { x.marks with badReported := false, motorTaken := true } }).replied
        (.done 20 (.cueCleared e.frame e.bad)))) ∧
    (rest = [] → s.noCountedChange p w x.marks → w.motorFrame = some n → n + 48 ≤ (s.tr p).counter →
      s.followingEntry h ≠ none → x.change = none → x.marks.motorTaken = false → x.marks.countedMotor = false →
      s.readyToFollow h (otherProj p) = false → (s.rd p).group = none → s.link.transmitter ≠ .idle →
      ∃ t, exec (.cueClear dt b) s = .next t ∧
        t.rd p = { s.rd p with queue := [] } ∧
        t.hs h = { x with
          change := some
            { incoming := otherProj p
              phase := .waitReady
              motorSource := .counted
              motorFrame := (s.tr p).counter
              changeFrame := match w.changeFrame with
                | some k => k
                | none => min 65535 ((s.tr p).counter + 8 * x.speed)
              delay := none
              delayEnd := none
              held := none
              changeSource := none
              loss := none
              crossing := none }
          marks := { x.marks with badReported := false, motorTaken := true, countedMotor := true } } ∧
        t.link = { s.link.enqueue (projNumber p) (.cueSeen ⟨.motor, (s.tr p).counter, .counted, none⟩) with
          slot := some (.done 20 (.cueCleared e.frame e.bad)) } ∧
        (∀ q, q ≠ p → t.rd q = s.rd q) ∧ (∀ g, g ≠ h → t.hs g = s.hs g) ∧ t.transports = s.transports ∧
        t.dousers = s.dousers ∧ t.lamps = s.lamps ∧ t.lights = s.lights ∧ t.ports = s.ports ∧ t.booth = s.booth))

/-- R23 to R28, R30, R31: how the reader of a STARTING or RUNNING projector examines the reading of a counted pulse, `c` being
the counter's new value. A reading of T or more is high, one of T - H or less is low. Eight gap frames without a new tab
close the group: its entry, and the held counted entries behind it, join the queue as far as its eight places go, and an
entry of the live projector of a SHOWING house is then taken from it (R106). The projector is one whose house is at rest,
or that is not live in its house's show, or the live one with nothing queued, before its expected frames come. A house that
is not SHOWING has no changeover record, and the learned times are 40 or more, as GatingAndShowLawsAreKept keeps them. -/
def Obligations.ReaderFollowsTheTabs : Prop :=
  ∀ (s : State) (dt : Nat) (p : Proj) (reading : Byte) (c : Nat) (g : TabGroup) (d : Reader) (h : HouseId) (e : ReelEntry),
    h = houseOf p → ((s.tr p).state = .starting ∨ (s.tr p).state = .running) → c = min 65535 ((s.tr p).counter + 1) →
      d = s.rd p → d.queue.length ≤ 8 → s.recordInShow h → s.timesLearned p → s.timesLearned (otherProj p) →
    (s.hs h).change.map s.crossingDone ≠ some true →
    (s.atRest p ∨
      ((s.hs h).state.inShow = true ∧ s.liveProj h ≠ some p ∧ (s.hs h).retiring = none ∧
        ((s.hs h).state = .starting → c < s.leaderOf p)) ∨
      ((s.hs h).state = .showing ∧ s.liveProj h = some p ∧ (s.hs h).retiring = none ∧ s.heldEntry p = some e ∧
        (s.hs h).change.map (fun z => z.incoming) ≠ some p ∧
        d.queue = [] ∧ d.held = [] ∧ (∀ m, e.motorFrame = some m → c < m + 48 ∨ (s.hs h).marks.motorTaken = true) ∧
        (∀ m, e.changeFrame = some m → c < m + 12 ∨ (s.hs h).marks.changeTaken = true))) →
    ∃ t, exec (.tachPulse dt p reading) s = .next t ∧
      (d.state = .off → t.rd p = d) ∧
      (d.state = .hunt → c < s.leaderOf p → t.rd p = d) ∧
      ((d.state = .watch ∨ (d.state = .hunt ∧ s.leaderOf p ≤ c)) → d.threshold ≤ reading.toNat →
        t.rd p = { d with state := .inTab, group := some ⟨c, 1, none, 1, 0⟩ }) ∧
      ((d.state = .watch ∨ (d.state = .hunt ∧ s.leaderOf p ≤ c)) → reading.toNat < d.threshold →
        t.rd p = { d with state := .watch }) ∧
      (d.state = .inTab → d.group = some g → reading.toNat ≤ d.threshold - d.hysteresis →
        t.rd p = { d with state := .gap, group := some { g with gapFrames := 0 } }) ∧
      (d.state = .inTab → d.group = some g → d.threshold - d.hysteresis < reading.toNat → g.tabFrames < 6 →
        t.rd p = { d with group := some { g with tabFrames := g.tabFrames + 1 } }) ∧
      (d.state = .inTab → d.group = some g → d.threshold - d.hysteresis < reading.toNat → 6 ≤ g.tabFrames →
        t.rd p = { d with group := some { g with tabFrames := 7, bad := some (g.bad.getD .tape) } }) ∧
      (d.state = .gap → d.group = some g → d.threshold ≤ reading.toNat → 1 ≤ g.gapFrames → g.tabs < 4 →
        t.rd p = { d with state := .inTab, group := some { g with
          tabs := g.tabs + 1, tabFrames := 1, gapFrames := g.gapFrames + 1 } }) ∧
      (d.state = .gap → d.group = some g → d.threshold ≤ reading.toNat → g.gapFrames = 0 →
        t.rd p = { d with state := .inTab, group := some { g with
          tabs := min 5 (g.tabs + 1), tabFrames := 1, gapFrames := 1, bad := some (g.bad.getD .spacing) } }) ∧
      (d.state = .gap → d.group = some g → d.threshold ≤ reading.toNat → 1 ≤ g.gapFrames → 4 ≤ g.tabs →
        t.rd p = { d with state := .inTab, group := some { g with
          tabs := 5, tabFrames := 1, gapFrames := g.gapFrames + 1, bad := some (g.bad.getD .count) } }) ∧
      (d.state = .gap → d.group = some g → reading.toNat < d.threshold → g.gapFrames < 7 →
        t.rd p = { d with group := some { g with gapFrames := g.gapFrames + 1 } }) ∧
      (d.state = .gap → d.group = some g → reading.toNat < d.threshold → 7 ≤ g.gapFrames → 1 ≤ g.tabs →
        g.tabs ≤ 4 → g.bad = none → s.liveProj h ≠ some p ∨ (s.hs h).state ≠ .showing →
        t.rd p = { d with state := .watch, group := none, held := [], queue := (d.queue ++
          ⟨if g.tabs = 1 then .motor else if g.tabs = 2 then .change else if g.tabs = 3 then .lights else .ending,
            g.frame, .tab, none⟩ :: d.held).take 8 }) ∧
      (d.state = .gap → d.group = some g → reading.toNat < d.threshold → 7 ≤ g.gapFrames → 1 ≤ g.tabs →
        g.tabs ≤ 4 → g.bad = none → s.liveProj h = some p → (s.hs h).state = .showing →
        t.rd p = { d with state := .watch, group := none }) ∧
      (d.state = .gap → d.group = some g → reading.toNat < d.threshold → 7 ≤ g.gapFrames → g.bad ≠ none →
        t.rd p = { d with state := .watch, group := none, held := [], queue := (d.queue ++
          ⟨.bad, g.frame, .tab, g.bad⟩ :: d.held).take 8 })

/-! ## Dousers and the sound gate -/

/-- R40, R41, R44: a travel ends at its switch. The douser is OPEN or CLOSED, and a full travel teaches the learned time of
its direction; the house's other douser, if OPEN, is then given a close command by a douser that has become OPEN, in a show
and in a crossing too, as long as the crossing is not thereby complete.

R40, R43: a douser that moves uncommanded is STUCK, driven toward closed and reported; a STUCK douser is CLOSED at its
closed switch, and at its open switch OPEN only if it is driven open and its gating condition holds, and closed at once
otherwise. The closure of a switch at which the blade already stands, or which it is leaving (the closed switch of one
OPENING, the open switch of one CLOSING), changes nothing but what is told of the switches (the model's field, log entry 6).

R42, R151: a travel whose limit passes with no switch leaves the douser STUCK, still driven as it was, with DOUSER
STUCK. Where its transport is not RUNNING and its lamp is not OFF, the DOUSER cause follows in the same rule: the lamp is
extinguished with reason FIRE and the projector's port leaves HELD or ARMING. Before the limit nothing changes (log entry
13); the times of an uncommanded DOUSER STUCK are 0 (log entry 19). -/
def Obligations.DouserFollowsItsSwitches : Prop :=
  (∀ (s : State) (dt : Nat) (p : Proj) (x : Travel) (m : Nat), s.atRest p → (s.ds p).trial = none →
    (s.ds p).travel = some x → m = (s.now + dt - x.start) / 10 →
    ((s.ds p).state = .closing → x.dir = .closes → x.full = true →
      exec (.douserSwitchCloses dt p .closedEnd) s = .next ((s.elapse dt).setDs p { s.ds p with
        state := .closed
        travel := none
        closeTime := (3 * (s.ds p).closeTime + max 40 (min 1200 m) + 2) / 4
        lastClose := some m
        switches := some ⟨⟨false, true⟩, s.now + dt⟩ })) ∧
    ((s.ds p).state = .closing → x.full = false →
      exec (.douserSwitchCloses dt p .closedEnd) s = .next ((s.elapse dt).setDs p { s.ds p with
        state := .closed
        travel := none
        switches := some ⟨⟨false, true⟩, s.now + dt⟩ }))) ∧
  (∀ (s : State) (dt : Nat) (p : Proj) (x : Travel) (m : Nat) (h : HouseId) (y : Changeover) (z : Crossing),
    h = houseOf p → (s.hs h).state ≠ .starting →
    ((s.hs h).change = none ∨ ((s.hs h).change = some y ∧ y.phase = .crossing ∧ y.crossing = some z ∧ y.incoming = p ∧
      (z.switched = false ∨ (s.ds (otherProj p)).state = .opened ∨ (s.ds (otherProj p)).state = .closing))) →
    (s.ds p).trial = none → (s.ds p).state = .opening → (s.ds p).travel = some x → x.dir = .opens →
    m = (s.now + dt - x.start) / 10 → ∃ t, exec (.douserSwitchCloses dt p .openEnd) s = .next t ∧
      (x.full = true → t.ds p = { s.ds p with
        state := .opened
        travel := none
        openTime := (3 * (s.ds p).openTime + max 40 (min 1200 m) + 2) / 4
        lastOpen := some m
        switches := some ⟨⟨true, false⟩, s.now + dt⟩ }) ∧
      (x.full = false → t.ds p = { s.ds p with
        state := .opened
        travel := none
        switches := some ⟨⟨true, false⟩, s.now + dt⟩ }) ∧
      ((s.ds (otherProj p)).state = .opened → t.ds (otherProj p) = { s.ds (otherProj p) with
        state := .closing
        drive := .closes
        travel := some ⟨.closes, s.now + dt, true, 2 * (s.ds (otherProj p)).closeTime + 100⟩ }) ∧
      ((s.ds (otherProj p)).state ≠ .opened → t.ds (otherProj p) = s.ds (otherProj p)) ∧
      (∀ q, q ≠ p → q ≠ otherProj p → t.ds q = s.ds q) ∧
      t.transports = s.transports ∧ t.readers = s.readers ∧ t.lamps = s.lamps ∧ t.houses = s.houses ∧
      t.lights = s.lights ∧ t.ports = s.ports ∧ t.booth = s.booth ∧ t.link = s.link) ∧
  (∀ (s : State) (dt : Nat) (p : Proj), s.houseAtRest (houseOf p) →
    ((s.ds p).state = .closed → ((s.lp p).state = .off ∨ (s.tr p).state = .running) →
      exec (.douserSwitchCloses dt p .openEnd) s = .next (((s.elapse dt).setDs p { s.ds p with
        state := .stuck
        drive := .closes
        switches := some ⟨⟨true, false⟩, s.now + dt⟩ }).reportProj p (.douserStuck (.uncommanded .openEnd) 0 0))) ∧
    ((s.ds p).state = .opened → ((s.lp p).state = .off ∨ (s.tr p).state = .running) →
      exec (.douserSwitchCloses dt p .closedEnd) s = .next (((s.elapse dt).setDs p { s.ds p with
        state := .stuck
        drive := .closes
        switches := some ⟨⟨false, true⟩, s.now + dt⟩ }).reportProj p (.douserStuck (.uncommanded .closedEnd) 0 0))) ∧
    ((s.ds p).state = .stuck →
      exec (.douserSwitchCloses dt p .closedEnd) s = .next ((s.elapse dt).setDs p { s.ds p with
        state := .closed
        drive := .closes
        switches := some ⟨⟨false, true⟩, s.now + dt⟩ })) ∧
    ((s.ds p).state = .stuck → (s.ds p).drive = .opens → s.gating p = true → (s.ds (otherProj p)).state ≠ .opened →
      exec (.douserSwitchCloses dt p .openEnd) s = .next ((s.elapse dt).setDs p { s.ds p with
        state := .opened
        switches := some ⟨⟨true, false⟩, s.now + dt⟩ })) ∧
    ((s.ds p).state = .stuck → ((s.ds p).drive = .closes ∨ s.gating p = false) →
      exec (.douserSwitchCloses dt p .openEnd) s = .next ((s.elapse dt).setDs p { s.ds p with
        state := .closing
        drive := .closes
        travel := some ⟨.closes, s.now + dt, true, 2 * (s.ds p).closeTime + 100⟩
        switches := some ⟨⟨true, false⟩, s.now + dt⟩ }))) ∧
  (∀ (s : State) (dt : Nat) (p : Proj),
    ((s.ds p).state = .opened ∨ (s.ds p).state = .closing → exec (.douserSwitchCloses dt p .openEnd) s =
      .next ((s.elapse dt).setDs p { s.ds p with switches := some ⟨⟨true, false⟩, s.now + dt⟩ })) ∧
    ((s.ds p).state = .closed ∨ (s.ds p).state = .opening → exec (.douserSwitchCloses dt p .closedEnd) s =
      .next ((s.elapse dt).setDs p { s.ds p with switches := some ⟨⟨false, true⟩, s.now + dt⟩ }))) ∧
  (∀ (s : State) (dt : Nat) (p : Proj) (x : Travel), s.houseAtRest (houseOf p) → (s.ds p).trial = none →
    (s.ds p).travel = some x → ((s.ds p).state = .opening ∨ (s.ds p).state = .closing) →
    (s.now + dt < x.start + 10 * x.limit → exec (.travelLimit dt p) s = .next (s.elapse dt)) ∧
    (x.start + 10 * x.limit ≤ s.now + dt → ((s.lp p).state = .off ∨ (s.tr p).state = .running) →
      exec (.travelLimit dt p) s = .next (((s.elapse dt).setDs p { s.ds p with state := .stuck, travel := none }).reportProj p
        (.douserStuck (match x.dir with | .opens => .opening | .closes => .closing) x.limit ((x.limit - 100) / 2)))) ∧
    (x.start + 10 * x.limit ≤ s.now + dt → (s.lp p).state ≠ .off → (s.tr p).state ≠ .running →
      ∃ t, exec (.travelLimit dt p) s = .next t ∧
        (t.ds p).state = .stuck ∧ (t.ds p).travel = none ∧
        (t.lp p).state = .off ∧ (t.lp p).stop = some .fire ∧
        (t.pt (projPort p)).state ≠ .held ∧ (t.pt (projPort p)).state ≠ .arming ∧
        (∀ q, q ≠ p → t.ds q = s.ds q ∧ t.lp q = s.lp q) ∧ t.transports = s.transports ∧ t.houses = s.houses ∧
        t.lights = s.lights))

/-- R45, R46: an accepted DOUSER TRIAL opens a CLOSED douser whose lamp is OFF and whose transport is STOPPED; after a
travel comes a pause of 500 ms, then the travel the other way; a full travel, opening or closing, teaches the learned time
of its direction; the eighth travel ends the trial with TRIAL DONE.

R47: a trial ends early with TRIAL DONE and its reason: STUCK at the travel limit of one in TRAVEL, and in either phase FIRE
at a drop test of its port, MOTOR at an accepted RUN MOTOR of the projector, HOUSE at the start of the house on its other
projector. It carries the travels completed and keeps the learned times, and the douser is closed where it is not STUCK. A
trial cannot stop during a pause because of a travel: one in PAUSE goes on at the travel limit. (That DOUSER STUCK and PORT
DROPPED come before TRIAL DONE is the model's, log entry 16; how a travel can fall into a pause is log entry 42.) -/
def Obligations.DouserTrialRunsItsTravels : Prop :=
  (∀ (s : State) (dt : Nat) (b : Byte) (p : Proj) (n : Nat) (e : Instant) (x : Travel),
    (s.lp p).state = .off → (s.tr p).state = .stopped → s.houseAtRest (houseOf p) →
    (s.linkReady → b.toNat = p.val + 1 → (s.ds p).state = .closed → (s.ds p).trial = none →
      (s.ds (otherProj p)).trial = none → s.booth.covers (projPort p) = false →
      exec (.douserTrial dt b) s = .next (((s.elapse dt).setDs p { s.ds p with
        trial := some ⟨0, .travel, none⟩
        drive := .opens
        state := .opening
        travel := some ⟨.opens, s.now + dt, true, 2 * (s.ds p).openTime + 100⟩ }).replied (.done 21 .nothing))) ∧
    ((s.ds p).trial = some ⟨n, .pause, some e⟩ → e ≤ s.now + dt → (s.ds p).state = .closed →
      exec (.trialPauseEnd dt p) s = .next ((s.elapse dt).setDs p { s.ds p with
        trial := some ⟨n, .travel, none⟩
        drive := .opens
        state := .opening
        travel := some ⟨.opens, s.now + dt, true, 2 * (s.ds p).openTime + 100⟩ })) ∧
    ((s.ds p).trial = some ⟨n, .pause, some e⟩ → e ≤ s.now + dt → (s.ds p).state = .opened →
      exec (.trialPauseEnd dt p) s = .next ((s.elapse dt).setDs p { s.ds p with
        trial := some ⟨n, .travel, none⟩
        drive := .closes
        state := .closing
        travel := some ⟨.closes, s.now + dt, true, 2 * (s.ds p).closeTime + 100⟩ })) ∧
    ((s.ds p).trial = some ⟨n, .travel, none⟩ → n < 7 → (s.ds p).state = .closing → (s.ds p).travel = some x →
      ∃ t, exec (.douserSwitchCloses dt p .closedEnd) s = .next t ∧ (t.ds p).state = .closed ∧
        (t.ds p).trial = some ⟨n + 1, .pause, some (s.now + dt + 5000)⟩ ∧ t.link = s.link) ∧
    ((s.ds p).trial = some ⟨7, .travel, none⟩ → (s.ds p).state = .closing → (s.ds p).travel = some x →
      x.dir = .closes →
      ∃ t, exec (.douserSwitchCloses dt p .closedEnd) s = .next t ∧ (t.ds p).state = .closed ∧
        (t.ds p).trial = none ∧ (t.ds p).openTime = (s.ds p).openTime ∧
        t.link = s.link.enqueue (projNumber p) (.trialDone .complete 8 (t.ds p).openTime (t.ds p).closeTime))) ∧
  (∀ (s : State) (dt : Nat) (p : Proj) (n : Nat) (x : Travel) (m : Nat), (s.lp p).state = .off → (s.tr p).state = .stopped →
    s.houseAtRest (houseOf p) → (s.ds p).trial = some ⟨n, .travel, none⟩ → n < 7 → (s.ds p).travel = some x →
      x.full = true →
    m = max 40 (min 1200 ((s.now + dt - x.start) / 10)) →
    ((s.ds p).state = .opening → x.dir = .opens → (s.ds (otherProj p)).state ≠ .opened →
      exec (.douserSwitchCloses dt p .openEnd) s = .next ((s.elapse dt).setDs p { s.ds p with
        state := .opened
        travel := none
        openTime := (3 * (s.ds p).openTime + m + 2) / 4
        lastOpen := some ((s.now + dt - x.start) / 10)
        switches := some ⟨⟨true, false⟩, s.now + dt⟩
        trial := some ⟨n + 1, .pause, some (s.now + dt + 5000)⟩ })) ∧
    ((s.ds p).state = .closing → x.dir = .closes →
      exec (.douserSwitchCloses dt p .closedEnd) s = .next ((s.elapse dt).setDs p { s.ds p with
        state := .closed
        travel := none
        closeTime := (3 * (s.ds p).closeTime + m + 2) / 4
        lastClose := some ((s.now + dt - x.start) / 10)
        switches := some ⟨⟨false, true⟩, s.now + dt⟩
        trial := some ⟨n + 1, .pause, some (s.now + dt + 5000)⟩ }))) ∧
  (∀ (s : State) (dt : Nat) (b : Byte) (p q : Proj) (k : Trial) (x : Travel) (e : ReelEntry) (h : HouseId), h = houseOf p →
    q = otherProj p →
    (s.ds p).trial = some k → (s.lp p).state = .off → (s.tr p).state = .stopped →
    (k.phase = .travel → s.houseAtRest h → (s.ds p).state = .opening ∨ (s.ds p).state = .closing → (s.ds p).travel = some x →
      x.start + 10 * x.limit ≤ s.now + dt → exec (.travelLimit dt p) s = .next ((((s.elapse dt).setDs p { s.ds p with
        state := .stuck, travel := none, trial := none }).reportProj p
        (.douserStuck (match x.dir with | .opens => .opening | .closes => .closing) x.limit ((x.limit - 100) / 2))).reportProj p
        (.trialDone .stuck k.completed (s.ds p).openTime (s.ds p).closeTime))) ∧
    (k.phase = .pause → s.houseAtRest h → (s.ds p).state = .opening ∨ (s.ds p).state = .closing → (s.ds p).travel = some x →
      x.start + 10 * x.limit ≤ s.now + dt → exec (.travelLimit dt p) s = .next (((s.elapse dt).setDs p { s.ds p with
        state := .stuck, travel := none, trial := some k }).reportProj p
        (.douserStuck (match x.dir with | .opens => .opening | .closes => .closing) x.limit ((x.limit - 100) / 2)))) ∧
    (s.linkReady → s.link.transmitter ≠ .idle → b.toNat = p.val + 1 → s.houseAtRest h → (s.ds p).state ≠ .stuck →
      (s.pt (projPort p)).state = .down → s.booth.log.length < 16 → (∀ d ∈ s.booth.log, d.seq ≠ s.booth.nextSeq) →
      (∀ n l, (s.pt n).link = some l → l.seq ≠ s.booth.nextSeq) →
      ∃ t, exec (.dropTest dt .port b) s = .next t ∧
      (t.ds p).trial = none ∧ (t.ds p).openTime = (s.ds p).openTime ∧ (t.ds p).closeTime = (s.ds p).closeTime ∧
      (t.ds p).state ≠ .opened ∧ (t.ds p).state ≠ .opening ∧ (∀ r, r ≠ p → t.ds r = s.ds r) ∧
      t.link = { (s.link.enqueue 0 (.portDropped s.booth.nextSeq (some .test) none)).enqueue (projNumber p)
        (.trialDone .fire k.completed (s.ds p).openTime (s.ds p).closeTime) with
        slot := some (.done 38 (.sequence s.booth.nextSeq)) }) ∧
    (s.linkReady → s.link.transmitter ≠ .idle → b.toNat = p.val + 1 → (s.hs h).state.inShow = false →
      (s.tr p).armed = none → (s.ds p).state ≠ .stuck →
      s.booth.stopsMotors h = false → ∃ t, exec (.runMotor dt b) s = .next t ∧
      (t.tr p).state = .starting ∧
      (t.ds p).trial = none ∧ (t.ds p).openTime = (s.ds p).openTime ∧ (t.ds p).closeTime = (s.ds p).closeTime ∧
      (t.ds p).state ≠ .opened ∧ (t.ds p).state ≠ .opening ∧ (∀ r, r ≠ p → t.ds r = s.ds r) ∧
      t.link = { s.link.enqueue (projNumber p)
        (.trialDone .motor k.completed (s.ds p).openTime (s.ds p).closeTime) with slot := some (.done 16 .nothing) }) ∧
    (s.linkReady → s.link.transmitter ≠ .idle → b.toNat = h.val + 1 → ((s.hs h).state = .ready ∨ (s.hs h).state = .hold) →
      (s.hs h).plan.find? (fun x => x.status ≠ .finished) = some e → e.status = .armed → projAt h e.side = q →
      (s.tr q).armed.map (fun a => (a.house, a.reel)) = some (h, e.reel) →
      s.ready q = true → (s.ds q).trial = none → (s.ds p).state ≠ .stuck → ∃ t, exec (.start dt b) s = .next t ∧
      (t.hs h).state = .starting ∧
      (t.ds p).trial = none ∧ (t.ds p).openTime = (s.ds p).openTime ∧ (t.ds p).closeTime = (s.ds p).closeTime ∧
      (t.ds p).state ≠ .opened ∧ (t.ds p).state ≠ .opening ∧ (∀ r, r ≠ p → t.ds r = s.ds r) ∧
      t.link = { s.link.enqueue (projNumber p)
        (.trialDone .house k.completed (s.ds p).openTime (s.ds p).closeTime) with slot := some (.done 30 .nothing) }))

/-- R38: no command leaves a douser OPEN or OPENING whose gating condition does not hold, lamps having a strike phase only
while STRIKING (a law that StubAndPhaseLawsAreKept keeps).

R97, R100, R105: no command leaves a changeover record in a house that is not SHOWING.

R85: no command leaves two entries of one plan with the same reel number.

R88: no command leaves a projector ARMED with an entry of another house.

R41: no command leaves a learned time of a douser below 40 ms. -/
def Obligations.GatingAndShowLawsAreKept : Prop :=
  (∀ (c : Instr) (s t : State), (∀ p, (s.lp p).phased) →
    (∀ p, ((s.ds p).state = .opened ∨ (s.ds p).state = .opening) → s.gating p = true) → exec c s = .next t →
    ∀ p, ((t.ds p).state = .opened ∨ (t.ds p).state = .opening) → t.gating p = true) ∧
  (∀ (c : Instr) (s t : State), (∀ h, s.recordInShow h) → exec c s = .next t → ∀ h, t.recordInShow h) ∧
  (∀ (c : Instr) (s t : State), (∀ h, s.distinctReels h) → exec c s = .next t → ∀ h, t.distinctReels h) ∧
  (∀ (c : Instr) (s t : State), (∀ p, s.armedAtHome p) → exec c s = .next t → ∀ p, t.armedAtHome p) ∧
  (∀ (c : Instr) (s t : State), (∀ p, s.timesLearned p) → exec c s = .next t → ∀ p, t.timesLearned p)

/-- R44: no command leaves the two dousers of a house OPEN at the same time.

R50: no command leaves a sound gate selecting a projector whose transport is not RUNNING. -/
def Obligations.OneOpenDouserAndSoundLawsAreKept : Prop :=
  (∀ (c : Instr) (s t : State), (∀ p, ¬ ((s.ds p).state = .opened ∧ (s.ds (otherProj p)).state = .opened)) →
    exec c s = .next t → ∀ p, ¬ ((t.ds p).state = .opened ∧ (t.ds (otherProj p)).state = .opened)) ∧
  (∀ (c : Instr) (s t : State),
    (∀ p, (s.hs (houseOf p)).gate = .side (sideOf p) → (s.tr p).state = .running) → exec c s = .next t →
    ∀ p, (t.hs (houseOf p)).gate = .side (sideOf p) → (t.tr p).state = .running)

/-! ## The carbon arc and the burn account -/

/-- R53, R54: STRIKE is refused with STATE of a lamp that is not OFF or whose douser is on trial, with CARBON below an account
of 400, with HEAT in HOT and CRITICAL, and with FIRE while a cause covers the port. Otherwise, the douser not STUCK, the
lamp is STRIKING in its supply phase, with the restrike-used flag clear; a douser is not left open over it.

R54, R56, R57: in the supply phase a reading raises the highest supply voltage; once the rectifier is up (600 tenths of
a volt, or 20 A) the sweep begins with a forward pulse, or the draw with a reverse pulse where there is contact; 2000 ms
without it stop the lamp with STRIKE-SUPPLY (STRIKE FAIL's other fields: log entry 19), and before them the limit does
nothing (log entry 13). The first pulse is sent at once in a later strike and in a restrike too, but not within 50 ms of the
lamp's last send (R55). -/
def Obligations.StrikeBeginsAndWaitsForTheSupply : Prop :=
  (∀ (s : State) (dt : Nat) (b : Byte) (p : Proj), s.linkReady → b.toNat = p.val + 1 →
    (((s.lp p).state ≠ .off ∨ (s.ds p).trial ≠ none) →
      exec (.strike dt b) s = .next ((s.elapse dt).replied (.refused 22 .state .nothing))) ∧
    ((s.lp p).state = .off → (s.ds p).trial = none → (s.lp p).account < 400 →
      exec (.strike dt b) s = .next ((s.elapse dt).replied (.refused 22 .carbon .nothing))) ∧
    ((s.lp p).state = .off → (s.ds p).trial = none → 400 ≤ (s.lp p).account →
      (s.booth.grade = .hot ∨ s.booth.grade = .critical) →
      exec (.strike dt b) s = .next ((s.elapse dt).replied (.refused 22 .heat .nothing))) ∧
    ((s.lp p).state = .off → (s.ds p).trial = none → 400 ≤ (s.lp p).account →
      (s.booth.grade = .normal ∨ s.booth.grade = .warm) → s.booth.covers (projPort p) = true →
      exec (.strike dt b) s = .next ((s.elapse dt).replied (.refused 22 .fire .nothing))) ∧
    ((s.lp p).state = .off → (s.ds p).trial = none → 400 ≤ (s.lp p).account →
      (s.booth.grade = .normal ∨ s.booth.grade = .warm) → s.booth.covers (projPort p) = false →
      (s.ds p).state ≠ .stuck → ∃ t, exec (.strike dt b) s = .next t ∧
        t.lp p = ({ s.lp p with restrikeUsed := false }).struckAt (s.now + dt) ∧
        (∀ q, q ≠ p → t.lp q = s.lp q ∧ t.ds q = s.ds q) ∧
        (((s.ds p).state = .closed ∨ (s.ds p).state = .closing) → t.ds p = s.ds p) ∧
        (t.ds p).state ≠ .opened ∧ (t.ds p).state ≠ .opening ∧
        t.transports = s.transports ∧ t.readers = s.readers ∧ t.houses = s.houses ∧ t.lights = s.lights ∧
        t.ports = s.ports ∧ t.booth = s.booth ∧ t.link = s.link.replied (.done 22 .nothing))) ∧
  (∀ (s : State) (dt : Nat) (p : Proj) (volts amps : Nat) (t0 u : Instant), (s.lp p).state = .striking →
    (s.lp p).phase = some .supply → (s.lp p).phaseStart = some t0 → (s.lp p).outstanding = none →
    (s.lp p).burst = none →
    (volts < 600 → amps < 20 → exec (.arcReading dt p volts amps) s = .next ((s.elapse dt).setLp p { s.lp p with
      highSupply := max (s.lp p).highSupply volts
      amps := amps })) ∧
    ((s.lp p).lastSend = none ∨ ((s.lp p).lastSend = some u ∧ u + 500 ≤ s.now + dt) → 600 ≤ volts → amps < 20 →
      exec (.arcReading dt p volts amps) s = .next ((s.elapse dt).setLp p { s.lp p with
      highSupply := max (s.lp p).highSupply volts
      amps := amps
      phase := some .sweep
      phaseStart := none
      sweepPulses := 0
      outstanding := some ⟨.forward, s.now + dt⟩
      lastSend := some (s.now + dt) })) ∧
    ((s.lp p).lastSend = none ∨ ((s.lp p).lastSend = some u ∧ u + 500 ≤ s.now + dt) → 20 ≤ amps →
      exec (.arcReading dt p volts amps) s = .next ((s.elapse dt).setLp p { s.lp p with
      highSupply := max (s.lp p).highSupply volts
      amps := amps
      phase := some .draw
      phaseStart := none
      sweepPulses := 0
      drawPulses := 0
      outstanding := some ⟨.reverse, s.now + dt⟩
      lastSend := some (s.now + dt) })) ∧
    ((s.lp p).lastSend = some u → s.now + dt < u + 500 → 600 ≤ volts ∨ 20 ≤ amps →
      exec (.arcReading dt p volts amps) s = .next ((s.elapse dt).setLp p { s.lp p with
      highSupply := max (s.lp p).highSupply volts
      amps := amps
      phase := some (if amps < 20 then .sweep else .draw)
      phaseStart := none
      sweepPulses := 0
      drawPulses := if amps < 20 then (s.lp p).drawPulses else 0 })) ∧
    (t0 + 20000 ≤ s.now + dt → s.atRest p → exec (.supplyLimit dt p) s =
      .next (((s.elapse dt).setLp p ((s.lp p).stopped .strikeSupply)).reportProj p
        (.strikeFail .strikeSupply (s.lp p).highSupply 0))) ∧
    (s.now + dt < t0 + 20000 → exec (.supplyLimit dt p) s = .next (s.elapse dt)))

/-- R69, R68: EXTINGUISH of an OFF lamp is DONE with no change; another lamp becomes OFF with reason HOST, a lit one
giving its douser a close command, and a short burst being reported with SHORT FEED (stated for a transmitter that is
SENDING). -/
def Obligations.ExtinguishStopsTheLamp : Prop :=
  ∀ (s : State) (dt : Nat) (b : Byte) (p : Proj) (y : Burst), s.linkReady → b.toNat = p.val + 1 →
    ((s.lp p).state = .off → exec (.extinguish dt b) s = .next ((s.elapse dt).replied (.done 23 .nothing))) ∧
    ((s.lp p).state ≠ .off → s.atRest p → ∃ t, exec (.extinguish dt b) s = .next t ∧
      t.lp p = (s.lp p).stopped .host ∧ (∀ q, q ≠ p → t.lp q = s.lp q ∧ t.ds q = s.ds q) ∧
      ((s.lp p).state = .striking → t.ds p = s.ds p) ∧
      ((s.lp p).state ≠ .striking → (t.ds p).state ≠ .opened ∧ (t.ds p).state ≠ .opening) ∧
      t.transports = s.transports ∧ t.readers = s.readers ∧ t.houses = s.houses ∧ t.lights = s.lights ∧
      t.ports = s.ports ∧ t.booth = s.booth ∧ t.link.slot = some (.done 23 .nothing) ∧
      ((s.lp p).burst = some y → y.confirmed < y.asked → s.link.transmitter ≠ .idle →
        t.link = { s.link.enqueue (projNumber p) (.shortFeed y.asked y.confirmed .host) with
          slot := some (.done 23 .nothing) }) ∧
      ((∀ z, (s.lp p).burst = some z → z.asked ≤ z.confirmed) → t.link = s.link.replied (.done 23 .nothing)))

/-- R55: the next pulse of a phase or burst is sent when none is outstanding and 50 ms have passed since the last send,
and not otherwise: forward in the sweep and in a burst that has pulses left, reverse in the draw, none in the supply
phase.

R55 to R57, R63, R64: 150 ms without a feed-sense pulse are a stall. A stall in the sweep or the draw stops the lamp with
FEED, STRIKE FAIL and FEED STALL; in a burst it ends the burst with FEED STALL and SHORT FEED, and the third in a row
stops the lamp, the douser of a lit lamp being given a close command (R68) and, in the settling of a restrike, STRIKE FAIL
being queued last (R66). (STRIKE FAIL's other fields: log entry 19; that it comes last: log entry 16; that the settling of
a first strike queues none: log entry 45.) Before the 150 ms nothing changes (log entry 13). -/
def Obligations.FeedPulsesAreSpacedAndStall : Prop :=
  (∀ (s : State) (dt : Nat) (p : Proj) (u : Instant) (x : Burst),
    ((s.lp p).phase = some .sweep → (s.lp p).outstanding = none → (s.lp p).burst = none →
      (∀ v, (s.lp p).lastSend = some v → v + 500 ≤ s.now + dt) →
      exec (.feedPulseSend dt p) s = .next ((s.elapse dt).setLp p { s.lp p with
        outstanding := some ⟨.forward, s.now + dt⟩, lastSend := some (s.now + dt) })) ∧
    ((s.lp p).phase = some .draw → (s.lp p).outstanding = none → (s.lp p).burst = none →
      (∀ v, (s.lp p).lastSend = some v → v + 500 ≤ s.now + dt) →
      exec (.feedPulseSend dt p) s = .next ((s.elapse dt).setLp p { s.lp p with
        outstanding := some ⟨.reverse, s.now + dt⟩, lastSend := some (s.now + dt) })) ∧
    ((s.lp p).phase = none → (s.lp p).outstanding = none → (s.lp p).burst = some x → x.sent < x.asked →
      (∀ v, (s.lp p).lastSend = some v → v + 500 ≤ s.now + dt) →
      exec (.feedPulseSend dt p) s = .next ((s.elapse dt).setLp p { s.lp p with
        outstanding := some ⟨.forward, s.now + dt⟩, lastSend := some (s.now + dt)
        burst := some { x with sent := x.sent + 1 } })) ∧
    ((s.lp p).outstanding ≠ none ∨ ((s.lp p).lastSend = some u ∧ s.now + dt < u + 500) →
      exec (.feedPulseSend dt p) s = .next (s.elapse dt)) ∧
    ((s.lp p).phase = some .supply ∨ ((s.lp p).phase = none ∧
        ((s.lp p).burst = none ∨ ((s.lp p).burst = some x ∧ x.asked ≤ x.sent))) →
      exec (.feedPulseSend dt p) s = .next (s.elapse dt))) ∧
  (∀ (s : State) (dt : Nat) (p : Proj) (x : FeedPulse) (y : Burst), s.atRest p → (s.lp p).outstanding = some x →
    (s.now + dt < x.sent + 1500 → exec (.feedStall dt p) s = .next (s.elapse dt)) ∧
    (x.sent + 1500 ≤ s.now + dt → (s.lp p).state = .striking → (s.lp p).phase = some .sweep →
      exec (.feedStall dt p) s = .next ((((s.elapse dt).reportProj p (.feedStall .sweep 0 0 0)).setLp p
        ((s.lp p).stopped .feed)).reportProj p (.strikeFail .feed 0 0))) ∧
    (x.sent + 1500 ≤ s.now + dt → (s.lp p).state = .striking → (s.lp p).phase = some .draw →
      exec (.feedStall dt p) s = .next ((((s.elapse dt).reportProj p (.feedStall .draw 0 0 0)).setLp p
        ((s.lp p).stopped .feed)).reportProj p (.strikeFail .feed 0 0))) ∧
    (x.sent + 1500 ≤ s.now + dt → (s.lp p).phase = none → (s.lp p).burst = some y → (s.lp p).stalls < 2 →
      exec (.feedStall dt p) s = .next ((((s.elapse dt).setLp p { s.lp p with
        outstanding := none
        burst := none
        stalls := (s.lp p).stalls + 1
        blankEnd := some (s.now + dt + 20000) }).reportProj p
          (.feedStall .burst y.asked y.confirmed ((s.lp p).stalls + 1))).reportProj p
          (.shortFeed y.asked y.confirmed .stall))) ∧
    (x.sent + 1500 ≤ s.now + dt → (s.lp p).phase = none → (s.lp p).burst = some y → (s.lp p).stalls = 2 →
      ∃ t, exec (.feedStall dt p) s = .next t ∧ t.lp p = ({ s.lp p with stalls := 3 }).stopped .feed ∧
        ((s.lp p).state = .settling ∨ (s.lp p).state = .burning → (t.ds p).state ≠ .opened ∧ (t.ds p).state ≠ .opening) ∧
        ((s.lp p).state = .off ∨ (s.lp p).state = .striking → t.ds p = s.ds p) ∧
        t.link = ((s.link.enqueue (projNumber p) (.feedStall .burst y.asked y.confirmed 3)).enqueue (projNumber p)
          (.shortFeed y.asked y.confirmed .stall)).restrikeFails p (s.lp p) .feed ∧
        (∀ q, q ≠ p → t.lp q = s.lp q ∧ t.ds q = s.ds q) ∧ t.transports = s.transports ∧ t.readers = s.readers ∧
        t.houses = s.houses ∧ t.lights = s.lights ∧ t.ports = s.ports ∧ t.booth = s.booth))

/-- R55 to R58, R62, R75, R76: a feed-sense pulse within 150 ms confirms the outstanding pulse; with none outstanding, or
later, it is ignored. A confirmed forward pulse is debited, and an account of 300 stops the lamp with STUB and BURNOUT,
and with SHORT FEED where a burst ends short (R64), and in a restrike with STRIKE FAIL behind them (R66; the order: log
entry 16); contact ends the sweep and the fortieth pulse without it stops the lamp; the twelfth reverse pulse makes it
SETTLING; the last pulse of a burst begins the blank-out. (That an account of 301 or less stops the lamp in the sweep too,
and that the account does not fall below 0, is log entry 25; that BURNOUT comes with no STRIKE FAIL in the settling of a
first strike is log entry 45.) -/
def Obligations.FeedSenseConfirmsThePulse : Prop :=
  ∀ (s : State) (dt : Nat) (p : Proj) (amps : Nat) (x : FeedPulse) (y : Burst), s.atRest p →
    ((s.lp p).outstanding = none → exec (.feedSensePulse dt p amps) s = .next (s.elapse dt)) ∧
    ((s.lp p).outstanding = some x → x.sent + 1500 < s.now + dt →
      exec (.feedSensePulse dt p amps) s = .next (s.elapse dt)) ∧
    ((s.lp p).outstanding = some x → s.now + dt ≤ x.sent + 1500 → ∃ t, exec (.feedSensePulse dt p amps) s = .next t ∧
      (∀ q, q ≠ p → t.lp q = s.lp q ∧ t.ds q = s.ds q) ∧ t.transports = s.transports ∧ t.readers = s.readers ∧
      t.houses = s.houses ∧ t.lights = s.lights ∧ t.ports = s.ports ∧ t.booth = s.booth ∧
      (x.dir = .forward → (t.lp p).sufficiency = t.sufficiencyOf p) ∧
      (t.lp p).account = (match x.dir with | .forward => (s.lp p).account - 1 | .reverse => (s.lp p).account) ∧
      (x.dir = .forward → (s.lp p).account ≤ 301 → (t.lp p).state = .off ∧ (t.lp p).stop = some .stub) ∧
      (x.dir = .forward → (s.lp p).account ≤ 301 →
        ((s.lp p).burst = none ∨ ((s.lp p).phase = none ∧ (s.lp p).burst = some y ∧ y.asked ≤ y.confirmed + 1)) →
        t.link = (s.link.enqueue (projNumber p) (.burnout ((s.lp p).account - 1) (s.armedFrame p))).restrikeFails p
          (s.lp p) .stub) ∧
      (x.dir = .forward → (s.lp p).account ≤ 301 → (s.lp p).phase = none → (s.lp p).burst = some y →
        y.confirmed + 1 < y.asked →
        t.link = ((s.link.enqueue (projNumber p) (.burnout ((s.lp p).account - 1) (s.armedFrame p))).enqueue
          (projNumber p) (.shortFeed y.asked (y.confirmed + 1) .stub)).restrikeFails p (s.lp p) .stub) ∧
      (301 < (s.lp p).account → (s.lp p).phase ≠ some .sweep → t.link = s.link) ∧
      (x.dir = .forward → 301 < (s.lp p).account → (s.lp p).phase = some .sweep → 20 ≤ amps →
        (t.lp p).phase = some .draw ∧ (t.lp p).sweepPulses = (s.lp p).sweepPulses + 1 ∧ (t.lp p).drawPulses = 0 ∧
          (t.lp p).state = (s.lp p).state) ∧
      (x.dir = .forward → 301 < (s.lp p).account → (s.lp p).phase = some .sweep → amps < 20 →
        (s.lp p).sweepPulses < 39 →
        (t.lp p).phase = some .sweep ∧ (t.lp p).sweepPulses = (s.lp p).sweepPulses + 1 ∧
          (t.lp p).state = (s.lp p).state) ∧
      (x.dir = .forward → 301 < (s.lp p).account → (s.lp p).phase = some .sweep → amps < 20 →
        (s.lp p).sweepPulses = 39 →
        (t.lp p).state = .off ∧ (t.lp p).stop = some .strikeContact ∧ (t.lp p).sweepPulses = 40) ∧
      (x.dir = .reverse → (s.lp p).phase = some .draw → (s.lp p).drawPulses < 11 →
        (t.lp p).phase = some .draw ∧ (t.lp p).drawPulses = (s.lp p).drawPulses + 1 ∧
          (t.lp p).state = (s.lp p).state) ∧
      (x.dir = .reverse → (s.lp p).phase = some .draw → (s.lp p).drawPulses = 11 →
        (t.lp p).state = .settling ∧ (t.lp p).phase = none ∧ (t.lp p).settleStart = some (s.now + dt) ∧
          (t.lp p).samples = [] ∧ (t.lp p).lowStart = (if amps < 10 then some (s.now + dt) else none)) ∧
      (x.dir = .forward → 301 < (s.lp p).account → (s.lp p).phase = none → (s.lp p).burst = some y →
        y.confirmed + 1 < y.asked →
        (t.lp p).burst.map (fun z => (z.asked, z.confirmed)) = some (y.asked, y.confirmed + 1)) ∧
      (x.dir = .forward → 301 < (s.lp p).account → (s.lp p).phase = none → (s.lp p).burst = some y →
        y.asked ≤ y.confirmed + 1 →
        (t.lp p).burst = none ∧ (t.lp p).stalls = 0 ∧ (t.lp p).blankEnd = some (s.now + dt + 20000)))

/-- R58: a lamp still SETTLING 10 s after its settle start is BURNING, with STRUCK; before that instant nothing changes (log
entry 13).

R67: a band episode that has lasted 5 s unreported is reported once, with CURRENT; a reading of a BURNING
lamp begins or ends the low-current start and the band episode. -/
def Obligations.BurningLampIsWatched : Prop :=
  (∀ (s : State) (dt : Nat) (p : Proj) (u : Instant), s.atRest p → (s.lp p).state = .settling →
    (s.lp p).settleStart = some u →
    (u + 100000 ≤ s.now + dt → exec (.settleEnd dt p) s = .next (((s.elapse dt).setLp p { s.lp p with
      state := .burning
      settleStart := none
      minute := some ⟨s.now + dt, 0⟩ }).reportProj p (.struck (s.lp p).current (s.lp p).voltage (s.lp p).sweepPulses
        (s.lp p).account (s.lp p).restrikeUsed))) ∧
    (s.now + dt < u + 100000 → exec (.settleEnd dt p) s = .next (s.elapse dt))) ∧
  (∀ (s : State) (dt : Nat) (p : Proj) (volts amps : Nat) (x : BandEpisode), (s.lp p).state = .burning →
    (exec (.arcReading dt p volts amps) s = .next ((s.elapse dt).setLp p { s.lp p with
      amps := amps
      lowStart := if amps < 10 then some ((s.lp p).lowStart.getD (s.now + dt)) else none
      band := if 85 * (s.lp p).current ≤ 100 * amps ∧ 100 * amps ≤ 115 * (s.lp p).current then none
        else some ((s.lp p).band.getD ⟨s.now + dt, false⟩) })) ∧
    ((s.lp p).band = some x → x.reported = false → x.start + 50000 ≤ s.now + dt →
      exec (.bandEpisodeExpiry dt p) s = .next (((s.elapse dt).setLp p { s.lp p with
        band := some ⟨x.start, true⟩ }).reportProj p (.current (s.lp p).amps (s.lp p).current
          (if 100 * (s.lp p).amps < 85 * (s.lp p).current then .low else .high)))) ∧
    ((s.lp p).band = none ∨ ((s.lp p).band = some x ∧ (x.reported = true ∨ s.now + dt < x.start + 50000)) →
      exec (.bandEpisodeExpiry dt p) s = .next (s.elapse dt)))

/-- R59 to R62: a voltage reading of a lit lamp joins the samples, of which five are kept, and a burst is evaluated at
once, as it is at the end of a blank-out: with five samples whose rounded mean M is Vs + 10 or more, no burst and no
blank-out, a burst of ceil((M - Vs) / 2) pulses, at most 16, begins, or is deferred while the reader assembles a group. The
lamp's last send lies 50 ms back (R55). Before its instant neither command does anything (log entry 13). -/
def Obligations.BurstFollowsTheMeanVoltage : Prop :=
  ∀ (s : State) (dt : Nat) (p : Proj) (volts m : Nat) (l : List Nat) (e u : Instant),
    ((s.lp p).state = .settling ∨ (s.lp p).state = .burning) → (s.lp p).phase = none →
    (s.lp p).outstanding = none → ((s.lp p).lastSend = none ∨ ((s.lp p).lastSend = some u ∧ u + 500 ≤ s.now + dt)) →
      (s.lp p).burst = none →
    m = (l.sum + 2) / 5 →
    ((s.lp p).nextSample = some e → s.now + dt < e → exec (.voltageSample dt p volts) s = .next (s.elapse dt)) ∧
    ((s.lp p).nextSample = some e → e ≤ s.now + dt → (s.lp p).samples.length < 4 →
      exec (.voltageSample dt p volts) s = .next ((s.elapse dt).setLp p { s.lp p with
        samples := (s.lp p).samples ++ [volts], nextSample := some (e + 1000), deferred := false })) ∧
    ((s.lp p).nextSample = some e → ((s.lp p).samples.length = 5 ∨ (s.lp p).samples.length = 4) →
      l = (if (s.lp p).samples.length = 5 then (s.lp p).samples.drop 1 else (s.lp p).samples) ++ [volts] →
    (e ≤ s.now + dt → (m < (s.lp p).voltage + 10 ∨ (s.lp p).blankEnd ≠ none) →
      exec (.voltageSample dt p volts) s = .next ((s.elapse dt).setLp p { s.lp p with
        samples := l, nextSample := some (e + 1000), deferred := false })) ∧
    (e ≤ s.now + dt → (s.lp p).voltage + 10 ≤ m → (s.lp p).blankEnd = none → (s.rd p).assembling = true →
      exec (.voltageSample dt p volts) s = .next ((s.elapse dt).setLp p { s.lp p with
        samples := l, nextSample := some (e + 1000), deferred := true })) ∧
    (e ≤ s.now + dt → (s.lp p).voltage + 10 ≤ m → (s.lp p).blankEnd = none → (s.rd p).assembling = false →
      exec (.voltageSample dt p volts) s = .next ((s.elapse dt).setLp p { s.lp p with
        samples := l
        nextSample := some (e + 1000)
        deferred := false
        burst := some ⟨min 16 ((m - (s.lp p).voltage + 1) / 2), 1, 0⟩
        outstanding := some ⟨.forward, s.now + dt⟩
        lastSend := some (s.now + dt) }))) ∧
    ((s.lp p).blankEnd = some e → e ≤ s.now + dt → (s.lp p).samples = l →
      (l.length < 5 ∨ m < (s.lp p).voltage + 10 → exec (.blankOutEnd dt p) s = .next ((s.elapse dt).setLp p { s.lp p with
        blankEnd := none, deferred := false })) ∧
      (l.length = 5 → (s.lp p).voltage + 10 ≤ m → (s.rd p).assembling = true →
        exec (.blankOutEnd dt p) s = .next ((s.elapse dt).setLp p { s.lp p with blankEnd := none, deferred := true })) ∧
      (l.length = 5 → (s.lp p).voltage + 10 ≤ m → (s.rd p).assembling = false →
      exec (.blankOutEnd dt p) s = .next ((s.elapse dt).setLp p { s.lp p with
        blankEnd := none
        deferred := false
        burst := some ⟨min 16 ((m - (s.lp p).voltage + 1) / 2), 1, 0⟩
        outstanding := some ⟨.forward, s.now + dt⟩
        lastSend := some (s.now + dt) }))) ∧
    ((s.lp p).blankEnd = some e → s.now + dt < e → exec (.blankOutEnd dt p) s = .next (s.elapse dt))

/-- R65, R66, R68: 200 ms below 10 A are an arc out. Where a restrike is permitted a strike sequence begins afresh, the
flag set and the contactor still closed; where not, the lamp is OFF, with NO-ARC out of SETTLING and ARC-OUT out of
BURNING. In every case the douser is given a close command. (The
order of the reports is log entry 16. Before the 200 ms nothing changes: log entry 13.) -/
def Obligations.ArcOutRestrikesOrStops : Prop :=
  ∀ (s : State) (dt : Nat) (p : Proj) (u : Instant), s.atRest p →
    ((s.lp p).state = .settling ∨ (s.lp p).state = .burning) → (s.lp p).lowStart = some u →
    (s.now + dt < u + 2000 → exec (.arcOut dt p) s = .next (s.elapse dt)) ∧
    (u + 2000 ≤ s.now + dt → ∃ t, exec (.arcOut dt p) s = .next t ∧
      (t.ds p).state ≠ .opened ∧ (t.ds p).state ≠ .opening ∧
      ((s.lp p).autostrike = true → (s.lp p).restrikeUsed = false → 400 ≤ (s.lp p).account →
        (s.booth.grade = .normal ∨ s.booth.grade = .warm) → s.booth.covers (projPort p) = false →
        t.lp p = ({ s.lp p with restrikeUsed := true }).struckAt (s.now + dt)) ∧
      (((s.lp p).autostrike = false ∨ (s.lp p).restrikeUsed = true ∨ (s.lp p).account < 400 ∨
          s.booth.grade = .hot ∨ s.booth.grade = .critical ∨ s.booth.covers (projPort p) = true) →
        t.lp p = (s.lp p).stopped (if (s.lp p).state = .settling then .noArc else .arcOut)) ∧
      (∀ q, q ≠ p → t.lp q = s.lp q ∧ t.ds q = s.ds q) ∧ t.transports = s.transports ∧ t.readers = s.readers ∧
      t.houses = s.houses ∧ t.lights = s.lights ∧ t.ports = s.ports ∧ t.booth = s.booth)

/-- R71, R67, R77: SET ARC is DONE in every lamp state: the set points are clamped; a new I resets the burn rate to
floor(6 x I / 5), ends a band episode whose reading lies in the new band, and has sufficiency judged afresh.

R74, R80: LOAD CARBON is refused with STATE unless the lamp is OFF; otherwise the account becomes ten times the length
clamped to 50 to 450 mm, the reply carries it, and sufficiency is judged afresh. The rate and the mark are kept. The
projector's house may be in a show, with a record that waits for it (an OFF lamp makes no projector READY), or for the
other, still not ready to follow, or that runs up. -/
def Obligations.LampSettingsTakeEffect : Prop :=
  (∀ (s : State) (dt : Nat) (b current : Byte) (voltage : BitVec 16) (auto : Bool) (p : Proj) (i v : Nat), s.linkReady →
    b.toNat = p.val + 1 → i = max 40 (min 90 current.toNat) → v = max 450 (min 700 voltage.toNat) →
    (i = (s.lp p).current → exec (.setArc dt b current voltage auto) s = .next (((s.elapse dt).setLp p { s.lp p with
      voltage := v
      autostrike := auto }).replied (.done 24 (.arc i v auto)))) ∧
    (i ≠ (s.lp p).current → s.houseAtRest (houseOf p) → ∃ t, exec (.setArc dt b current voltage auto) s = .next t ∧
      (t.lp p).current = i ∧ (t.lp p).voltage = v ∧ (t.lp p).autostrike = auto ∧ (t.lp p).rate = 6 * i / 5 ∧
      (t.lp p).sufficiency = t.sufficiencyOf p ∧
      (t.lp p).state = (s.lp p).state ∧ (t.lp p).account = (s.lp p).account ∧
      (85 * i ≤ 100 * (s.lp p).amps ∧ 100 * (s.lp p).amps ≤ 115 * i → (t.lp p).band = none) ∧
      (100 * (s.lp p).amps < 85 * i ∨ 115 * i < 100 * (s.lp p).amps → (t.lp p).band = (s.lp p).band) ∧
      (∀ q, q ≠ p → t.lp q = s.lp q) ∧ t.transports = s.transports ∧ t.readers = s.readers ∧ t.dousers = s.dousers ∧
      t.houses = s.houses ∧ t.lights = s.lights ∧ t.ports = s.ports ∧ t.booth = s.booth ∧
      t.link = s.link.replied (.done 24 (.arc i v auto)))) ∧
  (∀ (s : State) (dt : Nat) (b : Byte) (length : BitVec 16) (p : Proj) (n : Nat) (y : Changeover), s.linkReady →
    b.toNat = p.val + 1 → n = max 50 (min 450 length.toNat) * 10 →
    ((s.lp p).state ≠ .off →
      exec (.loadCarbon dt b length) s = .next ((s.elapse dt).replied (.refused 25 .state .nothing))) ∧
    ((s.lp p).state = .off → (s.hs (houseOf p)).state ≠ .starting → ((s.hs (houseOf p)).change = none ∨
        ((s.hs (houseOf p)).change = some y ∧ (y.phase = .runup ∨ y.phase = .locked ∨
          ((y.phase = .waitReady ∨ y.phase = .delay) ∧
            (y.incoming = p ∨ s.readyToFollow (houseOf p) y.incoming = false))))) →
      ∃ t, exec (.loadCarbon dt b length) s = .next t ∧
      t.lp p = { s.lp p with account := n, sufficiency := t.sufficiencyOf p } ∧ (∀ q, q ≠ p → t.lp q = s.lp q) ∧
      t.transports = s.transports ∧ t.readers = s.readers ∧ t.dousers = s.dousers ∧ t.houses = s.houses ∧
      t.lights = s.lights ∧ t.ports = s.ports ∧ t.booth = s.booth ∧ t.link = s.link.replied (.done 25 (.account n))))

/-- R78, R80, R82: when 60 s of BURNING have passed the burn rate is filtered with the minute's pulses, a new minute
begins, and a lamp that is short while its entry is SHOWING is reported with CARBON LOW, once for each reel armed. The
house is not STARTING, and it has no changeover record, or one whose incoming is another projector that the new judgement
does not make ready. Before the 60 s nothing changes (log entry 13). -/
def Obligations.MinuteFiltersTheBurnRate : Prop :=
  ∀ (s : State) (dt : Nat) (p : Proj) (x : Minute) (r : Nat) (e : ReelEntry) (y : Sufficiency) (h : HouseId)
    (z : Changeover), h = houseOf p →
    (s.hs h).state ≠ .starting → ((s.hs h).change = none ∨ ((s.hs h).change = some z ∧ z.incoming ≠ p ∧
      (z.phase = .runup ∨ z.phase = .locked ∨
        ((z.phase = .waitReady ∨ z.phase = .delay) ∧ s.readyToFollow h z.incoming = false)))) → (s.lp p).state = .burning →
    (s.lp p).minute = some x → r = min 255 ((7 * (s.lp p).rate + x.pulses + 4) / 8) →
    (s.now + dt < x.start + 600000 → exec (.minuteEnd dt p) s = .next (s.elapse dt)) ∧
    (x.start + 600000 ≤ s.now + dt → ∃ t, exec (.minuteEnd dt p) s = .next t ∧
      (t.lp p).rate = r ∧ (t.lp p).minute = some ⟨s.now + dt, 0⟩ ∧ (t.lp p).state = .burning ∧
      (t.lp p).account = (s.lp p).account ∧
      (r ≠ (s.lp p).rate → (t.lp p).sufficiency = t.sufficiencyOf p) ∧
      (r = (s.lp p).rate → (t.lp p).sufficiency = (s.lp p).sufficiency) ∧
      (s.heldEntry p = some e → e.status = .showing → (s.lp p).carbonLow = false → (t.lp p).sufficiency = some y →
        y.sufficient = false → (t.lp p).carbonLow = true ∧ t.link = s.link.enqueue (projNumber p)
          (.carbonLow (s.lp p).account y.need y.frames r (s.tr p).counter)) ∧
      (s.heldEntry p = none ∨ (s.heldEntry p = some e ∧ e.status ≠ .showing) ∨ (s.lp p).carbonLow = true ∨
          ((t.lp p).sufficiency = some y ∧ y.sufficient = true) →
        (t.lp p).carbonLow = (s.lp p).carbonLow ∧ t.link = s.link) ∧
      (∀ q, q ≠ p → t.lp q = s.lp q) ∧ t.transports = s.transports ∧ t.readers = s.readers ∧
      t.dousers = s.dousers ∧ t.houses = s.houses ∧ t.lights = s.lights ∧ t.ports = s.ports ∧ t.booth = s.booth)

/-- R54 to R58, R68: no command leaves a lamp with a strike phase that is not STRIKING.

R76: no command leaves a lamp struck or lit whose burn account has come down to the stub limit of 300 pulses, lamps having a
strike phase only while STRIKING. (That the law holds while STRIKING too is the model's: log entry 25.) -/
def Obligations.StubAndPhaseLawsAreKept : Prop :=
  (∀ (c : Instr) (s t : State), (∀ p, (s.lp p).phased) → exec c s = .next t → ∀ p, (t.lp p).phased) ∧
  (∀ (c : Instr) (s t : State), (∀ p, (s.lp p).phased) → (∀ p, (s.lp p).state ≠ .off → 300 < (s.lp p).account) →
    exec c s = .next t → ∀ p, (t.lp p).state ≠ .off → 300 < (t.lp p).account)

/-! ## Show programs -/

/-- R85, R86: an accepted ADD REEL appends its entry, PENDING and with its light cues clamped and unfired, at the tail of the
plan, makes an IDLE house READY, and answers with the number of entries.

R87, R91: CLEAR PROGRAM is refused with STATE in a show, or while an ARMED projector of the house is not STOPPED.
Otherwise the house is IDLE with an empty plan, and its projectors are EMPTY; the levels, the speed and the lights keep
their values. -/
def Obligations.PlanIsBuiltAndCleared : Prop :=
  (∀ (s : State) (dt : Nat) (b : Byte) (e : ReelSpec) (h : HouseId) (sd : Side), s.linkReady → b.toNat = h.val + 1 →
    ((s.hs h).state = .idle ∨ (s.hs h).state = .ready) → e.side.toNat = (match sd with | .a => 1 | .b => 2) →
    1 ≤ e.reel.toNat → e.reel.toNat ≤ 99 → e.leader.toNat ≤ 960 → 1 ≤ e.picture.toNat → e.picture.toNat ≤ 48000 →
    e.cues.length ≤ 4 → (s.hs h).plan.length < 12 → (∀ x ∈ (s.hs h).plan, x.reel ≠ e.reel.toNat ∧ x.last = false) →
    e.motorFrame.toNat ≤ e.leader.toNat + e.picture.toNat → e.changeFrame.toNat ≤ e.leader.toNat + e.picture.toNat →
    (e.motorFrame.toNat < e.changeFrame.toNat ∨ e.motorFrame.toNat = 0 ∨ e.changeFrame.toNat = 0) →
    exec (.addReel dt b e) s = .next (((s.elapse dt).setHs h { s.hs h with
      state := .ready
      plan := (s.hs h).plan ++ [
        { reel := e.reel.toNat
          side := sd
          leader := e.leader.toNat
          picture := e.picture.toNat
          motorFrame := if e.motorFrame.toNat = 0 then none else some e.motorFrame.toNat
          changeFrame := if e.changeFrame.toNat = 0 then none else some e.changeFrame.toNat
          last := e.last
          cues := e.cues.map (fun c =>
            { trigger := match c.trigger with
                | .start => .start
                | .tab => .tab
                | .frame => .frame c.frame.toNat
                | .ending => .ending
              target := min 1000 c.target.toNat
              fade := min 600 c.fade.toNat
              fired := false })
          status := .pending }] }).replied (.done 27 (.entryCount ((s.hs h).plan.length + 1))))) ∧
  (∀ (s : State) (dt : Nat) (b : Byte) (h : HouseId), s.linkReady → b.toNat = h.val + 1 →
    ((s.hs h).state.inShow = true → exec (.clearProgram dt b) s =
      .next ((s.elapse dt).replied (.refused 26 .state .nothing))) ∧
    ((∃ p, houseOf p = h ∧ (s.tr p).armed ≠ none ∧ (s.tr p).state ≠ .stopped) → exec (.clearProgram dt b) s =
      .next ((s.elapse dt).replied (.refused 26 .state .nothing))) ∧
    (s.houseAtRest h → (∀ p, houseOf p = h → (s.tr p).armed ≠ none →
        (s.tr p).state = .stopped ∧ (s.tr p).armed.map (fun a => a.house) = some h) →
      ∃ t, exec (.clearProgram dt b) s = .next t ∧
        (t.hs h).plan = [] ∧ (t.hs h).state = .idle ∧ (t.hs h).holdReason = none ∧ (t.hs h).liveSide = none ∧
        (t.hs h).levels = (s.hs h).levels ∧ (t.hs h).speed = (s.hs h).speed ∧ (t.hs h).gate = (s.hs h).gate ∧
        (∀ p, houseOf p = h → (t.tr p).armed = none ∧ (t.tr p).state = (s.tr p).state) ∧
        (∀ p, houseOf p = h → (s.tr p).armed ≠ none → (t.tr p).counter = 0 ∧ (t.rd p).state = .off ∧
          (t.rd p).queue = [] ∧ (t.lp p).sufficiency = none) ∧
        (∀ p, houseOf p ≠ h → t.tr p = s.tr p ∧ t.rd p = s.rd p ∧ t.lp p = s.lp p) ∧
        (∀ g, g ≠ h → t.hs g = s.hs g) ∧ t.dousers = s.dousers ∧ t.lights = s.lights ∧ t.ports = s.ports ∧
        t.booth = s.booth ∧ t.link = s.link.replied (.done 26 .nothing)))

/-- R89, R21, R80, R81: an accepted ARM REEL. The projector holds the entry, which is ARMED with its fired marks clear; the
frame counter is the start frame; the reader hunts below the leader and watches past it, with nothing queued; the
carbon-low mark is clear, and sufficiency is judged, with CARBON SHORT where the lamp is short (stated for a transmitter that
is SENDING).

R90, R91, R14: UNARM is refused with STATE while the transport moves, or of a projector that holds a SHOWING entry.
Otherwise the projector is EMPTY, its counter 0, a BROKEN transport STOPPED, its reader OFF with nothing queued; an ARMED
entry becomes PENDING again. -/
def Obligations.ReelsAreArmedAndUnarmed : Prop :=
  (∀ (s : State) (dt : Nat) (b reel : Byte) (start : Option (BitVec 16)) (p : Proj) (e : ReelEntry) (n : Nat)
    (x : Sufficiency),
    s.linkReady → b.toNat = p.val + 1 → s.houseAtRest (houseOf p) → (s.hs (houseOf p)).state ≠ .idle →
    (s.tr p).armed = none → (s.tr p).state = .stopped → findReel (s.hs (houseOf p)).plan reel.toNat = some e →
    (e.status = .pending ∨ e.status = .interrupted) → e.side = sideOf p →
    n = (match start with | none => 0 | some w => w.toNat) → n < e.leader + e.picture →
    ∃ t, exec (.armReel dt b reel start) s = .next t ∧
      t.tr p = { s.tr p with armed := some ⟨houseOf p, e.reel, n⟩, counter := n } ∧
      t.rd p = { s.rd p with state := if n < e.leader then .hunt else .watch, group := none, held := [], queue := [] } ∧
      (t.lp p).carbonLow = false ∧ (t.lp p).sufficiency = t.sufficiencyOf p ∧ (t.lp p).sufficiency ≠ none ∧
      (t.lp p).account = (s.lp p).account ∧ (t.lp p).state = (s.lp p).state ∧
      (t.hs (houseOf p)).plan = (s.hs (houseOf p)).plan.map (fun x => if x.reel = e.reel then
        { x with status := .armed, cues := x.cues.map (fun c => { c with fired := false }) } else x) ∧
      (t.hs (houseOf p)).state = (s.hs (houseOf p)).state ∧
      t.link.slot = some (.done 28 (.judged (t.lp p).sufficiency)) ∧
      ((t.lp p).sufficiency = some x → x.sufficient = true →
        t.link = s.link.replied (.done 28 (.judged (some x)))) ∧
      ((t.lp p).sufficiency = some x → x.sufficient = false → s.link.transmitter ≠ .idle →
        t.link = { s.link.enqueue (projNumber p)
          (.carbonShort e.reel (s.lp p).account x.need x.frames (s.lp p).rate) with
          slot := some (.done 28 (.judged (some x))) }) ∧
      (∀ q, q ≠ p → t.tr q = s.tr q ∧ t.rd q = s.rd q ∧ t.lp q = s.lp q) ∧
      (∀ g, g ≠ houseOf p → t.hs g = s.hs g) ∧ t.dousers = s.dousers ∧ t.lights = s.lights ∧ t.ports = s.ports ∧
      t.booth = s.booth) ∧
  (∀ (s : State) (dt : Nat) (b : Byte) (p : Proj) (a : Armed) (e : ReelEntry), s.linkReady → b.toNat = p.val + 1 →
    (((s.tr p).state = .starting ∨ (s.tr p).state = .running ∨ (s.tr p).state = .stopping) →
      exec (.unarm dt b) s = .next ((s.elapse dt).replied (.refused 29 .state .nothing))) ∧
    (s.heldEntry p = some e → e.status = .showing →
      exec (.unarm dt b) s = .next ((s.elapse dt).replied (.refused 29 .state .nothing))) ∧
    (((s.tr p).state = .stopped ∨ (s.tr p).state = .broken) → s.atRest p →
      (s.heldEntry p = none ∨ (s.heldEntry p = some e ∧ e.status ≠ .showing)) →
      ∃ t, exec (.unarm dt b) s = .next t ∧
        t.tr p = { s.tr p with armed := none, counter := 0, state := .stopped } ∧
        t.rd p = { s.rd p with state := .off, group := none, held := [], queue := [] } ∧
        (t.lp p).sufficiency = none ∧ (t.lp p).state = (s.lp p).state ∧ (t.lp p).account = (s.lp p).account ∧
        ((s.tr p).armed = some a → (t.hs a.house).plan = (s.hs a.house).plan.map (fun x =>
          if x.reel = a.reel then { x with status := if x.status = .armed then .pending else x.status } else x)) ∧
        (∀ q, q ≠ p → t.tr q = s.tr q ∧ t.rd q = s.rd q ∧ t.lp q = s.lp q) ∧
        t.dousers = s.dousers ∧ t.lights = s.lights ∧ t.ports = s.ports ∧ t.booth = s.booth ∧
        t.link = s.link.replied (.done 29 .nothing)))

/-- R94, R92, R3: START of a READY or held house whose next entry's projector is READY: the house is STARTING on that
side and the motor is started. A house in another state is refused with STATE.

R94, R92: with every entry DONE, or a next entry whose projector is not READY, START is refused with NOT READY, and the
reply names the entry's reel and the conditions that failed (with every entry DONE none: log entry 21). -/
def Obligations.StartStartsTheNextReel : Prop :=
  (∀ (s : State) (dt : Nat) (b : Byte) (h : HouseId) (e : ReelEntry), s.linkReady → b.toNat = h.val + 1 →
    ((s.hs h).state ≠ .ready → (s.hs h).state ≠ .hold →
      exec (.start dt b) s = .next ((s.elapse dt).replied (.refused 30 .state .nothing))) ∧
    (((s.hs h).state = .ready ∨ (s.hs h).state = .hold) → (s.hs h).plan.find? (fun x => x.status ≠ .finished) = some e →
      e.status = .armed → (s.tr (projAt h e.side)).armed.map (fun a => (a.house, a.reel)) = some (h, e.reel) →
      (s.tr (projAt h e.side)).state = .stopped → (s.lp (projAt h e.side)).state = .burning →
      (s.lp (projAt h e.side)).sufficiency.map (fun x => x.sufficient) = some true →
      (s.pt (projPort (projAt h e.side))).state = .held → (s.ds (projAt h e.side)).state = .closed →
      ∃ t, exec (.start dt b) s = .next t ∧
        t.hs h = { s.hs h with holdReason := none, dark := false, startingSide := some e.side, state := .starting } ∧
        t.tr (projAt h e.side) = { s.tr (projAt h e.side) with
          state := .starting
          motorOn := some (s.now + dt)
          lastPulse := none
          lockRunStart := none
          lockCount := 0
          outCount := 0
          miss := .normal
          speedFault := false
          recovery := 0 } ∧
        (∀ q, q ≠ projAt h e.side → t.tr q = s.tr q ∧ t.rd q = s.rd q) ∧ (∀ g, g ≠ h → t.hs g = s.hs g) ∧
        (∀ q, houseOf q ≠ h → t.ds q = s.ds q) ∧ t.lamps = s.lamps ∧ t.lights = s.lights ∧ t.ports = s.ports ∧
        t.booth = s.booth ∧ t.link.slot = some (.done 30 .nothing))) ∧
  (∀ (s : State) (dt : Nat) (b : Byte) (h : HouseId) (e : ReelEntry) (p : Proj) (f : ReadyFailures), s.linkReady →
    b.toNat = h.val + 1 →
    ((s.hs h).state = .ready ∨ (s.hs h).state = .hold) →
    ((∀ x ∈ (s.hs h).plan, x.status = .finished) → exec (.start dt b) s =
      .next ((s.elapse dt).replied (.refused 30 .notReady (.notReady none ⟨false, false, false, false, false, false⟩)))) ∧
    ((s.hs h).plan.find? (fun x => x.status ≠ .finished) = some e → p = projAt h e.side →
      (f.entryArmed = false ↔ e.status = .armed ∧ (s.tr p).armed.map (fun a => (a.house, a.reel)) = some (h, e.reel)) →
      (f.stopped = false ↔ (s.tr p).state = .stopped) → (f.burning = false ↔ (s.lp p).state = .burning) →
      (f.sufficient = false ↔ (s.lp p).sufficiency.map (fun x => x.sufficient) = some true) →
      (f.portHeld = false ↔ (s.pt (projPort p)).state = .held) →
      (f.douserClosed = false ↔ (s.ds p).state = .closed) → f ≠ ⟨false, false, false, false, false, false⟩ →
      exec (.start dt b) s = .next ((s.elapse dt).replied (.refused 30 .notReady (.notReady (some e.reel) f)))))

/-- R97, R98: HOLD, and a press of the HOLD button, while a house is STARTING, SHOWING or ENDING: the house is in HOLD with
reason HOST or PANEL, its gate NONE, no record and no end in progress; its motors are stopped, its dousers closing or
closed, and its lights given the hold level over 30 tenths of a second. A group that the reader of a projector so stopped has
in assembly is abandoned, and its held counted entries join the queue (R22, R30).

R98: HOLD of a house in no show is refused with STATE, and a press of its HOLD button is ignored, with PANEL IGNORED. -/
def Obligations.HoldStopsTheShow : Prop :=
  (∀ (c : Instr) (s : State) (dt : Nat) (b : Byte) (h : HouseId) (reason : HoldReason),
    (s.hs h).state.inShow = true → (∀ p, houseOf p = h → (s.ds p).state ≠ .stuck) → (s.hs h).retiring = none →
    (∀ p, (s.hs h).change.map (fun x => x.incoming) = some p → houseOf p = h) →
    ((c = .hold dt b ∧ b.toNat = h.val + 1 ∧ s.linkReady ∧ reason = .host) ∨ (c = .holdButton dt h ∧ reason = .panel)) →
    ∃ t, exec c s = .next t ∧
      (t.hs h).state = .hold ∧ (t.hs h).holdReason = some reason ∧ (t.hs h).gate = .none ∧ (t.hs h).change = none ∧
      (t.hs h).ending = none ∧ (t.hs h).startingSide = none ∧ (t.hs h).dark = false ∧
      (t.hs h).liveSide = (s.hs h).liveSide ∧ (t.hs h).levels = (s.hs h).levels ∧ (t.hs h).speed = (s.hs h).speed ∧
      (∀ p, houseOf p = h → (t.tr p).state ≠ .starting ∧ (t.tr p).state ≠ .running ∧
        (t.ds p).state ≠ .opened ∧ (t.ds p).state ≠ .opening) ∧
      (∀ p, houseOf p = h → (s.hs h).change.map (fun x => x.incoming) ≠ some p →
        (s.tr p).state = .starting ∨ (s.tr p).state = .running → (s.rd p).assembling = true → (s.rd p).queue.length ≤ 8 →
        t.rd p = { s.rd p with
          state := .off
          group := none
          held := []
          queue := ((s.rd p).queue ++ (s.rd p).held).take 8 }) ∧
      (t.lt h).programTarget = (s.hs h).levels.hold ∧ (t.lt h).programFade = 30 ∧
      (∀ p, houseOf p ≠ h → t.tr p = s.tr p ∧ t.rd p = s.rd p ∧ t.ds p = s.ds p ∧ t.lp p = s.lp p) ∧
      (∀ g, g ≠ h → t.lt g = s.lt g) ∧ t.ports = s.ports ∧ t.booth = s.booth) ∧
  (∀ (s : State) (dt : Nat) (b : Byte) (h : HouseId), (s.hs h).state.inShow = false →
    (s.linkReady → b.toNat = h.val + 1 →
      exec (.hold dt b) s = .next ((s.elapse dt).replied (.refused 31 .state .nothing))) ∧
    exec (.holdButton dt h) s = .next ((s.elapse dt).reportHouse h (.panelIgnored .hold (s.hs h).state none)))

/-- R99, R133: SET HOUSE LEVELS is DONE in every house state: the four levels, each clamped to 0 to 1000, are in force, the
reply carries them, and the light channel has the emergency level, at which its level jumps where its SAFETY layer is
active; a target already given and a fade already running stand. A number outside 1 to 4 is refused with TARGET. The levels
are 600, 300, 300 and 1000 after a power-on, and a RESTART keeps them.

R99, R96, R97, R122, R123: the PROGRAM target of a hold, of an abandoned start, of a break and of a runout is the level in
force when it is given. (A house that is not SHOWING has no changeover record, as GatingAndShowLawsAreKept keeps it.) -/
def Obligations.SetHouseLevelsPutsThemInForce : Prop :=
  (∀ (s : State) (dt : Nat) (b : Byte) (v w x y : BitVec 16) (h : HouseId) (l : HouseLevels), s.linkReady →
    b.toNat = h.val + 1 → l = ⟨min 1000 v.toNat, min 1000 w.toNat, min 1000 x.toNat, min 1000 y.toNat⟩ →
    exec (.setHouseLevels dt b v w x y) s = .next ((((s.elapse dt).setHs h { s.hs h with levels := l }).setLt h
      (if (s.lt h).safetyActive then { s.lt h with
          safetyTarget := l.emergency
          level := l.emergency
          drive := (l.emergency * l.emergency * 255 + 500000) / 1000000
          fade := none }
        else { s.lt h with safetyTarget := l.emergency })).replied (.done 33 (.levels l)))) ∧
  (∀ (s : State) (dt : Nat) (b : Byte) (v w x y : BitVec 16) (h : HouseId) (i : FieldInputs)
    (sw : Bank SwitchPair 8), s.linkReady →
    (b.toNat = 0 ∨ 4 < b.toNat →
      exec (.setHouseLevels dt b v w x y) s = .next ((s.elapse dt).replied (.refused 33 .target .nothing))) ∧
    (∃ t, exec (.powerOn dt i) s = .next t ∧ (t.hs h).levels = ⟨600, 300, 300, 1000⟩) ∧
    (∃ t, exec (.restart dt sw) s = .next t ∧ (t.hs h).levels = (s.hs h).levels)) ∧
  (∀ (s : State) (dt : Nat) (p : Proj) (h : HouseId) (u : Instant) (e : ReelEntry) (reading : Byte), h = houseOf p →
    s.recordInShow h →
    ((s.hs h).state.inShow = true → ∃ t, exec (.holdButton dt h) s = .next t ∧
        (t.lt h).programTarget = (s.hs h).levels.hold ∧ (t.lt h).programFade = 30) ∧
    ((s.tr p).state = .running → (s.tr p).lastPulse = some u → 25000 ≤ (s.now + dt - u) * s.speedOf p →
      ((s.hs h).state = .starting → (s.hs h).startingSide = some (sideOf p) → ∃ t, exec (.breakDeadline dt p) s = .next t ∧
        (t.lt h).programTarget = (s.hs h).levels.hold ∧ (t.lt h).programFade = 30) ∧
      ((s.hs h).state = .showing → (s.hs h).liveSide = some (sideOf p) → (s.hs h).change = none →
        (s.rd p).assembling = false → ∃ t, exec (.breakDeadline dt p) s = .next t ∧
        (t.lt h).programTarget = (s.hs h).levels.brk ∧ (t.lt h).programFade = 10)) ∧
    ((s.tr p).state = .running → (s.tr p).lastPulse = some u → (s.hs h).state = .showing →
      (s.hs h).liveSide = some (sideOf p) → (s.hs h).change = none → s.heldEntry p = some e → e.last = false →
      (s.tr p).armed.map (fun a => a.house) = some h →
      (s.hs h).retiring.map (fun x => x.projector) ≠ some p →
      e.motorFrame = none → e.changeFrame = none → e.leader + e.picture ≤ (s.tr p).counter + 1 → (s.tr p).counter < 65535 →
      (s.rd p).state = .watch → (s.rd p).queue = [] → reading.toNat < (s.rd p).threshold →
      ∃ t, exec (.tachPulse dt p reading) s = .next t ∧
        (t.lt h).programTarget = (s.hs h).levels.runout ∧ (t.lt h).programFade = 30))

/-- R95: a counted pulse of the starting projector begins the live picture where it finds it RUNNING with the frame counter
at the leader or past it, or is the one that locks its speed (R7) there, as of a reel armed past its leader: its douser
opens, the gate selects its side, its entry is SHOWING, and the house is SHOWING with that side live and every mark clear;
its reader, in HUNT till then (R23), WATCHes. Here the entry has no light cue and no expected frame, and the counter is below
the tail; the reel numbers of the plan are distinct (R85, a law that GatingAndShowLawsAreKept keeps).

R96: the start is abandoned where the starting projector fails before that: at its run-up limit (reason START), at a break
(BREAK), when its lamp leaves BURNING (LAMP), when its douser is STUCK (DOUSER), and when its port leaves HELD (FIRE). The
house is in HOLD, its gate NONE, the entry still ARMED in its projector, whose motor is stopped, its dousers not open, and its
lights given the hold level over 30. -/
def Obligations.PictureBeginsAtTheLeader : Prop :=
  (∀ (s : State) (dt : Nat) (p : Proj) (h : HouseId) (e : ReelEntry) (reading : Byte) (u : Instant) (m : Nat),
    h = houseOf p → (s.hs h).state = .starting → (s.hs h).startingSide = some (sideOf p) → (s.hs h).change = none →
    (s.hs h).retiring = none → (s.hs h).runoutCount = none → s.distinctReels h →
    ((s.tr p).state = .running ∨ ((s.tr p).state = .starting ∧ (s.tr p).lockCount = 7 ∧ m = (s.now + dt - u) * s.speedOf p ∧
      9800 ≤ m ∧ m ≤ 10200)) →
    (s.tr p).lastPulse = some u →
    (s.tr p).armed.map (fun a => a.house) = some h → s.heldEntry p = some e → e.cues = [] → e.motorFrame = none →
    e.changeFrame = none → e.leader ≤ (s.tr p).counter + 1 → (s.tr p).counter + 1 < e.leader + e.picture →
    (s.tr p).counter < 65535 → ((s.rd p).state = .hunt ∨ (s.rd p).state = .watch) → (s.rd p).queue = [] →
    reading.toNat < (s.rd p).threshold → (s.ds p).state = .closed → (s.lp p).state = .burning →
    (s.pt (projPort p)).state = .held →
    ∃ t, exec (.tachPulse dt p reading) s = .next t ∧
      t.hs h = { s.hs h with
        state := .showing
        liveSide := some (sideOf p)
        startingSide := none
        gate := .side (sideOf p)
        marks := ⟨false, false, false, false, false⟩
        plan := (s.hs h).plan.map (fun w => if w.reel = e.reel then { w with status := .showing } else w) } ∧
      t.ds p = { s.ds p with
        drive := .opens
        state := .opening
        travel := some ⟨.opens, s.now + dt, true, 2 * (s.ds p).openTime + 100⟩ } ∧
      t.rd p = { s.rd p with state := .watch } ∧
      (t.tr p).counter = (s.tr p).counter + 1 ∧ (t.tr p).state = .running ∧
      (∀ q, q ≠ p → t.tr q = s.tr q ∧ t.ds q = s.ds q ∧ t.rd q = s.rd q ∧ t.lp q = s.lp q) ∧
      (∀ g, g ≠ h → t.hs g = s.hs g) ∧ t.lights = s.lights ∧ t.ports = s.ports ∧ t.booth = s.booth) ∧
  (∀ (c : Instr) (s : State) (dt : Nat) (b : Byte) (p : Proj) (h : HouseId) (on u : Instant) (reason : HoldReason), h = houseOf p →
    (s.hs h).state = .starting → (s.hs h).startingSide = some (sideOf p) → (s.hs h).change = none →
    (s.hs h).retiring = none → (s.hs h).runoutCount = none → ((s.tr p).state = .starting ∨ (s.tr p).state = .running) →
    (c = .runupLimit dt p ∧ (s.tr p).state = .starting ∧ (s.tr p).motorOn = some on ∧ on + 60000 ≤ s.now + dt ∧ reason = .start) ∨
      (c = .breakDeadline dt p ∧ (s.tr p).state = .running ∧ (s.tr p).lastPulse = some u ∧
        25000 ≤ (s.now + dt - u) * s.speedOf p ∧ reason = .brk) ∨
      (c = .extinguish dt b ∧ b.toNat = p.val + 1 ∧ s.linkReady ∧ (s.lp p).state = .burning ∧ reason = .lamp) ∨
      (c = .douserSwitchCloses dt p .openEnd ∧ (s.ds p).state = .closed ∧ reason = .douser) ∨
      (c = .upSwitchOpens dt (projPort p) ∧ (s.pt (projPort p)).state = .held ∧ reason = .fire) →
    ∃ t, exec c s = .next t ∧
      t.hs h = { s.hs h with state := .hold, holdReason := some reason, startingSide := none, gate := .none } ∧
      (t.tr p).state ≠ .starting ∧ (t.tr p).state ≠ .running ∧ (t.tr p).armed = (s.tr p).armed ∧
      (t.rd p).state = .off ∧ (∀ x, houseOf x = h → (t.ds x).state ≠ .opened ∧ (t.ds x).state ≠ .opening) ∧
      (t.lt h).programTarget = (s.hs h).levels.hold ∧ (t.lt h).programFade = 30 ∧
      (∀ x, x ≠ p → t.tr x = s.tr x ∧ t.rd x = s.rd x ∧ t.lp x = s.lp x) ∧ (∀ x, houseOf x ≠ h → t.ds x = s.ds x) ∧
      (∀ i, i ≠ h → t.hs i = s.hs i ∧ t.lt i = s.lt i))

/-- R100, R122: the live frame counter reaches the tail. On the last reel the end sequence begins: the house is ENDING, its
douser closing. On another, with no changeover record, the reel runs out: the house is in HOLD with reason RUNOUT, its
entry INTERRUPTED, its gate NONE and its lights given the runout level over 30, while the motor runs on, counted from 0.
Here the entry has no light cue and no expected frame, the douser is OPEN, and the reel numbers of the plan are distinct
(R85).

R101: the end record. DOUSING gives way to RUN-OUT, with the gate NONE, when the live douser is CLOSED or STUCK; the
forty-eighth counted pulse of RUN-OUT stops the motor, and the phase is STOPPING; with the transport STOPPED the end completes:
the entry is DONE, the projector disarmed, the house DONE, and SHOW END queued. A break completes it in any phase, with the
projector left holding its DONE entry. (That BREAK is queued before SHOW END is the model's, log entry 16.)

R122: the forty-eighth counted pulse of a runout stops the motor, and the count is absent, as it is after a break. -/
def Obligations.TailEndsTheShowOrRunsOut : Prop :=
  (∀ (s : State) (dt : Nat) (h : HouseId) (p : Proj) (reading : Byte) (u : Instant) (e : ReelEntry), h = houseOf p →
    (s.hs h).state = .showing → (s.hs h).liveSide = some (sideOf p) → (s.hs h).change = none →
    (s.hs h).retiring = none → (s.tr p).state = .running → (s.tr p).lastPulse = some u →
    (s.tr p).armed.map (fun a => a.house) = some h → (s.rd p).state = .watch → (s.rd p).queue = [] →
    reading.toNat < (s.rd p).threshold → s.heldEntry p = some e → e.cues = [] → e.motorFrame = none →
    e.changeFrame = none → (s.tr p).counter + 1 = e.leader + e.picture → (s.tr p).counter < 65535 →
    (s.ds p).state = .opened → s.distinctReels h →
    ∃ t, exec (.tachPulse dt p reading) s = .next t ∧
      (e.last = true → t.hs h = { s.hs h with state := .ending, dark := false, ending := some ⟨.dousing, 0⟩ } ∧
        t.lights = s.lights) ∧
      (e.last = false → t.hs h = { s.hs h with
          state := .hold
          holdReason := some .runout
          dark := false
          gate := .none
          runoutCount := some 0
          plan := (s.hs h).plan.map (fun w => if w.reel = e.reel then { w with status := .interrupted } else w) } ∧
        (t.lt h).programTarget = (s.hs h).levels.runout ∧ (t.lt h).programFade = 30) ∧
      t.ds p = { s.ds p with
        drive := .closes
        state := .closing
        travel := some ⟨.closes, s.now + dt, true, 2 * (s.ds p).closeTime + 100⟩ } ∧
      (t.tr p).state = .running ∧ (t.tr p).counter = (s.tr p).counter + 1 ∧
      (∀ q, q ≠ p → t.tr q = s.tr q ∧ t.rd q = s.rd q ∧ t.ds q = s.ds q ∧ t.lp q = s.lp q) ∧
      (∀ i, i ≠ h → t.hs i = s.hs i ∧ t.lt i = s.lt i) ∧ t.ports = s.ports ∧ t.booth = s.booth) ∧
  (∀ (s : State) (dt : Nat) (h : HouseId) (p : Proj) (e : ReelEntry) (n : Nat) (x : Travel), s.endsReel h p e ⟨.dousing, n⟩ →
    (s.ds p).state = .closing → (s.ds p).travel = some x →
    (x.full = false → exec (.douserSwitchCloses dt p .closedEnd) s = .next (((s.elapse dt).setDs p { s.ds p with
      state := .closed
      travel := none
      switches := some ⟨⟨false, true⟩, s.now + dt⟩ }).setHs h { s.hs h with gate := .none, ending := some ⟨.runOut, n⟩ })) ∧
    (∃ t, exec (.douserSwitchCloses dt p .closedEnd) s = .next t ∧
      t.hs h = { s.hs h with gate := .none, ending := some ⟨.runOut, n⟩ } ∧ (t.ds p).state = .closed ∧
      (∀ q, q ≠ p → t.ds q = s.ds q) ∧ (∀ i, i ≠ h → t.hs i = s.hs i) ∧ t.transports = s.transports ∧
      t.readers = s.readers ∧ t.lamps = s.lamps ∧ t.lights = s.lights ∧ t.ports = s.ports ∧ t.booth = s.booth ∧
      t.link = s.link) ∧
    ((s.tr p).state = .running → x.start + 10 * x.limit ≤ s.now + dt → exec (.travelLimit dt p) s =
      .next ((((s.elapse dt).setDs p { s.ds p with state := .stuck, travel := none }).reportProj p
        (.douserStuck (match x.dir with | .opens => .opening | .closes => .closing) x.limit ((x.limit - 100) / 2))).setHs h
          { s.hs h with gate := .none, ending := some ⟨.runOut, n⟩ }))) ∧
  (∀ (s : State) (dt : Nat) (h : HouseId) (p : Proj) (e : ReelEntry) (n : Nat) (phase : EndPhase) (reading : Byte)
    (a u : Instant), s.endsReel h p e ⟨phase, n⟩ → (s.tr p).lastPulse = some u →
    (phase = .runOut → (s.tr p).state = .running → (s.rd p).state = .watch → reading.toNat < (s.rd p).threshold →
      ∃ t, exec (.tachPulse dt p reading) s = .next t ∧
        (n < 47 → t.hs h = { s.hs h with ending := some ⟨.runOut, n + 1⟩ } ∧ (t.tr p).state = .running ∧ t.rd p = s.rd p) ∧
        (n = 47 → s.noDouserCause p → t.hs h = { s.hs h with gate := .none, ending := some ⟨.stopping, 48⟩ } ∧
          (t.tr p).state = .stopping ∧ (t.tr p).stoppingSince = some (s.now + dt) ∧ t.rd p = { s.rd p with state := .off }) ∧
        (n ≤ 47 → s.noDouserCause p → (t.tr p).counter = min 65535 ((s.tr p).counter + 1) ∧ (t.tr p).armed = (s.tr p).armed ∧
          t.lp p = { s.lp p with sufficiency := t.sufficiencyOf p } ∧
          (∀ q, q ≠ p → t.tr q = s.tr q ∧ t.rd q = s.rd q ∧ t.lp q = s.lp q) ∧ (∀ i, i ≠ h → t.hs i = s.hs i) ∧
          t.dousers = s.dousers ∧ t.lights = s.lights ∧ t.ports = s.ports ∧ t.booth = s.booth)) ∧
    (phase = .stopping → (s.tr p).state = .stopping → (s.tr p).stoppingSince = some a → max a u + 5000 ≤ s.now + dt →
      s.noDouserCause p → ∃ t, exec (.runDownExpiry dt p) s = .next t ∧
        t.hs h = { s.hs h with
          state := .finished
          ending := none
          marks := { (s.hs h).marks with badReported := false }
          plan := (s.hs h).plan.map (fun w => if w.reel = e.reel then { w with status := .finished } else w) } ∧
        t.tr p = { s.tr p with state := .stopped, stoppingSince := none, armed := none, counter := 0 } ∧
        t.rd p = { s.rd p with state := .off, group := none, held := [], queue := [] } ∧ (t.lp p).sufficiency = none ∧
        (∀ q, q ≠ p → t.tr q = s.tr q ∧ t.rd q = s.rd q ∧ t.lp q = s.lp q) ∧ (∀ i, i ≠ h → t.hs i = s.hs i) ∧
        t.dousers = s.dousers ∧ t.lights = s.lights ∧ t.ports = s.ports ∧ t.booth = s.booth ∧
        t.link = s.link.enqueue (houseNumber h) (.showEnd e.reel (s.tr p).counter false)) ∧
    ((s.tr p).state = .running → (s.rd p).assembling = false → 25000 ≤ (s.now + dt - u) * s.speedOf p → s.noDouserCause p →
      ∃ t, exec (.breakDeadline dt p) s = .next t ∧
        t.hs h = { s.hs h with
          state := .finished
          gate := .none
          ending := none
          plan := (s.hs h).plan.map (fun w => if w.reel = e.reel then { w with status := .finished } else w) } ∧
        t.tr p = { s.tr p with state := .broken, miss := .normal, lockCount := 0 } ∧ t.rd p = { s.rd p with state := .off } ∧
        (∀ q, q ≠ p → t.tr q = s.tr q ∧ t.rd q = s.rd q) ∧ (∀ i, i ≠ h → t.hs i = s.hs i) ∧
        t.dousers = s.dousers ∧ t.lamps = s.lamps ∧ t.lights = s.lights ∧ t.ports = s.ports ∧ t.booth = s.booth ∧
        t.link = (s.link.enqueue (projNumber p) (.filmBreak (s.tr p).counter)).enqueue (houseNumber h)
          (.showEnd e.reel (s.tr p).counter true))) ∧
  (∀ (s : State) (dt : Nat) (h : HouseId) (p : Proj) (n : Nat) (reading : Byte) (u : Instant), h = houseOf p →
    (s.hs h).state = .hold → (s.hs h).liveSide = some (sideOf p) → (s.hs h).runoutCount = some n → (s.hs h).change = none →
    (s.hs h).gate = .none → (s.hs h).retiring.map (fun y => y.projector) ≠ some p → (s.tr p).state = .running →
    (s.tr p).lastPulse = some u → (s.ds p).state ≠ .opened → (s.ds p).state ≠ .opening →
    ((s.rd p).state = .watch → reading.toNat < (s.rd p).threshold → ∃ t, exec (.tachPulse dt p reading) s = .next t ∧
      (n < 47 → t.hs h = { s.hs h with runoutCount := some (n + 1) } ∧ (t.tr p).state = .running ∧ t.rd p = s.rd p) ∧
      (n = 47 → s.noDouserCause p → t.hs h = { s.hs h with runoutCount := none } ∧ (t.tr p).state = .stopping ∧
        (t.tr p).stoppingSince = some (s.now + dt) ∧ t.rd p = { s.rd p with state := .off }) ∧
      (n ≤ 47 → s.noDouserCause p → (t.tr p).counter = min 65535 ((s.tr p).counter + 1) ∧ (t.tr p).armed = (s.tr p).armed ∧
        t.lp p = { s.lp p with sufficiency := t.sufficiencyOf p } ∧
        (∀ q, q ≠ p → t.tr q = s.tr q ∧ t.rd q = s.rd q ∧ t.lp q = s.lp q) ∧ (∀ i, i ≠ h → t.hs i = s.hs i) ∧
        t.dousers = s.dousers ∧ t.lights = s.lights ∧ t.ports = s.ports ∧ t.booth = s.booth)) ∧
    ((s.rd p).assembling = false → 25000 ≤ (s.now + dt - u) * s.speedOf p → s.noDouserCause p →
      ∃ t, exec (.breakDeadline dt p) s = .next t ∧
        t.hs h = { s.hs h with runoutCount := none } ∧
        t.tr p = { s.tr p with state := .broken, miss := .normal, lockCount := 0 } ∧ t.rd p = { s.rd p with state := .off } ∧
        (∀ q, q ≠ p → t.tr q = s.tr q ∧ t.rd q = s.rd q) ∧ (∀ i, i ≠ h → t.hs i = s.hs i) ∧
        t.dousers = s.dousers ∧ t.lamps = s.lamps ∧ t.lights = s.lights ∧ t.ports = s.ports ∧ t.booth = s.booth ∧
        t.link = s.link.enqueue (projNumber p) (.filmBreak (s.tr p).counter)))

/-! ## The changeover -/

/-- R28, R106, R107, R111, R112: the pulse that closes a one-tab group of the live reel. The MOTOR entry is taken from the
queue; a record is made, timed from the tab's frame, and with an incoming that is ready to follow the start is aligned:
the delay is the time the outgoing takes to the expected change frame less the time the incoming takes to its picture,
where that is more than 0. Here the live entry has no light cue, and its expected change frame is not yet 12 frames past.

R106 to R109: the pulse that closes another group of the live reel. A CHANGE makes an IMPLIED record, DUE with the incoming
started or in WAIT_READY with the change held; calls the change of a record in RUNUP or LOCKED; and is LATE in DUE and
CROSSING. With no following entry a MOTOR or CHANGE is UNEXPECTED. LIGHTS fires the reel's TAB light cue, and is UNEXPECTED
with none; END begins the end of the last reel, and is UNEXPECTED on another.

R110: the counted fallback, 48 frames past the expected motor frame and 12 past the expected change frame, with no tab taken:
a COUNTED record, and a COUNTED change of a record in RUNUP or LOCKED.

The reel numbers of the plan are distinct throughout, and the live projector is ARMED for its own house (R85, R88, laws that
GatingAndShowLawsAreKept keeps). -/
def Obligations.MotorTabAlignsTheStart : Prop :=
  (∀ (s : State) (dt : Nat) (h : HouseId) (p q : Proj) (reading : Byte) (u : Instant) (g : TabGroup) (e f : ReelEntry)
    (c left fu tOut tIn d speed run : Nat), h = houseOf p → q = otherProj p → (s.hs h).state = .showing →
    (s.hs h).liveSide = some (sideOf p) → (s.hs h).change = none → (s.hs h).retiring = none →
    (s.hs h).marks.motorTaken = false → (s.tr p).state = .running → (s.tr p).lastPulse = some u →
    (s.rd p).state = .gap → (s.rd p).group = some g → g.tabs = 1 → g.bad = none → g.gapFrames = 7 → (s.rd p).held = [] →
    (s.rd p).queue = [] → reading.toNat < (s.rd p).threshold → s.heldEntry p = some e → e.cues = [] → e.last = false →
    e.motorFrame = none → e.changeFrame = some c → (s.tr p).counter + 1 < c + 12 →
    (s.tr p).counter + 1 < e.leader + e.picture → s.heldEntry q = some f → s.readyToFollow h q = true →
    speed = (s.hs h).speed → run = (s.tr q).runUp → left = f.leader - (s.tr q).counter → fu = run * speed / 2000 →
    tOut = ((c - g.frame) * 2000 + speed) / (2 * speed) →
    tIn = (if fu < left then run + ((left - fu) * 2000 + speed) / (2 * speed) else run) →
    tIn < tOut → d = min 20000 (tOut - tIn) → s.distinctReels h → (s.tr p).armed.map (fun a => a.house) = some h →
    ∃ t, exec (.tachPulse dt p reading) s = .next t ∧
      t.hs h = { s.hs h with
        change := some
          { incoming := q
            phase := .delay
            motorSource := .tab
            motorFrame := g.frame
            changeFrame := c
            delay := some d
            delayEnd := some (s.now + dt + 10 * d)
            held := none
            changeSource := none
            loss := none
            crossing := none }
        marks := { (s.hs h).marks with motorTaken := true } } ∧
      t.rd p = { s.rd p with state := .watch, group := none } ∧
      (∀ x, x ≠ p → t.tr x = s.tr x ∧ t.rd x = s.rd x ∧ t.lp x = s.lp x) ∧ t.dousers = s.dousers ∧
      (∀ i, i ≠ h → t.hs i = s.hs i) ∧ t.lights = s.lights ∧ t.ports = s.ports ∧ t.booth = s.booth) ∧
  (∀ (s : State) (dt : Nat) (h : HouseId) (p q : Proj) (reading : Byte) (g : TabGroup) (e : ReelEntry) (y : Changeover)
    (v f : Nat),
    s.showsReel h p e → s.distinctReels h → q = otherProj p → (s.rd p).state = .gap → (s.rd p).group = some g →
    g.bad = none → g.gapFrames = 7 →
    reading.toNat < (s.rd p).threshold → (s.tr p).outCount < 23 →
    (∀ n, e.motorFrame = some n → (s.tr p).counter + 1 < n + 48) → (∀ n, e.changeFrame = some n →
      (s.tr p).counter + 1 < n + 12) →
    (g.tabs = 2 → e.cues = [] → s.followingEntry h ≠ none → (s.hs h).change = none → (s.hs h).marks.changeTaken = false →
      (s.readyToFollow h q = true → (s.ds q).trial = none) → ∃ t, exec (.tachPulse dt p reading) s = .next t ∧
        t.hs h = { s.hs h with
          change := some
            { incoming := q
              phase := if s.readyToFollow h q then .due else .waitReady
              motorSource := .implied
              motorFrame := (s.tr p).counter + 1
              changeFrame := match e.changeFrame with
                | some n => n
                | none => min 65535 ((s.tr p).counter + 1 + 8 * (s.hs h).speed)
              delay := none
              delayEnd := none
              held := if s.readyToFollow h q then none else some .tab
              changeSource := if s.readyToFollow h q then some .tab else none
              loss := none
              crossing := none }
          marks := { (s.hs h).marks with motorTaken := true, changeTaken := true } } ∧
        (t.tr q).state = (if s.readyToFollow h q then .starting else (s.tr q).state) ∧
        (s.readyToFollow h q = true → (t.tr q).motorOn = some (s.now + dt)) ∧
        t.rd p = { s.rd p with state := .watch, group := none } ∧ t.dousers = s.dousers ∧ t.lights = s.lights ∧
        (∀ i, i ≠ h → t.hs i = s.hs i) ∧ t.ports = s.ports ∧ t.booth = s.booth) ∧
    (g.tabs = 2 → e.cues = [] → s.followingEntry h ≠ none → (s.hs h).change = some y → (y.phase = .runup ∨
      y.phase = .locked) →
      y.incoming = q → s.shortOfPicture q → ∃ t, exec (.tachPulse dt p reading) s = .next t ∧
        t.hs h = { s.hs h with
          change := some { y with
            phase := .due
            changeSource := some .tab
            loss := none
            held := none
            delayEnd := none }
          marks := { (s.hs h).marks with changeTaken := true } } ∧
        t.rd p = { s.rd p with state := .watch, group := none } ∧ (∀ x, x ≠ p → t.tr x = s.tr x) ∧ t.dousers = s.dousers ∧
        t.lights = s.lights ∧ (∀ i, i ≠ h → t.hs i = s.hs i) ∧ t.ports = s.ports ∧ t.booth = s.booth ∧
          t.link = (s.link.enqueue (projNumber p) (.cueSeen ⟨.change, g.frame, .tab, none⟩))) ∧
    (g.tabs = 2 → e.cues = [] → s.followingEntry h ≠ none → (s.hs h).change = some y → y.incoming = q →
      ((y.phase = .due ∧ s.shortOfPicture q) ∨ (y.phase = .crossing ∧ s.crossingDone y = false)) →
      ∃ t, exec (.tachPulse dt p reading) s = .next t ∧ t.houses = s.houses ∧
        t.rd p = { s.rd p with state := .watch, group := none } ∧ (∀ x, x ≠ p → t.tr x = s.tr x) ∧ t.dousers = s.dousers ∧
        t.lights = s.lights ∧ t.link = (s.link.enqueue (projNumber p) (.cueSeen ⟨.change, g.frame, .tab, none⟩)).enqueue
          (houseNumber h) (.late ⟨.change, g.frame, .tab, none⟩)) ∧
    ((g.tabs = 1 ∨ g.tabs = 2) → e.cues = [] → s.followingEntry h = none → (s.hs h).change = none →
      ∃ t, exec (.tachPulse dt p reading) s = .next t ∧ t.houses = s.houses ∧
        t.rd p = { s.rd p with state := .watch, group := none } ∧ t.lights = s.lights ∧ t.dousers = s.dousers ∧
        t.link = (s.link.enqueue (projNumber p)
          (.cueSeen ⟨if g.tabs = 1 then .motor else .change, g.frame, .tab, none⟩)).enqueue
          (houseNumber h)
          (.unexpected ⟨if g.tabs = 1 then .motor else .change, g.frame, .tab, none⟩ .noFollowing)) ∧
    (g.tabs = 3 → e.cues = [⟨.tab, v, f, false⟩] → (s.hs h).change = none →
      ∃ t, exec (.tachPulse dt p reading) s = .next t ∧
        (t.lt h).programTarget = v ∧ (t.lt h).programFade = f ∧
        (t.heldEntry p).map (fun z => z.cues) = some [⟨.tab, v, f, true⟩] ∧ (t.hs h).state = .showing ∧
        (t.hs h).marks = (s.hs h).marks ∧ t.rd p = { s.rd p with state := .watch, group := none } ∧
        (∀ i, i ≠ h → t.hs i = s.hs i ∧ t.lt i = s.lt i) ∧ t.dousers = s.dousers ∧ t.ports = s.ports ∧ t.booth = s.booth) ∧
    (((g.tabs = 3 ∧ e.cues = []) ∨ (g.tabs = 4 ∧ e.cues = [] ∧ e.last = false)) → (s.hs h).change = none →
      ∃ t, exec (.tachPulse dt p reading) s = .next t ∧ t.houses = s.houses ∧
        t.rd p = { s.rd p with state := .watch, group := none } ∧ t.lights = s.lights ∧ t.dousers = s.dousers ∧
        t.link = (s.link.enqueue (projNumber p)
          (.cueSeen ⟨if g.tabs = 3 then .lights else .ending, g.frame, .tab, none⟩)).enqueue
          (houseNumber h) (if g.tabs = 3 then .unexpected ⟨.lights, g.frame, .tab, none⟩ .noLightCue
          else .unexpected ⟨.ending, g.frame, .tab, none⟩ .notLast)) ∧
    (g.tabs = 4 → e.cues = [] → e.last = true → (s.hs h).change = none → (s.ds p).state = .opened →
      ∃ t, exec (.tachPulse dt p reading) s = .next t ∧
        t.hs h = { s.hs h with state := .ending, dark := false, ending := some ⟨.dousing, 0⟩ } ∧
        t.rd p = { s.rd p with state := .watch, group := none } ∧
        t.ds p = { s.ds p with
          drive := .closes
          state := .closing
          travel := some ⟨.closes, s.now + dt, true, 2 * (s.ds p).closeTime + 100⟩ } ∧
        (∀ x, x ≠ p → t.tr x = s.tr x ∧ t.ds x = s.ds x) ∧ t.lights = s.lights ∧ (∀ i, i ≠ h → t.hs i = s.hs i) ∧
        t.ports = s.ports ∧ t.booth = s.booth ∧
          t.link = (s.link.enqueue (projNumber p) (.cueSeen ⟨.ending, g.frame, .tab, none⟩)))) ∧
  (∀ (s : State) (dt : Nat) (h : HouseId) (p q : Proj) (reading : Byte) (e : ReelEntry) (y : Changeover) (n : Nat),
    s.showsReel h p e → s.distinctReels h → q = otherProj p → (s.rd p).state = .watch → (s.rd p).group = none →
      reading.toNat < (s.rd p).threshold → e.cues = [] →
    s.followingEntry h ≠ none →
    (e.motorFrame = some n → n + 48 ≤ (s.tr p).counter + 1 → (s.hs h).marks.motorTaken = false →
      (s.hs h).marks.countedMotor = false → (∀ c, e.changeFrame = some c → (s.tr p).counter + 1 < c + 12) →
      (s.hs h).change = none → s.readyToFollow h q = false → ∃ t, exec (.tachPulse dt p reading) s = .next t ∧
        t.hs h = { s.hs h with
          change := some
            { incoming := q
              phase := .waitReady
              motorSource := .counted
              motorFrame := (s.tr p).counter + 1
              changeFrame := match e.changeFrame with
                | some c => c
                | none => min 65535 ((s.tr p).counter + 1 + 8 * (s.hs h).speed)
              delay := none
              delayEnd := none
              held := none
              changeSource := none
              loss := none
              crossing := none }
          marks := { (s.hs h).marks with motorTaken := true, countedMotor := true } } ∧
        t.readers = s.readers ∧ (∀ x, x ≠ p → t.tr x = s.tr x) ∧ t.dousers = s.dousers ∧ t.lights = s.lights ∧
        (∀ i, i ≠ h → t.hs i = s.hs i) ∧ t.ports = s.ports ∧ t.booth = s.booth) ∧
    (e.changeFrame = some n → n + 12 ≤ (s.tr p).counter + 1 → (s.hs h).marks.changeTaken = false →
      (s.hs h).marks.countedChange = false → (s.hs h).marks.motorTaken = true → (s.hs h).change = some y →
      (y.phase = .runup ∨ y.phase = .locked) → y.incoming = q → s.shortOfPicture q →
      ∃ t, exec (.tachPulse dt p reading) s = .next t ∧
        t.hs h = { s.hs h with
          change := some { y with
            phase := .due
            changeSource := some .counted
            loss := none
            held := none
            delayEnd := none }
          marks := { (s.hs h).marks with changeTaken := true, countedChange := true } } ∧
        t.readers = s.readers ∧ (∀ x, x ≠ p → t.tr x = s.tr x) ∧ t.dousers = s.dousers ∧ t.lights = s.lights ∧
        (∀ i, i ≠ h → t.hs i = s.hs i) ∧ t.ports = s.ports ∧ t.booth = s.booth))

/-- R120, R121: CHANGE NOW and a press of the CHANGE button. Where a check of R120 fails, the request is refused with its
reason and the press is ignored with PANEL IGNORED. Where none fails and there is no record, a record is made, MANUAL and
DUE, and the incoming is started; a record in RUNUP becomes DUE with change source MANUAL.

R120: a record in WAIT_READY, or in DELAY with an incoming not ready to follow, is turned away with NOT READY. A record
in DELAY with one that is ready starts it and is DUE; one in RUNUP or LOCKED whose incoming is short of its picture is DUE
and waits. -/
def Obligations.ChangeByHandCallsTheChange : Prop :=
  (∀ (c : Instr) (s : State) (dt : Nat) (b : Byte) (h : HouseId) (sd : Side) (p q : Proj) (e : ReelEntry)
    (y : Changeover) (console : Bool) (reason : RefusalReason), s.linkReady → b.toNat = h.val + 1 →
    c = (if console then .changeNow dt b else .changeButton dt h) → p = projAt h sd → q = otherProj p →
    (((s.hs h).state ≠ .showing ∧ reason = .state) ∨
      ((s.hs h).state = .showing ∧ s.followingEntry h = none ∧ reason = .state) ∨
      ((s.hs h).state = .showing ∧ (s.hs h).change = some y ∧ (y.phase = .due ∨ y.phase = .crossing) ∧
        reason = .state) ∨
      ((s.hs h).state = .showing ∧ s.followingEntry h ≠ none ∧ (s.hs h).change = none ∧ (s.hs h).liveSide = some sd ∧
        s.readyToFollow h q = false ∧ reason = .notReady) →
      exec c s = .next (if console then (s.elapse dt).replied (.refused 32 reason .nothing)
        else (s.elapse dt).reportHouse h (.panelIgnored .change (s.hs h).state (some reason)))) ∧
    ((s.hs h).state = .showing → (s.hs h).liveSide = some sd → s.heldEntry p = some e → (s.hs h).change = none →
      s.readyToFollow h q = true → (s.ds q).trial = none → ∃ t, exec c s = .next t ∧
        t.hs h = { s.hs h with
          change := some
            { incoming := q
              phase := .due
              motorSource := .manual
              motorFrame := (s.tr p).counter
              changeFrame := match e.changeFrame with
                | some n => n
                | none => min 65535 ((s.tr p).counter + 8 * (s.hs h).speed)
              delay := none
              delayEnd := none
              held := none
              changeSource := some .manual
              loss := none
              crossing := none }
          marks := { (s.hs h).marks with motorTaken := true, changeTaken := true } } ∧
        (t.tr q).state = .starting ∧ (t.tr q).motorOn = some (s.now + dt) ∧ (t.tr q).counter = (s.tr q).counter ∧
        (∀ x, x ≠ q → t.tr x = s.tr x ∧ t.rd x = s.rd x) ∧ (∀ g, g ≠ h → t.hs g = s.hs g) ∧
        t.dousers = s.dousers ∧ t.lamps = s.lamps ∧ t.lights = s.lights ∧ t.ports = s.ports ∧ t.booth = s.booth ∧
        t.link = if console then s.link.replied (.done 32 .nothing) else s.link) ∧
    ((s.hs h).state = .showing → s.followingEntry h ≠ none → (s.hs h).change = some y → y.phase = .runup →
      (s.tr y.incoming).state = .starting → ∃ t, exec c s = .next t ∧
        t.hs h = { s.hs h with
          change := some { y with
            phase := .due
            changeSource := some .manual
            loss := none
            held := none
            delayEnd := none }
          marks := { (s.hs h).marks with motorTaken := true, changeTaken := true } } ∧
        t.transports = s.transports ∧ t.dousers = s.dousers ∧ t.lamps = s.lamps ∧ t.lights = s.lights ∧
        (∀ g, g ≠ h → t.hs g = s.hs g) ∧ t.ports = s.ports ∧ t.booth = s.booth)) ∧
  (∀ (c : Instr) (s : State) (dt : Nat) (b : Byte) (h : HouseId)
    (y : Changeover) (console : Bool), s.linkReady → b.toNat = h.val + 1 →
    c = (if console then .changeNow dt b else .changeButton dt h) →
    ((s.hs h).state = .showing → s.followingEntry h ≠ none → (s.hs h).change = some y →
      (y.phase = .waitReady ∨ y.phase = .delay) → s.readyToFollow h y.incoming = false →
      exec c s = .next (if console then (s.elapse dt).replied (.refused 32 .notReady .nothing)
        else (s.elapse dt).reportHouse h (.panelIgnored .change .showing (some .notReady)))) ∧
    ((s.hs h).state = .showing → s.followingEntry h ≠ none → (s.hs h).change = some y →
      (y.phase = .runup ∨ y.phase = .locked) →
      ((s.tr y.incoming).state ≠ .running ∨ (s.tr y.incoming).counter < s.leaderOf y.incoming) → ∃ t, exec c s = .next t ∧
        t.hs h = { s.hs h with
          change := some { y with
            phase := .due
            changeSource := some .manual
            loss := none
            held := none
            delayEnd := none }
          marks := { (s.hs h).marks with motorTaken := true, changeTaken := true } } ∧
        t.transports = s.transports ∧ t.readers = s.readers ∧ t.dousers = s.dousers ∧ t.lamps = s.lamps ∧
          t.lights = s.lights ∧
        (∀ g, g ≠ h → t.hs g = s.hs g) ∧ t.ports = s.ports ∧ t.booth = s.booth ∧
        t.link = if console then s.link.replied (.done 32 .nothing) else s.link) ∧
    ((s.hs h).state = .showing → s.followingEntry h ≠ none → (s.hs h).change = some y →
      (y.phase = .waitReady ∨ y.phase = .delay) → s.readyToFollow h y.incoming = true → (s.ds y.incoming).trial = none →
      ∃ t, exec c s = .next t ∧
        t.hs h = { s.hs h with
          change := some { y with
            phase := .due
            changeSource := some .manual
            loss := none
            held := none
            delayEnd := none }
          marks := { (s.hs h).marks with motorTaken := true, changeTaken := true } } ∧
        (t.tr y.incoming).state = .starting ∧ (t.tr y.incoming).motorOn = some (s.now + dt) ∧
        (t.tr y.incoming).counter = (s.tr y.incoming).counter ∧
        (∀ x, x ≠ y.incoming → t.tr x = s.tr x ∧ t.rd x = s.rd x) ∧ (∀ g, g ≠ h → t.hs g = s.hs g) ∧
        t.dousers = s.dousers ∧ t.lamps = s.lamps ∧ t.lights = s.lights ∧ t.ports = s.ports ∧ t.booth = s.booth ∧
        t.link = if console then s.link.replied (.done 32 .nothing) else s.link))

/-- R112, R105: the delay end of a record in DELAY. Before it falls nothing changes (log entry 13). When it falls, an
incoming that is ready to follow is started, and the record is in RUNUP; one that is not leaves the record in DELAY with
no delay end.

R112, R111: an incoming that becomes ready to follow while its record waits, its lamp BURNING or judged sufficient, its
port HELD, its douser CLOSED, or its entry ARMED. In WAIT_READY with no held change the alignment is computed anew from
the present outgoing frame, with SHORT LEAD where the lead is too short, and a delay of 0 starts the incoming at once; in
DELAY with its start withheld the incoming is started and the record is in RUNUP; with a held change it is started and the
record is DUE, with that change as its source. (Requests are stated for a transmitter that is SENDING.)

R113, R91: the incoming of a record in RUNUP, LOCKED or DUE fails, its run-up or its film: the record is dropped and the
incoming disarmed, its motor and its douser stopped and closed, its entry PENDING, while the outgoing runs on. Where the
change source was LOSS the house goes to HOLD with the record's loss reason (R123). -/
def Obligations.DelayEndStartsTheIncoming : Prop :=
  (∀ (s : State) (dt : Nat) (h : HouseId) (y : Changeover) (d : Instant), (s.hs h).change = some y → y.phase = .delay →
    y.delayEnd = some d → y.held = none →
    (s.now + dt < d → exec (.delayEnd dt h) s = .next (s.elapse dt)) ∧
    (d ≤ s.now + dt → s.readyToFollow h y.incoming = false → exec (.delayEnd dt h) s =
      .next ((s.elapse dt).setHs h { s.hs h with change := some { y with delayEnd := none } })) ∧
    (d ≤ s.now + dt → s.readyToFollow h y.incoming = true → (s.ds y.incoming).trial = none →
      ∃ t, exec (.delayEnd dt h) s = .next t ∧
        t.hs h = { s.hs h with change := some { y with phase := .runup, delayEnd := none } } ∧
        t.tr y.incoming = { s.tr y.incoming with
          state := .starting
          motorOn := some (s.now + dt)
          lastPulse := none
          lockRunStart := none
          lockCount := 0
          outCount := 0
          miss := .normal
          speedFault := false
          recovery := 0 } ∧
        (t.rd y.incoming).queue = (s.rd y.incoming).queue ∧
        (∀ x, x ≠ y.incoming → t.tr x = s.tr x ∧ t.rd x = s.rd x) ∧ (∀ g, g ≠ h → t.hs g = s.hs g) ∧
        t.dousers = s.dousers ∧ t.lamps = s.lamps ∧ t.lights = s.lights ∧ t.ports = s.ports ∧ t.booth = s.booth ∧
        t.link = s.link)) ∧
  (∀ (c : Instr) (s : State) (dt : Nat) (h : HouseId) (q : Proj) (y : Changeover) (e : ReelEntry) (u : Instant)
    (limit : Bool) (reason : LossReason),
    s.changesTo h q y e [.runup, .locked, .due] → (s.rd q).assembling = false → (s.ds q).state ≠ .stuck →
      e.status = .armed →
    c = (if limit then .runupLimit dt q else .breakDeadline dt q) →
    (limit = true → (s.tr q).state = .starting ∧ (s.tr q).motorOn = some u ∧ u + 60000 ≤ s.now + dt) →
    (limit = false → (s.tr q).state = .running ∧ (s.tr q).lastPulse = some u ∧ 25000 ≤ (s.now + dt - u) * s.speedOf q) →
    (y.changeSource ≠ some .loss → ∃ t, exec c s = .next t ∧
      t.hs h = { s.hs h with
        change := none
        gate := if (s.hs h).gate = .side (sideOf q) ∧ limit = false then .none else (s.hs h).gate
        plan := (s.hs h).plan.map (fun w => if w.reel = e.reel then
          { w with status := if w.status = .armed then .pending else w.status } else w) } ∧
      (t.tr q).state = (if limit then .stopping else .stopped) ∧ (t.tr q).armed = none ∧ (t.tr q).counter = 0 ∧
      t.rd q = { s.rd q with state := .off, group := none, held := [], queue := [] } ∧
      (t.ds q).state ≠ .opened ∧ (t.ds q).state ≠ .opening ∧
      (∀ x, x ≠ q → t.tr x = s.tr x ∧ t.rd x = s.rd x ∧ t.ds x = s.ds x ∧ t.lp x = s.lp x) ∧
      (∀ i, i ≠ h → t.hs i = s.hs i) ∧ t.lights = s.lights ∧ t.ports = s.ports ∧ t.booth = s.booth ∧
      t.link = s.link.enqueue (projNumber q) (if limit then .runupFail (s.tr q).lockCount (s.tr q).counter
        else .filmBreak (s.tr q).counter)) ∧
    (y.changeSource = some .loss → y.loss = some reason → (s.ds (otherProj q)).state ≠ .stuck → ∃ t, exec c s = .next t ∧
      (t.hs h).state = .hold ∧ (t.hs h).holdReason = some reason.hold ∧ (t.hs h).change = none ∧ (t.hs h).gate = .none ∧
      (t.tr q).armed = none ∧ (∀ x, houseOf x = h → (t.tr x).state ≠ .starting ∧ (t.tr x).state ≠ .running ∧
        (t.ds x).state ≠ .opened ∧ (t.ds x).state ≠ .opening) ∧
      (reason = .brk → t.lights = s.lights) ∧
      (reason ≠ .brk → (t.lt h).programTarget = (s.hs h).levels.hold ∧ (t.lt h).programFade = 30) ∧
      (∀ i, i ≠ h → t.hs i = s.hs i ∧ t.lt i = s.lt i) ∧ t.ports = s.ports ∧ t.booth = s.booth)) ∧
  (∀ (c : Instr) (s w : State) (dt : Nat) (h : HouseId) (q : Proj) (y : Changeover) (f : ReelEntry) (src : CueSource)
    (m left run speed fu tOut tIn d : Nat),
    s.awaits h q y → s.readyToFollow h q = false → (s.ds q).trial = none → ReadinessEvent s dt q c w →
    w.readyToFollow h q = true → w.heldEntry q = some f →
    m = (s.tr (otherProj q)).counter → speed = (s.hs h).speed → run = (s.tr q).runUp → left = f.leader - (w.tr q).counter →
    fu = run * speed / 2000 → tOut = ((y.changeFrame - m) * 2000 + speed) / (2 * speed) →
    tIn = (if fu < left then run + ((left - fu) * 2000 + speed) / (2 * speed) else run) → d = min 20000 (tOut - tIn) →
    (y.phase = .waitReady → y.held = none → 0 < d → exec c s = .next (w.setHs h { w.hs h with
      change := some { y with
        phase := .delay
        motorFrame := m
        delay := some d
        delayEnd := some (s.now + dt + 10 * d) } })) ∧
    (y.phase = .waitReady → y.held = none → d = 0 → ∃ t, exec c s = .next t ∧ w.starts t h q ∧
      t.hs h = { w.hs h with
        change := some { y with
          phase := .runup
          motorFrame := m
          delay := some 0
          delayEnd := none } } ∧
      t.link = if tOut < tIn then w.link.enqueue (houseNumber h) (.shortLead (tIn - tOut) m y.changeFrame left run)
        else w.link) ∧
    (y.phase = .delay → y.held = none → ∃ t, exec c s = .next t ∧ w.starts t h q ∧
      t.hs h = { w.hs h with change := some { y with phase := .runup } } ∧ t.link = w.link) ∧
    (y.held = some src → ∃ t, exec c s = .next t ∧ w.starts t h q ∧
      t.hs h = { w.hs h with
        change := some { y with
          phase := .due
          changeSource := some (match src with | .tab => .tab | .counted => .counted)
          loss := none
          held := none
          delayEnd := none }
        marks := { (w.hs h).marks with changeTaken := true } } ∧ t.link = w.link))

/-- R114, R115: a counted pulse of the incoming of a record in DUE that finds it RUNNING at its picture, or locks its speed
there, begins the crossing. The open and close offsets are half the difference of the learned times, the one of the slower
blade 0, and the sound's is half the greater; of an outgoing douser that is not OPEN or OPENING there is no close offset. A
command whose offset is 0 is given at once. Here the outgoing is ARMED for this house too (R88), its entry has no END light
cue, and the reel numbers of the plan are distinct (R85), laws that GatingAndShowLawsAreKept keeps.

R116: the three instants of a crossing, where no two coincide. At T plus the open offset a gated incoming douser begins
to open; at T plus the close offset an OPEN outgoing douser begins to close; at T plus the sound offset the gate selects
the incoming side, its START light cue (here its one cue) fires and the sound-switched mark is set. Before its instant
each does nothing (log entry 13). -/
def Obligations.CrossingGivesItsCommands : Prop :=
  (∀ (s : State) (dt : Nat) (h : HouseId) (q out : Proj) (y : Changeover) (e g : ReelEntry) (reading : Byte) (u : Instant)
    (m to1 tc a snd : Nat) (c : Option Nat),
    s.changesTo h q y e [.due] → s.distinctReels h → out = otherProj q →
    (s.tr out).armed.map (fun a => a.house) = some h → s.heldEntry out = some g → (∀ w ∈ g.cues, w.trigger ≠ .ending) →
    (s.tr q).lastPulse = some u →
    ((s.tr q).state = .running ∨ ((s.tr q).state = .starting ∧ (s.tr q).lockCount = 7 ∧
      m = (s.now + dt - u) * s.speedOf q ∧ 9800 ≤ m ∧ m ≤ 10200)) →
    e.leader ≤ (s.tr q).counter + 1 → (s.tr q).counter < 65535 →
    ((s.rd q).state = .hunt ∨ (s.rd q).state = .watch) → reading.toNat < (s.rd q).threshold →
    (s.ds q).state = .closed → (s.lp q).state = .burning → (s.pt (projPort q)).state = .held →
    to1 = (s.ds q).openTime → tc = (s.ds out).closeTime → 40 ≤ to1 → 40 ≤ tc →
    (((s.ds out).state = .opened ∧ tc ≤ to1 ∧ a = 0 ∧ c = some ((to1 - tc + 1) / 2) ∧ snd = (to1 + 1) / 2) ∨
      ((s.ds out).state = .opened ∧ to1 < tc ∧ a = (tc - to1 + 1) / 2 ∧ c = some 0 ∧ snd = (tc + 1) / 2) ∨
      (((s.ds out).state = .closed ∨ (s.ds out).state = .closing ∨ (s.ds out).state = .stuck) ∧ a = 0 ∧ c = none ∧
        snd = (to1 + 1) / 2)) →
    ∃ t, exec (.tachPulse dt q reading) s = .next t ∧
      t.hs h = { s.hs h with change := some { y with
        phase := .crossing
        crossing := some
          { start := s.now + dt
            openOffset := a
            soundOffset := snd
            closeOffset := c
            switched := false
            openGiven := decide (a = 0)
            closeGiven := decide (c = some 0)
            outFrame := (s.tr out).counter } } } ∧
      t.ds q = (if a = 0 then { s.ds q with
        drive := .opens
        state := .opening
        travel := some ⟨.opens, s.now + dt, true, 2 * to1 + 100⟩ } else s.ds q) ∧
      t.ds out = (if c = some 0 then { s.ds out with
        drive := .closes
        state := .closing
        travel := some ⟨.closes, s.now + dt, true, 2 * tc + 100⟩ } else s.ds out) ∧
      (t.tr q).counter = (s.tr q).counter + 1 ∧ (t.tr q).state = .running ∧
      (∀ x, x ≠ q → t.tr x = s.tr x ∧ t.rd x = s.rd x ∧ t.lp x = s.lp x) ∧ (∀ i, i ≠ h → t.hs i = s.hs i) ∧
      t.lights = s.lights ∧ t.ports = s.ports ∧ t.booth = s.booth) ∧
  (∀ (s : State) (dt : Nat) (h : HouseId) (y : Changeover) (x : Crossing) (q out : Proj) (n : Nat) (e : ReelEntry)
    (v f : Nat), (s.hs h).state = .showing → (s.hs h).change = some y → y.phase = .crossing → y.crossing = some x →
    y.incoming = q → houseOf q = h → out = otherProj q → x.closeOffset = some n → x.openOffset ≠ n →
    x.soundOffset ≠ n → x.openOffset ≠ x.soundOffset →
    (s.now + dt < x.start + 10 * x.openOffset → exec (.crossingOpenInstant dt h) s = .next (s.elapse dt)) ∧
    (s.now + dt < x.start + 10 * n → exec (.crossingCloseInstant dt h) s = .next (s.elapse dt)) ∧
    (s.now + dt < x.start + 10 * x.soundOffset → exec (.soundInstant dt h) s = .next (s.elapse dt)) ∧
    (x.start + 10 * x.openOffset ≤ s.now + dt → x.openGiven = false → (s.ds q).state = .closed → s.gating q = true →
      exec (.crossingOpenInstant dt h) s = .next (((s.elapse dt).setDs q { s.ds q with
        drive := .opens
        state := .opening
        travel := some ⟨.opens, s.now + dt, true, 2 * (s.ds q).openTime + 100⟩ }).setHs h { s.hs h with
          change := some { y with crossing := some { x with openGiven := true } } })) ∧
    (x.start + 10 * n ≤ s.now + dt → x.closeGiven = false → (s.ds out).state = .opened →
      exec (.crossingCloseInstant dt h) s = .next (((s.elapse dt).setDs out { s.ds out with
        drive := .closes
        state := .closing
        travel := some ⟨.closes, s.now + dt, true, 2 * (s.ds out).closeTime + 100⟩ }).setHs h { s.hs h with
          change := some { y with crossing := some { x with closeGiven := true } } })) ∧
    (x.start + 10 * x.soundOffset ≤ s.now + dt → x.switched = false → (s.tr q).state = .running →
      (s.ds q).state = .opening → (s.tr q).armed.map (fun a => a.house) = some h → s.heldEntry q = some e →
      e.cues = [⟨.start, v, f, false⟩] →
      ∃ t, exec (.soundInstant dt h) s = .next t ∧
        (t.hs h).gate = .side (sideOf q) ∧ (t.hs h).change = some { y with crossing := some { x with switched := true } } ∧
        (t.hs h).state = .showing ∧ (t.hs h).liveSide = (s.hs h).liveSide ∧ (t.hs h).marks = (s.hs h).marks ∧
        (t.lt h).programTarget = v ∧ (t.lt h).programFade = f ∧
        (t.heldEntry q).map (fun z => z.cues) = some [⟨.start, v, f, true⟩] ∧
        (∀ g, g ≠ h → t.hs g = s.hs g ∧ t.lt g = s.lt g) ∧ t.transports = s.transports ∧ t.readers = s.readers ∧
        t.dousers = s.dousers ∧ t.lamps = s.lamps ∧ t.ports = s.ports ∧ t.booth = s.booth ∧ t.link = s.link))

/-- R117, R118: the outgoing douser reaches its closed switch, with the sound switched and the incoming douser OPEN, and the
crossing completes: the record is removed, the incoming is live with its entry SHOWING, the outgoing's entry is DONE, the
marks are clear, and CHANGEOVER DONE is queued. The outgoing retires: TO TAIL short of its tail, in RUN-OUT at the tail, and
past it STOPPING, its motor stopped; one whose transport is BROKEN or STOPPED is disarmed at once. Here the incoming has no cue
entry waiting and its light cues have fired, so that nothing more follows, and the reel numbers of the plan are distinct (R85).

R118: a counted pulse moves the retiring record from TO TAIL to RUN-OUT at the tail, and the forty-eighth of RUN-OUT stops the
motor; when the transport is STOPPED, or breaks in any phase, the projector is disarmed, its DONE entry stays DONE, and the
record is absent; a HOLD stops the motor, and the record waits in STOPPING (the other projector holding another entry, as R88
and R89 have it).

R119: the incoming's film breaks while the record is in CROSSING. The record is dropped and the incoming disarmed, its entry
PENDING. An outgoing that can show picture, short of its tail, is opened again and has the sound; at its tail it runs out;
and one that cannot show picture leaves the house in HOLD, with the record's loss reason or the first failure that its
state shows. -/
def Obligations.CrossingCompletes : Prop :=
  (∀ (s : State) (dt : Nat) (h : HouseId) (y : Changeover) (x : Crossing) (q out : Proj) (e g : ReelEntry) (l : House),
    s.nearlyCrossed h q out y x e g →
    l = { s.hs h with
      change := none
      liveSide := some (sideOf q)
      marks := ⟨false, false, false, false, false⟩
      dark := false
      plan := (s.hs h).plan.map (fun w =>
        if w.reel = g.reel then { w with status := .finished }
        else if w.reel = e.reel then { w with status := .showing } else w) } →
    ∃ t, exec (.douserSwitchCloses dt out .closedEnd) s = .next t ∧
      ((s.tr out).state = .running → (s.tr out).counter < g.leader + g.picture →
        t.hs h = { l with retiring := some ⟨out, .toTail, 0⟩ } ∧ t.transports = s.transports ∧ t.readers = s.readers ∧
        t.lamps = s.lamps) ∧
      ((s.tr out).state = .running → (s.tr out).counter = g.leader + g.picture →
        t.hs h = { l with retiring := some ⟨out, .runOut, 0⟩ } ∧ t.transports = s.transports ∧ t.readers = s.readers ∧
        t.lamps = s.lamps) ∧
      ((s.tr out).state = .running → g.leader + g.picture < (s.tr out).counter → (s.hs h).gate ≠ .side (sideOf out) →
        (s.rd out).assembling = false → t.hs h = { l with retiring := some ⟨out, .stopping, 0⟩ } ∧
        t.tr out = { s.tr out with
          state := .stopping
          lockCount := 0
          lockRunStart := none
          motorOn := none
          miss := .normal
          stoppingSince := some (s.now + dt) } ∧ t.rd out = { s.rd out with state := .off } ∧ t.lamps = s.lamps) ∧
      ((s.tr out).state = .broken ∨ (s.tr out).state = .stopped → (s.hs h).retiring = none →
        t.hs h = l ∧ t.tr out = { s.tr out with state := .stopped, armed := none, counter := 0 } ∧
        t.rd out = { s.rd out with state := .off, group := none, held := [], queue := [] } ∧
        (t.lp out).sufficiency = none) ∧
      ((s.tr out).state ≠ .starting → (s.tr out).state ≠ .stopping →
        ((s.tr out).state = .running → g.leader + g.picture < (s.tr out).counter →
          (s.hs h).gate ≠ .side (sideOf out) ∧ (s.rd out).assembling = false) →
        ((s.tr out).state ≠ .running → (s.hs h).retiring = none) →
        (t.ds out).state = .closed ∧ (∀ r, r ≠ out → t.ds r = s.ds r ∧ t.tr r = s.tr r ∧ t.rd r = s.rd r ∧ t.lp r = s.lp r) ∧
        t.lights = s.lights ∧ t.ports = s.ports ∧ t.booth = s.booth ∧ (∀ i, i ≠ h → t.hs i = s.hs i) ∧
        t.link = s.link.enqueue (houseNumber h) (.changeoverDone
          { outgoing := out
            outgoingReel := g.reel
            incoming := q
            incomingReel := e.reel
            motorSource := y.motorSource
            changeSource := y.changeSource
            loss := y.loss
            delay := y.delay
            openOffset := x.openOffset
            closeOffset := x.closeOffset
            soundOffset := x.soundOffset
            outFrame := x.outFrame }))) ∧
  (∀ (s : State) (dt : Nat) (h : HouseId) (p : Proj) (e : ReelEntry) (phase : RetirePhase) (k c : Nat) (reading : Byte)
    (a u : Instant), s.retires h p e phase k → (s.tr p).lastPulse = some u → s.noDouserCause p →
    c = min 65535 ((s.tr p).counter + 1) →
    ((s.tr p).state = .running → (s.rd p).state = .watch → reading.toNat < (s.rd p).threshold →
      ∃ t, exec (.tachPulse dt p reading) s = .next t ∧
        (phase = .toTail → c < e.leader + e.picture → t.hs h = s.hs h) ∧
        (phase = .toTail → e.leader + e.picture ≤ c → t.hs h = { s.hs h with retiring := some ⟨p, .runOut, 0⟩ }) ∧
        (phase = .runOut → k < 47 → t.hs h = { s.hs h with retiring := some ⟨p, .runOut, k + 1⟩ }) ∧
        (phase = .toTail ∨ (phase = .runOut ∧ k < 47) → (t.tr p).state = .running ∧ t.rd p = s.rd p) ∧
        (phase = .runOut → k = 47 → t.hs h = { s.hs h with retiring := some ⟨p, .stopping, 48⟩ } ∧
          (t.tr p).state = .stopping ∧ (t.tr p).stoppingSince = some (s.now + dt) ∧ t.rd p = { s.rd p with state := .off }) ∧
        (k ≤ 47 → (t.tr p).counter = c ∧ (t.tr p).armed = (s.tr p).armed ∧
          t.lp p = { s.lp p with sufficiency := t.sufficiencyOf p } ∧
          (∀ q, q ≠ p → t.tr q = s.tr q ∧ t.rd q = s.rd q ∧ t.lp q = s.lp q) ∧ (∀ i, i ≠ h → t.hs i = s.hs i) ∧
          t.dousers = s.dousers ∧ t.lights = s.lights ∧ t.ports = s.ports ∧ t.booth = s.booth)) ∧
    ((s.tr p).state = .stopping → (s.tr p).stoppingSince = some a → max a u + 5000 ≤ s.now + dt →
      ∃ t, exec (.runDownExpiry dt p) s = .next t ∧ t.hs h = { s.hs h with retiring := none } ∧
        t.tr p = { s.tr p with state := .stopped, stoppingSince := none, armed := none, counter := 0 } ∧
        t.rd p = { s.rd p with state := .off, group := none, held := [], queue := [] } ∧ (t.lp p).sufficiency = none ∧
        (∀ q, q ≠ p → t.tr q = s.tr q ∧ t.rd q = s.rd q ∧ t.lp q = s.lp q) ∧ (∀ i, i ≠ h → t.hs i = s.hs i) ∧
        t.dousers = s.dousers ∧ t.lights = s.lights ∧ t.ports = s.ports ∧ t.booth = s.booth ∧ t.link = s.link) ∧
    ((s.tr p).state = .running → (s.rd p).assembling = false → 25000 ≤ (s.now + dt - u) * s.speedOf p →
      ∃ t, exec (.breakDeadline dt p) s = .next t ∧ t.hs h = { s.hs h with retiring := none } ∧
        t.tr p = { s.tr p with state := .stopped, miss := .normal, lockCount := 0, armed := none, counter := 0 } ∧
        t.rd p = { s.rd p with state := .off, group := none, held := [], queue := [] } ∧ (t.lp p).sufficiency = none ∧
        (∀ q, q ≠ p → t.tr q = s.tr q ∧ t.rd q = s.rd q ∧ t.lp q = s.lp q) ∧ (∀ i, i ≠ h → t.hs i = s.hs i) ∧
        t.dousers = s.dousers ∧ t.lights = s.lights ∧ t.ports = s.ports ∧ t.booth = s.booth ∧
        t.link = s.link.enqueue (projNumber p) (.filmBreak (s.tr p).counter)) ∧
    ((s.tr p).state = .running → (s.hs h).state.inShow = true → (s.ds p).state ≠ .stuck →
      (s.ds (otherProj p)).state ≠ .stuck → (s.tr (otherProj p)).armed.map (fun a => a.reel) ≠ some e.reel →
      ∃ t, exec (.holdButton dt h) s = .next t ∧
        (t.hs h).state = .hold ∧ (t.hs h).retiring = some ⟨p, .stopping, k⟩ ∧ (t.tr p).state = .stopping ∧
        (t.tr p).armed = (s.tr p).armed ∧ (t.tr p).counter = (s.tr p).counter ∧ t.heldEntry p = some e)) ∧
  (∀ (s : State) (dt : Nat) (h : HouseId) (q out : Proj) (y : Changeover) (x : Crossing) (e g : ReelEntry) (u : Instant)
    (reason : LossReason),
    s.changesTo h q y e [.crossing] → y.crossing = some x → out = otherProj q → (s.rd q).assembling = false →
    (s.ds q).state ≠ .stuck → e.status = .armed → s.heldEntry out = some g →
      (s.tr out).armed.map (fun a => a.house) = some h →
    e.reel ≠ g.reel → (s.tr q).state = .running → (s.tr q).lastPulse = some u → 25000 ≤ (s.now + dt - u) * s.speedOf q →
    (s.canShow out → (s.ds out).trial = none → (s.tr out).counter < g.leader + g.picture →
      ∃ t, exec (.breakDeadline dt q) s = .next t ∧
        t.hs h = { s.hs h with
          change := none
          gate := .side (sideOf out)
          plan := (s.hs h).plan.map (fun w => if w.reel = e.reel then
            { w with status := if w.status = .armed then .pending else w.status } else w) } ∧
        ((s.ds out).state = .opened → t.ds out = s.ds out) ∧
        ((s.ds out).state ≠ .opened → (t.ds out).state = .opening) ∧
        (t.ds q).state ≠ .opened ∧ (t.ds q).state ≠ .opening ∧
        (t.tr q).state = .stopped ∧ (t.tr q).armed = none ∧ (t.tr q).counter = 0 ∧ (t.rd q).state = .off ∧
        (∀ z, z ≠ q → t.tr z = s.tr z ∧ t.rd z = s.rd z ∧ t.lp z = s.lp z) ∧ (∀ i, i ≠ h → t.hs i = s.hs i) ∧
        t.lights = s.lights ∧ t.ports = s.ports ∧ t.booth = s.booth) ∧
    (s.canShow out → g.leader + g.picture ≤ (s.tr out).counter → ∃ t, exec (.breakDeadline dt q) s = .next t ∧
        (t.hs h).state = .hold ∧ (t.hs h).holdReason = some .runout ∧ (t.hs h).runoutCount = some 0 ∧
        (t.hs h).change = none ∧ (t.hs h).gate = .none ∧ t.tr out = s.tr out ∧ (t.tr q).armed = none ∧
        (t.ds out).state ≠ .opened ∧ (t.ds out).state ≠ .opening ∧
        (t.lt h).programTarget = (s.hs h).levels.runout ∧ (t.lt h).programFade = 30 ∧
        (∀ i, i ≠ h → t.hs i = s.hs i ∧ t.lt i = s.lt i) ∧ t.ports = s.ports ∧ t.booth = s.booth) ∧
    (((s.tr out).state ≠ .running ∧ reason = .brk) ∨
        ((s.tr out).state = .running ∧ (s.lp out).state ≠ .burning ∧ reason = .lamp) ∨
        ((s.tr out).state = .running ∧ (s.lp out).state = .burning ∧ (s.pt (projPort out)).state ≠ .held ∧ reason = .fire) →
      (s.ds out).state ≠ .stuck → ∃ t, exec (.breakDeadline dt q) s = .next t ∧
        (t.hs h).state = .hold ∧
        (t.hs h).holdReason = some (match y.loss with | some l => l.hold | none => reason.hold) ∧
        (t.hs h).change = none ∧ (t.hs h).gate = .none ∧ (t.tr q).armed = none ∧
        (∀ z, houseOf z = h → (t.tr z).state ≠ .starting ∧ (t.tr z).state ≠ .running ∧
          (t.ds z).state ≠ .opened ∧ (t.ds z).state ≠ .opening) ∧
        (∀ i, i ≠ h → t.hs i = s.hs i ∧ t.lt i = s.lt i) ∧ t.ports = s.ports ∧ t.booth = s.booth))

/-- R123, R97: the break deadline of the live projector of a SHOWING house with no changeover record and no group in
assembly: the live picture is lost, and the house is in HOLD with reason BREAK, its live entry INTERRUPTED, its gate NONE,
its motors stopped, its dousers closing or closed, and its lights given the break level over 10 tenths of a second.

R123: the same with a record. In RUNUP, LOCKED or DUE, and in DELAY with an incoming ready to follow, which is started, the
record is DUE with change source LOSS, and the house goes on SHOWING; in WAIT_READY, and in DELAY with one not ready, the
house is in HOLD; a crossing goes on.

R124: the live lamp of a house with no record goes to a restrike: the house is dark and goes on SHOWING. When the lamp is
BURNING again the house is dark no more and the live douser is opened; when the restrike fails the house is in HOLD with
reason LAMP. -/
def Obligations.BreakOfTheLivePictureHolds : Prop :=
  (∀ (s : State) (dt : Nat) (p : Proj) (h : HouseId) (u : Instant) (e : ReelEntry), h = houseOf p →
    (s.hs h).state = .showing → (s.hs h).liveSide = some (sideOf p) → (s.hs h).change = none → (s.hs h).retiring = none →
    (s.tr p).armed.map (fun a => a.house) = some h → s.heldEntry p = some e → (s.rd p).assembling = false →
    (∀ q, houseOf q = h → (s.ds q).state ≠ .stuck) → (s.tr p).state = .running → (s.tr p).lastPulse = some u →
    25000 ≤ (s.now + dt - u) * s.speedOf p →
    ∃ t, exec (.breakDeadline dt p) s = .next t ∧
      t.tr p = { s.tr p with state := .broken, miss := .normal, lockCount := 0 } ∧
      (t.hs h).state = .hold ∧ (t.hs h).holdReason = some .brk ∧ (t.hs h).gate = .none ∧
      (t.hs h).liveSide = some (sideOf p) ∧ (t.hs h).dark = false ∧ (t.hs h).change = none ∧
      (t.hs h).plan = (s.hs h).plan.map (fun w => if w.reel = e.reel then { w with status := .interrupted } else w) ∧
      (∀ q, houseOf q = h → (t.tr q).state ≠ .starting ∧ (t.tr q).state ≠ .running ∧ (t.ds q).state ≠ .opened ∧
        (t.ds q).state ≠ .opening) ∧
      (t.lt h).programTarget = (s.hs h).levels.brk ∧ (t.lt h).programFade = 10 ∧
      (∀ q, houseOf q ≠ h → t.tr q = s.tr q ∧ t.rd q = s.rd q ∧ t.ds q = s.ds q ∧ t.lp q = s.lp q) ∧
      (∀ g, g ≠ h → t.hs g = s.hs g ∧ t.lt g = s.lt g) ∧ t.ports = s.ports ∧ t.booth = s.booth) ∧
  (∀ (s : State) (dt : Nat) (h : HouseId) (p q : Proj) (e : ReelEntry) (y : Changeover) (u : Instant),
    s.showsReel h p e → q = otherProj p → (s.rd p).assembling = false → (s.ds p).state ≠ .stuck → (s.ds q).state ≠ .stuck →
    (s.tr p).lastPulse = some u → 25000 ≤ (s.now + dt - u) * s.speedOf p → (s.hs h).change = some y → y.incoming = q →
    ((y.phase = .runup ∨ y.phase = .locked ∨ (y.phase = .due ∧ y.changeSource ≠ some .loss ∧ y.held = none ∧
      y.delayEnd = none)) →
      s.shortOfPicture q → ∃ t, exec (.breakDeadline dt p) s = .next t ∧
        t.hs h = { s.hs h with
          change := some { y with
            phase := .due
            changeSource := some .loss
            loss := some .brk
            held := none
            delayEnd := none }
          gate := .none
          dark := false
          marks := { (s.hs h).marks with changeTaken := true } } ∧
        (t.tr p).state = .broken ∧ (t.ds p).state ≠ .opened ∧ (t.ds p).state ≠ .opening ∧
        (t.lt h).programTarget = (s.hs h).levels.brk ∧ (t.lt h).programFade = 10 ∧
        (∀ x, x ≠ p → t.tr x = s.tr x ∧ t.rd x = s.rd x ∧ t.ds x = s.ds x ∧ t.lp x = s.lp x) ∧
        (∀ i, i ≠ h → t.hs i = s.hs i ∧ t.lt i = s.lt i) ∧ t.ports = s.ports ∧ t.booth = s.booth) ∧
    (y.phase = .delay → s.readyToFollow h q = true → (s.ds q).trial = none → ∃ t, exec (.breakDeadline dt p) s = .next t ∧
        t.hs h = { s.hs h with
          change := some { y with
            phase := .due
            changeSource := some .loss
            loss := some .brk
            held := none
            delayEnd := none }
          gate := .none
          dark := false
          marks := { (s.hs h).marks with changeTaken := true } } ∧
        (t.tr p).state = .broken ∧ (t.tr q).state = .starting ∧ (t.tr q).motorOn = some (s.now + dt) ∧
        (t.lt h).programTarget = (s.hs h).levels.brk ∧ (t.lt h).programFade = 10 ∧
        (∀ i, i ≠ h → t.hs i = s.hs i ∧ t.lt i = s.lt i) ∧ t.ports = s.ports ∧ t.booth = s.booth) ∧
    ((y.phase = .waitReady ∨ y.phase = .delay) → s.readyToFollow h q = false → ∃ t, exec (.breakDeadline dt p) s = .next t ∧
        (t.hs h).state = .hold ∧ (t.hs h).holdReason = some .brk ∧ (t.hs h).change = none ∧ (t.hs h).gate = .none ∧
        (t.hs h).plan = (s.hs h).plan.map (fun w => if w.reel = e.reel then { w with status := .interrupted } else w) ∧
        (t.tr p).state = .broken ∧ (t.tr q).armed = (s.tr q).armed ∧
        (t.lt h).programTarget = (s.hs h).levels.brk ∧ (t.lt h).programFade = 10 ∧
        (∀ i, i ≠ h → t.hs i = s.hs i ∧ t.lt i = s.lt i) ∧ t.ports = s.ports ∧ t.booth = s.booth) ∧
    (y.phase = .crossing → (s.ds q).state = .opening → ∃ t, exec (.breakDeadline dt p) s = .next t ∧
        (t.hs h).state = .showing ∧ (t.hs h).change = some y ∧ (t.hs h).liveSide = (s.hs h).liveSide ∧
        (t.tr p).state = .broken ∧ (t.ds p).state ≠ .opened ∧ (t.ds p).state ≠ .opening ∧
        (t.lt h).programTarget = (s.hs h).levels.brk ∧ (t.lt h).programFade = 10 ∧
        (∀ x, x ≠ p → t.tr x = s.tr x ∧ t.rd x = s.rd x ∧ t.ds x = s.ds x ∧ t.lp x = s.lp x) ∧
        (∀ i, i ≠ h → t.hs i = s.hs i ∧ t.lt i = s.lt i) ∧ t.ports = s.ports ∧ t.booth = s.booth)) ∧
  (∀ (s : State) (dt : Nat) (h : HouseId) (p : Proj) (e : ReelEntry) (u : Instant), s.showsReel h p e →
    (s.hs h).change = none →
    (∀ x, houseOf x = h → (s.ds x).state ≠ .stuck) →
    ((s.lp p).lowStart = some u → u + 2000 ≤ s.now + dt →
      (s.hs h).dark = false → ((s.ds p).state = .opened ∨ (s.ds p).state = .closing) → (s.lp p).state = .burning →
      (s.lp p).autostrike = true → (s.lp p).restrikeUsed = false → 400 ≤ (s.lp p).account →
      (s.booth.grade = .normal ∨ s.booth.grade = .warm) → s.booth.covers (projPort p) = false →
      ∃ t, exec (.arcOut dt p) s = .next t ∧ t.hs h = { s.hs h with dark := true } ∧
        t.lp p = ({ s.lp p with restrikeUsed := true }).struckAt (s.now + dt) ∧ (t.ds p).state = .closing ∧
        t.transports = s.transports ∧ t.readers = s.readers ∧ t.lights = s.lights ∧
        (∀ i, i ≠ h → t.hs i = s.hs i) ∧ t.ports = s.ports ∧ t.booth = s.booth) ∧
    ((s.hs h).dark = true → (s.lp p).state = .settling → (s.lp p).settleStart = some u → u + 100000 ≤ s.now + dt →
      (s.ds p).state = .closed → (s.pt (projPort p)).state = .held → ∃ t, exec (.settleEnd dt p) s = .next t ∧
        t.hs h = { s.hs h with dark := false } ∧ (t.lp p).state = .burning ∧
        t.ds p = { s.ds p with
          drive := .opens
          state := .opening
          travel := some ⟨.opens, s.now + dt, true, 2 * (s.ds p).openTime + 100⟩ } ∧
        t.transports = s.transports ∧ t.readers = s.readers ∧ t.lights = s.lights ∧
        (∀ i, i ≠ h → t.hs i = s.hs i) ∧ t.ports = s.ports ∧ t.booth = s.booth) ∧
    ((s.hs h).dark = true → (s.lp p).state = .striking → (s.lp p).phase = some .supply → (s.lp p).phaseStart = some u →
      u + 20000 ≤ s.now + dt → ∃ t, exec (.supplyLimit dt p) s = .next t ∧
        (t.lp p).state = .off ∧ (t.lp p).stop = some .strikeSupply ∧
        (t.hs h).state = .hold ∧ (t.hs h).holdReason = some .lamp ∧ (t.hs h).dark = false ∧ (t.hs h).gate = .none ∧
        (t.hs h).plan = (s.hs h).plan.map (fun w => if w.reel = e.reel then { w with status := .interrupted } else w) ∧
        (∀ x, houseOf x = h → (t.tr x).state ≠ .starting ∧ (t.tr x).state ≠ .running ∧ (t.ds x).state ≠ .opened ∧
          (t.ds x).state ≠ .opening) ∧
        (t.lt h).programTarget = (s.hs h).levels.hold ∧ (t.lt h).programFade = 30 ∧
        (∀ i, i ≠ h → t.hs i = s.hs i ∧ t.lt i = s.lt i) ∧ t.ports = s.ports ∧ t.booth = s.booth))

/-! ## House lights -/

/-- R135, R127: LIGHTS SET is DONE. The MANUAL layer is active with the clamped target and fade. While SAFETY is inactive the
level jumps to the target where the fade is 0, and otherwise a fade of twice the tenths in steps begins toward it, or none
where the level is there already; while SAFETY is active the level does not move.

R136, R127: LIGHTS RELEASE. With MANUAL inactive nothing changes. Otherwise MANUAL is inactive and nothing is pending;
while SAFETY is inactive the level jumps or fades to the PROGRAM target over the clamped time. The reply carries that
target, and the origin of what was pending.

R134, R127: CLEAR SAFETY is refused with FIRE while a safety cause of the house is active. Otherwise an active SAFETY
layer becomes inactive, with a fade of 30 toward the target of the layer below it; an inactive one is left alone. (That DONE
carries the layer and its target where SAFETY was inactive too is the model's choice, log entry 39; so is the order in which
FIRE names the causes, log entry 44.) -/
def Obligations.LightsAreTakenAndGivenBack : Prop :=
  (∀ (s : State) (dt : Nat) (b : Byte) (target fade : BitVec 16) (h : HouseId) (l : Light) (v f : Nat), s.linkReady →
    b.toNat = h.val + 1 → l = s.lt h → v = min 1000 target.toNat → f = min 600 fade.toNat →
    (l.safetyActive = false → exec (.lightsSet dt b target fade) s = .next (((s.elapse dt).setLt h { l with
      manualActive := true
      manualTarget := v
      manualFade := f
      level := if f = 0 then v else l.level
      drive := if f = 0 then (v * v * 255 + 500000) / 1000000 else l.drive
      fade := if f = 0 ∨ v = l.level then none else some ⟨l.level, v, 2 * f, 0, s.now + dt⟩ }).replied
        (.done 34 (.lights .manual v)))) ∧
    (l.safetyActive = true → exec (.lightsSet dt b target fade) s = .next (((s.elapse dt).setLt h { l with
      manualActive := true
      manualTarget := v
      manualFade := f }).replied (.done 34 (.lights .safety l.safetyTarget))))) ∧
  (∀ (s : State) (dt : Nat) (b : Byte) (fade : BitVec 16) (h : HouseId) (l : Light) (v f : Nat), s.linkReady →
    b.toNat = h.val + 1 → l = s.lt h → v = l.programTarget → f = min 600 fade.toNat →
    (l.manualActive = false → exec (.lightsRelease dt b fade) s =
      .next ((s.elapse dt).replied (.done 35 .manualInactive))) ∧
    (l.manualActive = true → l.safetyActive = false → exec (.lightsRelease dt b fade) s =
      .next (((s.elapse dt).setLt h { l with
        manualActive := false
        pending := none
        level := if f = 0 then v else l.level
        drive := if f = 0 then (v * v * 255 + 500000) / 1000000 else l.drive
        fade := if f = 0 ∨ v = l.level then none else some ⟨l.level, v, 2 * f, 0, s.now + dt⟩ }).replied
          (.done 35 (.released v (l.pending.map (fun x => x.origin)))))) ∧
    (l.manualActive = true → l.safetyActive = true → exec (.lightsRelease dt b fade) s =
      .next (((s.elapse dt).setLt h { l with manualActive := false, pending := none }).replied
        (.done 35 (.released v (l.pending.map (fun x => x.origin))))))) ∧
  (∀ (s : State) (dt : Nat) (b : Byte) (h : HouseId) (l : Light) (v : Nat) (y : Layer), s.linkReady →
    b.toNat = h.val + 1 → l = s.lt h →
    ((l.manualActive = true ∧ v = l.manualTarget ∧ y = .manual) ∨
      (l.manualActive = false ∧ v = l.programTarget ∧ y = .program)) →
    ((s.booth.fusible = true ∨ s.booth.emergency = true ∨ s.booth.critical = true ∨
        (∃ p, houseOf p = h ∧ s.booth.filmFire.cell p = true)) → exec (.clearSafety dt b) s =
      .next ((s.elapse dt).replied (.refused 36 .fire (.causes (s.booth.safetyCauses h))))) ∧
    (s.booth.fusible = false → s.booth.emergency = false → s.booth.critical = false →
      (∀ p, houseOf p = h → s.booth.filmFire.cell p = false) →
      (l.safetyActive = false →
        exec (.clearSafety dt b) s = .next ((s.elapse dt).replied (.done 36 (.lights y v)))) ∧
      (l.safetyActive = true → exec (.clearSafety dt b) s = .next (((s.elapse dt).setLt h { l with
        safetyActive := false
        fade := if v = l.level then none else some ⟨l.level, v, 60, 0, s.now + dt⟩ }).replied
          (.done 36 (.lights y v))))))

/-- R128, R129: a step of a fade falls 50 ms after the one before, step k at 50 k ms after the start. The level moves to
L0 + trunc((Lt - L0) * k / N), and the drive with it; the last step lands on the target and ends the fade. Before its
instant, and with no fade, nothing changes (log entry 13). -/
def Obligations.FadeStepMovesTheLevel : Prop :=
  ∀ (s : State) (dt : Nat) (h : HouseId) (f : Fade) (v : Nat),
    ((s.lt h).fade = none → exec (.fadeStep dt h) s = .next (s.elapse dt)) ∧
    ((s.lt h).fade = some f → s.now + dt < f.start + 500 * (f.step + 1) →
      exec (.fadeStep dt h) s = .next (s.elapse dt)) ∧
    ((s.lt h).fade = some f → f.start + 500 * (f.step + 1) ≤ s.now + dt → f.step + 1 < f.steps →
      ((v : Int) = f.startLevel + (((f.target : Int) - f.startLevel) * (f.step + 1)).tdiv f.steps) →
      exec (.fadeStep dt h) s = .next ((s.elapse dt).setLt h { s.lt h with
        level := v
        drive := (v * v * 255 + 500000) / 1000000
        fade := some { f with step := f.step + 1 } })) ∧
    ((s.lt h).fade = some f → f.start + 500 * (f.step + 1) ≤ s.now + dt → f.step + 1 = f.steps →
      exec (.fadeStep dt h) s = .next ((s.elapse dt).setLt h { s.lt h with
        level := f.target
        drive := (f.target * f.target * 255 + 500000) / 1000000
        fade := none }))

/-- R129, R127, R133: every command keeps the laws of the light channels: the drive follows the level; a fade heads for the
effective target; and while SAFETY is active the level stands at the emergency level of the house, with no fade. -/
def Obligations.LightLawsAreKept : Prop :=
  ∀ (c : Instr) (s t : State),
    (∀ h, (s.lt h).drive = ((s.lt h).level * (s.lt h).level * 255 + 500000) / 1000000 ∧
      (s.lt h).safetyTarget = (s.hs h).levels.emergency ∧
      (∀ f, (s.lt h).fade = some f → f.target = (s.lt h).effective ∧ f.step < f.steps) ∧
      ((s.lt h).safetyActive = true → (s.lt h).level = (s.lt h).safetyTarget ∧ (s.lt h).fade = none)) →
    exec c s = .next t →
    ∀ h, (t.lt h).drive = ((t.lt h).level * (t.lt h).level * 255 + 500000) / 1000000 ∧
      (t.lt h).safetyTarget = (t.hs h).levels.emergency ∧
      (∀ f, (t.lt h).fade = some f → f.target = (t.lt h).effective ∧ f.step < f.steps) ∧
      ((t.lt h).safetyActive = true → (t.lt h).level = (t.lt h).safetyTarget ∧ (t.lt h).fade = none)

/-! ## Fire shutters and booth protection -/

/-- R140, R141: ARM PORT is refused of a port that is not DOWN (STATE) or that an active cause covers (FIRE). A port whose
up switch is closed is HELD at once, with PORT HELD (stated for a transmitter that is SENDING); another is ARMING for 30 s,
and lapses to DOWN, with ARM LAPSED, when they have passed and not before (log entry 13). (The order in which FIRE names the
covering causes is the model's choice, log entry 44.) -/
def Obligations.ArmPortRaisesTheShutter : Prop :=
  ∀ (s : State) (dt : Nat) (b : Byte) (n : PortId) (e : Instant), b.toNat = n.val + 1 →
    (s.linkReady → (s.pt n).state ≠ .down →
      exec (.armPort dt b) s = .next ((s.elapse dt).replied (.refused 37 .state .nothing))) ∧
    (s.linkReady → (s.pt n).state = .down → s.booth.covers n = true → exec (.armPort dt b) s =
      .next ((s.elapse dt).replied (.refused 37 .fire (.causes (s.booth.covering n))))) ∧
    (s.linkReady → (s.pt n).state = .down → s.booth.covers n = false → (s.pt n).upSwitch = false →
      exec (.armPort dt b) s = .next (((s.elapse dt).setPt n { s.pt n with
        state := .arming
        windowEnd := some (s.now + dt + 300000) }).replied (.done 37 (.portState .arming)))) ∧
    (s.linkReady → (s.pt n).state = .down → s.booth.covers n = false → (s.pt n).upSwitch = true →
      s.houseAtRest (portHouse n) → ∃ t, exec (.armPort dt b) s = .next t ∧
        t.pt n = { s.pt n with state := .held, windowEnd := none } ∧ (∀ m, m ≠ n → t.pt m = s.pt m) ∧
        t.link.slot = some (.done 37 (.portState .held)) ∧
        (s.link.transmitter ≠ .idle → t.link = { s.link.enqueue (portNumber n) .portHeld with
          slot := some (.done 37 (.portState .held)) }) ∧ t.booth = s.booth ∧ t.transports = s.transports ∧
        t.readers = s.readers ∧ t.dousers = s.dousers ∧ t.lamps = s.lamps ∧ t.houses = s.houses ∧
        t.lights = s.lights) ∧
    ((s.pt n).state = .arming → (s.pt n).windowEnd = some e →
      (s.now + dt < e → exec (.armWindowEnd dt n) s = .next (s.elapse dt)) ∧
      (e ≤ s.now + dt → exec (.armWindowEnd dt n) s = .next (((s.elapse dt).setPt n { s.pt n with
        state := .down
        windowEnd := none }).reportPort n .armLapsed)))

/-- R141, R143: the port switches. The up switch of an ARMING port closes: HELD, with PORT HELD. The down switch of a
DROPPING or JAMMED port closes: DOWN, with its outcome, CLOSED or LATE, and the time from the release in whole ms written
into its record; a settled record is reported in PORT DROPPED. In every other state a switch changes its reading only.

R143, R146: the confirmation limit. 1000 ms after its release a port still DROPPING is JAMMED, with PORT JAMMED; the
outcome is written into its record, and a record so settled is reported. Before that, and in other states, nothing (log entry 13).

R145, R146: a port whose record was discarded writes no outcome. The first of them to be confirmed or jammed has PORT DROPPED
queued, without a cause, and the others do not have it again; a LATE closing has its own report (log entry 20). -/
def Obligations.PortFallIsConfirmed : Prop :=
  (∀ (s : State) (dt : Nat) (n : PortId) (l : DropLink) (d : DropRecord) (from0 : Instant) (m : Nat)
    (o : DropOutcome),
    m = (s.now + dt - from0) / 10 → o = (if (s.pt n).state = .dropping then .closed m else .late m) →
    ((s.pt n).state = .arming → s.houseAtRest (portHouse n) → exec (.upSwitchCloses dt n) s =
      .next (((s.elapse dt).setPt n { s.pt n with state := .held, windowEnd := none, upSwitch := true }).reportPort n
        .portHeld)) ∧
    ((s.pt n).state ≠ .arming → exec (.upSwitchCloses dt n) s =
      .next ((s.elapse dt).setPt n { s.pt n with upSwitch := true })) ∧
    ((s.pt n).state ≠ .held → exec (.upSwitchOpens dt n) s =
      .next ((s.elapse dt).setPt n { s.pt n with upSwitch := false })) ∧
    exec (.downSwitchOpens dt n) s = .next ((s.elapse dt).setPt n { s.pt n with downSwitch := false }) ∧
    ((s.pt n).state ≠ .dropping → (s.pt n).state ≠ .jammed → exec (.downSwitchCloses dt n) s =
      .next ((s.elapse dt).setPt n { s.pt n with downSwitch := true })) ∧
    ((s.pt n).link = some l → l.discarded = false → (s.pt n).releasedAt = some from0 →
      s.booth.log.find? (fun x => x.seq = l.seq) = some d → (s.pt n).state = .dropping ∨ (s.pt n).state = .jammed →
      ∃ t, exec (.downSwitchCloses dt n) s = .next t ∧
        t.pt n = { s.pt n with state := .down, releasedAt := none, link := none, downSwitch := true } ∧
        (∀ k, k ≠ n → t.pt k = s.pt k) ∧
        t.booth = { s.booth with log := s.booth.log.map (fun x => if x.seq = l.seq then
          { x with ports := x.ports.map (fun y => if y.port = n then { y with outcome := o } else y) } else x) } ∧
        ((s.pt n).state = .dropping → (∀ k, k ≠ n → (s.pt k).state = .dropping → (s.pt k).link ≠ some l) →
          t.link = s.link.enqueue 0 (.portDropped l.seq (some d.cause) d.projector)) ∧
        ((s.pt n).state = .dropping → (∃ k, k ≠ n ∧ (s.pt k).state = .dropping ∧ (s.pt k).link = some l) →
          t.link = s.link) ∧
        ((s.pt n).state = .jammed → t.link = s.link.enqueue 0 (.portDroppedLate l.seq n m)) ∧
        t.transports = s.transports ∧ t.readers = s.readers ∧ t.dousers = s.dousers ∧ t.lamps = s.lamps ∧
        t.houses = s.houses ∧ t.lights = s.lights)) ∧
  (∀ (s : State) (dt : Nat) (n : PortId) (l : DropLink) (d : DropRecord) (from0 : Instant),
    (s.pt n).releasedAt = some from0 →
    ((s.pt n).state ≠ .dropping ∨ s.now + dt < from0 + 10000 →
      exec (.confirmationLimit dt n) s = .next (s.elapse dt)) ∧
    ((s.pt n).state = .dropping → from0 + 10000 ≤ s.now + dt → (s.pt n).link = some l → l.discarded = false →
      s.booth.log.find? (fun x => x.seq = l.seq) = some d → ∃ t, exec (.confirmationLimit dt n) s = .next t ∧
        t.pt n = { s.pt n with state := .jammed } ∧ (∀ k, k ≠ n → t.pt k = s.pt k) ∧
        t.booth = { s.booth with log := s.booth.log.map (fun x => if x.seq = l.seq then
          { x with ports := x.ports.map (fun y => if y.port = n then { y with outcome := .jammed } else y) } else x) } ∧
        ((∀ k, k ≠ n → (s.pt k).state = .dropping → (s.pt k).link ≠ some l) →
          t.link = (s.link.enqueue (n.val + 1) (.portJammed l.seq)).enqueue 0
            (.portDropped l.seq (some d.cause) d.projector)) ∧
        ((∃ k, k ≠ n ∧ (s.pt k).state = .dropping ∧ (s.pt k).link = some l) →
          t.link = s.link.enqueue (n.val + 1) (.portJammed l.seq)) ∧
        t.transports = s.transports ∧ t.readers = s.readers ∧ t.dousers = s.dousers ∧ t.lamps = s.lamps ∧
        t.houses = s.houses ∧ t.lights = s.lights)) ∧
  (∀ (s : State) (dt : Nat) (n : PortId) (l : DropLink) (from0 : Instant) (m : Nat) (x : Link),
    (s.pt n).link = some l → l.discarded = true → (s.pt n).releasedAt = some from0 → m = (s.now + dt - from0) / 10 →
    x = (if l.reported then s.link else s.link.enqueue 0 (.portDropped l.seq none none)) →
    ((s.pt n).state = .dropping → ∃ t, exec (.downSwitchCloses dt n) s = .next t ∧
      t.pt n = { s.pt n with state := .down, releasedAt := none, link := none, downSwitch := true } ∧
      t.link = x ∧ t.booth = s.booth ∧
      (∀ k, k ≠ n → t.pt k = if l.reported then s.pt k else { s.pt k with
        link := (s.pt k).link.map (fun y => if y.seq = l.seq ∧ y.discarded then { y with reported := true } else y) }) ∧
      t.transports = s.transports ∧ t.dousers = s.dousers ∧ t.lamps = s.lamps ∧ t.houses = s.houses ∧ t.lights = s.lights) ∧
    ((s.pt n).state = .jammed → ∃ t, exec (.downSwitchCloses dt n) s = .next t ∧
      t.pt n = { s.pt n with state := .down, releasedAt := none, link := none, downSwitch := true } ∧
      t.link = x.enqueue 0 (.portDroppedLate l.seq n m) ∧ t.booth = s.booth) ∧
    ((s.pt n).state = .dropping → from0 + 10000 ≤ s.now + dt → l.reported = false →
      ∃ t, exec (.confirmationLimit dt n) s = .next t ∧
      t.pt n = { s.pt n with state := .jammed, link := some { l with reported := true } } ∧ t.booth = s.booth ∧
      t.link = (s.link.enqueue (n.val + 1) (.portJammed l.seq)).enqueue 0 (.portDropped l.seq none none)) ∧
    ((s.pt n).state = .dropping → from0 + 10000 ≤ s.now + dt → l.reported = true →
      ∃ t, exec (.confirmationLimit dt n) s = .next t ∧
      t.pt n = { s.pt n with state := .jammed } ∧ t.booth = s.booth ∧
      t.link = s.link.enqueue (n.val + 1) (.portJammed l.seq)))

/-- R147, R144, R145, R142: a self-drop. The up switch of a HELD port opens: a SELF record joins the log, listing the port,
with its projector and the footage of one that is ARMED; the port is DROPPING with its link to that record, and the
douser of a projection port is closing or closed.

R156, R142, R144, R145: DROP TEST of a port, or of a house's three ports, is refused with STATE where the house of a
named port is in a show. Otherwise a TEST record joins the log: a port that was HELD or ARMING is released, DROPPING, or
DOWN at once where its down switch is closed; the others are ALREADY. No lamp, motor, house or light is touched.

R145: a record that joins a full log of 16 discards the oldest, and the links that name it are marked; the other links
stay. (That a marked link also notes whether the record had been settled is log entry 20.) -/
def Obligations.DropsAreRecorded : Prop :=
  (∀ (s : State) (dt : Nat) (n : PortId), (s.pt n).state = .held → (s.pt n).downSwitch = false →
    s.houseAtRest (portHouse n) → s.booth.log.length < 16 →
    ∃ t, exec (.upSwitchOpens dt n) s = .next t ∧
      t.booth = { s.booth with
        log := s.booth.log ++ [
          { seq := s.booth.nextSeq
            cause := .self
            projector := portProj n
            footage := match portProj n with
              | none => none
              | some p => if (s.tr p).armed = none then none else some ((s.tr p).counter / 16)
            time := s.link.clock
            ports := [⟨n, .pending⟩] }]
        nextSeq := if s.booth.nextSeq = 65535 then 1 else s.booth.nextSeq + 1 } ∧
      t.pt n = { s.pt n with
        state := .dropping
        upSwitch := false
        windowEnd := none
        releasedAt := some (s.now + dt)
        link := some ⟨s.booth.nextSeq, false, false⟩ } ∧
      (∀ k, k ≠ n → t.pt k = s.pt k) ∧
      (∀ p, portProj n = some p → (t.ds p).state ≠ .opened ∧ (t.ds p).state ≠ .opening) ∧
      (∀ p, portProj n ≠ some p → t.ds p = s.ds p) ∧
      t.transports = s.transports ∧ t.readers = s.readers ∧ t.lamps = s.lamps ∧ t.houses = s.houses ∧
      t.lights = s.lights ∧ t.link = s.link) ∧
  (∀ (s : State) (dt : Nat) (form : DropForm) (b : Byte) (m : PortId) (h : HouseId) (named : List PortId), s.linkReady →
    ((form = .port ∧ b.toNat = m.val + 1 ∧ h = portHouse m ∧ named = [m]) ∨
      (form = .house ∧ b.toNat = h.val + 1 ∧ named = [projPort (projAt h .a), projPort (projAt h .b), obsPort h])) →
    ((s.hs h).state.inShow = true →
      exec (.dropTest dt form b) s = .next ((s.elapse dt).replied (.refused 38 .state .nothing))) ∧
    (s.houseAtRest h → s.booth.log.length < 16 → (∀ d ∈ s.booth.log, d.seq ≠ s.booth.nextSeq) →
      ∃ t, exec (.dropTest dt form b) s = .next t ∧
        t.link.slot = some (.done 38 (.sequence s.booth.nextSeq)) ∧
        t.booth = { s.booth with
          log := s.booth.log ++ [
            { seq := s.booth.nextSeq
              cause := .test
              projector := none
              footage := none
              time := s.link.clock
              ports := named.map (fun n => ⟨n,
                if (s.pt n).state = .held ∨ (s.pt n).state = .arming then
                  if (s.pt n).downSwitch then .closed 0 else .pending
                else .already⟩) }]
          nextSeq := if s.booth.nextSeq = 65535 then 1 else s.booth.nextSeq + 1 } ∧
        (∀ n, n ∈ named → (s.pt n).state = .held ∨ (s.pt n).state = .arming → (s.pt n).downSwitch = false →
          t.pt n = { s.pt n with
            state := .dropping
            windowEnd := none
            releasedAt := some (s.now + dt)
            link := some ⟨s.booth.nextSeq, false, false⟩ }) ∧
        (∀ n, n ∈ named → (s.pt n).state = .held ∨ (s.pt n).state = .arming → (s.pt n).downSwitch = true →
          t.pt n = { s.pt n with state := .down, windowEnd := none, link := none }) ∧
        (∀ n, ¬ (n ∈ named ∧ ((s.pt n).state = .held ∨ (s.pt n).state = .arming)) → t.pt n = s.pt n) ∧
        t.transports = s.transports ∧ t.readers = s.readers ∧ t.lamps = s.lamps ∧ t.houses = s.houses ∧
        t.lights = s.lights)) ∧
  (∀ (s : State) (dt : Nat) (n : PortId) (old : DropRecord) (rest : List DropRecord) (b : Bool), (s.pt n).state = .held →
    (s.pt n).downSwitch = false →
    s.houseAtRest (portHouse n) → s.booth.log = old :: rest → rest.length = 15 →
    (b = true ↔ ∀ k, (s.pt k).state = .dropping → (s.pt k).link ≠ some ⟨old.seq, false, false⟩) →
    ∃ t, exec (.upSwitchOpens dt n) s = .next t ∧
      t.booth = { s.booth with
        log := rest ++ [
          { seq := s.booth.nextSeq
            cause := .self
            projector := portProj n
            footage := match portProj n with
              | none => none
              | some p => if (s.tr p).armed = none then none else some ((s.tr p).counter / 16)
            time := s.link.clock
            ports := [⟨n, .pending⟩] }]
        nextSeq := if s.booth.nextSeq = 65535 then 1 else s.booth.nextSeq + 1 } ∧
      t.pt n = { s.pt n with
        state := .dropping
        upSwitch := false
        windowEnd := none
        releasedAt := some (s.now + dt)
        link := some ⟨s.booth.nextSeq, false, false⟩ } ∧
      (∀ k, k ≠ n → t.pt k = { s.pt k with
        link := (s.pt k).link.map (fun l => if l.seq = old.seq then
          { l with discarded := true, reported := b } else l) }) ∧
      t.transports = s.transports ∧ t.readers = s.readers ∧ t.lamps = s.lamps ∧ t.houses = s.houses ∧
      t.lights = s.lights ∧ t.link = s.link)

/-- R148, R149, R150: the activation of a lasting cause, by the fusible-link line, the EMERGENCY button, a gate heat sensor
or a CRITICAL temperature. Afterwards the cause is active, every port it covers is DOWN, DROPPING or JAMMED, and in every
house it reaches the SAFETY layer is active, the lamps are OFF, no transport is STARTING or RUNNING, and a house that
was in a show, or in HOLD, is in HOLD with the cause's reason. -/
def Obligations.FirePutsTheBoothSafe : Prop :=
  ∀ (c : Instr) (s : State) (dt t0 : Nat) (q : Proj) (film : Bool) (reason : HoldReason),
    ((c = .fusibleLinkOpens dt ∧ s.booth.fusible = false ∧ film = false ∧ reason = .fire) ∨
      (c = .emergencyButtonPress dt ∧ s.booth.emergency = false ∧ film = false ∧ reason = .emergency) ∨
      (c = .temperatureReading dt t0 ∧ 55 ≤ t0 ∧ s.booth.nextReading ≤ s.now + dt ∧ s.booth.grade ≠ .critical ∧
        s.booth.critical = false ∧ film = false ∧ reason = .fire) ∨
      (c = .gateHeatAsserts dt q ∧ s.booth.filmFire.cell q = false ∧ film = true ∧ reason = .fire)) →
    ∃ t, exec c s = .next t ∧
      (reason = .emergency → t.booth.emergency = true ∧ t.booth.pressed = true) ∧
      (film = true → t.booth.filmFire.cell q = true) ∧
      (c = .fusibleLinkOpens dt → t.booth.fusible = true ∧ t.booth.fusibleOpen = true) ∧
      (c = .temperatureReading dt t0 → t.booth.critical = true ∧ t.booth.grade = .critical ∧ t.booth.temperature = t0) ∧
      (∀ n, (film = false ∨ n = projPort q ∨ n = obsPort (houseOf q)) →
        (t.pt n).state ≠ .held ∧ (t.pt n).state ≠ .arming) ∧
      (∀ h, (film = false ∨ h = houseOf q) → (t.lt h).safetyActive = true ∧ (t.hs h).state.inShow = false ∧
        ((s.hs h).state.inShow = true ∨ (s.hs h).state = .hold →
          (t.hs h).state = .hold ∧ (t.hs h).holdReason = some reason)) ∧
      (∀ p, (film = false ∨ houseOf p = houseOf q) → (t.lp p).state = .off ∧ (t.tr p).state ≠ .starting ∧
        (t.tr p).state ≠ .running)

/-- R152, R153, R150: the endings. The fusible-link line closes, or a gate heat sensor deasserts, with its cause active:
the cause is inactive and FIRE CAUSE OFF is queued, and nothing that the activation did is undone. The line's closing with
the cause inactive, and the release of the EMERGENCY button, change the reading only.

R155: the temperature is read once a second and graded by the entry and the leaving values; a grade that differs is
reported once in TEMP GRADE. A reading before its second changes nothing, and a late one does not shift the next (log entry
13). (CRITICAL's cause: FirePutsTheBoothSafe, and its ending here.) -/
def Obligations.CausesEndAndReadingsAreGraded : Prop :=
  (∀ (s : State) (dt : Nat) (p : Proj),
    (s.booth.fusible = true → exec (.fusibleLinkCloses dt) s = .next (((s.elapse dt).setBooth { s.booth with
      fusible := false
      fusibleOpen := false }).reportBooth (.fireCauseOff .fusible none))) ∧
    (s.booth.fusible = false → exec (.fusibleLinkCloses dt) s =
      .next ((s.elapse dt).setBooth { s.booth with fusibleOpen := false })) ∧
    (s.booth.filmFire.cell p = true → exec (.gateHeatDeasserts dt p) s = .next (((s.elapse dt).setBooth { s.booth with
      filmFire := s.booth.filmFire.put p false }).reportBooth (.fireCauseOff .filmFire (some p)))) ∧
    (s.booth.filmFire.cell p = false → exec (.gateHeatDeasserts dt p) s = .next (s.elapse dt)) ∧
    exec (.emergencyButtonRelease dt) s = .next ((s.elapse dt).setBooth { s.booth with pressed := false })) ∧
  (∀ (s : State) (dt t0 : Nat) (g g' : Grade), g = s.booth.grade →
    g' = (if 55 ≤ t0 then .critical
      else if g = .critical ∧ 52 < t0 then .critical
      else if 45 ≤ t0 then .hot
      else if (g = .hot ∨ g = .critical) ∧ 42 < t0 then .hot
      else if 35 ≤ t0 then .warm
      else if g ≠ .normal ∧ 32 < t0 then .warm
      else .normal) →
    (s.now + dt < s.booth.nextReading → exec (.temperatureReading dt t0) s = .next (s.elapse dt)) ∧
    (s.booth.nextReading ≤ s.now + dt → g' = g → exec (.temperatureReading dt t0) s =
      .next ((s.elapse dt).setBooth { s.booth with
        temperature := t0
        nextReading := s.booth.nextReading + 10000 })) ∧
    (s.booth.nextReading ≤ s.now + dt → g' ≠ g → g ≠ .critical → g' ≠ .critical →
      exec (.temperatureReading dt t0) s = .next (((s.elapse dt).setBooth { s.booth with
        temperature := t0
        grade := g'
        nextReading := s.booth.nextReading + 10000 }).reportBooth (.tempGrade g g' t0))) ∧
    (s.booth.nextReading ≤ s.now + dt → g = .critical → g' ≠ .critical → s.booth.critical = true →
      exec (.temperatureReading dt t0) s = .next ((((s.elapse dt).setBooth { s.booth with
        temperature := t0
        grade := g'
        nextReading := s.booth.nextReading + 10000
        critical := false }).reportBooth (.tempGrade g g' t0)).reportBooth (.fireCauseOff .critical none))))

/-- R154: CLEAR EMERGENCY has no target. With the cause inactive it is DONE and changes nothing; with the button pressed it
is refused with STATE; otherwise it is DONE, the cause ends with FIRE CAUSE OFF, and the other causes stand. A press taken
first finds the cause active and changes only the pressed state. -/
def Obligations.ClearEmergencyEndsTheCause : Prop :=
  ∀ (s : State) (dt : Nat), s.linkReady →
    (s.booth.emergency = true →
      exec (.emergencyButtonPress dt) s = .next ((s.elapse dt).setBooth { s.booth with pressed := true })) ∧
    (s.booth.emergency = false → exec (.clearEmergency dt) s = .next ((s.elapse dt).replied (.done 39 .nothing))) ∧
    (s.booth.emergency = true → s.booth.pressed = true →
      exec (.clearEmergency dt) s = .next ((s.elapse dt).replied (.refused 39 .state .nothing))) ∧
    (s.booth.emergency = true → s.booth.pressed = false → ∃ t, exec (.clearEmergency dt) s = .next t ∧
      t.booth = { s.booth with emergency := false } ∧ t.link.slot = some (.done 39 .nothing) ∧
      (s.link.transmitter ≠ .idle → t.link = { s.link.enqueue 0 (.fireCauseOff .emergency none) with
        slot := some (.done 39 .nothing) }) ∧
      (s.link.transmitter = .idle →
        (t.link.transmitter = .reply ∧ t.link.queue = [⟨0, s.link.clock, .fireCauseOff .emergency none⟩]) ∨
        (t.link.transmitter = .report ⟨0, s.link.clock, .fireCauseOff .emergency none⟩)) ∧
      t.transports = s.transports ∧ t.readers = s.readers ∧ t.dousers = s.dousers ∧ t.lamps = s.lamps ∧
      t.houses = s.houses ∧ t.lights = s.lights ∧ t.ports = s.ports)

/-- R148: no command leaves a port HELD or ARMING that an active fire cause covers. -/
def Obligations.CoveredPortsStayDown : Prop :=
  ∀ (c : Instr) (s t : State),
    (∀ n, s.booth.covers n = true → (s.pt n).state ≠ .held ∧ (s.pt n).state ≠ .arming) → exec c s = .next t →
    ∀ n, t.booth.covers n = true → (t.pt n).state ≠ .held ∧ (t.pt n).state ≠ .arming

/-! ## The console link -/

/-- R162, R170: the record of a well-formed request is read back as that request, and a record that is read as a request is
that request's record: no byte of a record is dropped. -/
def Obligations.RequestsAndRecordsAgree : Prop :=
  (∀ q : Request, q.wf = true → parseRequest (recordOf q) = some q) ∧
    (∀ (r : Record) (q : Request), parseRequest r = some q → recordOf q = r ∧ q.wf = true)

/-- R160, R161: the bytes of a frame, received one after another in HUNT, bring about what the arrival of its record does,
whatever the record; and the command of a request is the arrival of its record (R162; log entry 11, on
which every statement about a request's command rests; RESTART brings its switches too, log entry 6). -/
def Obligations.FramesBringTheirRecords : Prop :=
  (∀ (s : State) (r : Record), r.payload.length ≤ 250 → s.link.receive = .hunt none →
    receiveAll (recordFrame r) s = exec (.formatRefusal 0 r.kind r.payload) s) ∧
  (∀ (s : State) (q : Request) (dt : Nat) (sw : Bank SwitchPair 8), q ≠ .restart →
    exec (commandOf q dt sw) s = exec (.formatRefusal dt q.kind q.payload) s)

/-- R160, R161: one byte. In HUNT, 0xC3 sets the half, 0x3C after it begins an assembly, and any other byte, or a bad stop
bit, clears it. In ASSEMBLE, the kind and a length up to 250 are kept; a longer length, a bad stop bit or a wrong check
byte discards the record, with a line error.

R160: 20 ms after a 0xC3 with no byte since, the half is cleared; 20 ms after the last byte of an assembly the record is
discarded; a line break leaves the receiver in HUNT with the half clear. No line error is raised. Before the 20 ms nothing
changes (log entry 13). The gap of a record with no byte yet runs from its 0x3C, a line break clears the half too, and a byte
with a bad stop bit is not examined (log entry 24). -/
def Obligations.ReceiverFollowsTheBytes : Prop :=
  (∀ (s : State) (dt : Nat) (b kind n : Byte) (ok : Bool) (half : Option Instant) (a : Assembly) (x : ReceiveState)
    (e : ReportBody),
    (s.link.receive = .hunt half →
      ((ok = true ∧ b = 0xC3 ∧ x = .hunt (some (s.now + dt))) ∨
        (ok = true ∧ b = 0x3C ∧ half ≠ none ∧ x = .assemble ⟨none, none, [], 0, s.now + dt⟩) ∨
        (ok = true ∧ b = 0x3C ∧ half = none ∧ x = .hunt none) ∨
        (ok = true ∧ b ≠ 0xC3 ∧ b ≠ 0x3C ∧ x = .hunt none) ∨ (ok = false ∧ x = .hunt none)) →
      exec (.receiveByte dt b ok) s = .next ((s.elapse dt).setLink { s.link with receive := x })) ∧
    (s.link.receive = .assemble a → a.kind = none → ok = true → exec (.receiveByte dt b ok) s =
      .next ((s.elapse dt).setLink { s.link with
        receive := .assemble { a with kind := some b, sum := a.sum + b, lastByte := s.now + dt } })) ∧
    (s.link.receive = .assemble a → a.kind = some kind → a.length = none → ok = true → b.toNat ≤ 250 →
      exec (.receiveByte dt b ok) s = .next ((s.elapse dt).setLink { s.link with
        receive := .assemble { a with length := some b, sum := a.sum + b, lastByte := s.now + dt } })) ∧
    (s.link.receive = .assemble a → a.kind = some kind → a.length = some n → a.payload.length < n.toNat → ok = true →
      exec (.receiveByte dt b ok) s = .next ((s.elapse dt).setLink { s.link with
        receive := .assemble { a with payload := a.payload ++ [b], sum := a.sum + b, lastByte := s.now + dt } })) ∧
    (s.link.receive = .assemble a → s.link.queue.any (fun y => y.body.isLineError) = false →
      ((ok = false ∧ e = .lineError 0 0 1 0) ∨
        (ok = true ∧ a.kind = some kind ∧ a.length = none ∧ 250 < b.toNat ∧ e = .lineError 0 1 0 0) ∨
        (ok = true ∧ a.kind = some kind ∧ a.length = some n ∧ n.toNat ≤ a.payload.length ∧ a.sum + b ≠ 0 ∧
          e = .lineError 1 0 0 0)) →
      exec (.receiveByte dt b ok) s =
        .next (((s.elapse dt).setLink { s.link with receive := .hunt none }).reportBooth e))) ∧
  (∀ (s : State) (dt : Nat) (u : Instant) (a : Assembly) (x : State), x = s.elapse dt →
    (s.link.receive = .hunt (some u) → (u + 200 ≤ s.now + dt →
        exec (.syncHalfTimeout dt) s = .next (x.setLink { s.link with receive := .hunt none })) ∧
      (s.now + dt < u + 200 → exec (.syncHalfTimeout dt) s = .next x)) ∧
    (s.link.receive = .assemble a → (a.lastByte + 200 ≤ s.now + dt →
        exec (.interByteGap dt) s = .next (x.setLink { s.link with receive := .hunt none })) ∧
      (s.now + dt < a.lastByte + 200 → exec (.interByteGap dt) s = .next x)) ∧
    exec (.lineBreak dt) s = .next (x.setLink { s.link with receive := .hunt none }))

/-- R162: a complete record whose kind is no request's, whose length is not the kind's, or that carries a code outside a
fixed set is refused with FORMAT, and nothing else changes; a request whose number names nothing is refused with TARGET. -/
def Obligations.FormatAndTargetAreRefused : Prop :=
  ∀ (s : State) (dt : Nat) (sw : Bank SwitchPair 8) (kind b x y : Byte) (payload : List Byte) (u v w o : BitVec 16)
    (auto : Bool) (e : ReelSpec) (start : Option (BitVec 16)), s.linkReady → e.cues.length ≤ 4 →
    (parseRequest ⟨kind, payload⟩ = none → exec (.formatRefusal dt kind payload) s =
      .next ((s.elapse dt).replied (.refused kind .format .nothing))) ∧
    (b.toNat = 0 ∨ 8 < b.toNat → ∀ q ∈ [Request.runMotor b, .stopMotor b, .setCueSense b x y, .cueClear b,
        .douserTrial b, .strike b, .extinguish b, .setArc b x u auto, .loadCarbon b u, .armReel b x start, .unarm b,
        .status .projector b x, .status .lamp b x],
      exec (commandOf q dt sw) s = .next ((s.elapse dt).replied (.refused q.kind .target .nothing))) ∧
    (b.toNat = 0 ∨ 4 < b.toNat → ∀ q ∈ [Request.setSpeed b x, .clearProgram b, .addReel b e, .start b, .hold b,
        .changeNow b, .setHouseLevels b u v w o, .lightsSet b u v, .lightsRelease b u, .clearSafety b,
        .dropTest .house b, .status .house b x],
      exec (commandOf q dt sw) s = .next ((s.elapse dt).replied (.refused q.kind .target .nothing))) ∧
    (b.toNat = 0 ∨ 12 < b.toNat → ∀ q ∈ [Request.armPort b, .dropTest .port b],
      exec (commandOf q dt sw) s = .next ((s.elapse dt).replied (.refused q.kind .target .nothing)))

/-- R162: a refused request changes nothing but the reply. -/
def Obligations.RefusedRequestChangesNothing : Prop :=
  ∀ (s t : State) (q : Request) (dt : Nat) (sw : Bank SwitchPair 8) (reason : RefusalReason) (detail : RefusalDetail),
    s.linkReady → exec (commandOf q dt sw) s = .next t →
    t.link.slot = some (.refused q.kind reason detail) →
    t = (s.elapse dt).replied (.refused q.kind reason detail)

/-- R161: while a record waits or a reply stands in the slot, the record of a request waits too, in the order in which it
came; with two waiting it is lost, with a line error of reason OVERRUN. No request is decided meanwhile (R162).

R165, R162, R164: a record finishes sending. After a report, the reply in the slot is sent next, otherwise the report at
the head of the queue, otherwise the transmitter is IDLE. After a reply the slot is empty, and a waiting record is taken for
decision first; here one that is refused with FORMAT. -/
def Obligations.RecordsWaitAndAreSentInTurn : Prop :=
  (∀ (s : State) (q : Request) (dt : Nat) (sw : Bank SwitchPair 8),
    (s.link.buffer.length < 2 → s.link.buffer ≠ [] ∨ s.link.slot ≠ none → exec (commandOf q dt sw) s =
      .next ((s.elapse dt).setLink { s.link with buffer := s.link.buffer ++ [recordOf q] })) ∧
    (2 ≤ s.link.buffer.length → s.link.queue.any (fun y => y.body.isLineError) = false →
      exec (commandOf q dt sw) s = .next ((s.elapse dt).reportBooth (.lineError 0 0 0 1)))) ∧
  (∀ (s : State) (dt : Nat) (r x : Report) (y : Reply) (rest : List Report) (d : Record) (more : List Record) (n : Nat),
    (s.link.transmitter = .idle → exec (.transmitEnd dt) s = .next (s.elapse dt)) ∧
    (s.link.transmitter = .report r → s.link.slot = some y →
      exec (.transmitEnd dt) s = .next ((s.elapse dt).setLink { s.link with transmitter := .reply })) ∧
    (s.link.transmitter = .report r → s.link.slot = none → s.link.queue = [] →
      exec (.transmitEnd dt) s = .next ((s.elapse dt).setLink { s.link with transmitter := .idle })) ∧
    (s.link.transmitter = .report r → s.link.slot = none → s.link.queue = x :: rest → s.link.lost = none →
      exec (.transmitEnd dt) s = .next ((s.elapse dt).setLink { s.link with
        transmitter := .report x
        queue := rest })) ∧
    (s.link.transmitter = .report r → s.link.slot = none → s.link.queue = x :: rest → s.link.lost = some n →
      exec (.transmitEnd dt) s = .next ((s.elapse dt).setLink { s.link with
        transmitter := .report x
        queue := rest ++ [⟨0, s.link.clock, .reportsLost n⟩]
        lost := none })) ∧
    (s.link.transmitter = .reply → s.link.buffer = [] → s.link.queue = x :: rest → s.link.lost = none →
      exec (.transmitEnd dt) s = .next ((s.elapse dt).setLink { s.link with
        slot := none
        transmitter := .report x
        queue := rest })) ∧
    (s.link.transmitter = .reply → s.link.buffer = [] → s.link.queue = [] →
      exec (.transmitEnd dt) s = .next ((s.elapse dt).setLink { s.link with slot := none, transmitter := .idle })) ∧
    (s.link.transmitter = .reply → s.link.buffer = d :: more → parseRequest d = none →
      exec (.transmitEnd dt) s = .next ((s.elapse dt).setLink { s.link with
        slot := some (.refused d.kind .format .nothing)
        buffer := more })))

/-- R161, R162, R164, R165: every command keeps the laws of the link: at most 24 reports and 2 records wait; a record waits
only behind a reply; an IDLE transmitter has nothing to send; and one that sends a reply has it in the slot. -/
def Obligations.LinkLawsAreKept : Prop :=
  ∀ (c : Instr) (s t : State),
    (s.link.queue.length ≤ 24 ∧ s.link.buffer.length ≤ 2 ∧ (s.link.slot = none → s.link.buffer = []) ∧
      (s.link.transmitter = .idle → s.link.slot = none ∧ s.link.queue = []) ∧
      (s.link.transmitter = .reply → s.link.slot ≠ none)) → exec c s = .next t →
    t.link.queue.length ≤ 24 ∧ t.link.buffer.length ≤ 2 ∧ (t.link.slot = none → t.link.buffer = []) ∧
      (t.link.transmitter = .idle → t.link.slot = none ∧ t.link.queue = []) ∧
      (t.link.transmitter = .reply → t.link.slot ≠ none)

/-- R166, R167: STATUS and READ LOG change nothing. STATUS of a house fits a record; a READ LOG of 0 is refused with RANGE,
and another answers with the oldest and the newest number and up to four records from the one named. -/
def Obligations.StatusAndReadLogOnlyShow : Prop :=
  ∀ (s : State) (dt : Nat) (b first : Byte) (h : HouseId) (p : Proj) (w : BitVec 16), s.linkReady →
    (b.toNat = h.val + 1 → exec (.status dt .house b first) s =
      .next ((s.elapse dt).replied (.status (s.houseStatus h first.toNat)))) ∧
    (s.houseStatus h first.toNat).length ≤ 250 ∧
    (b.toNat = p.val + 1 →
      exec (.status dt .projector b first) s = .next ((s.elapse dt).replied (.status (s.projectorStatus p))) ∧
      exec (.status dt .lamp b first) s = .next ((s.elapse dt).replied (.status (s.lp p).bytes))) ∧
    exec (.status dt .ports b first) s = .next ((s.elapse dt).replied (.status s.portsStatus)) ∧
    (w.toNat = 0 → exec (.readLog dt w) s = .next ((s.elapse dt).replied (.refused 41 .range .nothing))) ∧
    (w.toNat ≠ 0 → exec (.readLog dt w) s = .next ((s.elapse dt).replied (.log
      (match s.booth.log.head? with | none => 0 | some d => d.seq)
      (match s.booth.log.getLast? with | none => 0 | some d => d.seq)
      ((s.booth.log.dropWhile (fun d => d.seq ≠ w.toNat)).take 4))))

/-- R168: SET CLOCK above 86399 is refused with RANGE; another makes the time of day valid with its value, and the next
advance falls one second later. An advance falls at its instant and not before (log entry 13), from 86399 to 0; while the
time of day is invalid there is none. -/
def Obligations.ClockCountsTheSeconds : Prop :=
  ∀ (s : State) (dt : Nat) (w : BitVec 24) (n : Nat) (u : Instant),
    (s.linkReady → 86399 < w.toNat →
      exec (.setClock dt w) s = .next ((s.elapse dt).replied (.refused 42 .range .nothing))) ∧
    (s.linkReady → w.toNat ≤ 86399 → exec (.setClock dt w) s = .next ((s.elapse dt).setLink { s.link.replied
      (.done 42 .nothing) with clock := some w.toNat, nextSecond := some (s.now + dt + 10000) })) ∧
    (s.link.clock = some n → s.link.nextSecond = some u → u ≤ s.now + dt →
      exec (.clockAdvance dt) s = .next ((s.elapse dt).setLink { s.link with
        clock := some (if n = 86399 then 0 else n + 1)
        nextSecond := some (u + 10000) })) ∧
    (s.link.nextSecond = some u → s.now + dt < u → exec (.clockAdvance dt) s = .next (s.elapse dt)) ∧
    (s.link.nextSecond = none → exec (.clockAdvance dt) s = .next (s.elapse dt))

/-- R169, R19, R35, R48, R72, R83, R102, R138, R158: RESTART is refused with ACTIVE while a show or a motor runs, and nothing
else changes. Otherwise every block takes its restart values: what each keeps is kept, the readers of ARMED projectors hunt
or watch by their counters, the lamps are OFF, the dousers take their state from their switches (which the command brings:
log entry 6) with their learned and last times, a SAFETY layer stays active only where a safety cause is, and RESTARTED is
the only report queued. -/
def Obligations.RestartTakesTheRestartValues : Prop :=
  ∀ (s : State) (dt : Nat) (sw : Bank SwitchPair 8), s.linkReady →
    (((∃ h, (s.hs h).state.inShow = true) ∨
        (∃ p, (s.tr p).state = .starting ∨ (s.tr p).state = .running ∨ (s.tr p).state = .stopping)) →
      exec (.restart dt sw) s = .next ((s.elapse dt).replied (.refused 43 .active .nothing))) ∧
    ((∀ h, (s.hs h).state.inShow = false) → (∀ p, (s.tr p).state = .stopped ∨ (s.tr p).state = .broken) →
      ∃ t, exec (.restart dt sw) s = .next t ∧
        (∀ p, t.tr p = { Transport.powerOn with
          counter := (s.tr p).counter
          armed := (s.tr p).armed
          runUp := (s.tr p).runUp }) ∧
        (∀ p, t.rd p = { s.rd p with
          queue := []
          held := []
          group := none
          state := if (s.tr p).armed = none then .off else if (s.tr p).counter < s.leaderOf p then .hunt else .watch }) ∧
        (∀ p, t.lp p = { Lamp.powerOn with
          current := (s.lp p).current
          voltage := (s.lp p).voltage
          autostrike := (s.lp p).autostrike
          account := (s.lp p).account
          rate := (s.lp p).rate
          carbonLow := (s.lp p).carbonLow
          amps := (s.lp p).amps
          lastSend := (s.lp p).lastSend
          sufficiency := t.sufficiencyOf p
          stop := if (s.lp p).state = .off then (s.lp p).stop else some .restart }) ∧
        (∀ p, t.ds p = { s.ds p with
          state := if (sw.cell p).closedEnd then .closed else .closing
          drive := .closes
          trial := none
          travel := if (sw.cell p).closedEnd then none
            else some ⟨.closes, s.now + dt, (sw.cell p).openEnd, 2 * (s.ds p).closeTime + 100⟩
          switches := some ⟨sw.cell p, s.now + dt⟩ }) ∧
        (∀ h, t.hs h = { House.powerOn with
          state := (s.hs h).state
          holdReason := (s.hs h).holdReason
          plan := (s.hs h).plan
          liveSide := (s.hs h).liveSide
          levels := (s.hs h).levels
          speed := (s.hs h).speed }) ∧
        (∀ h, ((t.lt h).safetyActive = true ↔ (s.lt h).safetyActive = true ∧ (s.booth.fusible = true ∨
            s.booth.emergency = true ∨ s.booth.critical = true ∨ ∃ p, houseOf p = h ∧ s.booth.filmFire.cell p = true)) ∧
          (t.lt h).safetyTarget = (s.lt h).safetyTarget ∧ (t.lt h).manualTarget = (s.lt h).manualTarget ∧
          (t.lt h).level = (s.lt h).level ∧ (t.lt h).drive = (s.lt h).drive ∧ (t.lt h).manualActive = false ∧
          (t.lt h).pending = none ∧ (t.lt h).programTarget = (s.lt h).programTarget ∧
          (t.lt h).fade = (if (t.lt h).effective = (s.lt h).level then none
            else some ⟨(s.lt h).level, (t.lt h).effective, 60, 0, s.now + dt⟩)) ∧
        t.ports = s.ports ∧ t.booth = s.booth ∧
        t.link = { s.link.replied (.done 43 .nothing) with
          queue := [⟨0, s.link.clock, .restarted .restart⟩]
          lost := none })
end

