-- ==== Sys2Proof/Laws/State.lean ====
section
/-! SUPPORT. The small lemmas of the state: one per field per update, and one per record read per update. -/

namespace Sys2Proof

/-- Reading a bank after a write to it. -/
@[simp] theorem Bank.cell_put {α : Type} {n : Nat} (b : Bank α n) (i j : Fin n) (x : α) :
    (b.put i x).cell j = if j = i then x else b.cell j := by
  unfold Bank.cell Bank.put
  by_cases h : j = i
  · subst h; simp [Vector.get]; erw [Array.getElem_set_self]
  · have h' : i.val ≠ j.val := fun e => h (Fin.ext e.symm)
    simp only [Vector.get, Vector.toArray_set, h, if_false]
    erw [Array.getElem_set_ne _ _ h']
    · rfl

/-- Writing back what a bank holds. -/
@[simp] theorem Bank.put_cell {α : Type} {n : Nat} (b : Bank α n) (i : Fin n) : b.put i (b.cell i) = b := by
  unfold Bank.cell Bank.put
  apply Vector.ext
  intro k hk
  by_cases h : i.val = k
  · subst h; simp [Vector.get]
  · rw [Vector.getElem_set_ne _ _ h]

/-- The later of two writes at one place stands. -/
@[simp] theorem Bank.put_put {α : Type} {n : Nat} (b : Bank α n) (i : Fin n) (x y : α) :
    (b.put i x).put i y = b.put i y := by
  unfold Bank.put
  apply Vector.ext
  intro k hk
  by_cases h : i.val = k
  · subst h; simp
  · simp [Vector.getElem_set_ne _ _ h]

/-- Two writes at different places may be made in either order. -/
theorem Bank.put_comm {α : Type} {n : Nat} (b : Bank α n) (i j : Fin n) (x y : α) (h : i ≠ j) :
    (b.put i x).put j y = (b.put j y).put i x := by
  unfold Bank.put
  exact Vector.set_comm x y (fun e => h (Fin.ext e))

end Sys2Proof

namespace Sys2Proof.Machine

/-! ## State.setTr -/

@[simp] theorem State.setTr_link (s : State) (p : Proj) (x : Transport) : (s.setTr p x).link = s.link := rfl
@[simp] theorem State.setTr_readers (s : State) (p : Proj) (x : Transport) : (s.setTr p x).readers = s.readers := rfl
@[simp] theorem State.setTr_dousers (s : State) (p : Proj) (x : Transport) : (s.setTr p x).dousers = s.dousers := rfl
@[simp] theorem State.setTr_lamps (s : State) (p : Proj) (x : Transport) : (s.setTr p x).lamps = s.lamps := rfl
@[simp] theorem State.setTr_houses (s : State) (p : Proj) (x : Transport) : (s.setTr p x).houses = s.houses := rfl
@[simp] theorem State.setTr_lights (s : State) (p : Proj) (x : Transport) : (s.setTr p x).lights = s.lights := rfl
@[simp] theorem State.setTr_ports (s : State) (p : Proj) (x : Transport) : (s.setTr p x).ports = s.ports := rfl
@[simp] theorem State.setTr_booth (s : State) (p : Proj) (x : Transport) : (s.setTr p x).booth = s.booth := rfl
@[simp] theorem State.setTr_now (s : State) (p : Proj) (x : Transport) : (s.setTr p x).now = s.now := rfl
@[simp] theorem State.setTr_draws (s : State) (p : Proj) (x : Transport) : (s.setTr p x).draws = s.draws := rfl
@[simp] theorem State.setTr_pending (s : State) (p : Proj) (x : Transport) : (s.setTr p x).pending = s.pending := rfl
@[simp] theorem State.setTr_tr (s : State) (p : Proj) (x : Transport) (q : Proj) :
    (s.setTr p x).tr q = if q = p then x else s.tr q := Bank.cell_put _ _ _ _
@[simp] theorem State.setTr_rd (s : State) (p : Proj) (x : Transport) (q : Proj) : (s.setTr p x).rd q = s.rd q := rfl
@[simp] theorem State.setTr_ds (s : State) (p : Proj) (x : Transport) (q : Proj) : (s.setTr p x).ds q = s.ds q := rfl
@[simp] theorem State.setTr_lp (s : State) (p : Proj) (x : Transport) (q : Proj) : (s.setTr p x).lp q = s.lp q := rfl
@[simp] theorem State.setTr_hs (s : State) (p : Proj) (x : Transport) (q : HouseId) : (s.setTr p x).hs q = s.hs q := rfl
@[simp] theorem State.setTr_lt (s : State) (p : Proj) (x : Transport) (q : HouseId) : (s.setTr p x).lt q = s.lt q := rfl
@[simp] theorem State.setTr_pt (s : State) (p : Proj) (x : Transport) (q : PortId) : (s.setTr p x).pt q = s.pt q := rfl

/-! ## State.setRd -/

@[simp] theorem State.setRd_link (s : State) (p : Proj) (x : Reader) : (s.setRd p x).link = s.link := rfl
@[simp] theorem State.setRd_transports (s : State) (p : Proj) (x : Reader) : (s.setRd p x).transports = s.transports := rfl
@[simp] theorem State.setRd_dousers (s : State) (p : Proj) (x : Reader) : (s.setRd p x).dousers = s.dousers := rfl
@[simp] theorem State.setRd_lamps (s : State) (p : Proj) (x : Reader) : (s.setRd p x).lamps = s.lamps := rfl
@[simp] theorem State.setRd_houses (s : State) (p : Proj) (x : Reader) : (s.setRd p x).houses = s.houses := rfl
@[simp] theorem State.setRd_lights (s : State) (p : Proj) (x : Reader) : (s.setRd p x).lights = s.lights := rfl
@[simp] theorem State.setRd_ports (s : State) (p : Proj) (x : Reader) : (s.setRd p x).ports = s.ports := rfl
@[simp] theorem State.setRd_booth (s : State) (p : Proj) (x : Reader) : (s.setRd p x).booth = s.booth := rfl
@[simp] theorem State.setRd_now (s : State) (p : Proj) (x : Reader) : (s.setRd p x).now = s.now := rfl
@[simp] theorem State.setRd_draws (s : State) (p : Proj) (x : Reader) : (s.setRd p x).draws = s.draws := rfl
@[simp] theorem State.setRd_pending (s : State) (p : Proj) (x : Reader) : (s.setRd p x).pending = s.pending := rfl
@[simp] theorem State.setRd_tr (s : State) (p : Proj) (x : Reader) (q : Proj) : (s.setRd p x).tr q = s.tr q := rfl
@[simp] theorem State.setRd_rd (s : State) (p : Proj) (x : Reader) (q : Proj) :
    (s.setRd p x).rd q = if q = p then x else s.rd q := Bank.cell_put _ _ _ _
@[simp] theorem State.setRd_ds (s : State) (p : Proj) (x : Reader) (q : Proj) : (s.setRd p x).ds q = s.ds q := rfl
@[simp] theorem State.setRd_lp (s : State) (p : Proj) (x : Reader) (q : Proj) : (s.setRd p x).lp q = s.lp q := rfl
@[simp] theorem State.setRd_hs (s : State) (p : Proj) (x : Reader) (q : HouseId) : (s.setRd p x).hs q = s.hs q := rfl
@[simp] theorem State.setRd_lt (s : State) (p : Proj) (x : Reader) (q : HouseId) : (s.setRd p x).lt q = s.lt q := rfl
@[simp] theorem State.setRd_pt (s : State) (p : Proj) (x : Reader) (q : PortId) : (s.setRd p x).pt q = s.pt q := rfl

/-! ## State.setDs -/

@[simp] theorem State.setDs_link (s : State) (p : Proj) (x : Douser) : (s.setDs p x).link = s.link := rfl
@[simp] theorem State.setDs_transports (s : State) (p : Proj) (x : Douser) : (s.setDs p x).transports = s.transports := rfl
@[simp] theorem State.setDs_readers (s : State) (p : Proj) (x : Douser) : (s.setDs p x).readers = s.readers := rfl
@[simp] theorem State.setDs_lamps (s : State) (p : Proj) (x : Douser) : (s.setDs p x).lamps = s.lamps := rfl
@[simp] theorem State.setDs_houses (s : State) (p : Proj) (x : Douser) : (s.setDs p x).houses = s.houses := rfl
@[simp] theorem State.setDs_lights (s : State) (p : Proj) (x : Douser) : (s.setDs p x).lights = s.lights := rfl
@[simp] theorem State.setDs_ports (s : State) (p : Proj) (x : Douser) : (s.setDs p x).ports = s.ports := rfl
@[simp] theorem State.setDs_booth (s : State) (p : Proj) (x : Douser) : (s.setDs p x).booth = s.booth := rfl
@[simp] theorem State.setDs_now (s : State) (p : Proj) (x : Douser) : (s.setDs p x).now = s.now := rfl
@[simp] theorem State.setDs_draws (s : State) (p : Proj) (x : Douser) : (s.setDs p x).draws = s.draws := rfl
@[simp] theorem State.setDs_pending (s : State) (p : Proj) (x : Douser) : (s.setDs p x).pending = s.pending := rfl
@[simp] theorem State.setDs_tr (s : State) (p : Proj) (x : Douser) (q : Proj) : (s.setDs p x).tr q = s.tr q := rfl
@[simp] theorem State.setDs_rd (s : State) (p : Proj) (x : Douser) (q : Proj) : (s.setDs p x).rd q = s.rd q := rfl
@[simp] theorem State.setDs_ds (s : State) (p : Proj) (x : Douser) (q : Proj) :
    (s.setDs p x).ds q = if q = p then x else s.ds q := Bank.cell_put _ _ _ _
@[simp] theorem State.setDs_lp (s : State) (p : Proj) (x : Douser) (q : Proj) : (s.setDs p x).lp q = s.lp q := rfl
@[simp] theorem State.setDs_hs (s : State) (p : Proj) (x : Douser) (q : HouseId) : (s.setDs p x).hs q = s.hs q := rfl
@[simp] theorem State.setDs_lt (s : State) (p : Proj) (x : Douser) (q : HouseId) : (s.setDs p x).lt q = s.lt q := rfl
@[simp] theorem State.setDs_pt (s : State) (p : Proj) (x : Douser) (q : PortId) : (s.setDs p x).pt q = s.pt q := rfl

/-! ## State.setLp -/

@[simp] theorem State.setLp_link (s : State) (p : Proj) (x : Lamp) : (s.setLp p x).link = s.link := rfl
@[simp] theorem State.setLp_transports (s : State) (p : Proj) (x : Lamp) : (s.setLp p x).transports = s.transports := rfl
@[simp] theorem State.setLp_readers (s : State) (p : Proj) (x : Lamp) : (s.setLp p x).readers = s.readers := rfl
@[simp] theorem State.setLp_dousers (s : State) (p : Proj) (x : Lamp) : (s.setLp p x).dousers = s.dousers := rfl
@[simp] theorem State.setLp_houses (s : State) (p : Proj) (x : Lamp) : (s.setLp p x).houses = s.houses := rfl
@[simp] theorem State.setLp_lights (s : State) (p : Proj) (x : Lamp) : (s.setLp p x).lights = s.lights := rfl
@[simp] theorem State.setLp_ports (s : State) (p : Proj) (x : Lamp) : (s.setLp p x).ports = s.ports := rfl
@[simp] theorem State.setLp_booth (s : State) (p : Proj) (x : Lamp) : (s.setLp p x).booth = s.booth := rfl
@[simp] theorem State.setLp_now (s : State) (p : Proj) (x : Lamp) : (s.setLp p x).now = s.now := rfl
@[simp] theorem State.setLp_draws (s : State) (p : Proj) (x : Lamp) : (s.setLp p x).draws = s.draws := rfl
@[simp] theorem State.setLp_pending (s : State) (p : Proj) (x : Lamp) : (s.setLp p x).pending = s.pending := rfl
@[simp] theorem State.setLp_tr (s : State) (p : Proj) (x : Lamp) (q : Proj) : (s.setLp p x).tr q = s.tr q := rfl
@[simp] theorem State.setLp_rd (s : State) (p : Proj) (x : Lamp) (q : Proj) : (s.setLp p x).rd q = s.rd q := rfl
@[simp] theorem State.setLp_ds (s : State) (p : Proj) (x : Lamp) (q : Proj) : (s.setLp p x).ds q = s.ds q := rfl
@[simp] theorem State.setLp_lp (s : State) (p : Proj) (x : Lamp) (q : Proj) :
    (s.setLp p x).lp q = if q = p then x else s.lp q := Bank.cell_put _ _ _ _
@[simp] theorem State.setLp_hs (s : State) (p : Proj) (x : Lamp) (q : HouseId) : (s.setLp p x).hs q = s.hs q := rfl
@[simp] theorem State.setLp_lt (s : State) (p : Proj) (x : Lamp) (q : HouseId) : (s.setLp p x).lt q = s.lt q := rfl
@[simp] theorem State.setLp_pt (s : State) (p : Proj) (x : Lamp) (q : PortId) : (s.setLp p x).pt q = s.pt q := rfl

/-! ## State.setHs -/

@[simp] theorem State.setHs_link (s : State) (h : HouseId) (x : House) : (s.setHs h x).link = s.link := rfl
@[simp] theorem State.setHs_transports (s : State) (h : HouseId) (x : House) : (s.setHs h x).transports = s.transports := rfl
@[simp] theorem State.setHs_readers (s : State) (h : HouseId) (x : House) : (s.setHs h x).readers = s.readers := rfl
@[simp] theorem State.setHs_dousers (s : State) (h : HouseId) (x : House) : (s.setHs h x).dousers = s.dousers := rfl
@[simp] theorem State.setHs_lamps (s : State) (h : HouseId) (x : House) : (s.setHs h x).lamps = s.lamps := rfl
@[simp] theorem State.setHs_lights (s : State) (h : HouseId) (x : House) : (s.setHs h x).lights = s.lights := rfl
@[simp] theorem State.setHs_ports (s : State) (h : HouseId) (x : House) : (s.setHs h x).ports = s.ports := rfl
@[simp] theorem State.setHs_booth (s : State) (h : HouseId) (x : House) : (s.setHs h x).booth = s.booth := rfl
@[simp] theorem State.setHs_now (s : State) (h : HouseId) (x : House) : (s.setHs h x).now = s.now := rfl
@[simp] theorem State.setHs_draws (s : State) (h : HouseId) (x : House) : (s.setHs h x).draws = s.draws := rfl
@[simp] theorem State.setHs_pending (s : State) (h : HouseId) (x : House) : (s.setHs h x).pending = s.pending := rfl
@[simp] theorem State.setHs_tr (s : State) (h : HouseId) (x : House) (q : Proj) : (s.setHs h x).tr q = s.tr q := rfl
@[simp] theorem State.setHs_rd (s : State) (h : HouseId) (x : House) (q : Proj) : (s.setHs h x).rd q = s.rd q := rfl
@[simp] theorem State.setHs_ds (s : State) (h : HouseId) (x : House) (q : Proj) : (s.setHs h x).ds q = s.ds q := rfl
@[simp] theorem State.setHs_lp (s : State) (h : HouseId) (x : House) (q : Proj) : (s.setHs h x).lp q = s.lp q := rfl
@[simp] theorem State.setHs_hs (s : State) (h : HouseId) (x : House) (q : HouseId) :
    (s.setHs h x).hs q = if q = h then x else s.hs q := Bank.cell_put _ _ _ _
@[simp] theorem State.setHs_lt (s : State) (h : HouseId) (x : House) (q : HouseId) : (s.setHs h x).lt q = s.lt q := rfl
@[simp] theorem State.setHs_pt (s : State) (h : HouseId) (x : House) (q : PortId) : (s.setHs h x).pt q = s.pt q := rfl

/-! ## State.setLt -/

@[simp] theorem State.setLt_link (s : State) (h : HouseId) (x : Light) : (s.setLt h x).link = s.link := rfl
@[simp] theorem State.setLt_transports (s : State) (h : HouseId) (x : Light) : (s.setLt h x).transports = s.transports := rfl
@[simp] theorem State.setLt_readers (s : State) (h : HouseId) (x : Light) : (s.setLt h x).readers = s.readers := rfl
@[simp] theorem State.setLt_dousers (s : State) (h : HouseId) (x : Light) : (s.setLt h x).dousers = s.dousers := rfl
@[simp] theorem State.setLt_lamps (s : State) (h : HouseId) (x : Light) : (s.setLt h x).lamps = s.lamps := rfl
@[simp] theorem State.setLt_houses (s : State) (h : HouseId) (x : Light) : (s.setLt h x).houses = s.houses := rfl
@[simp] theorem State.setLt_ports (s : State) (h : HouseId) (x : Light) : (s.setLt h x).ports = s.ports := rfl
@[simp] theorem State.setLt_booth (s : State) (h : HouseId) (x : Light) : (s.setLt h x).booth = s.booth := rfl
@[simp] theorem State.setLt_now (s : State) (h : HouseId) (x : Light) : (s.setLt h x).now = s.now := rfl
@[simp] theorem State.setLt_draws (s : State) (h : HouseId) (x : Light) : (s.setLt h x).draws = s.draws := rfl
@[simp] theorem State.setLt_pending (s : State) (h : HouseId) (x : Light) : (s.setLt h x).pending = s.pending := rfl
@[simp] theorem State.setLt_tr (s : State) (h : HouseId) (x : Light) (q : Proj) : (s.setLt h x).tr q = s.tr q := rfl
@[simp] theorem State.setLt_rd (s : State) (h : HouseId) (x : Light) (q : Proj) : (s.setLt h x).rd q = s.rd q := rfl
@[simp] theorem State.setLt_ds (s : State) (h : HouseId) (x : Light) (q : Proj) : (s.setLt h x).ds q = s.ds q := rfl
@[simp] theorem State.setLt_lp (s : State) (h : HouseId) (x : Light) (q : Proj) : (s.setLt h x).lp q = s.lp q := rfl
@[simp] theorem State.setLt_hs (s : State) (h : HouseId) (x : Light) (q : HouseId) : (s.setLt h x).hs q = s.hs q := rfl
@[simp] theorem State.setLt_lt (s : State) (h : HouseId) (x : Light) (q : HouseId) :
    (s.setLt h x).lt q = if q = h then x else s.lt q := Bank.cell_put _ _ _ _
@[simp] theorem State.setLt_pt (s : State) (h : HouseId) (x : Light) (q : PortId) : (s.setLt h x).pt q = s.pt q := rfl

/-! ## State.setPt -/

@[simp] theorem State.setPt_link (s : State) (n : PortId) (x : Port) : (s.setPt n x).link = s.link := rfl
@[simp] theorem State.setPt_transports (s : State) (n : PortId) (x : Port) : (s.setPt n x).transports = s.transports := rfl
@[simp] theorem State.setPt_readers (s : State) (n : PortId) (x : Port) : (s.setPt n x).readers = s.readers := rfl
@[simp] theorem State.setPt_dousers (s : State) (n : PortId) (x : Port) : (s.setPt n x).dousers = s.dousers := rfl
@[simp] theorem State.setPt_lamps (s : State) (n : PortId) (x : Port) : (s.setPt n x).lamps = s.lamps := rfl
@[simp] theorem State.setPt_houses (s : State) (n : PortId) (x : Port) : (s.setPt n x).houses = s.houses := rfl
@[simp] theorem State.setPt_lights (s : State) (n : PortId) (x : Port) : (s.setPt n x).lights = s.lights := rfl
@[simp] theorem State.setPt_booth (s : State) (n : PortId) (x : Port) : (s.setPt n x).booth = s.booth := rfl
@[simp] theorem State.setPt_now (s : State) (n : PortId) (x : Port) : (s.setPt n x).now = s.now := rfl
@[simp] theorem State.setPt_draws (s : State) (n : PortId) (x : Port) : (s.setPt n x).draws = s.draws := rfl
@[simp] theorem State.setPt_pending (s : State) (n : PortId) (x : Port) : (s.setPt n x).pending = s.pending := rfl
@[simp] theorem State.setPt_tr (s : State) (n : PortId) (x : Port) (q : Proj) : (s.setPt n x).tr q = s.tr q := rfl
@[simp] theorem State.setPt_rd (s : State) (n : PortId) (x : Port) (q : Proj) : (s.setPt n x).rd q = s.rd q := rfl
@[simp] theorem State.setPt_ds (s : State) (n : PortId) (x : Port) (q : Proj) : (s.setPt n x).ds q = s.ds q := rfl
@[simp] theorem State.setPt_lp (s : State) (n : PortId) (x : Port) (q : Proj) : (s.setPt n x).lp q = s.lp q := rfl
@[simp] theorem State.setPt_hs (s : State) (n : PortId) (x : Port) (q : HouseId) : (s.setPt n x).hs q = s.hs q := rfl
@[simp] theorem State.setPt_lt (s : State) (n : PortId) (x : Port) (q : HouseId) : (s.setPt n x).lt q = s.lt q := rfl
@[simp] theorem State.setPt_pt (s : State) (n : PortId) (x : Port) (q : PortId) :
    (s.setPt n x).pt q = if q = n then x else s.pt q := Bank.cell_put _ _ _ _

/-! ## State.setLink -/

@[simp] theorem State.setLink_transports (s : State) (x : Link) : (s.setLink x).transports = s.transports := rfl
@[simp] theorem State.setLink_readers (s : State) (x : Link) : (s.setLink x).readers = s.readers := rfl
@[simp] theorem State.setLink_dousers (s : State) (x : Link) : (s.setLink x).dousers = s.dousers := rfl
@[simp] theorem State.setLink_lamps (s : State) (x : Link) : (s.setLink x).lamps = s.lamps := rfl
@[simp] theorem State.setLink_houses (s : State) (x : Link) : (s.setLink x).houses = s.houses := rfl
@[simp] theorem State.setLink_lights (s : State) (x : Link) : (s.setLink x).lights = s.lights := rfl
@[simp] theorem State.setLink_ports (s : State) (x : Link) : (s.setLink x).ports = s.ports := rfl
@[simp] theorem State.setLink_booth (s : State) (x : Link) : (s.setLink x).booth = s.booth := rfl
@[simp] theorem State.setLink_now (s : State) (x : Link) : (s.setLink x).now = s.now := rfl
@[simp] theorem State.setLink_draws (s : State) (x : Link) : (s.setLink x).draws = s.draws := rfl
@[simp] theorem State.setLink_pending (s : State) (x : Link) : (s.setLink x).pending = s.pending := rfl
@[simp] theorem State.setLink_link (s : State) (x : Link) : (s.setLink x).link = x := rfl
@[simp] theorem State.setLink_tr (s : State) (x : Link) (q : Proj) : (s.setLink x).tr q = s.tr q := rfl
@[simp] theorem State.setLink_rd (s : State) (x : Link) (q : Proj) : (s.setLink x).rd q = s.rd q := rfl
@[simp] theorem State.setLink_ds (s : State) (x : Link) (q : Proj) : (s.setLink x).ds q = s.ds q := rfl
@[simp] theorem State.setLink_lp (s : State) (x : Link) (q : Proj) : (s.setLink x).lp q = s.lp q := rfl
@[simp] theorem State.setLink_hs (s : State) (x : Link) (q : HouseId) : (s.setLink x).hs q = s.hs q := rfl
@[simp] theorem State.setLink_lt (s : State) (x : Link) (q : HouseId) : (s.setLink x).lt q = s.lt q := rfl
@[simp] theorem State.setLink_pt (s : State) (x : Link) (q : PortId) : (s.setLink x).pt q = s.pt q := rfl

/-! ## State.setBooth -/

@[simp] theorem State.setBooth_link (s : State) (x : Booth) : (s.setBooth x).link = s.link := rfl
@[simp] theorem State.setBooth_transports (s : State) (x : Booth) : (s.setBooth x).transports = s.transports := rfl
@[simp] theorem State.setBooth_readers (s : State) (x : Booth) : (s.setBooth x).readers = s.readers := rfl
@[simp] theorem State.setBooth_dousers (s : State) (x : Booth) : (s.setBooth x).dousers = s.dousers := rfl
@[simp] theorem State.setBooth_lamps (s : State) (x : Booth) : (s.setBooth x).lamps = s.lamps := rfl
@[simp] theorem State.setBooth_houses (s : State) (x : Booth) : (s.setBooth x).houses = s.houses := rfl
@[simp] theorem State.setBooth_lights (s : State) (x : Booth) : (s.setBooth x).lights = s.lights := rfl
@[simp] theorem State.setBooth_ports (s : State) (x : Booth) : (s.setBooth x).ports = s.ports := rfl
@[simp] theorem State.setBooth_now (s : State) (x : Booth) : (s.setBooth x).now = s.now := rfl
@[simp] theorem State.setBooth_draws (s : State) (x : Booth) : (s.setBooth x).draws = s.draws := rfl
@[simp] theorem State.setBooth_pending (s : State) (x : Booth) : (s.setBooth x).pending = s.pending := rfl
@[simp] theorem State.setBooth_booth (s : State) (x : Booth) : (s.setBooth x).booth = x := rfl
@[simp] theorem State.setBooth_tr (s : State) (x : Booth) (q : Proj) : (s.setBooth x).tr q = s.tr q := rfl
@[simp] theorem State.setBooth_rd (s : State) (x : Booth) (q : Proj) : (s.setBooth x).rd q = s.rd q := rfl
@[simp] theorem State.setBooth_ds (s : State) (x : Booth) (q : Proj) : (s.setBooth x).ds q = s.ds q := rfl
@[simp] theorem State.setBooth_lp (s : State) (x : Booth) (q : Proj) : (s.setBooth x).lp q = s.lp q := rfl
@[simp] theorem State.setBooth_hs (s : State) (x : Booth) (q : HouseId) : (s.setBooth x).hs q = s.hs q := rfl
@[simp] theorem State.setBooth_lt (s : State) (x : Booth) (q : HouseId) : (s.setBooth x).lt q = s.lt q := rfl
@[simp] theorem State.setBooth_pt (s : State) (x : Booth) (q : PortId) : (s.setBooth x).pt q = s.pt q := rfl

/-! ## State.setDraws -/

@[simp] theorem State.setDraws_link (s : State) (n : Nat) : (s.setDraws n).link = s.link := rfl
@[simp] theorem State.setDraws_transports (s : State) (n : Nat) : (s.setDraws n).transports = s.transports := rfl
@[simp] theorem State.setDraws_readers (s : State) (n : Nat) : (s.setDraws n).readers = s.readers := rfl
@[simp] theorem State.setDraws_dousers (s : State) (n : Nat) : (s.setDraws n).dousers = s.dousers := rfl
@[simp] theorem State.setDraws_lamps (s : State) (n : Nat) : (s.setDraws n).lamps = s.lamps := rfl
@[simp] theorem State.setDraws_houses (s : State) (n : Nat) : (s.setDraws n).houses = s.houses := rfl
@[simp] theorem State.setDraws_lights (s : State) (n : Nat) : (s.setDraws n).lights = s.lights := rfl
@[simp] theorem State.setDraws_ports (s : State) (n : Nat) : (s.setDraws n).ports = s.ports := rfl
@[simp] theorem State.setDraws_booth (s : State) (n : Nat) : (s.setDraws n).booth = s.booth := rfl
@[simp] theorem State.setDraws_now (s : State) (n : Nat) : (s.setDraws n).now = s.now := rfl
@[simp] theorem State.setDraws_pending (s : State) (n : Nat) : (s.setDraws n).pending = s.pending := rfl
@[simp] theorem State.setDraws_draws (s : State) (n : Nat) : (s.setDraws n).draws = n := rfl
@[simp] theorem State.setDraws_tr (s : State) (n : Nat) (q : Proj) : (s.setDraws n).tr q = s.tr q := rfl
@[simp] theorem State.setDraws_rd (s : State) (n : Nat) (q : Proj) : (s.setDraws n).rd q = s.rd q := rfl
@[simp] theorem State.setDraws_ds (s : State) (n : Nat) (q : Proj) : (s.setDraws n).ds q = s.ds q := rfl
@[simp] theorem State.setDraws_lp (s : State) (n : Nat) (q : Proj) : (s.setDraws n).lp q = s.lp q := rfl
@[simp] theorem State.setDraws_hs (s : State) (n : Nat) (q : HouseId) : (s.setDraws n).hs q = s.hs q := rfl
@[simp] theorem State.setDraws_lt (s : State) (n : Nat) (q : HouseId) : (s.setDraws n).lt q = s.lt q := rfl
@[simp] theorem State.setDraws_pt (s : State) (n : Nat) (q : PortId) : (s.setDraws n).pt q = s.pt q := rfl

/-! ## State.elapse -/

@[simp] theorem State.elapse_link (s : State) (dt : Nat) : (s.elapse dt).link = s.link := rfl
@[simp] theorem State.elapse_transports (s : State) (dt : Nat) : (s.elapse dt).transports = s.transports := rfl
@[simp] theorem State.elapse_readers (s : State) (dt : Nat) : (s.elapse dt).readers = s.readers := rfl
@[simp] theorem State.elapse_dousers (s : State) (dt : Nat) : (s.elapse dt).dousers = s.dousers := rfl
@[simp] theorem State.elapse_lamps (s : State) (dt : Nat) : (s.elapse dt).lamps = s.lamps := rfl
@[simp] theorem State.elapse_houses (s : State) (dt : Nat) : (s.elapse dt).houses = s.houses := rfl
@[simp] theorem State.elapse_lights (s : State) (dt : Nat) : (s.elapse dt).lights = s.lights := rfl
@[simp] theorem State.elapse_ports (s : State) (dt : Nat) : (s.elapse dt).ports = s.ports := rfl
@[simp] theorem State.elapse_booth (s : State) (dt : Nat) : (s.elapse dt).booth = s.booth := rfl
@[simp] theorem State.elapse_draws (s : State) (dt : Nat) : (s.elapse dt).draws = s.draws := rfl
@[simp] theorem State.elapse_pending (s : State) (dt : Nat) : (s.elapse dt).pending = s.pending := rfl
@[simp] theorem State.elapse_now (s : State) (dt : Nat) : (s.elapse dt).now = s.now + dt := rfl
@[simp] theorem State.elapse_tr (s : State) (dt : Nat) (q : Proj) : (s.elapse dt).tr q = s.tr q := rfl
@[simp] theorem State.elapse_rd (s : State) (dt : Nat) (q : Proj) : (s.elapse dt).rd q = s.rd q := rfl
@[simp] theorem State.elapse_ds (s : State) (dt : Nat) (q : Proj) : (s.elapse dt).ds q = s.ds q := rfl
@[simp] theorem State.elapse_lp (s : State) (dt : Nat) (q : Proj) : (s.elapse dt).lp q = s.lp q := rfl
@[simp] theorem State.elapse_hs (s : State) (dt : Nat) (q : HouseId) : (s.elapse dt).hs q = s.hs q := rfl
@[simp] theorem State.elapse_lt (s : State) (dt : Nat) (q : HouseId) : (s.elapse dt).lt q = s.lt q := rfl
@[simp] theorem State.elapse_pt (s : State) (dt : Nat) (q : PortId) : (s.elapse dt).pt q = s.pt q := rfl

/-! ## Writing back, and writing twice -/

@[simp] theorem State.setTr_self (s : State) (p : Proj) : s.setTr p (s.tr p) = s := by
  simp [State.setTr, State.tr]
@[simp] theorem State.setTr_setTr (s : State) (p : Proj) (x y : Transport) : (s.setTr p x).setTr p y = s.setTr p y := by
  simp [State.setTr]
@[simp] theorem State.setRd_self (s : State) (p : Proj) : s.setRd p (s.rd p) = s := by
  simp [State.setRd, State.rd]
@[simp] theorem State.setRd_setRd (s : State) (p : Proj) (x y : Reader) : (s.setRd p x).setRd p y = s.setRd p y := by
  simp [State.setRd]
@[simp] theorem State.setDs_self (s : State) (p : Proj) : s.setDs p (s.ds p) = s := by
  simp [State.setDs, State.ds]
@[simp] theorem State.setDs_setDs (s : State) (p : Proj) (x y : Douser) : (s.setDs p x).setDs p y = s.setDs p y := by
  simp [State.setDs]
@[simp] theorem State.setLp_self (s : State) (p : Proj) : s.setLp p (s.lp p) = s := by
  simp [State.setLp, State.lp]
@[simp] theorem State.setLp_setLp (s : State) (p : Proj) (x y : Lamp) : (s.setLp p x).setLp p y = s.setLp p y := by
  simp [State.setLp]
@[simp] theorem State.setHs_self (s : State) (p : HouseId) : s.setHs p (s.hs p) = s := by
  simp [State.setHs, State.hs]
@[simp] theorem State.setHs_setHs (s : State) (p : HouseId) (x y : House) : (s.setHs p x).setHs p y = s.setHs p y := by
  simp [State.setHs]
@[simp] theorem State.setLt_self (s : State) (p : HouseId) : s.setLt p (s.lt p) = s := by
  simp [State.setLt, State.lt]
@[simp] theorem State.setLt_setLt (s : State) (p : HouseId) (x y : Light) : (s.setLt p x).setLt p y = s.setLt p y := by
  simp [State.setLt]
@[simp] theorem State.setPt_self (s : State) (p : PortId) : s.setPt p (s.pt p) = s := by
  simp [State.setPt, State.pt]
@[simp] theorem State.setPt_setPt (s : State) (p : PortId) (x y : Port) : (s.setPt p x).setPt p y = s.setPt p y := by
  simp [State.setPt]
@[simp] theorem State.setLink_self (s : State) : s.setLink s.link = s := rfl
@[simp] theorem State.setLink_setLink (s : State) (x y : Link) : (s.setLink x).setLink y = s.setLink y := rfl
@[simp] theorem State.setBooth_self (s : State) : s.setBooth s.booth = s := rfl
@[simp] theorem State.setBooth_setBooth (s : State) (x y : Booth) : (s.setBooth x).setBooth y = s.setBooth y := rfl

end Sys2Proof.Machine
end

