-- ==== Sys2Proof/Laws/Ops.lean ====
section
/-! SUPPORT. For each shared operation, once, what it leaves as it was; and how a rule ends when nothing is left for the
blocks to see. -/

namespace Sys2Proof.Machine

/-! ## Reports -/

/-- R164: a joining report touches neither the receiver, the buffer, the slot nor the clock. -/
theorem Link.enqueue_keeps (l : Link) (n : Nat) (b : ReportBody) :
    (l.enqueue n b).receive = l.receive ∧ (l.enqueue n b).buffer = l.buffer ∧ (l.enqueue n b).slot = l.slot ∧
      (l.enqueue n b).clock = l.clock ∧ (l.enqueue n b).nextSecond = l.nextSecond := by
  unfold Link.enqueue
  split
  · dsimp only
    split
    · unfold Link.sendHead
      dsimp only
      split
      · simp
      · split <;> simp
    · simp
  · simp

/-- A report changes the link alone. -/
theorem State.report_eq (s : State) (n : Nat) (b : ReportBody) : s.report n b = s.setLink (s.link.enqueue n b) := rfl

/-- R39: what a close command can do: it changes the one douser, or nothing. -/
theorem State.closeCommand_cases (s : State) (p : Proj) : ∃ x, s.closeCommand p = s ∨ s.closeCommand p = s.setDs p x := by
  unfold State.closeCommand
  dsimp only
  split
  · exact ⟨_, .inr rfl⟩
  · exact ⟨_, .inr rfl⟩
  · exact ⟨s.ds p, .inl rfl⟩
  · exact ⟨s.ds p, .inl rfl⟩
  · exact ⟨_, .inr rfl⟩

/-- R39: a close command changes dousers alone. -/
theorem State.closeCommand_keeps (s : State) (p : Proj) :
    (s.closeCommand p).link = s.link ∧
      (s.closeCommand p).transports = s.transports ∧
      (s.closeCommand p).readers = s.readers ∧
      (s.closeCommand p).lamps = s.lamps ∧
      (s.closeCommand p).houses = s.houses ∧
      (s.closeCommand p).lights = s.lights ∧
      (s.closeCommand p).ports = s.ports ∧
      (s.closeCommand p).booth = s.booth ∧
      (s.closeCommand p).now = s.now ∧
      (s.closeCommand p).draws = s.draws ∧
      (s.closeCommand p).pending = s.pending := by
  obtain ⟨x, h | h⟩ := s.closeCommand_cases p <;> rw [h] <;> simp

/-- R37: an open command changes dousers alone. -/
theorem State.openCommand_keeps (s : State) (p : Proj) :
    (s.openCommand p).link = s.link ∧
      (s.openCommand p).transports = s.transports ∧
      (s.openCommand p).readers = s.readers ∧
      (s.openCommand p).lamps = s.lamps ∧
      (s.openCommand p).houses = s.houses ∧
      (s.openCommand p).lights = s.lights ∧
      (s.openCommand p).ports = s.ports ∧
      (s.openCommand p).booth = s.booth ∧
      (s.openCommand p).now = s.now ∧
      (s.openCommand p).draws = s.draws ∧
      (s.openCommand p).pending = s.pending := by
  unfold State.openCommand
  dsimp only
  split <;> simp

/-- R38: the gating watch changes dousers alone. -/
theorem State.gatingWatch_keeps (s : State) (p : Proj) :
    (s.gatingWatch p).link = s.link ∧
      (s.gatingWatch p).transports = s.transports ∧
      (s.gatingWatch p).readers = s.readers ∧
      (s.gatingWatch p).lamps = s.lamps ∧
      (s.gatingWatch p).houses = s.houses ∧
      (s.gatingWatch p).lights = s.lights ∧
      (s.gatingWatch p).ports = s.ports ∧
      (s.gatingWatch p).booth = s.booth ∧
      (s.gatingWatch p).now = s.now ∧
      (s.gatingWatch p).draws = s.draws ∧
      (s.gatingWatch p).pending = s.pending := by
  unfold State.gatingWatch
  split
  · exact s.closeCommand_keeps p
  · simp

/-- R44: the interlock changes dousers alone. -/
theorem State.interlock_keeps (s : State) (p : Proj) :
    (s.interlock p).link = s.link ∧
      (s.interlock p).transports = s.transports ∧
      (s.interlock p).readers = s.readers ∧
      (s.interlock p).lamps = s.lamps ∧
      (s.interlock p).houses = s.houses ∧
      (s.interlock p).lights = s.lights ∧
      (s.interlock p).ports = s.ports ∧
      (s.interlock p).booth = s.booth ∧
      (s.interlock p).now = s.now ∧
      (s.interlock p).draws = s.draws ∧
      (s.interlock p).pending = s.pending := by
  unfold State.interlock
  split
  · exact s.closeCommand_keeps _
  · simp

/-- R164: a report changes the link alone. -/
theorem State.report_keeps (s : State) (n : Nat) (b : ReportBody) :
    (s.report n b).transports = s.transports ∧
      (s.report n b).readers = s.readers ∧
      (s.report n b).dousers = s.dousers ∧
      (s.report n b).lamps = s.lamps ∧
      (s.report n b).houses = s.houses ∧
      (s.report n b).lights = s.lights ∧
      (s.report n b).ports = s.ports ∧
      (s.report n b).booth = s.booth ∧
      (s.report n b).now = s.now ∧
      (s.report n b).draws = s.draws ∧
      (s.report n b).pending = s.pending := by
  simp [State.report]

/-- R47: the end of a trial changes dousers and the link alone. -/
theorem State.endTrial_keeps (s : State) (p : Proj) (o : TrialOutcome) :
    (s.endTrial p o).transports = s.transports ∧
      (s.endTrial p o).readers = s.readers ∧
      (s.endTrial p o).lamps = s.lamps ∧
      (s.endTrial p o).houses = s.houses ∧
      (s.endTrial p o).lights = s.lights ∧
      (s.endTrial p o).ports = s.ports ∧
      (s.endTrial p o).booth = s.booth ∧
      (s.endTrial p o).now = s.now ∧
      (s.endTrial p o).draws = s.draws ∧
      (s.endTrial p o).pending = s.pending := by
  unfold State.endTrial
  split
  · simp
  · dsimp only
    obtain ⟨-, h2, h3, h4, h5, h6, h7, h8, h9, h10, h11⟩ := State.gatingWatch_keeps
      ((s.setDs p { s.ds p with trial := none }).reportProj p (.trialDone o _ (s.ds p).openTime (s.ds p).closeTime)) p
    exact ⟨h2, h3, h4, h5, h6, h7, h8, h9, h10, h11⟩

/-- R47: at a sticking a trial in TRAVEL ends with outcome STUCK; with none, or one in PAUSE, nothing follows. -/
theorem State.trialSticks_cases (s : State) (p : Proj) :
    (∃ t, (s.ds p).trial = some t ∧ t.phase = .travel ∧ s.trialSticks p = s.endTrial p .stuck) ∨
      ((∀ t, (s.ds p).trial = some t → t.phase = .pause) ∧ s.trialSticks p = s) := by
  unfold State.trialSticks
  cases h : (s.ds p).trial with
  | none => exact .inr ⟨nofun, rfl⟩
  | some t => cases hp : t.phase <;> simp [hp]

/-- R60: an evaluation changes lamps alone. -/
theorem State.evalBurst_keeps (s : State) (p : Proj) :
    (s.evalBurst p).link = s.link ∧
      (s.evalBurst p).transports = s.transports ∧
      (s.evalBurst p).readers = s.readers ∧
      (s.evalBurst p).dousers = s.dousers ∧
      (s.evalBurst p).houses = s.houses ∧
      (s.evalBurst p).lights = s.lights ∧
      (s.evalBurst p).ports = s.ports ∧
      (s.evalBurst p).booth = s.booth ∧
      (s.evalBurst p).now = s.now ∧
      (s.evalBurst p).draws = s.draws ∧
      (s.evalBurst p).pending = s.pending := by
  simp [State.evalBurst]

/-- R130: a program target changes light channels alone. -/
theorem State.programTarget_keeps (s : State) (h : HouseId) (t f : Nat) (o : Origin) :
    (s.programTarget h t f o).link = s.link ∧
      (s.programTarget h t f o).transports = s.transports ∧
      (s.programTarget h t f o).readers = s.readers ∧
      (s.programTarget h t f o).dousers = s.dousers ∧
      (s.programTarget h t f o).lamps = s.lamps ∧
      (s.programTarget h t f o).houses = s.houses ∧
      (s.programTarget h t f o).ports = s.ports ∧
      (s.programTarget h t f o).booth = s.booth ∧
      (s.programTarget h t f o).now = s.now ∧
      (s.programTarget h t f o).draws = s.draws ∧
      (s.programTarget h t f o).pending = s.pending := by
  simp [State.programTarget]

/-- R133: an activation changes light channels alone. -/
theorem State.activateSafety_keeps (s : State) (h : HouseId) :
    (s.activateSafety h).link = s.link ∧
      (s.activateSafety h).transports = s.transports ∧
      (s.activateSafety h).readers = s.readers ∧
      (s.activateSafety h).dousers = s.dousers ∧
      (s.activateSafety h).lamps = s.lamps ∧
      (s.activateSafety h).houses = s.houses ∧
      (s.activateSafety h).ports = s.ports ∧
      (s.activateSafety h).booth = s.booth ∧
      (s.activateSafety h).now = s.now ∧
      (s.activateSafety h).draws = s.draws ∧
      (s.activateSafety h).pending = s.pending := by
  simp [State.activateSafety]

/-- R84: a change of a plan entry changes houses alone. -/
theorem State.modReel_keeps (s : State) (h : HouseId) (n : Nat) (f : ReelEntry → ReelEntry) :
    (s.modReel h n f).link = s.link ∧
      (s.modReel h n f).transports = s.transports ∧
      (s.modReel h n f).readers = s.readers ∧
      (s.modReel h n f).dousers = s.dousers ∧
      (s.modReel h n f).lamps = s.lamps ∧
      (s.modReel h n f).lights = s.lights ∧
      (s.modReel h n f).ports = s.ports ∧
      (s.modReel h n f).booth = s.booth ∧
      (s.modReel h n f).now = s.now ∧
      (s.modReel h n f).draws = s.draws ∧
      (s.modReel h n f).pending = s.pending := by
  simp [State.modReel]

/-- R49: a selection changes houses alone. -/
theorem State.selectSide_keeps (s : State) (h : HouseId) (sd : Side) :
    (s.selectSide h sd).link = s.link ∧
      (s.selectSide h sd).transports = s.transports ∧
      (s.selectSide h sd).readers = s.readers ∧
      (s.selectSide h sd).dousers = s.dousers ∧
      (s.selectSide h sd).lamps = s.lamps ∧
      (s.selectSide h sd).lights = s.lights ∧
      (s.selectSide h sd).ports = s.ports ∧
      (s.selectSide h sd).booth = s.booth ∧
      (s.selectSide h sd).now = s.now ∧
      (s.selectSide h sd).draws = s.draws ∧
      (s.selectSide h sd).pending = s.pending := by
  unfold State.selectSide
  split <;> simp

/-- R50: the sound watch changes houses alone. -/
theorem State.soundWatch_keeps (s : State) (p : Proj) :
    (s.soundWatch p).link = s.link ∧
      (s.soundWatch p).transports = s.transports ∧
      (s.soundWatch p).readers = s.readers ∧
      (s.soundWatch p).dousers = s.dousers ∧
      (s.soundWatch p).lamps = s.lamps ∧
      (s.soundWatch p).lights = s.lights ∧
      (s.soundWatch p).ports = s.ports ∧
      (s.soundWatch p).booth = s.booth ∧
      (s.soundWatch p).now = s.now ∧
      (s.soundWatch p).draws = s.draws ∧
      (s.soundWatch p).pending = s.pending := by
  unfold State.soundWatch State.selectNone
  split <;> simp

/-- R146: an outcome changes the drop log alone. -/
theorem State.writeOutcome_keeps (s : State) (n : PortId) (o : DropOutcome) :
    (s.writeOutcome n o).link = s.link ∧
      (s.writeOutcome n o).transports = s.transports ∧
      (s.writeOutcome n o).readers = s.readers ∧
      (s.writeOutcome n o).dousers = s.dousers ∧
      (s.writeOutcome n o).lamps = s.lamps ∧
      (s.writeOutcome n o).houses = s.houses ∧
      (s.writeOutcome n o).lights = s.lights ∧
      (s.writeOutcome n o).ports = s.ports ∧
      (s.writeOutcome n o).now = s.now ∧
      (s.writeOutcome n o).draws = s.draws ∧
      (s.writeOutcome n o).pending = s.pending := by
  unfold State.writeOutcome
  (repeat' split) <;> simp

/-- R144: a drop record changes the log and the drop links alone. -/
theorem State.writeRecord_keeps (s : State) (c : DropCause) (p : Option Proj) (l : List PortId) :
    (s.writeRecord c p l).link = s.link ∧
      (s.writeRecord c p l).transports = s.transports ∧
      (s.writeRecord c p l).readers = s.readers ∧
      (s.writeRecord c p l).dousers = s.dousers ∧
      (s.writeRecord c p l).lamps = s.lamps ∧
      (s.writeRecord c p l).houses = s.houses ∧
      (s.writeRecord c p l).lights = s.lights ∧
      (s.writeRecord c p l).now = s.now ∧
      (s.writeRecord c p l).draws = s.draws ∧
      (s.writeRecord c p l).pending = s.pending := by
  unfold State.writeRecord State.trimLog
  dsimp only
  (repeat' split) <;> simp

/-- R30: a joining entry changes readers and the link alone. -/
theorem Rule.joinCue_keeps (r : Rule) (p : Proj) (e : CueEntry) :
    (r.joinCue p e).st.transports = r.st.transports ∧
      (r.joinCue p e).st.dousers = r.st.dousers ∧
      (r.joinCue p e).st.lamps = r.st.lamps ∧
      (r.joinCue p e).st.houses = r.st.houses ∧
      (r.joinCue p e).st.lights = r.st.lights ∧
      (r.joinCue p e).st.ports = r.st.ports ∧
      (r.joinCue p e).st.booth = r.st.booth ∧
      (r.joinCue p e).st.now = r.st.now ∧
      (r.joinCue p e).st.draws = r.st.draws ∧
      (r.joinCue p e).st.pending = r.st.pending := by
  unfold Rule.joinCue
  dsimp only
  split <;> simp [Rule.upd, Rule.emit, State.reportProj, State.report]

/-- R80: an evaluation of sufficiency changes lamps alone. -/
theorem Rule.evalSufficiency_keeps (r : Rule) (p : Proj) :
    (r.evalSufficiency p).st.link = r.st.link ∧
      (r.evalSufficiency p).st.transports = r.st.transports ∧
      (r.evalSufficiency p).st.readers = r.st.readers ∧
      (r.evalSufficiency p).st.dousers = r.st.dousers ∧
      (r.evalSufficiency p).st.houses = r.st.houses ∧
      (r.evalSufficiency p).st.lights = r.st.lights ∧
      (r.evalSufficiency p).st.ports = r.st.ports ∧
      (r.evalSufficiency p).st.booth = r.st.booth ∧
      (r.evalSufficiency p).st.now = r.st.now ∧
      (r.evalSufficiency p).st.draws = r.st.draws ∧
      (r.evalSufficiency p).st.pending = r.st.pending := by
  unfold Rule.evalSufficiency
  dsimp only
  split <;> simp [Rule.upd, Rule.emit]

/-! ## Feed pulses -/

/-- R55: what a send can do: it makes a pulse outstanding now, counts it in a burst, and changes nothing else; or it does
nothing. -/
theorem Lamp.trySend_cases (l : Lamp) (now : Instant) :
    l.trySend now = l ∨ ∃ dir, l.wanted = some dir ∧ l.outstanding = none ∧ l.spaced now = true ∧
      l.trySend now = { l.countSend with outstanding := some ⟨dir, now⟩, lastSend := some now } := by
  unfold Lamp.trySend
  split
  · exact .inl rfl
  · rename_i dir hd
    by_cases h : l.outstanding = none ∧ l.spaced now = true
    · exact .inr ⟨dir, hd, h.1, h.2, by simp [h]⟩
    · exact .inl (by simp [h])

/-- R55: a send leaves the account, the state and the phase of the lamp as they were. -/
theorem Lamp.trySend_keeps (l : Lamp) (now : Instant) :
    (l.trySend now).account = l.account ∧ (l.trySend now).state = l.state ∧ (l.trySend now).phase = l.phase ∧
      (l.trySend now).stalls = l.stalls ∧ (l.trySend now).samples = l.samples := by
  rcases l.trySend_cases now with h | ⟨dir, -, -, -, h⟩ <;> rw [h] <;> simp [Lamp.countSend]

/-! ## Discarded records and switch readings -/

/-- R66: when a lamp is in a restrike. -/
theorem Lamp.inRestrike_iff (l : Lamp) :
    l.inRestrike = true ↔ l.restrikeUsed = true ∧ (l.state = .striking ∨ l.state = .settling) := by
  simp [Lamp.inRestrike]

/-- R63, R66, R76: what a lamp's failure can do: it stops the lamp, and in a restrike STRIKE FAIL is queued behind that. -/
theorem Rule.lampFails_cases (r : Rule) (p : Proj) (reason : StopReason) :
    ((r.st.lp p).inRestrike = true ∧ r.lampFails p reason =
      (r.lampStops p reason).upd (fun s => s.reportProj p (.strikeFail reason 0 0))) ∨
    ((r.st.lp p).inRestrike = false ∧ r.lampFails p reason = r.lampStops p reason) := by
  unfold Rule.lampFails
  cases h : (r.st.lp p).inRestrike <;> simp

/-- R146: a judgement of a discarded record changes the link and the notes of the drop links alone. -/
theorem State.judgeDiscarded_keeps (s : State) (l : DropLink) :
    (s.judgeDiscarded l).transports = s.transports ∧
      (s.judgeDiscarded l).readers = s.readers ∧
      (s.judgeDiscarded l).dousers = s.dousers ∧
      (s.judgeDiscarded l).lamps = s.lamps ∧
      (s.judgeDiscarded l).houses = s.houses ∧
      (s.judgeDiscarded l).lights = s.lights ∧
      (s.judgeDiscarded l).booth = s.booth ∧
      (s.judgeDiscarded l).now = s.now ∧
      (s.judgeDiscarded l).draws = s.draws ∧
      (s.judgeDiscarded l).pending = s.pending := by
  unfold State.judgeDiscarded
  split <;> simp [State.reportBooth, State.report]

/-- R146: a discarded record that has been reported is not reported again. -/
theorem State.judgeDiscarded_reported (s : State) (l : DropLink) (h : l.reported = true) : s.judgeDiscarded l = s := by
  simp [State.judgeDiscarded, h]

/-- Log entry 6: what was told of the switches at another instant is no reading. -/
theorem Douser.reading_past (d : Douser) (x : ToldSwitches) (now : Instant) (hd : d.switches = some x)
    (hx : x.instant ≠ now) : d.reading now = none := by
  simp [Douser.reading, hd, hx]

/-- R169: a RESTART that is not accepted in its own rule reads no switches. -/
theorem State.readSwitches_refused (s : State) (sw : Bank SwitchPair 8) (h : s.takesRestart = false) :
    s.readSwitches sw = s := by
  simp [State.readSwitches, h]

/-! ## The end of a rule -/

/-- A rule with nothing on its agenda is settled. -/
@[simp] theorem Rule.settle_nil (n : Nat) (s : State) (t : Bool) : Rule.settle n ⟨s, [], t⟩ = ⟨s, [], t⟩ := by
  cases n <;> rfl

/-- One change of the agenda is seen at a time. -/
theorem Rule.settle_cons (n : Nat) (s : State) (x : Signal) (l : List Signal) (t : Bool) :
    Rule.settle (n + 1) ⟨s, x :: l, t⟩ = (Rule.sees ⟨s, l, t⟩ x).settle n := rfl

/-- A rule with nothing on its agenda and no tie ends in its state. -/
@[simp] theorem Rule.finish_plain (s : State) : Rule.finish ⟨s, [], false⟩ = .next s := by
  simp [Rule.finish, Rule.breakTie]

/-- A rule with nothing on its agenda ends in its state where no report waits. -/
theorem Rule.finish_noReport (s : State) (t : Bool) (h : s.link.queue = []) : Rule.finish ⟨s, [], t⟩ = .next s := by
  simp [Rule.finish, Rule.breakTie, h]

/-- R85: a change of one entry that leaves its number keeps every reel number of the plan. -/
theorem mapReel_reels (plan : List ReelEntry) (reel : Nat) (f : ReelEntry → ReelEntry) (hf : ∀ e, (f e).reel = e.reel) :
    (mapReel plan reel f).map (fun e => e.reel) = plan.map (fun e => e.reel) := by
  simp only [mapReel, List.map_map]
  refine List.map_congr_left fun e _ => ?_
  simp only [Function.comp]
  split
  · exact hf e
  · rfl

/-- R41: a learned time of 40 ms or more stays so. -/
theorem learnTravel_least (old measured : Nat) (h : 40 ≤ old) : 40 ≤ learnTravel old measured := by
  simp only [learnTravel, learn, clamp]
  omega

/-- Every rule ends in a next state. -/
theorem Rule.finish_next (r : Rule) : ∃ t, r.finish = .next t := ⟨_, rfl⟩

/-- R161, R162: a record that arrives with the buffer and the slot empty is taken at once. -/
theorem Rule.arrives_taken (r : Rule) (d : Record) (hb : r.st.link.buffer = []) (hs : r.st.link.slot = none) :
    r.arrives d = r.takeRecord d := by
  simp [Rule.arrives, hb, hs]

end Sys2Proof.Machine
end

