-- ==== Sys2Proof/Laws/Rest.lean ====
section
/-! SUPPORT. Where a house is at rest and a douser is not STUCK, the changes on the agenda bring about nothing more: one
lemma per thing that sees them, and the end of such a rule. -/

namespace Sys2Proof.Machine

/-- A house in no show is neither STARTING, SHOWING nor ENDING. -/
theorem HouseState.inShow_false {x : HouseState} (h : x.inShow = false) : x ≠ .starting ∧ x ≠ .showing ∧ x ≠ .ending := by
  cases x <;> simp_all [HouseState.inShow]

/-- R95: no live picture begins in a house that is not STARTING. -/
theorem Rule.pictureTest_atRest (r : Rule) (h : HouseId) (hr : (r.st.hs h).state.inShow = false) :
    r.pictureTest h = r := by
  have h1 := (HouseState.inShow_false hr).1
  unfold Rule.pictureTest
  split
  · simp_all
  · rfl

/-- What a house at rest looks at brings about nothing. -/
theorem Rule.look_atRest (r : Rule) (h : HouseId) (hr : r.st.houseAtRest h) : r.look h = r := by
  have h2 := hr.2.1
  simp [Rule.look, r.pictureTest_atRest h hr.1, Rule.readinessTest, Rule.crossingTest, Rule.completionTest, h2]

/-- A failure in a house at rest brings about nothing. -/
theorem Rule.failure_atRest (r : Rule) (p : Proj) (f : Failure) (hr : r.st.houseAtRest (houseOf p)) :
    r.failure p f = r := by
  have h1 := HouseState.inShow_false hr.1
  unfold Rule.failure
  dsimp only
  split <;> simp_all

/-- R151: a douser that is not STUCK is no hazard. -/
theorem Rule.douserCause_unstuck (r : Rule) (p : Proj) (h : (r.st.ds p).state ≠ .stuck) : r.douserCause p = r := by
  simp [Rule.douserCause, State.douserHazard, h]

/-- R118: a house with no retiring record sees nothing of its transports. -/
theorem Rule.retireSees_atRest (r : Rule) (h : HouseId) (p : Proj) (x : TransportState) (hr : (r.st.hs h).retiring = none) :
    r.retireSees h p x = r := by
  simp [Rule.retireSees, hr]

/-- R113: a house with no changeover record has none to lock. -/
theorem State.lockChange_none (s : State) (p : Proj) (hr : (s.hs (houseOf p)).change = none) : s.lockChange p = s := by
  have : { s.hs (houseOf p) with change := none } = s.hs (houseOf p) := by rw [← hr]
  simp [State.lockChange, State.modChange, State.modHs, hr, this]

/-- R101: the end of no show completes in a house at rest. -/
theorem Rule.endStops_atRest (r : Rule) (p : Proj) (hr : (r.st.hs (houseOf p)).state.inShow = false) : r.endStops p = r := by
  simp [Rule.endStops, (HouseState.inShow_false hr).2.2]

/-- R101: the end of no show sees a douser of a house at rest. -/
theorem State.endDouserSees_atRest (s : State) (p : Proj) (hr : (s.hs (houseOf p)).state.inShow = false) :
    s.endDouserSees p = s := by
  simp [State.endDouserSees, (HouseState.inShow_false hr).2.2]

/-- R106: no entry is taken in a house that is not SHOWING. -/
theorem Rule.takeCues_atRest (r : Rule) (h : HouseId) (hr : (r.st.hs h).state.inShow = false) : r.takeCues h = r := by
  unfold Rule.takeCues
  split
  · rfl
  · simp [Rule.takeHeads, (HouseState.inShow_false hr).2.1]

/-- R124: a house that is not dark waits for no lamp. -/
theorem State.lampReturns_bright (s : State) (p : Proj) (hr : (s.hs (houseOf p)).dark = false) : s.lampReturns p = s := by
  simp [State.lampReturns, hr]

/-- R124: a house that is not dark loses nothing with its lamp. -/
theorem Rule.darkLampOff_bright (r : Rule) (p : Proj) (hr : (r.st.hs (houseOf p)).dark = false) : r.darkLampOff p = r := by
  simp [Rule.darkLampOff, hr]

/-- The change concerns a house at rest, and a douser that is not STUCK. -/
def Signal.quiet (s : State) : Signal → Prop
  | .transport p _ | .runupFailed p | .lampLeft p _ | .lampOff p | .lampBurning p | .lampStruck p | .portLeft p
  | .portHeld p | .cues p => s.atRest p
  | .douser p x => s.atRest p ∧ x ≠ .stuck
  | .readiness h => s.houseAtRest h

/-- A quiet change brings about nothing more. -/
theorem Rule.sees_quiet (r : Rule) (x : Signal) (hq : x.quiet r.st) : r.sees x = r := by
  cases x with
  | transport p to1 =>
    obtain ⟨hr, hd⟩ := hq
    have hu : r.upd (fun s => s.lockChange p) = r := by simp [Rule.upd, State.lockChange_none _ _ hr.2.1]
    cases to1 <;>
      simp [Rule.sees, Rule.transportSeen, hu, r.failure_atRest p _ hr, r.endStops_atRest p hr.1,
        r.retireSees_atRest _ p _ hr.2.2.1, r.douserCause_unstuck p hd, r.look_atRest _ hr]
  | runupFailed p => simp [Rule.sees, r.failure_atRest p _ hq.1, r.look_atRest _ hq.1]
  | lampLeft p b => simp [Rule.sees, r.failure_atRest p _ hq.1, r.look_atRest _ hq.1]
  | lampOff p => simp [Rule.sees, r.darkLampOff_bright p hq.1.2.2.2.1]
  | lampBurning p =>
    have hu : r.upd (fun s => s.lampReturns p) = r := by simp [Rule.upd, State.lampReturns_bright _ p hq.1.2.2.2.1]
    simp [Rule.sees, hu, r.look_atRest _ hq.1]
  | lampStruck p => exact r.douserCause_unstuck p hq.2
  | portLeft p => simp [Rule.sees, r.failure_atRest p _ hq.1, r.look_atRest _ hq.1]
  | portHeld p => exact r.look_atRest _ hq.1
  | douser p to1 =>
    obtain ⟨⟨hr, hd⟩, hx⟩ := hq
    have hu : r.upd (fun s => s.endDouserSees p) = r := by simp [Rule.upd, State.endDouserSees_atRest _ p hr.1]
    cases to1 <;> simp_all [Rule.sees, Rule.douserSeen, r.look_atRest _ hr]
  | cues p => simp [Rule.sees, Rule.cuesJoined, r.takeCues_atRest _ hq.1.1]
  | readiness h => exact r.look_atRest _ hq

/-- A rule whose agenda is quiet settles in the state it has. -/
theorem Rule.settle_quiet (n : Nat) (s : State) (l : List Signal) (t : Bool) (hl : l.length ≤ n)
    (hq : ∀ x ∈ l, x.quiet s) : Rule.settle n ⟨s, l, t⟩ = ⟨s, [], t⟩ := by
  induction n generalizing l with
  | zero =>
    have : l = [] := List.eq_nil_of_length_eq_zero (by omega)
    simp [this]
  | succ n ih =>
    cases l with
    | nil => simp
    | cons x rest =>
      rw [Rule.settle_cons, Rule.sees_quiet ⟨s, rest, t⟩ x (hq x (by simp))]
      exact ih rest (by simpa using hl) (fun y hy => hq y (by simp [hy]))

/-- A rule whose agenda is quiet, with no tie, ends in the state it has. -/
theorem Rule.finish_quiet (s : State) (l : List Signal) (hl : l.length ≤ settleBound) (hq : ∀ x ∈ l, x.quiet s) :
    Rule.finish ⟨s, l, false⟩ = .next s := by
  simp [Rule.finish, Rule.settle_quiet settleBound s l false hl hq, Rule.breakTie]

/-- A rule whose agenda is quiet, with no report waiting, ends in the state it has. -/
theorem Rule.finish_quiet_noReport (s : State) (l : List Signal) (t : Bool) (hl : l.length ≤ settleBound)
    (hq : ∀ x ∈ l, x.quiet s) (hn : s.link.queue = []) : Rule.finish ⟨s, l, t⟩ = .next s := by
  simp [Rule.finish, Rule.settle_quiet settleBound s l t hl hq, Rule.breakTie, hn]

end Sys2Proof.Machine
end

