-- ==== Sys2Proof/Tests/Slice0.lean ====
section
/-! SUPPORT. The model's own tests. First the smoke test of WellFormed, then the reference's worked examples and codes
(each test's source stands in its docstring), then, for every statement that has hypotheses, a witness: concrete states and
operands that meet them, clause by clause, at the boundary values of their ranges. -/

set_option Elab.async false

namespace Sys2Proof.Tests

open Sys2Proof Sys2Proof.Machine

/-! ## Helpers -/

/-- The state after reset. -/
abbrev R : State := State.reset

/-- The outcome is a next state that meets a test. -/
def nextIs (o : Host.Outcome State Fault Refusal) (f : State → Bool) : Bool :=
  match o with
  | .next t => f t
  | _ => false

/-- Change the transport of projector 1. -/
def wTr (s : State) (f : Transport → Transport) : State := s.setTr 0 (f (s.tr 0))

/-- Change the transport of projector 2. -/
def wTr2 (s : State) (f : Transport → Transport) : State := s.setTr 1 (f (s.tr 1))

/-- Change the reader of projector 1. -/
def wRd (s : State) (f : Reader → Reader) : State := s.setRd 0 (f (s.rd 0))

/-- Change the douser of projector 1. -/
def wDs (s : State) (f : Douser → Douser) : State := s.setDs 0 (f (s.ds 0))

/-- Change the douser of projector 2. -/
def wDs2 (s : State) (f : Douser → Douser) : State := s.setDs 1 (f (s.ds 1))

/-- Change the lamp of projector 1. -/
def wLp (s : State) (f : Lamp → Lamp) : State := s.setLp 0 (f (s.lp 0))

/-- Change house 1. -/
def wHs (s : State) (f : House → House) : State := s.setHs 0 (f (s.hs 0))

/-- Change the light channel of house 1. -/
def wLt (s : State) (f : Light → Light) : State := s.setLt 0 (f (s.lt 0))

/-- Change port 1. -/
def wPt (s : State) (f : Port → Port) : State := s.setPt 0 (f (s.pt 0))

/-- Change the link. -/
def wLk (s : State) (f : Link → Link) : State := s.setLink (f s.link)

/-- Change the booth-level state. -/
def wBo (s : State) (f : Booth → Booth) : State := s.setBooth (f s.booth)

/-- A reel of a plan. -/
def reel (n : Nat) (sd : Side) (status : ReelStatus) : ReelEntry :=
  { reel := n, side := sd, leader := 100, picture := 400, motorFrame := none, changeFrame := none, last := false,
    cues := [], status := status }

/-- A drop record. -/
def dropped (n : Nat) : DropRecord :=
  { seq := n, cause := .test, projector := none, footage := none, time := none, ports := [⟨0, .pending⟩] }

/-- House 1 SHOWING reel 1 on projector 1, and projector 2 READY with reel 2. -/
def showing : State :=
  let s1 := wHs R (fun x => { x with
    state := .showing
    liveSide := some .a
    gate := .side .a
    plan := [reel 1 .a .showing, reel 2 .b .armed] })
  let s2 := wTr s1 (fun x => { x with state := .running, armed := some ⟨0, 1, 0⟩, counter := 150, lastPulse := some 0 })
  let s3 := wTr2 s2 (fun x => { x with armed := some ⟨0, 2, 60⟩, counter := 60 })
  let s4 := (s3.setLp 0 { s3.lp 0 with state := .burning, account := 3000 }).setLp 1 { s3.lp 1 with
    state := .burning
    account := 3000
    sufficiency := some ⟨true, 400, 440⟩ }
  let s5 := (s4.setPt 0 { s4.pt 0 with state := .held, upSwitch := true, downSwitch := false }).setPt 1 { s4.pt 1 with
    state := .held
    upSwitch := true
    downSwitch := false }
  wRd (wDs s5 (fun x => { x with state := .opened, drive := .opens, switches := some ⟨⟨true, false⟩, 0⟩ })) (fun x =>
    { x with state := .watch })

/-- A changeover record with projector 2 as its incoming. -/
def toB (phase : ChangePhase) : Changeover :=
  { newChange 1 .tab 140 332 with phase := phase, delay := some 442 }

/-- A crossing that began at instant 0. -/
def crossed : Crossing :=
  { start := 0, openOffset := 0, soundOffset := 150, closeOffset := some 32, switched := false, openGiven := false,
    closeGiven := false, outFrame := 150 }

/-! ## Well-formed commands -/

/-- R170: at most four light cues. -/
theorem test_wf_refuses_five_cues : Instr.wf (.addReel 0 1 ⟨1, 1, 0, 1, 0, 0, false,
    List.replicate 5 ⟨.start, 0, 0, 0⟩⟩) = false := by decide

/-- R160: at most 250 bytes of payload. -/
theorem test_wf_refuses_long_payload : Instr.wf (.formatRefusal 0 99 (List.replicate 251 0)) = false := by decide +kernel

/-- R162: a FORMAT refusal is of a record that is no request's. -/
theorem test_wf_refuses_format_of_a_request : Instr.wf (.formatRefusal 0 30 [2]) = false := by decide

/-- 00_scope: the booth temperature is 0 to 99 degrees. -/
theorem test_wf_refuses_hot_reading :
    Instr.wf (.temperatureReading 0 100) = false ∧ Instr.wf (.temperatureReading 0 99) = true := by decide

/-- 00_scope: the temperature that power-on reads too. -/
theorem test_wf_refuses_hot_power_on : Instr.wf (.powerOn 0 ⟨Vector.replicate 8 ⟨false, true⟩, Vector.replicate 12 false,
    Vector.replicate 12 true, false, false, Vector.replicate 8 false, 100⟩) = false := by decide

/-- 00_scope: the arc current is 0 to 150 A. -/
theorem test_wf_refuses_high_current :
    Instr.wf (.arcReading 0 0 550 151) = false ∧ Instr.wf (.feedSensePulse 0 0 151) = false ∧
      Instr.wf (.arcReading 0 0 550 150) = true := by decide

/-! ## The table and the line -/

/-- spec/opcode_table.json gives no row any bits. -/
theorem test_no_word_spells_a_command : decodeTableWord 8 16 = none ∧ R.withFetchWord 8 16 = R := by decide +kernel

/-- 10.4, worked example: the START frame for house 2 has kind 30, length 1, payload 2 and check byte 223. -/
theorem test_start_frame : recordFrame (recordOf (.start 2)) = [0xC3, 0x3C, 30, 1, 2, 223] := by decide

/-- R170: a START for house 2 as its bytes spell it. -/
theorem test_start_read : parseRequest ⟨30, [2]⟩ = some (.start 2) := by decide

/-- R170: ARM REEL has 2 payload bytes, or 4 with a start frame, most significant byte first; 3 are no request's. -/
theorem test_arm_reel_lengths : parseRequest ⟨28, [3, 7]⟩ = some (.armReel 3 7 none) ∧
    parseRequest ⟨28, [3, 7, 1, 44]⟩ = some (.armReel 3 7 (some 300)) ∧ parseRequest ⟨28, [3, 7, 1]⟩ = none := by decide

/-- R162: a code outside a fixed set is no request's: a form of DROP TEST, a subject of STATUS, a choice of SET ARC. -/
theorem test_codes_outside_their_sets : parseRequest ⟨38, [3, 1]⟩ = none ∧ parseRequest ⟨40, [5, 1, 0]⟩ = none ∧
    parseRequest ⟨24, [1, 60, 2, 38, 2]⟩ = none ∧ parseRequest ⟨40, [4, 0, 0]⟩ = some (.status .ports 0 0) := by decide

/-- 10.4, worked example: CUE SEEN has a payload of 12 bytes, a frame of 17. -/
theorem test_cue_seen_length : (recordFrame (Report.record ⟨3, some 5, .cueSeen ⟨.change, 31812, .tab, none⟩⟩)).length = 17 := by
  decide

/-- 10.4, worked example: the START record that completes while a report is sent waits in the slot as DONE or REFUSED. -/
theorem test_reply_waits_for_the_report : nextIs (exec (.start 0 2) R) (fun t => t.link.slot.isSome &&
    decide (t.link.transmitter = R.link.transmitter)) = true := by decide +kernel

/-! ## Worked examples of the chapters -/

/-- 1.5, worked example: Tr 3000, measured 2401, then 2401 twice more: 2850, 2738, 2654. -/
theorem test_learned_run_up : learnRunUp 3000 2401 = 2850 ∧ learnRunUp 2850 2401 = 2738 ∧ learnRunUp 2738 2401 = 2654 := by
  decide

/-- 1.5, worked example: the pulse at 27346 locks projector 3: measured 2401, Tr 2850. -/
theorem test_lock : nextIs (exec (.tachPulse 417 2 0) { (R.setTr 2 { R.tr 2 with
      state := .starting
      motorOn := some 0
      lastPulse := some 26929
      lockRunStart := some 24011
      lockCount := 7 }) with now := 26929 }) (fun t => decide ((t.tr 2).state = .running ∧ (t.tr 2).runUp = 2850 ∧
        t.link.queue = [⟨3, none, .locked 2401 2850 1⟩])) = true := by decide +kernel

/-- 1.5, worked example: the pulse at 24011, 426 tenths after the one before, ends the run. -/
theorem test_lock_run_broken : nextIs (exec (.tachPulse 426 2 0) (R.setTr 2 { R.tr 2 with
      state := .starting
      lastPulse := some 0
      lockRunStart := some 0
      lockCount := 5 })) (fun t => decide ((t.tr 2).lockCount = 0)) = true := by decide +kernel

/-- 1.6, worked example: the break deadline falls at 1042 tenths and not at 1041. -/
theorem test_break_instant : brokenAfter 1041 24 = false ∧ brokenAfter 1042 24 = true ∧ brokenAfter 1000 25 = true ∧
    overdue 624 24 = false ∧ overdue 625 24 = true := by decide

/-- 3.6, worked example: the eight travels of a trial. -/
theorem test_trial_times : [312, 305, 309, 311].foldl learn 250 = 291 ∧ [228, 231, 226, 230].foldl learn 250 = 236 ∧
    travelLimit 284 = 668 := by decide

/-- R47: a trial cannot stop during a pause because of a travel, and one in TRAVEL stops. -/
theorem test_sticking_trial : ∀ ph ∈ [TrialPhase.pause, .travel],
    nextIs (exec (.travelLimit 6000 0) (wDs R (fun x => { x with
      state := .closing
      travel := some ⟨.closes, 0, true, 600⟩
      trial := some ⟨1, ph, none⟩ }))) (fun t => (t.ds 0).state = .stuck && ((t.ds 0).trial.isSome == decide (ph = .pause))) := by
  decide +kernel

/-- 4.4, worked example: the means and the bursts of the deferred feed. -/
theorem test_burst : sampleMean [558, 561, 560, 563, 566] = some 562 ∧ sampleMean [563, 566, 563, 567, 569] = some 566 ∧
    burstSize 566 550 = 8 ∧ burstSize 562 550 = 6 := by decide

/-- 4.3, worked example: the rectifier is up at 612 tenths of a volt, and the first forward pulse is sent. -/
theorem test_sweep_begins : nextIs (exec (.arcReading 3400 2 612 0) (R.setLp 2 ((R.lp 2).struckAt 0))) (fun t =>
    decide ((t.lp 2).phase = some .sweep ∧ (t.lp 2).outstanding = some ⟨.forward, 3400⟩)) = true := by decide +kernel

/-- 5.4, worked example: four minutes of 80, 80, 88 and 40 pulses from R = 72; then I = 70 gives 84. -/
theorem test_burn_rate : filterRate 72 80 = 73 ∧ filterRate 73 80 = 74 ∧ filterRate 74 88 = 76 ∧ filterRate 76 40 = 72 ∧
    startingRate 70 = 84 := by decide

/-- 7.3, worked example: t_out 8000, t_in 7558, so d = 442; armed at frame 60, t_in is 8808; at 0, 11308. -/
theorem test_alignment : timeOut 31620 31812 24 = 8000 ∧ timeIn 150 2600 24 = 7558 ∧ startDelay 8000 7558 = 442 ∧
    timeIn 180 2600 24 = 8808 ∧ timeIn 240 2600 24 = 11308 := by decide

/-- 7.5, the table of blade times: the offsets of the open, the close and the sound. -/
theorem test_crossing_offsets : crossingOffsets 300 236 .opened = (0, some 32, 150) ∧
    crossingOffsets 300 220 .opened = (0, some 40, 150) ∧ crossingOffsets 301 220 .opened = (0, some 41, 151) ∧
    crossingOffsets 220 300 .opened = (40, some 0, 150) ∧ crossingOffsets 300 220 .closed = (0, none, 150) := by decide

/-- 8.2, worked example: the fade to black, and the hold that begins at its step 80. -/
theorem test_fade : fadeLevel 1000 0 160 1 = 994 ∧ fadeLevel 1000 0 160 155 = 32 ∧ fadeLevel 1000 0 160 160 = 0 ∧
    driveOf 994 = 252 ∧ driveOf 750 = 143 ∧ driveOf 45 = 1 ∧ driveOf 44 = 0 ∧ fadeLevel 500 600 60 1 = 501 := by decide +kernel

/-- 9.6, the grade table: entered at 35, 45 and 55, left at 32, 42 and 52. -/
theorem test_grades : gradeAfter .normal 34 = .normal ∧ gradeAfter .normal 56 = .critical ∧ gradeAfter .critical 53 = .critical ∧
    gradeAfter .critical 52 = .hot ∧ gradeAfter .hot 43 = .hot ∧ gradeAfter .hot 32 = .normal := by decide

/-- R145: 1 follows 65535. R168: 0 follows 86399. -/
theorem test_wraps : nextSequence 65535 = 1 ∧ nextTimeOfDay 86399 = 0 := by decide

/-- R157: an open fusible-link line at power-on activates FUSIBLE, with every port ALREADY in its record. -/
theorem test_power_on_with_fire : nextIs (exec (.powerOn 0 ⟨Vector.replicate 8 ⟨false, true⟩, Vector.replicate 12 false,
    Vector.replicate 12 true, true, false, Vector.replicate 8 false, 20⟩) R) (fun t => t.booth.fusible &&
      (t.lt 3).safetyActive && decide ((t.booth.log.map (fun d => d.ports.map (fun e => e.outcome))) =
        [List.replicate 12 .already])) = true := by decide +kernel

/-- R157, R155: at power-on the grade at each side of each entry value; and with the button pressed, the gate of projector 3 hot
and 55 degrees, three records in that order and their reports behind RESTARTED, TEMP GRADE before those of CRITICAL. -/
theorem test_power_on_log : (∀ x ∈ [(34, Grade.normal), (35, .warm), (44, .warm), (45, .hot), (54, .hot), (55, .critical)],
      powerOnGrade x.1 = x.2) ∧
    nextIs (exec (.powerOn 0 ⟨Vector.replicate 8 ⟨false, true⟩, Vector.replicate 12 false, Vector.replicate 12 true, false, true,
      (Vector.replicate 8 false).set 2 true, 55⟩) showing) (fun t =>
        (t.booth.log.map (fun d => (d.seq, d.cause, d.ports.map (fun e => e.port.val)))) =
          [(1, .emergency, [0, 1, 2, 3, 4, 5, 6, 7, 8, 9, 10, 11]), (2, .filmFire, [2, 9]),
            (3, .critical, [0, 1, 2, 3, 4, 5, 6, 7, 8, 9, 10, 11])] ∧ t.booth.nextSeq = 4 ∧ t.booth.grade = .critical ∧
        t.link.queue.map (fun x => x.body) = [.fireCauseOn .emergency none 1, .portDropped 1 (some .emergency) none,
          .fireCauseOn .filmFire (some 2) 2, .portDropped 2 (some .filmFire) (some 2), .tempGrade .normal .critical 55,
          .fireCauseOn .critical none 3, .portDropped 3 (some .critical) none]) = true := by decide +kernel

/-- R97, R98: HOLD of a house that is SHOWING closes the douser and stops the motor. -/
theorem test_hold : nextIs (exec (.holdButton 0 0) showing) (fun t => decide ((t.hs 0).state = .hold ∧
    (t.hs 0).holdReason = some .panel ∧ (t.ds 0).state = .closing ∧ (t.tr 0).state = .stopping)) = true := by decide +kernel

/-- 7.6: CHANGE NOW starts the incoming; its record is DUE. -/
theorem test_change_now : nextIs (exec (.changeNow 0 1) showing) (fun t => decide ((t.tr 1).state = .starting ∧
    (t.hs 0).change.map (fun c => c.phase) = some .due)) = true := by decide +kernel

/-- R149: a fire gives a held house its reason; its lamps are OFF, its shutters fall, its lights jump. -/
theorem test_fire_in_a_hold : nextIs (exec (.emergencyButtonPress 0) (wHs (wLt showing (fun x => { x with level := 0 }))
    (fun x => { x with state := .hold }))) (fun t => decide ((t.hs 0).holdReason = some .emergency ∧
      (t.lp 0).state = .off ∧ (t.lp 1).stop = some .fire ∧ (t.pt 0).state = .dropping ∧ (t.lt 0).level = 1000)) = true := by
  decide +kernel

/-! ## Witnesses: the step, reset and power-on -/

/-- A queue with a command in front, and an empty one. -/
theorem witness_QueueIsTakenFromTheFrontOnly : R.pending = [] ∧ ∃ t, exec (.clockAdvance 1) R = .next t := ⟨rfl, _, rfl⟩

/-! ## Witnesses: film transport -/

/-- An EMPTY, STOPPED projector; one that runs, starts, or is BROKEN. -/
theorem witness_MotorsAreStartedAndStopped : R.linkReady ∧ (1 : Byte).toNat = (0 : Proj).val + 1 ∧
    (8 : Byte).toNat = (7 : Proj).val + 1 ∧ (R.tr 0).armed = none ∧ (R.tr 0).state = .stopped ∧
    (R.hs (houseOf 0)).state.inShow = false ∧ R.booth.fusible = false ∧ R.booth.filmFire.cell (otherProj 0) = false ∧
    (R.ds 0).trial = none ∧
    (∀ st ∈ [TransportState.starting, .running, .broken], (wTr R (fun x => { x with state := st })).atRest 0 ∧
      ((wTr R (fun x => { x with state := st })).rd 0).state = .off) := by decide +kernel

/-- A speed outside its two values, moving transports, and a house whose transports are STOPPED. -/
theorem witness_SetSpeedPutsTheSpeedInForce : R.linkReady ∧ (4 : Byte).toNat = (3 : HouseId).val + 1 ∧
    (23 : Byte).toNat ≠ 24 ∧ (26 : Byte).toNat ≠ 25 ∧ (25 : Byte).toNat = 25 ∧
    ((wTr R (fun x => { x with state := .stopping })).tr (projAt 0 .a)).state ≠ .stopped ∧
    (R.tr (projAt 0 .a)).state = .stopped ∧ (R.tr (projAt 0 .b)).state = .stopped ∧ (R.hs 0).change = none := by
  decide +kernel

/-- Both transports STOPPED with a changeover record, and the numbers just outside the range. -/
theorem witness_SetSpeedPutsTheSpeedInForce_always :
    (let s := wHs R (fun x => { x with change := some (toB .waitReady) })
     s.linkReady ∧ (1 : Byte).toNat = (0 : HouseId).val + 1 ∧ (25 : Byte).toNat = 25 ∧
      (s.tr (projAt 0 .a)).state = .stopped ∧ (s.tr (projAt 0 .b)).state = .stopped) ∧
    (0 : Byte).toNat = 0 ∧ 4 < (5 : Byte).toNat := by decide +kernel

/-- A STARTING transport, with the intervals at both ends of the tolerance and just outside it, at speed 25. -/
theorem witness_PulseWhileStarting : (∀ u ∈ [391, 392, 408, 409], ∀ k ∈ [0, 6, 7],
    let s := wHs (wTr R (fun x => { x with
      state := .starting
      lastPulse := some 0
      lockCount := k
      motorOn := some 0
      lockRunStart := some 0 })) (fun x => { x with speed := 25 })
    s.atRest 0 ∧ (s.tr 0).state = .starting ∧ (s.tr 0).lastPulse = some 0 ∧ (s.tr 0).motorOn = some 0 ∧
      (s.tr 0).lockRunStart = some 0 ∧ (s.tr 0).lockCount = k ∧ (s.now + u - 0) * s.speedOf 0 = 25 * u) ∧
    391 * 25 < 9800 ∧ 392 * 25 = 9800 ∧ 408 * 25 = 10200 ∧ 10200 < 409 * 25 ∧
    ((wTr R (fun x => { x with state := .starting })).tr 0).lastPulse = none := by decide +kernel

/-- A RUNNING transport with and without the speed-fault mark, its counts at their boundaries. -/
theorem witness_PulseWhileRunning : ∀ b : Bool, ∀ k ∈ [0, 7, 22, 23],
    let s := wTr R (fun x => { x with
      state := .running
      lastPulse := some 0
      speedFault := b
      outCount := k
      recovery := min 7 k })
    s.atRest 0 ∧ (s.tr 0).state = .running ∧ (s.tr 0).lastPulse = some 0 ∧ (s.now + 417 - 0) * s.speedOf 0 = 10008 ∧
      (s.now + 408 - 0) * s.speedOf 0 = 9792 ∧ (s.tr 0).speedFault = b ∧ (s.tr 0).outCount = k := by decide +kernel

/-- A transport that is STOPPED, BROKEN or STOPPING, and the 500 ms at their end and one tenth before it. -/
theorem witness_RunDownIsWatched : (R.tr 0).state = .stopped ∧
    (let s := wTr R (fun x => { x with state := .stopping, stoppingSince := some 0, lastPulse := some 100 })
     s.atRest 0 ∧ (s.tr 0).state = .stopping ∧ (s.tr 0).stoppingSince = some 0 ∧ (s.tr 0).lastPulse = some 100 ∧
      max 0 100 + 5000 ≤ s.now + 5100 ∧ s.now + 5099 < max 0 100 + 5000) := by decide +kernel

/-- A RUNNING transport 625 tenths and 624 tenths after its pulse, and one in MISS1. -/
theorem witness_MissingPulseIsReportedOnce : (showing.tr 0).lastPulse = some 0 ∧ (showing.tr 0).state = .running ∧
    (showing.tr 0).miss = .normal ∧ 15000 ≤ (showing.now + 625 - 0) * showing.speedOf 0 ∧
    (showing.now + 624 - 0) * showing.speedOf 0 < 15000 ∧
    ((wTr showing (fun x => { x with miss := .miss1 })).tr 0).miss = .miss1 := by decide +kernel

/-- A RUNNING transport outside a show 1042 tenths after its pulse, and a STARTING one 6000 ms after its motor-on. -/
theorem witness_TransportFailuresStopTheMotor :
    (let s := wTr R (fun x => { x with state := .running, lastPulse := some 0 })
     s.atRest 0 ∧ (s.rd 0).assembling = false ∧ (s.tr 0).state = .running ∧ (s.tr 0).lastPulse = some 0 ∧
      25000 ≤ (s.now + 1042 - 0) * s.speedOf 0) ∧
    (let s := wTr R (fun x => { x with state := .starting, motorOn := some 0 })
     s.atRest 0 ∧ (s.rd 0).assembling = false ∧ (s.tr 0).state = .starting ∧ (s.tr 0).motorOn = some 0 ∧
      0 + 60000 ≤ s.now + 60000) := by decide +kernel

/-- A group in assembly with a counted entry held and with none, at a break and at the run-up limit, before an empty queue and
a full one. -/
theorem witness_TransportFailuresStopTheMotor_group : ∀ n ∈ [0, 8], ∀ k ∈ [0, 1], ∀ st ∈ [ReaderState.inTab, .gap],
    let e : CueEntry := ⟨.motor, 140, .counted, none⟩
    let s := wRd R (fun x => { x with
      state := st
      group := some ⟨140, 1, none, 3, 0⟩
      held := List.replicate k e
      queue := List.replicate n e })
    let w := wTr s (fun x => { x with state := .running, lastPulse := some 0 })
    let v := wTr s (fun x => { x with state := .starting, motorOn := some 0 })
    s.atRest 0 ∧ (s.rd 0).assembling = true ∧ (s.rd 0).queue.length ≤ 8 ∧ (w.tr 0).state = .running ∧
      (w.tr 0).lastPulse = some 0 ∧ 25000 ≤ (w.now + 1042 - 0) * w.speedOf 0 ∧ (v.tr 0).state = .starting ∧
      (v.tr 0).motorOn = some 0 ∧ 0 + 60000 ≤ v.now + 60000 := by decide +kernel

/-! ## Witnesses: cue tabs -/

/-- Values at and beyond the clamps; an empty queue, a head that is not BAD, and a BAD one, live or not. -/
theorem witness_CueRequestsAreDecided : R.linkReady ∧ (1 : Byte).toNat = (0 : Proj).val + 1 ∧
    (16 : Nat) = max 16 (min 240 (0 : Byte).toNat) ∧ (8 : Nat) = min (max 4 (min 64 (255 : Byte).toNat)) (16 - 8) ∧
    (R.rd 0).queue = [] ∧ (R.hs (houseOf 0)).state ≠ .showing ∧ R.liveProj (houseOf 0) ≠ some 0 ∧
    ((wRd R (fun x => { x with queue := [⟨.motor, 5, .tab, none⟩] })).rd 0).queue = ⟨.motor, 5, .tab, none⟩ :: [] ∧
    ((wRd R (fun x => { x with queue := [⟨.bad, 5, .tab, some .count⟩] })).rd 0).queue = ⟨.bad, 5, .tab, some .count⟩ :: [] ∧
    (wHs R (fun x => { x with liveSide := some .a })).liveProj (houseOf 0) = some 0 := by decide +kernel

/-- A BAD head on the live projector of a SHOWING house, with nothing, another BAD head and a MOTOR entry behind it. -/
theorem witness_CueRequestsAreDecided_follows :
    (∀ rest ∈ [[], [⟨.bad, 7, .tab, some .tape⟩], [⟨.motor, 7, .tab, none⟩]],
      let s := wDs2 (wRd (wLk showing (fun l => { l with buffer := [], slot := none })) (fun x => { x with
        queue := ⟨.bad, 5, .tab, some .count⟩ :: rest })) (fun x => { x with state := .opening })
      s.linkReady ∧ (s.hs 0).state = .showing ∧ s.liveProj 0 = some 0 ∧
        (s.rd 0).queue = ⟨.bad, 5, .tab, some .count⟩ :: rest ∧ s.heldEntry 0 = some (reel 1 .a .showing) ∧
        s.link.transmitter ≠ .idle ∧ s.followingEntry 0 ≠ none ∧ (s.hs 0).change = none ∧
        (s.hs 0).marks.motorTaken = false ∧ s.readyToFollow 0 (otherProj 0) = false) ∧
    showing.noCountedMotor 0 (reel 1 .a .showing) ReelMarks.clear ∧
    showing.noCountedChange 0 (reel 1 .a .showing) ReelMarks.clear :=
  ⟨by decide +kernel, fun _ h => by simp [reel] at h, fun _ h => by simp [reel] at h⟩

/-- The same where an expected motor frame is passed by 47 and by 48, and an expected change frame by 11. -/
theorem witness_CueRequestsAreDecided_counted :
    (∀ n ∈ [102, 103], let e := { reel 1 .a .showing with motorFrame := some n, changeFrame := some 139 }
      let s := wDs2 (wRd (wHs showing (fun x => { x with plan := [e, reel 2 .b .armed] })) (fun x => { x with
        queue := [⟨.bad, 5, .tab, some .count⟩] })) (fun x => { x with state := .opening })
      s.linkReady ∧ s.heldEntry 0 = some e ∧ s.followingEntry 0 ≠ none ∧ (s.hs 0).change = none ∧
        (s.hs 0).marks.motorTaken = false ∧ (s.hs 0).marks.countedMotor = false ∧
        s.readyToFollow 0 (otherProj 0) = false ∧ (s.rd 0).group = none ∧ s.link.transmitter ≠ .idle) ∧
    102 + 48 ≤ (showing.tr 0).counter ∧
    showing.noCountedMotor 0 { reel 1 .a .showing with motorFrame := some 103 } ReelMarks.clear ∧
    showing.noCountedChange 0 { reel 1 .a .showing with changeFrame := some 139 } ReelMarks.clear :=
  ⟨by decide +kernel, by decide +kernel, fun _ h => .inl (by cases h; decide +kernel),
    fun _ h => .inl (by cases h; decide +kernel)⟩

/-- Every state of the reader of a RUNNING projector, and the group at the boundaries of its counts. -/
theorem witness_ReaderFollowsTheTabs : (∀ st ∈ [ReaderState.off, .hunt, .watch, .inTab, .gap], ∀ k ∈ [0, 1, 4, 5],
    ∀ n ∈ [0, 1, 5, 6, 7],
    let g : TabGroup := ⟨3, k, none, n, n⟩
    let s := wRd (wTr R (fun x => { x with state := .running })) (fun x => { x with state := st, group := some g })
    s.atRest 0 ∧ (s.tr 0).state = .running ∧ 1 = min 65535 ((s.tr 0).counter + 1) ∧ (s.rd 0).queue.length ≤ 8 ∧
      (s.rd 0).state = st ∧ (s.rd 0).group = some g ∧ s.leaderOf 0 ≤ 1 ∧ (s.rd 0).threshold ≤ (128 : Byte).toNat ∧
      (127 : Byte).toNat < (s.rd 0).threshold ∧ (112 : Byte).toNat ≤ (s.rd 0).threshold - (s.rd 0).hysteresis ∧
      (s.rd 0).threshold - (s.rd 0).hysteresis < (113 : Byte).toNat) ∧
    1 < (wTr (wHs R (fun x => { x with plan := [reel 1 .a .armed] }))
      (fun x => { x with armed := some ⟨0, 1, 0⟩ })).leaderOf 0 := by decide +kernel

/-- The live projector of a SHOWING house, the starting one in its leader, and an incoming that runs, with a group whose gap
has no frame yet. -/
theorem witness_ReaderFollowsTheTabs_inShow :
    (let s := wRd showing (fun x => { x with state := .gap, group := some ⟨140, 4, none, 3, 0⟩ })
     (s.tr 0).state = .running ∧ (s.rd 0).queue.length ≤ 8 ∧ s.recordInShow 0 ∧ s.timesLearned 0 ∧ s.timesLearned 1 ∧
      (s.hs 0).change.map s.crossingDone ≠ some true ∧
      (s.hs 0).state = .showing ∧ s.liveProj 0 = some 0 ∧ (s.hs 0).retiring = none ∧
      s.heldEntry 0 = some (reel 1 .a .showing) ∧ (s.rd 0).queue = [] ∧ (s.rd 0).held = [] ∧
      (s.rd 0).group = some ⟨140, 4, none, 3, 0⟩) ∧
    (∀ n ∈ [50, 98], let w := wHs showing (fun x => { x with state := .starting, startingSide := some .a, liveSide := none })
      let s := wRd (wTr w (fun x => { x with
        counter := n
        state := if n = 50 then .starting else .running })) (fun x => { x with state := .hunt })
      (s.hs 0).state.inShow = true ∧ s.recordInShow 0 ∧ s.liveProj 0 ≠ some 0 ∧ (s.hs 0).retiring = none ∧
      (s.tr 0).counter + 1 < s.leaderOf 0 ∧ (s.rd 0).state = .hunt ∧ (s.rd 0).queue = []) ∧
    (let s := wTr2 showing (fun x => { x with state := .running, lastPulse := some 0 })
     (s.tr 1).state = .running ∧ (s.hs 0).state.inShow = true ∧ s.liveProj 0 ≠ some 1 ∧ (s.hs 0).retiring = none ∧
      (s.hs 0).state ≠ .starting) := by decide +kernel

/-! ## Witnesses: dousers and the sound gate -/

/-- A travel in each direction, full and not; a STUCK douser; a gated one; a limit at its instant and one tenth before. -/
theorem witness_DouserFollowsItsSwitches :
    (∀ b : Bool, let s := wDs R (fun x => { x with state := .opening, travel := some ⟨.opens, 0, b, 600⟩ })
      s.atRest 0 ∧ (s.ds 0).trial = none ∧ (s.ds 0).travel = some ⟨.opens, 0, b, 600⟩ ∧ (s.ds 0).state = .opening ∧
        (s.ds (otherProj 0)).state ≠ .opened) ∧
    (∀ b : Bool, let s := wDs2 (wDs R (fun x => { x with state := .closing, travel := some ⟨.closes, 0, b, 600⟩ })) (fun x => { x with
        state := .opened })
      s.atRest 0 ∧ (s.ds 0).travel = some ⟨.closes, 0, b, 600⟩ ∧ (s.ds 0).state = .closing ∧
        (s.ds (otherProj 0)).state = .opened ∧ 0 + 10 * 600 ≤ s.now + 6000 ∧ s.now + 5999 < 0 + 10 * 600) ∧
    R.houseAtRest (houseOf 0) ∧ (R.ds 0).state = .closed ∧ (R.lp 0).state = .off ∧
    ((wDs R (fun x => { x with state := .stuck })).ds 0).drive = .closes ∧
    (let s := wDs (wHs showing (fun x => { x with state := .hold, change := none })) (fun x => { x with state := .stuck })
     s.houseAtRest (houseOf 0) ∧ (s.ds 0).state = .stuck ∧ (s.ds 0).drive = .opens ∧ s.gating 0 = true ∧
      (s.ds (otherProj 0)).state ≠ .opened) ∧
    (let s := wDs (wLp R (fun x => { x with state := .burning })) (fun x => { x with
        state := .closing
        travel := some ⟨.closes, 0, true, 572⟩ })
     s.houseAtRest (houseOf 0) ∧ (s.ds 0).trial = none ∧ (s.lp 0).state ≠ .off ∧ (s.tr 0).state ≠ .running ∧
      0 + 10 * 572 ≤ s.now + 5720) := by decide +kernel

/-- A douser in each state whose blade stands at a switch or leaves it. -/
theorem witness_DouserFollowsItsSwitches_ignored : ∀ st ∈ [DouserState.opened, .closing, .closed, .opening],
    ((wDs R (fun x => { x with state := st })).ds 0).state = st := by decide

/-- The incoming's opening in a crossing, with the outgoing OPEN; the live one's at the beginning of the picture. -/
theorem witness_DouserFollowsItsSwitches_inShow :
    let y := { toB .crossing with crossing := some { crossed with openGiven := true } }
    let s := wDs2 (wHs showing (fun x => { x with change := some y })) (fun x => { x with
      state := .opening
      travel := some ⟨.opens, 0, true, 600⟩ })
    let w := wDs showing (fun x => { x with state := .opening, travel := some ⟨.opens, 0, false, 600⟩ })
    (s.hs 0).state ≠ .starting ∧ (s.hs 0).change = some y ∧ y.incoming = 1 ∧ (s.ds 1).trial = none ∧
      (s.ds 1).state = .opening ∧ (s.ds 1).travel = some ⟨.opens, 0, true, 600⟩ ∧ (30 : Nat) = (s.now + 302 - 0) / 10 ∧
      (s.ds (otherProj 1)).state = .opened ∧
      (w.hs 0).change = none ∧ (w.ds 0).state = .opening ∧ (w.ds 0).trial = none := by decide +kernel

/-- A douser that may go on trial, its pause in each position, its first and its last travel. -/
theorem witness_DouserTrialRunsItsTravels : R.linkReady ∧ (R.lp 0).state = .off ∧ (R.tr 0).state = .stopped ∧
    R.houseAtRest (houseOf 0) ∧ (1 : Byte).toNat = (0 : Proj).val + 1 ∧ (R.ds 0).state = .closed ∧ (R.ds 0).trial = none ∧
    (R.ds (otherProj 0)).trial = none ∧ R.booth.covers (projPort 0) = false ∧
    (∀ st ∈ [DouserState.closed, .opened], ((wDs R (fun x => { x with state := st, trial := some ⟨1, .pause, some 5000⟩ })).ds
      0).state = st) ∧
    (∀ n ∈ [0, 6, 7], let s := wDs R (fun x => { x with
        state := .closing
        travel := some ⟨.closes, 0, true, 600⟩
        trial := some ⟨n, .travel, none⟩ })
      (s.ds 0).trial = some ⟨n, .travel, none⟩ ∧ (s.ds 0).travel = some ⟨.closes, 0, true, 600⟩ ∧
        (s.ds 0).state = .closing) := by decide +kernel

/-- A full travel of a trial each way, its first and its seventh. -/
theorem witness_DouserTrialRunsItsTravels_teach : ∀ n ∈ [0, 6], ∀ d ∈ [(DouserState.opening, DriveDir.opens), (.closing, .closes)],
    let s := wDs R (fun x => { x with state := d.1, travel := some ⟨d.2, 0, true, 600⟩, trial := some ⟨n, .travel, none⟩ })
    (s.lp 0).state = .off ∧ (s.tr 0).state = .stopped ∧ s.houseAtRest (houseOf 0) ∧
      (s.ds 0).trial = some ⟨n, .travel, none⟩ ∧ (s.ds 0).travel = some ⟨d.2, 0, true, 600⟩ ∧ (s.ds 0).state = d.1 ∧
      (s.ds (otherProj 0)).state ≠ .opened ∧ (40 : Nat) = max 40 (min 1200 ((s.now + 300 - 0) / 10)) := by decide +kernel

/-- A trial at its travel limit; one whose port is DOWN, whose projector is EMPTY, and whose house can start on the other. -/
theorem witness_DouserTrialRunsItsTravels_early :
    (let s := wDs R (fun x => { x with
        state := .opening
        drive := .opens
        travel := some ⟨.opens, 0, true, 600⟩
        trial := some ⟨2, .travel, none⟩ })
     (s.ds 0).trial = some ⟨2, .travel, none⟩ ∧ (s.lp 0).state = .off ∧ (s.tr 0).state = .stopped ∧ s.houseAtRest 0 ∧
      0 + 10 * 600 ≤ s.now + 6000 ∧ s.linkReady ∧ s.link.transmitter ≠ .idle ∧ (1 : Byte).toNat = (0 : Proj).val + 1 ∧
      (s.ds 0).state ≠ .stuck ∧ (s.pt (projPort 0)).state = .down ∧ s.booth.log.length < 16 ∧
      (∀ d ∈ s.booth.log, d.seq ≠ s.booth.nextSeq) ∧ (∀ n, (s.pt n).link = none) ∧ (s.hs 0).state.inShow = false ∧
      (s.tr 0).armed = none ∧ s.booth.stopsMotors 0 = false) ∧
    (let s := wDs (wLp (wTr (wHs showing (fun x => { x with
          state := .ready
          gate := .none
          plan := [reel 2 .b .armed] })) (fun _ => Transport.powerOn)) (fun x => { x with state := .off }))
        (fun x => { x with
          state := .opening
          travel := some ⟨.opens, 0, true, 600⟩
          trial := some ⟨2, .travel, none⟩ })
     s.linkReady ∧ s.link.transmitter ≠ .idle ∧ (s.hs 0).state = .ready ∧ (s.ds 0).trial ≠ none ∧ (s.lp 0).state = .off ∧
      (s.tr 0).state = .stopped ∧ (s.hs 0).plan.find? (fun x => x.status ≠ .finished) = some (reel 2 .b .armed) ∧
      projAt 0 (reel 2 .b .armed).side = otherProj 0 ∧
      (s.tr (otherProj 0)).armed.map (fun a => (a.house, a.reel)) = some (0, 2) ∧ s.ready (otherProj 0) = true ∧
      (s.ds (otherProj 0)).trial = none ∧ (s.ds 0).state ≠ .stuck) := by decide +kernel

/-- A trial in PAUSE at a travel limit. -/
theorem witness_DouserTrialRunsItsTravels_pause :
    let s := wDs R (fun x => { x with
      state := .closing
      travel := some ⟨.closes, 0, true, 600⟩
      trial := some ⟨1, .pause, some 9000⟩ })
    (s.ds 0).trial = some ⟨1, .pause, some 9000⟩ ∧ (s.lp 0).state = .off ∧ (s.tr 0).state = .stopped ∧
      s.houseAtRest (houseOf 0) ∧ (s.ds 0).state = .closing ∧ (s.ds 0).travel = some ⟨.closes, 0, true, 600⟩ ∧
      0 + 10 * 600 ≤ s.now + 6000 := by decide +kernel

/-- A house SHOWING with its douser OPEN, a record in LOCKED and two reels, and a command's next state. -/
theorem witness_GatingAndShowLawsAreKept :
    let s := wHs showing (fun x => { x with change := some (toB .locked) })
    (∀ p, (s.lp p).phased) ∧ (∀ p, ((s.ds p).state = .opened ∨ (s.ds p).state = .opening) → s.gating p = true) ∧
      (s.ds 0).state = .opened ∧ (∀ h, s.recordInShow h) ∧ (s.hs 0).change ≠ none ∧ (∀ h, s.distinctReels h) ∧
      (∀ p, s.armedAtHome p) ∧ (s.tr 0).armed ≠ none ∧ (∀ p, s.timesLearned p) ∧
      ∃ t, exec (.breakDeadline 1042 0) s = .next t := by
  have home : ∀ p, ((wHs showing (fun x => { x with change := some (toB .locked) })).tr p).armed.all
      (fun a => decide (a.house = houseOf p)) = true := by decide +kernel
  refine ⟨by decide +kernel, by decide +kernel, by decide +kernel, by decide +kernel, by decide +kernel, by decide +kernel,
    fun p a h => ?_, by decide +kernel, by decide +kernel, _, rfl⟩
  have := home p
  rw [h] at this
  exact of_decide_eq_true this

/-- A house SHOWING with its sound on side A, and a command's next state. -/
theorem witness_OneOpenDouserAndSoundLawsAreKept :
    (∀ p, ¬ ((showing.ds p).state = .opened ∧ (showing.ds (otherProj p)).state = .opened)) ∧
    (∀ p, (showing.hs (houseOf p)).gate = .side (sideOf p) → (showing.tr p).state = .running) ∧
    ∃ t, exec (.breakDeadline 1042 0) showing = .next t := ⟨by decide +kernel, by decide +kernel, _, rfl⟩

/-! ## Witnesses: the carbon arc and the burn account -/

/-- Each refusal of STRIKE, an account of 400, and a lamp in its supply phase. -/
theorem witness_StrikeBeginsAndWaitsForTheSupply : R.linkReady ∧ (1 : Byte).toNat = (0 : Proj).val + 1 ∧
    (showing.lp 0).state ≠ .off ∧ (R.lp 0).state = .off ∧ (R.ds 0).trial = none ∧ (R.lp 0).account < 400 ∧
    400 ≤ ((wLp R (fun x => { x with account := 400 })).lp 0).account ∧
    (wBo R (fun x => { x with grade := .hot })).booth.grade = .hot ∧ R.booth.grade = .normal ∧
    (wBo R (fun x => { x with emergency := true })).booth.covers (projPort 0) = true ∧
    R.booth.covers (projPort 0) = false ∧ (R.ds 0).state ≠ .stuck ∧
    (let s := wLp R (fun x => x.struckAt 0)
     (s.lp 0).state = .striking ∧ (s.lp 0).phase = some .supply ∧ (s.lp 0).phaseStart = some 0 ∧
      (s.lp 0).outstanding = none ∧ (s.lp 0).lastSend = none ∧ (s.lp 0).burst = none ∧ s.atRest 0 ∧
      0 + 20000 ≤ s.now + 20000 ∧ s.now + 19999 < 0 + 20000) := by decide +kernel

/-- A later strike, 50 ms and one tenth less after the lamp's last send. -/
theorem witness_StrikeBeginsAndWaitsForTheSupply_later :
    let s := wLp R (fun x => { x with lastSend := some 0 }.struckAt 0)
    (s.lp 0).state = .striking ∧ (s.lp 0).phase = some .supply ∧ (s.lp 0).phaseStart = some 0 ∧
      (s.lp 0).outstanding = none ∧ (s.lp 0).burst = none ∧ (s.lp 0).lastSend = some 0 ∧ 0 + 500 ≤ s.now + 500 ∧
      s.now + 499 < 0 + 500 := by decide +kernel

/-- An OFF lamp, and one that burns, settles or is being struck. -/
theorem witness_ExtinguishStopsTheLamp : R.linkReady ∧ (1 : Byte).toNat = (0 : Proj).val + 1 ∧ (R.lp 0).state = .off ∧
    (∀ st ∈ [LampState.striking, .settling, .burning], (wLp R (fun x => { x with state := st })).atRest 0 ∧
      ((wLp R (fun x => { x with state := st })).lp 0).state ≠ .off) ∧
    (∀ k ∈ [0, 1, 2], let s := wLp R (fun x => { x with state := .burning, burst := some ⟨2, k, k⟩ })
      s.linkReady ∧ s.atRest 0 ∧ (s.lp 0).burst = some ⟨2, k, k⟩ ∧ s.link.transmitter ≠ .idle) := by decide +kernel

/-- A phase or a burst with a pulse to send, at 50 ms and one tenth before and with none sent yet; a pulse outstanding 150 ms. -/
theorem witness_FeedPulsesAreSpacedAndStall :
    (∀ ph ∈ [none, some StrikePhase.sweep, some .draw, some .supply], ∀ k ∈ [0, 1, 2], ∀ last ∈ [none, some 0],
      let s := wLp R (fun x => { x with
        state := .striking
        phase := ph
        lastSend := last
        burst := if ph = none then some ⟨2, k, 0⟩ else none })
      (s.lp 0).lastSend = last ∧ (s.lp 0).phase = ph ∧ (s.lp 0).outstanding = none ∧ 0 + 500 ≤ s.now + 500 ∧
        s.now + 499 < 0 + 500) ∧
    (∀ ph ∈ [none, some StrikePhase.sweep, some .draw], ∀ k ∈ [0, 1, 2],
      let s := wLp R (fun x => { x with
        state := .striking
        phase := ph
        outstanding := some ⟨.forward, 0⟩
        burst := some ⟨2, 1, 0⟩
        stalls := k })
      s.atRest 0 ∧ (s.lp 0).outstanding = some ⟨.forward, 0⟩ ∧ (s.lp 0).stalls = k ∧ 0 + 1500 ≤ s.now + 1500 ∧
        s.now + 1499 < 0 + 1500) ∧
    (∀ st ∈ [LampState.settling, .burning], ∀ used : Bool,
      let s := wLp R (fun x => { x with
        state := st
        outstanding := some ⟨.forward, 0⟩
        burst := some ⟨2, 1, 0⟩
        stalls := 2
        restrikeUsed := used })
      s.atRest 0 ∧ (s.lp 0).outstanding = some ⟨.forward, 0⟩ ∧ 0 + 1500 ≤ s.now + 1500 ∧ (s.lp 0).phase = none ∧
        (s.lp 0).burst = some ⟨2, 1, 0⟩ ∧ (s.lp 0).stalls = 2 ∧ (s.lp 0).state = st) := by decide +kernel

/-- R63, R66: the third stalled burst of a restrike's settling is reported with FEED STALL, SHORT FEED and STRIKE FAIL. -/
theorem test_feedStall_of_a_restrike : nextIs (exec (.feedStall 1500 0) (wLp R (fun x => { x with
    state := .settling
    outstanding := some ⟨.forward, 0⟩
    burst := some ⟨6, 1, 0⟩
    stalls := 2
    restrikeUsed := true }))) (fun t => t.link.queue.map (fun x => x.body) =
      [.feedStall .burst 6 0 3, .shortFeed 6 0 .stall, .strikeFail .feed 0 0] ∧ (t.lp 0).stop = some .feed) = true := by
  decide +kernel

/-- An outstanding pulse of each direction at 150 ms and after, the counts and the account at their boundaries. -/
theorem witness_FeedSenseConfirmsThePulse : (R.lp 0).outstanding = none ∧
    (∀ dir ∈ [FeedDir.forward, .reverse], ∀ ph ∈ [none, some StrikePhase.sweep, some .draw], ∀ a ∈ [301, 302],
      ∀ k ∈ [0, 10, 11, 38, 39],
      let s := wLp R (fun x => { x with
        state := .striking
        phase := ph
        outstanding := some ⟨dir, 0⟩
        account := a
        sweepPulses := k
        drawPulses := k
        burst := some ⟨2, 2, min k 1⟩ })
      s.atRest 0 ∧ (s.lp 0).outstanding = some ⟨dir, 0⟩ ∧ s.now + 1500 ≤ 0 + 1500 ∧ 0 + 1500 < s.now + 1501 ∧
        (s.lp 0).account = a ∧ (s.lp 0).phase = ph ∧ (s.lp 0).sweepPulses = k) ∧
    (∀ st ∈ [LampState.settling, .burning], ∀ used : Bool, ∀ k ∈ [0, 1],
      let s := wLp R (fun x => { x with
        state := st
        outstanding := some ⟨.forward, 0⟩
        account := 301
        burst := some ⟨2, 2, k⟩
        restrikeUsed := used })
      s.atRest 0 ∧ (s.lp 0).outstanding = some ⟨.forward, 0⟩ ∧ s.now + 1500 ≤ 0 + 1500 ∧ (s.lp 0).account ≤ 301 ∧
        (s.lp 0).phase = none ∧ (s.lp 0).burst = some ⟨2, 2, k⟩ ∧ (k = 0 → k + 1 < 2) ∧ (k = 1 → 2 ≤ k + 1)) := by
  decide +kernel

/-- A SETTLING lamp at 10 s and one tenth before; a BURNING one with a band episode at 5 s, unreported and reported. -/
theorem witness_BurningLampIsWatched :
    (let s := wLp R (fun x => { x with state := .settling, settleStart := some 0 })
     s.atRest 0 ∧ (s.lp 0).state = .settling ∧ (s.lp 0).settleStart = some 0 ∧ 0 + 100000 ≤ s.now + 100000 ∧
      s.now + 99999 < 0 + 100000) ∧
    (∀ b : Bool, let s := wLp R (fun x => { x with state := .burning, band := some ⟨0, b⟩ })
      (s.lp 0).state = .burning ∧ (s.lp 0).band = some ⟨0, b⟩ ∧ 0 + 50000 ≤ s.now + 50000 ∧ s.now + 49999 < 0 + 50000) ∧
    ((wLp R (fun x => { x with state := .burning })).lp 0).band = none := by decide +kernel

/-- Five samples whose mean is 559 or 560 at the set point 550, the last send 50 ms back or none; fewer samples; a blank-out
with the five and with none; and a reader in a group. -/
theorem witness_BurstFollowsTheMeanVoltage :
    (∀ v ∈ [555, 558], ∀ u ∈ [none, some 500], let l := [560, 560, 560, 560, v]
      let s := wLp R (fun x => { x with
        state := .burning
        samples := [500, 560, 560, 560, 560]
        lastSend := u
        nextSample := some 1000 })
      (s.lp 0).state = .burning ∧ (s.lp 0).phase = none ∧ (s.lp 0).outstanding = none ∧ (s.lp 0).lastSend = u ∧
        500 + 500 ≤ s.now + 1000 ∧ (s.lp 0).burst = none ∧ (s.lp 0).nextSample = some 1000 ∧
        (s.lp 0).samples.length = 5 ∧ l = (s.lp 0).samples.drop 1 ++ [v] ∧ s.now + 999 < 1000 ∧ 1000 ≤ s.now + 1000 ∧
        (s.lp 0).voltage = 550 ∧ (s.lp 0).blankEnd = none ∧ (s.rd 0).assembling = false) ∧
    ((560 * 4 + 555 + 2) / 5 < 550 + 10 ∧ 550 + 10 ≤ (560 * 4 + 558 + 2) / 5) ∧
    ((wRd R (fun x => { x with state := .gap })).rd 0).assembling = true ∧
    (∀ l ∈ [[], [551, 570, 552, 561, 566]], let s := wLp R (fun x => { x with
        state := .settling
        samples := l
        lastSend := some 0
        blankEnd := some 1000 })
      (s.lp 0).state = .settling ∧ (s.lp 0).phase = none ∧ (s.lp 0).outstanding = none ∧ (s.lp 0).burst = none ∧
        (s.lp 0).samples = l ∧ (s.lp 0).blankEnd = some 1000 ∧ 0 + 500 ≤ s.now + 1000 ∧
        (l = [] ∨ 550 + 10 ≤ (l.sum + 2) / 5)) := by decide +kernel

/-- A lit lamp 200 ms and one tenth less below 10 A, with and without what a restrike asks for. -/
theorem witness_ArcOutRestrikesOrStops : ∀ st ∈ [LampState.settling, .burning], ∀ b : Bool,
    let s := wLp R (fun x => { x with state := st, lowStart := some 0, autostrike := b, account := 400 })
    s.atRest 0 ∧ (s.lp 0).state = st ∧ (s.lp 0).lowStart = some 0 ∧ s.now + 1999 < 0 + 2000 ∧ 0 + 2000 ≤ s.now + 2000 ∧
      (s.lp 0).autostrike = b ∧ (s.lp 0).restrikeUsed = false ∧ 400 ≤ (s.lp 0).account ∧ s.booth.grade = .normal ∧
      s.booth.covers (projPort 0) = false := by decide +kernel

/-- Set points at and beyond their clamps, and a length at its clamp, of an OFF lamp and of a burning one. -/
theorem witness_LampSettingsTakeEffect : R.linkReady ∧ (1 : Byte).toNat = (0 : Proj).val + 1 ∧
    R.houseAtRest (houseOf 0) ∧ (60 : Nat) = max 40 (min 90 (60 : Byte).toNat) ∧ (60 : Nat) = (R.lp 0).current ∧
    (40 : Nat) = max 40 (min 90 (0 : Byte).toNat) ∧ (40 : Nat) ≠ (R.lp 0).current ∧
    (700 : Nat) = max 450 (min 700 (701 : BitVec 16).toNat) ∧ (4500 : Nat) = max 50 (min 450 (451 : BitVec 16).toNat) * 10 ∧
    (R.lp 0).state = .off ∧ (showing.lp 0).state ≠ .off := by decide +kernel

/-- A lamp that is OFF in a house in a show, its record waiting for it, waiting for the other projector, or running up. -/
theorem witness_LampSettingsTakeEffect_inShow : ∀ ph ∈ [ChangePhase.waitReady, .delay, .runup, .locked], ∀ q ∈ [(0 : Proj), 1],
    let y := { toB ph with incoming := q }
    let s := wLp (wDs2 (wHs showing (fun x => { x with change := some y })) (fun x => { x with state := .opening })) (fun x =>
      { x with state := .off })
    s.linkReady ∧ (1 : Byte).toNat = (0 : Proj).val + 1 ∧ (s.lp 0).state = .off ∧ (s.hs (houseOf 0)).state ≠ .starting ∧
      (s.hs (houseOf 0)).change = some y ∧ (q = 1 → s.readyToFollow (houseOf 0) y.incoming = false) := by decide +kernel

/-- A minute at 60 s and one tenth before, with a rate that changes and one that stays. -/
theorem witness_MinuteFiltersTheBurnRate : ∀ k ∈ [72, 80],
    let s := wLp R (fun x => { x with state := .burning, minute := some ⟨0, k⟩ })
    s.houseAtRest (houseOf 0) ∧ (s.lp 0).state = .burning ∧ (s.lp 0).minute = some ⟨0, k⟩ ∧
      (if k = 72 then 72 else 73) = min 255 ((7 * (s.lp 0).rate + k + 4) / 8) ∧ s.now + 599999 < 0 + 600000 ∧
      0 + 600000 ≤ s.now + 600000 := by decide +kernel

/-- The live lamp of a SHOWING house, short of carbon, with no record and with one whose incoming runs up: CARBON LOW. -/
theorem witness_MinuteFiltersTheBurnRate_carbonLow : ∀ y ∈ [none, some (toB .runup)],
    let s := wLp (wHs showing (fun x => { x with change := y })) (fun x => { x with
      account := 301
      rate := 72
      minute := some ⟨0, 80⟩ })
    (s.hs (houseOf 0)).state ≠ .starting ∧ (s.hs (houseOf 0)).change = y ∧ (toB .runup).incoming ≠ 0 ∧
      (s.lp 0).state = .burning ∧ (s.lp 0).minute = some ⟨0, 80⟩ ∧ (73 : Nat) = min 255 ((7 * 72 + 80 + 4) / 8) ∧
      0 + 600000 ≤ s.now + 600000 ∧ s.heldEntry 0 = some (reel 1 .a .showing) ∧
      (reel 1 .a .showing).status = .showing ∧ (s.lp 0).carbonLow = false ∧
      nextIs (exec (.minuteEnd 600000 0) s) (fun t => (t.lp 0).carbonLow &&
        decide ((t.lp 0).sufficiency = some ⟨false, 318, 350⟩)) = true := by decide +kernel

/-- A burning lamp above the stub, and a command's next state. -/
theorem witness_StubAndPhaseLawsAreKept : (∀ p, (showing.lp p).phased) ∧
    (∀ p, (showing.lp p).state ≠ .off → 300 < (showing.lp p).account) ∧
    ∃ t, exec (.breakDeadline 1042 0) showing = .next t := ⟨by decide +kernel, by decide +kernel, _, rfl⟩

/-! ## Witnesses: show programs -/

/-- An entry at the boundaries of its ranges for an IDLE house; a house in a show, and one at rest. -/
theorem witness_PlanIsBuiltAndCleared : R.linkReady ∧ (1 : Byte).toNat = (0 : HouseId).val + 1 ∧ (R.hs 0).state = .idle ∧
    (let e : ReelSpec := ⟨99, 1, 960, 48000, 48959, 48960, false, List.replicate 4 ⟨.start, 0, 1001, 601⟩⟩
     e.side.toNat = 1 ∧ 1 ≤ e.reel.toNat ∧ e.reel.toNat ≤ 99 ∧ e.leader.toNat ≤ 960 ∧ 1 ≤ e.picture.toNat ∧
      e.picture.toNat ≤ 48000 ∧ e.cues.length ≤ 4 ∧ e.motorFrame.toNat < e.changeFrame.toNat ∧
      e.changeFrame.toNat ≤ e.leader.toNat + e.picture.toNat) ∧
    (R.hs 0).plan.length < 12 ∧ (∀ x ∈ (R.hs 0).plan, x.reel ≠ 99 ∧ x.last = false) ∧
    (showing.hs 0).state.inShow = true ∧ (showing.tr 0).armed ≠ none ∧ (showing.tr 0).state ≠ .stopped ∧
    (let s := wHs (wTr R (fun x => { x with armed := some ⟨0, 1, 0⟩ })) (fun x => { x with
        state := .ready
        plan := [reel 1 .a .armed] })
     s.houseAtRest 0 ∧ (∀ p, houseOf p = 0 → (s.tr p).armed ≠ none →
        (s.tr p).state = .stopped ∧ (s.tr p).armed.map (fun a => a.house) = some 0)) := by decide +kernel

/-- An entry that can be armed, in its leader and past it; a projector that moves, shows, or can be unarmed. -/
theorem witness_ReelsAreArmedAndUnarmed :
    (let s := wHs R (fun x => { x with state := .ready, plan := [reel 1 .a .pending] })
     s.linkReady ∧ (1 : Byte).toNat = (0 : Proj).val + 1 ∧ s.houseAtRest (houseOf 0) ∧ (s.hs (houseOf 0)).state ≠ .idle ∧
      (s.tr 0).armed = none ∧ (s.tr 0).state = .stopped ∧
      findReel (s.hs (houseOf 0)).plan (1 : Byte).toNat = some (reel 1 .a .pending) ∧
      (reel 1 .a .pending).side = sideOf 0 ∧ (499 : BitVec 16).toNat < 100 + 400 ∧ s.link.transmitter ≠ .idle ∧
      nextIs (exec (.armReel 0 1 1 none) (wLp s (fun l => { l with account := 301 }))) (fun t =>
        (t.lp 0).sufficiency.map (fun x => x.sufficient) = some false) = true ∧
      nextIs (exec (.armReel 0 1 1 none) (wLp s (fun l => { l with account := 4500 }))) (fun t =>
        (t.lp 0).sufficiency.map (fun x => x.sufficient) = some true) = true) ∧
    (showing.tr 0).state = .running ∧ showing.heldEntry 0 = some (reel 1 .a .showing) ∧
    (∀ st ∈ [TransportState.stopped, .broken],
      let s := wHs (wTr R (fun x => { x with armed := some ⟨0, 1, 0⟩, state := st })) (fun x => { x with
        state := .ready
        plan := [reel 1 .a .armed] })
      (s.tr 0).state = st ∧ s.atRest 0 ∧ s.heldEntry 0 = some (reel 1 .a .armed) ∧
        (reel 1 .a .armed).status ≠ .showing) := by decide +kernel

/-- An IDLE house, and a READY one whose next entry's projector is READY. -/
theorem witness_StartStartsTheNextReel : (R.hs 0).state ≠ .ready ∧ (R.hs 0).state ≠ .hold ∧
    (let s := wHs showing (fun x => { x with state := .ready, plan := [reel 2 .b .armed] })
     s.linkReady ∧ (1 : Byte).toNat = (0 : HouseId).val + 1 ∧ (s.hs 0).state = .ready ∧
      (s.hs 0).plan.find? (fun x => x.status ≠ .finished) = some (reel 2 .b .armed) ∧
      (s.tr (projAt 0 .b)).armed.map (fun a => (a.house, a.reel)) = some (0, 2) ∧
      (s.tr (projAt 0 .b)).state = .stopped ∧ (s.lp (projAt 0 .b)).state = .burning ∧
      (s.lp (projAt 0 .b)).sufficiency.map (fun x => x.sufficient) = some true ∧
      (s.pt (projPort (projAt 0 .b))).state = .held ∧ (s.ds (projAt 0 .b)).state = .closed) := by decide +kernel

/-- A READY house with no entry left, and one whose next entry is not armed. -/
theorem witness_StartStartsTheNextReel_notReady : (∀ l ∈ [[], [reel 1 .a .finished]],
    let s := wHs R (fun x => { x with state := .ready, plan := l })
    s.linkReady ∧ (1 : Byte).toNat = (0 : HouseId).val + 1 ∧ (s.hs 0).state = .ready ∧
      (∀ x ∈ (s.hs 0).plan, x.status = .finished)) ∧
    (let s := wHs R (fun x => { x with state := .ready, plan := [reel 1 .a .pending] })
     let f : ReadyFailures := ⟨true, false, true, true, true, false⟩
     (s.hs 0).plan.find? (fun x => x.status ≠ .finished) = some (reel 1 .a .pending) ∧ projAt 0 .a = 0 ∧
      (reel 1 .a .pending).status ≠ .armed ∧ f.entryArmed = true ∧
      (f.stopped = false ∧ (s.tr 0).state = .stopped) ∧ (f.burning = true ∧ (s.lp 0).state ≠ .burning) ∧
      (f.sufficient = true ∧ (s.lp 0).sufficiency = none) ∧ (f.portHeld = true ∧ (s.pt (projPort 0)).state ≠ .held) ∧
      (f.douserClosed = false ∧ (s.ds 0).state = .closed) ∧ f ≠ ⟨false, false, false, false, false, false⟩) := by
  decide +kernel

/-- A house in each state of a show, and a house in none. -/
theorem witness_HoldStopsTheShow : (∀ st ∈ [HouseState.starting, .showing, .ending],
    let s := wRd (wHs showing (fun x => { x with state := st })) (fun x => { x with
      state := .gap
      group := some ⟨140, 1, none, 3, 0⟩
      held := [⟨.motor, 145, .counted, none⟩] })
    (s.hs 0).state.inShow = true ∧ (∀ p, houseOf p = 0 → (s.ds p).state ≠ .stuck) ∧ (s.hs 0).retiring = none ∧
      (s.hs 0).change = none ∧ (1 : Byte).toNat = (0 : HouseId).val + 1 ∧ s.linkReady ∧ (s.tr 0).state = .running ∧
      (s.rd 0).assembling = true ∧ (s.rd 0).queue.length ≤ 8) ∧
    (R.hs 0).state.inShow = false ∧ R.linkReady := by decide +kernel

/-- Levels at and beyond the clamp. -/
theorem witness_SetHouseLevelsPutsThemInForce : R.linkReady ∧ (1 : Byte).toNat = (0 : HouseId).val + 1 ∧
    (⟨0, 1000, 1000, 999⟩ : HouseLevels) = ⟨min 1000 (0 : BitVec 16).toNat, min 1000 (1000 : BitVec 16).toNat,
      min 1000 (1001 : BitVec 16).toNat, min 1000 (999 : BitVec 16).toNat⟩ := by decide

/-- A house in a show at its HOLD button and at a break, a STARTING one at a break, and a reel one frame before its tail. -/
theorem witness_SetHouseLevelsPutsThemInForce_given : R.linkReady ∧ 4 < (5 : Byte).toNat ∧
    (showing.hs 0).state.inShow = true ∧ (showing.tr 0).state = .running ∧ (showing.tr 0).lastPulse = some 0 ∧
    25000 ≤ (showing.now + 1042 - 0) * showing.speedOf 0 ∧ (showing.hs 0).liveSide = some (sideOf 0) ∧
    (showing.hs 0).change = none ∧ (showing.rd 0).assembling = false ∧
    (let s := wHs showing (fun x => { x with state := .starting, startingSide := some .a, liveSide := none })
     (s.hs 0).state = .starting ∧ s.recordInShow 0 ∧ (s.hs 0).startingSide = some (sideOf 0)) ∧
    (let s := wTr showing (fun x => { x with counter := 499 })
     s.heldEntry 0 = some (reel 1 .a .showing) ∧ (reel 1 .a .showing).last = false ∧
      (s.tr 0).armed.map (fun a => a.house) = some 0 ∧ (s.hs 0).retiring.map (fun x => x.projector) ≠ some 0 ∧
      100 + 400 ≤ (s.tr 0).counter + 1 ∧ (s.rd 0).state = .watch ∧ (s.rd 0).queue = [] ∧
      (0 : Byte).toNat < (s.rd 0).threshold) := by decide +kernel

/-- The starting projector, its reader in HUNT, one frame before its leader and one before its tail, RUNNING and at the
eighth interval of its lock. -/
theorem witness_PictureBeginsAtTheLeader : ∀ n ∈ [99, 498], ∀ st ∈ [TransportState.starting, .running],
    let s := wRd (wDs (wTr (wHs showing (fun x => { x with
        state := .starting
        startingSide := some .a
        liveSide := none
        plan := [reel 1 .a .armed] })) (fun x => { x with counter := n, state := st, lockCount := 7 })) (fun x =>
        { x with state := .closed })) (fun x => { x with state := .hunt })
    (s.hs 0).state = .starting ∧ (s.hs 0).startingSide = some (sideOf 0) ∧ (s.hs 0).change = none ∧
      (s.hs 0).retiring = none ∧ (s.hs 0).runoutCount = none ∧ s.distinctReels 0 ∧ (s.tr 0).state = st ∧ (s.tr 0).lockCount = 7 ∧
      9800 ≤ (s.now + 417 - 0) * s.speedOf 0 ∧ (s.now + 417 - 0) * s.speedOf 0 ≤ 10200 ∧
      (s.tr 0).lastPulse = some 0 ∧ (s.tr 0).armed.map (fun a => a.house) = some 0 ∧
      s.heldEntry 0 = some (reel 1 .a .armed) ∧ 100 ≤ (s.tr 0).counter + 1 ∧ (s.tr 0).counter + 1 < 100 + 400 ∧
      (s.rd 0).state = .hunt ∧ (s.rd 0).queue = [] ∧ (0 : Byte).toNat < (s.rd 0).threshold ∧
      (s.ds 0).state = .closed ∧ (s.lp 0).state = .burning ∧ (s.pt (projPort 0)).state = .held := by decide +kernel

/-- The starting projector at its run-up limit, at a break, with a BURNING lamp, a CLOSED douser and a HELD port. -/
theorem witness_PictureBeginsAtTheLeader_abandoned :
    let s := wDs (wHs showing (fun x => { x with
        state := .starting
        startingSide := some .a
        liveSide := none
        gate := .none })) (fun x => { x with state := .closed })
    let v := wTr s (fun x => { x with state := .starting, motorOn := some 0 })
    (s.hs 0).state = .starting ∧ (s.hs 0).startingSide = some (sideOf 0) ∧ (s.hs 0).change = none ∧
      (s.hs 0).retiring = none ∧ (s.hs 0).runoutCount = none ∧ (s.tr 0).state = .running ∧ (s.tr 0).lastPulse = some 0 ∧
      25000 ≤ (s.now + 1042 - 0) * s.speedOf 0 ∧ (v.tr 0).state = .starting ∧ (v.tr 0).motorOn = some 0 ∧
      0 + 60000 ≤ v.now + 60000 ∧ (1 : Byte).toNat = (0 : Proj).val + 1 ∧ s.linkReady ∧ (s.lp 0).state = .burning ∧
      (s.ds 0).state = .closed ∧ (s.pt (projPort 0)).state = .held := by decide +kernel

/-- The live reel one frame before its tail, the last of its plan and not. -/
theorem witness_TailEndsTheShowOrRunsOut : ∀ b : Bool,
    let e := { reel 1 .a .showing with last := b }
    let s := wHs (wTr showing (fun x => { x with counter := 499 })) (fun x => { x with plan := [e] })
    (s.hs 0).state = .showing ∧ (s.hs 0).liveSide = some (sideOf 0) ∧ (s.hs 0).change = none ∧
      (s.hs 0).retiring = none ∧ (s.tr 0).state = .running ∧ (s.tr 0).lastPulse = some 0 ∧
      (s.tr 0).armed.map (fun a => a.house) = some 0 ∧ (s.rd 0).state = .watch ∧ (s.rd 0).queue = [] ∧
      (0 : Byte).toNat < (s.rd 0).threshold ∧ s.heldEntry 0 = some e ∧ e.last = b ∧
      (s.tr 0).counter + 1 = e.leader + e.picture ∧ (s.ds 0).state = .opened ∧ s.distinctReels 0 := by decide +kernel

/-- House 1 ENDING with its last reel on projector 1, the end record as given. -/
def ending (x : EndRecord) (gate : Gate) (st : DouserState) : State :=
  wDs (wHs showing (fun y => { y with
    state := .ending
    ending := some x
    gate := gate
    plan := [{ reel 1 .a .showing with last := true }] })) (fun y => { y with
      state := st
      drive := .closes
      travel := if st = .closing then some ⟨.closes, 0, true, 600⟩ else none })

/-- The end record in DOUSING, with a douser that closes; in RUN-OUT at its first and its last pulses; in STOPPING at the end of
the run-down; and at a break in each phase, the douser still CLOSING or CLOSED. -/
theorem witness_TailEndsTheShowOrRunsOut_ending : let e := { reel 1 .a .showing with last := true }
    (let s := ending ⟨.dousing, 0⟩ (.side .a) .closing
     s.endsReel 0 0 e ⟨.dousing, 0⟩ ∧ (s.ds 0).state = .closing ∧ (s.ds 0).travel = some ⟨.closes, 0, true, 600⟩ ∧
      (s.tr 0).state = .running ∧ 0 + 10 * 600 ≤ s.now + 6000) ∧
    (∀ b : Bool, (wDs (ending ⟨.dousing, 0⟩ (.side .a) .closing) (fun x => { x with
      travel := some ⟨.closes, 0, b, 600⟩ })).endsReel 0 0 e ⟨.dousing, 0⟩) ∧
    (∀ n ∈ [0, 46, 47], let s := ending ⟨.runOut, n⟩ .none .closed
     s.endsReel 0 0 e ⟨.runOut, n⟩ ∧ (s.tr 0).lastPulse = some 0 ∧ (s.tr 0).state = .running ∧ (s.rd 0).state = .watch ∧
      (0 : Byte).toNat < (s.rd 0).threshold ∧ s.noDouserCause 0) ∧
    (let s := wTr (ending ⟨.stopping, 48⟩ .none .closed) (fun x => { x with state := .stopping, stoppingSince := some 10 })
     s.endsReel 0 0 e ⟨.stopping, 48⟩ ∧ (s.tr 0).lastPulse = some 0 ∧ (s.tr 0).state = .stopping ∧
      (s.tr 0).stoppingSince = some 10 ∧ max 10 0 + 5000 ≤ s.now + 5010 ∧ s.noDouserCause 0) ∧
    (∀ ph ∈ [EndPhase.dousing, .runOut, .stopping], ∀ st ∈ [DouserState.closing, .closed],
     let s := ending ⟨ph, 0⟩ (if ph = .dousing then .side .a else .none) st
     s.endsReel 0 0 e ⟨ph, 0⟩ ∧ (s.tr 0).lastPulse = some 0 ∧ (s.tr 0).state = .running ∧ (s.rd 0).assembling = false ∧
      25000 ≤ (s.now + 1042 - 0) * s.speedOf 0 ∧ s.noDouserCause 0) :=
  ⟨by decide +kernel, by decide +kernel, by decide +kernel, by decide +kernel, by decide +kernel⟩

/-- A reel that has run out, at the first and the last of its counted pulses. -/
theorem witness_TailEndsTheShowOrRunsOut_runout : ∀ n ∈ [0, 46, 47],
    let s := wDs (wHs showing (fun x => { x with
        state := .hold
        holdReason := some .runout
        gate := .none
        runoutCount := some n
        plan := [reel 1 .a .interrupted] })) (fun x => { x with state := .closed })
    (s.hs 0).state = .hold ∧ (s.hs 0).liveSide = some (sideOf 0) ∧ (s.hs 0).runoutCount = some n ∧
      (s.hs 0).change = none ∧ (s.hs 0).gate = .none ∧ (s.hs 0).retiring = none ∧ (s.tr 0).state = .running ∧
      (s.tr 0).lastPulse = some 0 ∧ (s.ds 0).state = .closed ∧ (s.rd 0).state = .watch ∧
      (0 : Byte).toNat < (s.rd 0).threshold ∧ s.noDouserCause 0 ∧ (s.rd 0).assembling = false ∧
      25000 ≤ (s.now + 1042 - 0) * s.speedOf 0 := by decide +kernel

/-! ## Witnesses: the changeover -/

/-- The one-tab group of the live reel about to close, with an incoming that is ready to follow. -/
theorem witness_MotorTabAlignsTheStart :
    let e := { reel 1 .a .showing with changeFrame := some 332 }
    let s := wRd (wHs showing (fun x => { x with plan := [e, reel 2 .b .armed] })) (fun x => { x with
      state := .gap
      group := some ⟨140, 1, none, 3, 7⟩ })
    (s.hs 0).state = .showing ∧ (s.hs 0).liveSide = some (sideOf 0) ∧ (s.hs 0).change = none ∧
      (s.hs 0).retiring = none ∧ (s.hs 0).marks.motorTaken = false ∧ (s.tr 0).state = .running ∧
      (s.tr 0).lastPulse = some 0 ∧ (s.rd 0).group = some ⟨140, 1, none, 3, 7⟩ ∧ (s.rd 0).held = [] ∧
      (s.rd 0).queue = [] ∧ (0 : Byte).toNat < (s.rd 0).threshold ∧ s.heldEntry 0 = some e ∧
      (s.tr 0).counter + 1 < 332 + 12 ∧ (s.tr 0).counter + 1 < e.leader + e.picture ∧
      s.heldEntry (otherProj 0) = some (reel 2 .b .armed) ∧ s.readyToFollow 0 (otherProj 0) = true ∧
      (s.hs 0).speed = 24 ∧ (s.tr 1).runUp = 3000 ∧ 100 - (s.tr 1).counter = 40 ∧ 3000 * 24 / 2000 = 36 ∧
      ((332 - 140) * 2000 + 24) / (2 * 24) = 8000 ∧ 3000 + ((40 - 36) * 2000 + 24) / (2 * 24) = 3167 ∧
      min 20000 (8000 - 3167) = 4833 ∧ s.distinctReels 0 ∧ (s.tr 0).armed.map (fun a => a.house) = some 0 := by
  decide +kernel

/-- A group of each count of tabs about to close on the live reel: no record, one in each phase, no following entry, a TAB
light cue, and the last reel. -/
theorem witness_MotorTabAlignsTheStart_tabs :
    (∀ n ∈ [1, 2, 3, 4], let g : TabGroup := ⟨140, n, none, 3, 7⟩
      let s := wRd showing (fun x => { x with state := .gap, group := some g })
      s.showsReel 0 0 (reel 1 .a .showing) ∧ s.distinctReels 0 ∧ (s.rd 0).state = .gap ∧ (s.rd 0).group = some g ∧
        (0 : Byte).toNat < (s.rd 0).threshold ∧ (s.tr 0).outCount < 23 ∧ s.followingEntry 0 ≠ none ∧
        (s.hs 0).change = none ∧ (s.hs 0).marks.changeTaken = false ∧ s.readyToFollow 0 1 = true ∧ (s.ds 1).trial = none ∧
        (wDs2 s (fun x => { x with state := .opening })).readyToFollow 0 1 = false ∧
        (reel 1 .a .showing).last = false ∧ (s.ds 0).state = .opened) ∧
    (∀ ph ∈ [ChangePhase.runup, .locked, .due],
      let s := wHs showing (fun x => { x with change := some (toB ph) })
      s.showsReel 0 0 (reel 1 .a .showing) ∧ s.followingEntry 0 ≠ none ∧ (s.hs 0).change = some (toB ph) ∧
        (toB ph).incoming = 1 ∧ s.shortOfPicture 1) ∧
    (let y := { toB .crossing with crossing := some { crossed with switched := true } }
     let s := wTr2 (wHs showing (fun x => { x with change := some y })) (fun x => { x with state := .running, counter := 150 })
     s.showsReel 0 0 (reel 1 .a .showing) ∧ s.followingEntry 0 ≠ none ∧ (s.hs 0).change = some y ∧ y.incoming = 1 ∧
      y.phase = .crossing ∧ (s.tr 1).state = .running ∧ s.leaderOf 1 ≤ (s.tr 1).counter ∧ s.crossingDone y = false) ∧
    (let s := wHs showing (fun x => { x with plan := [reel 1 .a .showing] })
     s.showsReel 0 0 (reel 1 .a .showing) ∧ s.followingEntry 0 = none) ∧
    (let e := { reel 1 .a .showing with cues := [⟨.tab, 200, 30, false⟩] }
     (wHs showing (fun x => { x with plan := [e] })).showsReel 0 0 e) ∧
    (let e := { reel 1 .a .showing with last := true }
     (wHs showing (fun x => { x with plan := [e] })).showsReel 0 0 e) :=
  ⟨by decide +kernel, by decide +kernel, by decide +kernel, by decide +kernel, by decide +kernel, by decide +kernel⟩

/-- The live counter at the fallback of an expected motor frame, and of an expected change frame with a record in LOCKED. -/
theorem witness_MotorTabAlignsTheStart_counted :
    (let e := { reel 1 .a .showing with motorFrame := some 103, changeFrame := some 295 }
     let s := wDs2 (wHs showing (fun x => { x with plan := [e, reel 2 .b .armed] })) (fun x => { x with state := .opening })
     s.showsReel 0 0 e ∧ s.distinctReels 0 ∧ (s.rd 0).state = .watch ∧ (s.rd 0).group = none ∧ (0 : Byte).toNat < (s.rd 0).threshold ∧
      s.followingEntry 0 ≠ none ∧ 103 + 48 ≤ (s.tr 0).counter + 1 ∧ (s.hs 0).marks.motorTaken = false ∧
      (s.hs 0).marks.countedMotor = false ∧ (s.tr 0).counter + 1 < 295 + 12 ∧ (s.hs 0).change = none ∧
      s.readyToFollow 0 1 = false) ∧
    (let e := { reel 1 .a .showing with motorFrame := some 101, changeFrame := some 139 }
     let s := wHs showing (fun x => { x with
       plan := [e, reel 2 .b .armed]
       change := some (toB .locked)
       marks := { x.marks with motorTaken := true } })
     s.showsReel 0 0 e ∧ s.distinctReels 0 ∧ s.followingEntry 0 ≠ none ∧ 139 + 12 ≤ (s.tr 0).counter + 1 ∧
      (s.hs 0).marks.changeTaken = false ∧ (s.hs 0).marks.countedChange = false ∧ (s.hs 0).marks.motorTaken = true ∧
      (s.hs 0).change = some (toB .locked) ∧ (toB .locked).incoming = 1 ∧ s.shortOfPicture 1) := by decide +kernel

/-- A house that is not SHOWING, one whose live reel is the last, one with a record in DUE or RUNUP, one whose other
projector is not ready, and one whose other projector is. -/
theorem witness_ChangeByHandCallsTheChange : showing.linkReady ∧ (1 : Byte).toNat = (0 : HouseId).val + 1 ∧
    (R.hs 0).state ≠ .showing ∧ (showing.hs 0).state = .showing ∧ (showing.hs 0).liveSide = some .a ∧
    (wHs showing (fun x => { x with plan := [reel 1 .a .showing] })).followingEntry 0 = none ∧
    showing.followingEntry 0 ≠ none ∧ showing.heldEntry 0 = some (reel 1 .a .showing) ∧ (showing.hs 0).change = none ∧
    showing.readyToFollow 0 (otherProj 0) = true ∧ (showing.ds 1).trial = none ∧
    (wDs2 showing (fun x => { x with state := .opening })).readyToFollow 0 (otherProj 0) = false ∧
    ((wHs showing (fun x => { x with change := some (toB .due) })).hs 0).change = some (toB .due) ∧
    (let s := wTr2 (wHs showing (fun x => { x with change := some (toB .runup) })) (fun x => { x with state := .starting })
     s.followingEntry 0 ≠ none ∧ (s.hs 0).change = some (toB .runup) ∧ (s.tr (toB .runup).incoming).state = .starting) := by
  decide +kernel

/-- A record in each phase that a change by hand meets, its incoming ready to follow and not. -/
theorem witness_ChangeByHandCallsTheChange_record :
    (∀ ph ∈ [ChangePhase.waitReady, .delay, .runup, .locked],
      let s := wHs showing (fun x => { x with change := some (toB ph) })
      s.linkReady ∧ (1 : Byte).toNat = (0 : HouseId).val + 1 ∧ (s.hs 0).state = .showing ∧ s.followingEntry 0 ≠ none ∧
        (s.hs 0).change = some (toB ph) ∧ s.readyToFollow 0 (toB ph).incoming = true ∧
        (s.ds (toB ph).incoming).trial = none ∧ (s.tr (toB ph).incoming).state ≠ .running ∧
        (wDs2 s (fun x => { x with state := .opening })).readyToFollow 0 (toB ph).incoming = false) := by decide +kernel

/-- A delay end one tenth away and at its instant, the incoming ready to follow and not. -/
theorem witness_DelayEndStartsTheIncoming :
    let y := { toB .delay with delayEnd := some 4420 }
    let s := wHs showing (fun x => { x with change := some y })
    (s.hs 0).change = some y ∧ y.phase = .delay ∧ y.delayEnd = some 4420 ∧ y.held = none ∧ s.now + 4419 < 4420 ∧
      4420 ≤ s.now + 4420 ∧ s.readyToFollow 0 y.incoming = true ∧ (s.ds y.incoming).trial = none ∧
      (wDs2 s (fun x => { x with state := .opening })).readyToFollow 0 y.incoming = false := by decide +kernel

/-- What the readiness clauses of DelayEndStartsTheIncoming ask of a state, an event at it and the record `y`. -/
abbrev waits (s : State) (c : Instr) (dt : Nat) (y : Changeover) : Prop :=
  ∃ w, ReadinessEvent s dt 1 c w ∧ s.awaits 0 1 y ∧ s.readyToFollow 0 1 = false ∧ (s.ds 1).trial = none ∧
    w.readyToFollow 0 1 = true ∧ w.heldEntry 1 = some (reel 2 .b .armed)

/-- House 1 SHOWING with a changeover record that waits for projector 2. -/
abbrev waiting (y : Changeover) : State := wHs showing (fun x => { x with change := some y })

/-- An incoming that a record waits for becomes ready by each event, its instant just reached: the lamp BURNING, the lamp judged
sufficient, the port HELD, the douser CLOSED, the entry ARMED. -/
theorem witness_DelayEndStartsTheIncoming_ready : ∀ y ∈ [toB .waitReady, toB .delay,
      { toB .waitReady with held := some .tab }, { toB .delay with held := some .counted },
      { toB .waitReady with changeFrame := 150 }],
    let s := waiting y
    let l := s.lp 1
    let short := some ⟨false, 4000, 440⟩
    waits (s.setLp 1 { l with state := .settling, settleStart := some 0 }) (.settleEnd 100000 1) 100000 y ∧
    waits (s.setLp 1 { l with sufficiency := short, minute := some ⟨0, 0⟩ }) (.minuteEnd 600000 1) 600000 y ∧
    waits (s.setLp 1 { l with sufficiency := short }) (.setArc 0 2 61 550 true) 0 y ∧
    waits (s.setPt 1 { s.pt 1 with state := .arming, upSwitch := false }) (.upSwitchCloses 0 1) 0 y ∧
    waits (s.setPt 1 { s.pt 1 with state := .down }) (.armPort 0 2) 0 y ∧
    waits (wDs2 s (fun x => { x with state := .closing, travel := some ⟨.closes, 0, false, 600⟩ }))
      (.douserSwitchCloses 0 1 .closedEnd) 0 y ∧
    waits (wHs (wTr2 s (fun x => { x with armed := none, counter := 0 })) (fun x => { x with
      plan := [reel 1 .a .showing, reel 2 .b .pending] })) (.armReel 0 2 2 (some 60)) 0 y := by
  intro y hy
  simp only [List.mem_cons, List.not_mem_nil, or_false] at hy
  rcases hy with rfl | rfl | rfl | rfl | rfl <;>
  exact ⟨⟨_, .settleEnd 0 (by decide) (by decide) (by decide), by decide +kernel⟩,
    ⟨_, .minuteEnd ⟨0, 0⟩ _ (by decide) (by decide) (by decide) rfl (by decide), by decide +kernel⟩,
    ⟨_, .setArc 2 61 550 true _ _ (by decide) (by decide) (by decide) rfl rfl (by decide), by decide +kernel⟩,
    ⟨_, .upSwitchCloses (by decide), by decide +kernel⟩,
    ⟨_, .armPort 2 (by decide) (by decide) (by decide) (by decide) (by decide) (by decide), by decide +kernel⟩,
    ⟨_, .douserCloses ⟨.closes, 0, false, 600⟩ (by decide) (by decide) (by decide), by decide +kernel⟩,
    ⟨_, .armReel 2 2 (some 60) (reel 2 .b .pending) 60 _ (by decide) (by decide) (by decide) (by decide) (by decide) (by decide)
      (by decide) (by decide) (by decide) (by decide) (by decide) rfl, by decide +kernel⟩⟩

/-- R111, R112: a port that becomes HELD has the alignment computed from the outgoing frame 150. With 182 frames to the change and
40 of leader left, t_out is 7583 ms and t_in 3000 + 167 ms, so the delay is 4416 ms; at the change frame itself the motor starts
at once. -/
theorem test_readiness_aligns : ∀ c ∈ [150, 332],
    let y := { toB .waitReady with changeFrame := c }
    let s := waiting y
    nextIs (exec (.upSwitchCloses 0 1) (s.setPt 1 { s.pt 1 with state := .arming })) (fun t =>
      (t.hs 0).change.map (fun z => (z.phase, z.motorFrame, z.delay)) =
          some (if c = 150 then (.runup, 150, some 0) else (.delay, 150, some 4416)) ∧
        ((t.tr 1).state = if c = 150 then .starting else .stopped)) = true := by decide +kernel

/-- An incoming at its run-up limit, and one whose film has been silent for 1042 tenths, of a record in each phase. -/
theorem witness_DelayEndStartsTheIncoming_fails : ∀ ph ∈ [ChangePhase.runup, .locked, .due],
    ∀ st ∈ [TransportState.starting, .running], ∀ src ∈ [none, some ChangeSource.loss],
    let y := { toB ph with changeSource := src, loss := some .lamp }
    let s := wTr2 (wHs showing (fun x => { x with change := some y })) (fun x => { x with
      state := st
      motorOn := some 0
      lastPulse := some 0 })
    s.changesTo 0 1 y (reel 2 .b .armed) [.runup, .locked, .due] ∧ (s.rd 1).assembling = false ∧
      (s.ds 1).state ≠ .stuck ∧ (reel 2 .b .armed).status = .armed ∧ (s.tr 1).state = st ∧ (s.tr 1).motorOn = some 0 ∧
      0 + 60000 ≤ s.now + 60000 ∧ (s.tr 1).lastPulse = some 0 ∧ 25000 ≤ (s.now + 1042 - 0) * s.speedOf 1 ∧
      (s.ds (otherProj 1)).state ≠ .stuck := by decide +kernel

/-- A crossing with its three instants at hand and one tenth away. -/
theorem witness_CrossingGivesItsCommands :
    let y := { toB .crossing with crossing := some { crossed with openOffset := 10 } }
    let g := { reel 2 .b .armed with cues := [⟨.start, 500, 30, false⟩] }
    let s := wTr2 (wHs showing (fun x => { x with change := some y, plan := [reel 1 .a .showing, g] }))
      (fun x => { x with state := .running })
    let w := wDs2 s (fun x => { x with state := .opening })
    (s.hs 0).state = .showing ∧ (s.hs 0).change = some y ∧ houseOf 1 = 0 ∧ otherProj 1 = 0 ∧
      s.now + 99 < 0 + 10 * 10 ∧ s.now + 319 < 0 + 10 * 32 ∧ s.now + 1499 < 0 + 10 * 150 ∧ 0 + 10 * 150 ≤ s.now + 1500 ∧
      (s.ds 1).state = .closed ∧ s.gating 1 = true ∧ (s.ds 0).state = .opened ∧ (s.tr 1).state = .running ∧
      (w.ds 1).state = .opening ∧ (w.tr 1).armed.map (fun a => a.house) = some 0 ∧ w.heldEntry 1 = some g := by
  decide +kernel

/-- The incoming of a record in DUE one frame before its picture, RUNNING and about to lock, with the outgoing OPEN and
CLOSED, and learned times alike and apart. -/
theorem witness_CrossingGivesItsCommands_begin : ∀ st ∈ [TransportState.starting, .running],
    ∀ o ∈ [DouserState.opened, .closed], ∀ c ∈ [40, 250, 300],
    let w := wTr2 (wHs showing (fun x => { x with change := some (toB .due) })) (fun x => { x with
      state := st
      lockCount := 7
      counter := 99
      lastPulse := some 0 })
    let s := (wDs (wDs2 w (fun x => { x with openTime := 250 })) (fun x => { x with
      state := o
      closeTime := c })).setRd 1 { w.rd 1 with state := .hunt }
    s.changesTo 0 1 (toB .due) (reel 2 .b .armed) [.due] ∧ s.distinctReels 0 ∧
      (s.tr (otherProj 1)).armed.map (fun a => a.house) = some 0 ∧ s.heldEntry (otherProj 1) = some (reel 1 .a .showing) ∧
      (s.tr 1).lastPulse = some 0 ∧ (s.tr 1).state = st ∧ (s.tr 1).lockCount = 7 ∧
      9800 ≤ (s.now + 417 - 0) * s.speedOf 1 ∧ (s.now + 417 - 0) * s.speedOf 1 ≤ 10200 ∧ 100 ≤ (s.tr 1).counter + 1 ∧
      (s.rd 1).state = .hunt ∧ (0 : Byte).toNat < (s.rd 1).threshold ∧
      (s.ds 1).state = .closed ∧ (s.lp 1).state = .burning ∧ (s.pt (projPort 1)).state = .held ∧
      (s.ds 1).openTime = 250 ∧ (s.ds (otherProj 1)).closeTime = c ∧ (s.ds (otherProj 1)).state = o := by decide +kernel

/-- The outgoing douser closing, with the incoming OPEN and the sound switched; the outgoing RUNNING at, about and past its
tail, and BROKEN and STOPPED. -/
theorem witness_CrossingCompletes :
    let x := { crossed with switched := true, openGiven := true, closeGiven := true }
    let y := { toB .crossing with crossing := some x }
    ∀ st ∈ [TransportState.running, .broken, .stopped], ∀ n ∈ [499, 500, 501],
      let s := wTr (wDs2 (wDs (wHs showing (fun z => { z with change := some y, gate := .side .b })) (fun z => { z with
        state := .closing
        travel := some ⟨.closes, 0, true, 572⟩ })) (fun z => { z with state := .opened })) (fun z => { z with
          state := st
          counter := n })
      s.nearlyCrossed 0 1 0 y x (reel 2 .b .armed) (reel 1 .a .showing) ∧ (s.tr 0).state = st ∧ (s.tr 0).counter = n ∧
        (s.hs 0).gate ≠ .side (sideOf 0) ∧ (s.rd 0).assembling = false ∧ (s.hs 0).retiring = none := by decide +kernel

/-- House 1 SHOWING reel 2 on projector 2, while projector 1 retires. -/
def retiring (x : RetirePhase) (k : Nat) : State :=
  wDs (wTr2 (wHs showing (fun y => { y with
    liveSide := some .b
    gate := .side .b
    retiring := some ⟨0, x, k⟩
    plan := [reel 1 .a .finished, reel 2 .b .showing] })) (fun y => { y with state := .running, lastPulse := some 0 }))
      (fun y => { y with state := .closed, drive := .closes })

/-- The retiring projector one frame before its tail and two; at its first and its last run-out pulses; at the end of its
run-down; and at a break and a HOLD in each phase, with and without a record that waits for it. -/
theorem witness_CrossingCompletes_retiring : let e := reel 1 .a .finished
    (∀ n ∈ [498, 499], let s := wTr (retiring .toTail 0) (fun x => { x with counter := n })
     s.retires 0 0 e .toTail 0 ∧ (s.tr 0).state = .running ∧ n + 1 = min 65535 ((s.tr 0).counter + 1) ∧
      e.leader + e.picture = 500 ∧ s.noDouserCause 0) ∧
    (∀ k ∈ [0, 46, 47], let s := retiring .runOut k
     s.retires 0 0 e .runOut k ∧ (s.tr 0).lastPulse = some 0 ∧ s.noDouserCause 0 ∧ (s.tr 0).state = .running ∧
      (s.rd 0).state = .watch ∧ (0 : Byte).toNat < (s.rd 0).threshold) ∧
    (let s := wTr (retiring .stopping 48) (fun x => { x with state := .stopping, stoppingSince := some 10 })
     s.retires 0 0 e .stopping 48 ∧ (s.tr 0).lastPulse = some 0 ∧ s.noDouserCause 0 ∧ (s.tr 0).state = .stopping ∧
      (s.tr 0).stoppingSince = some 10 ∧ max 10 0 + 5000 ≤ s.now + 5010) ∧
    (∀ x ∈ [RetirePhase.toTail, .runOut, .stopping], ∀ y ∈ [none, some { newChange 0 .tab 140 332 with phase := .waitReady }],
     let s := wHs (retiring x 0) (fun z => { z with change := y })
     s.retires 0 0 e x 0 ∧ (s.tr 0).lastPulse = some 0 ∧ s.noDouserCause 0 ∧ (s.tr 0).state = .running ∧
      (s.rd 0).assembling = false ∧ 25000 ≤ (s.now + 1042 - 0) * s.speedOf 0 ∧ (s.hs 0).state.inShow = true ∧
      (s.ds 0).state ≠ .stuck ∧ (s.ds (otherProj 0)).state ≠ .stuck ∧
      (s.tr (otherProj 0)).armed.map (fun a => a.reel) ≠ some e.reel) :=
  ⟨by decide +kernel, by decide +kernel, by decide +kernel, by decide +kernel⟩

/-- A crossing whose incoming's film breaks: the outgoing fit before its tail and at it, and unfit in each way. -/
theorem witness_CrossingCompletes_abandoned :
    let y := { toB .crossing with crossing := some crossed }
    let s := wDs (wTr2 (wHs showing (fun x => { x with change := some y })) (fun x => { x with
      state := .running
      lastPulse := some 0 })) (fun x => { x with state := .closing, drive := .closes, travel := some ⟨.closes, 0, true, 600⟩ })
    s.changesTo 0 1 y (reel 2 .b .armed) [.crossing] ∧ (s.rd 1).assembling = false ∧ (s.ds 1).state ≠ .stuck ∧
      (reel 2 .b .armed).status = .armed ∧ s.heldEntry (otherProj 1) = some (reel 1 .a .showing) ∧
      (s.tr (otherProj 1)).armed.map (fun a => a.house) = some 0 ∧ (s.tr 1).state = .running ∧
      (s.tr 1).lastPulse = some 0 ∧ 25000 ≤ (s.now + 1042 - 0) * s.speedOf 1 ∧ s.canShow 0 ∧ (s.ds 0).trial = none ∧
      (s.tr 0).counter < 100 + 400 ∧ 100 + 400 ≤ ((wTr s (fun x => { x with counter := 500 })).tr 0).counter ∧
      (s.ds 0).state ≠ .opened ∧ (s.ds 0).state ≠ .stuck ∧
      ((wTr s (fun x => { x with state := .broken })).tr 0).state ≠ .running ∧
      ((wLp s (fun x => { x with state := .striking })).lp 0).state ≠ .burning ∧
      ((wPt s (fun x => { x with state := .dropping })).pt (projPort 0)).state ≠ .held := by decide +kernel

/-- The live projector 1042 tenths after its last pulse. -/
theorem witness_BreakOfTheLivePictureHolds : (showing.hs 0).state = .showing ∧ (showing.hs 0).liveSide = some (sideOf 0) ∧
    (showing.hs 0).change = none ∧ (showing.hs 0).retiring = none ∧
    (showing.tr 0).armed.map (fun a => a.house) = some 0 ∧ showing.heldEntry 0 = some (reel 1 .a .showing) ∧
    (showing.rd 0).assembling = false ∧ (∀ q, houseOf q = 0 → (showing.ds q).state ≠ .stuck) ∧
    (showing.tr 0).state = .running ∧ (showing.tr 0).lastPulse = some 0 ∧
    25000 ≤ (showing.now + 1042 - 0) * showing.speedOf 0 := by decide +kernel

/-- A record in each phase when the live film breaks, its incoming ready to follow and not. -/
theorem witness_BreakOfTheLivePictureHolds_record :
    (∀ ph ∈ [ChangePhase.waitReady, .delay, .runup, .locked, .due],
      let s := wHs showing (fun x => { x with change := some (toB ph) })
      s.showsReel 0 0 (reel 1 .a .showing) ∧ (s.rd 0).assembling = false ∧ (s.ds 0).state ≠ .stuck ∧
        (s.ds 1).state ≠ .stuck ∧ (s.tr 0).lastPulse = some 0 ∧ 25000 ≤ (s.now + 1042 - 0) * s.speedOf 0 ∧
        (s.hs 0).change = some (toB ph) ∧ (toB ph).incoming = otherProj 0 ∧ (toB ph).changeSource ≠ some .loss ∧
        s.shortOfPicture 1 ∧ s.readyToFollow 0 1 = true ∧ (s.ds 1).trial = none ∧
        (wDs2 s (fun x => { x with state := .opening })).readyToFollow 0 1 = false) ∧
    (let s := wDs2 (wHs showing (fun x => { x with change := some (toB .crossing) })) (fun x => { x with state := .opening })
     s.showsReel 0 0 (reel 1 .a .showing) ∧ (s.hs 0).change = some (toB .crossing) ∧ (s.ds 1).state = .opening) := by
  decide +kernel

/-- The live lamp at an arc out with a restrike left, settling again in a dark house, and at its supply limit. -/
theorem witness_BreakOfTheLivePictureHolds_dark :
    (let s := wLp showing (fun x => { x with lowStart := some 0, account := 400, autostrike := true })
     s.showsReel 0 0 (reel 1 .a .showing) ∧ (s.hs 0).change = none ∧ (∀ x, houseOf x = 0 → (s.ds x).state ≠ .stuck) ∧
      (s.lp 0).state = .burning ∧ (s.lp 0).lowStart = some 0 ∧ 0 + 2000 ≤ s.now + 2000 ∧ (s.hs 0).dark = false ∧
      (s.ds 0).state = .opened ∧ (s.lp 0).autostrike = true ∧ (s.lp 0).restrikeUsed = false ∧ 400 ≤ (s.lp 0).account ∧
      s.booth.grade = .normal ∧ s.booth.covers (projPort 0) = false) ∧
    (let s := wDs (wLp (wHs showing (fun x => { x with dark := true })) (fun x => { x with
        state := .settling
        settleStart := some 0 })) (fun x => { x with state := .closed })
     s.showsReel 0 0 (reel 1 .a .showing) ∧ (s.hs 0).dark = true ∧ (s.lp 0).state = .settling ∧
      (s.lp 0).settleStart = some 0 ∧ 0 + 100000 ≤ s.now + 100000 ∧ (s.ds 0).state = .closed ∧
      (s.pt (projPort 0)).state = .held) ∧
    (let s := wLp (wHs showing (fun x => { x with dark := true })) (fun x => x.struckAt 0)
     s.showsReel 0 0 (reel 1 .a .showing) ∧ (s.hs 0).dark = true ∧ (s.lp 0).state = .striking ∧
      (s.lp 0).phase = some .supply ∧ (s.lp 0).phaseStart = some 0 ∧ 0 + 20000 ≤ s.now + 20000) :=
  ⟨by decide +kernel, by decide +kernel, by decide +kernel⟩

/-! ## Witnesses: house lights -/

/-- A target and a fade at and beyond their clamps, with each layer active and not, and a safety cause active and not. -/
theorem witness_LightsAreTakenAndGivenBack : R.linkReady ∧ (1 : Byte).toNat = (0 : HouseId).val + 1 ∧
    (1000 : Nat) = min 1000 (1001 : BitVec 16).toNat ∧ (600 : Nat) = min 600 (601 : BitVec 16).toNat ∧
    (0 : Nat) = min 600 (0 : BitVec 16).toNat ∧
    (∀ a b : Bool, let s := wLt R (fun x => { x with manualActive := a, safetyActive := b })
      (s.lt 0).manualActive = a ∧ (s.lt 0).safetyActive = b ∧ (s.lt 0).programTarget = 1000) ∧
    (wBo R (fun x => { x with fusible := true })).booth.fusible = true ∧ R.booth.fusible = false ∧
    R.booth.emergency = false ∧ R.booth.critical = false ∧ (∀ p, houseOf p = 0 → R.booth.filmFire.cell p = false) := by
  decide +kernel

/-- A fade's first and last step at their instants, and one tenth before. -/
theorem witness_FadeStepMovesTheLevel : (R.lt 0).fade = none ∧
    (∀ k ∈ [0, 158, 159], let f : Fade := ⟨1000, 0, 160, k, 0⟩
      let s := wLt R (fun x => { x with fade := some f })
      (s.lt 0).fade = some f ∧ s.now + (500 * (k + 1) - 1) < f.start + 500 * (f.step + 1) ∧
        f.start + 500 * (f.step + 1) ≤ s.now + 500 * (k + 1)) ∧
    ((994 : Nat) : Int) = (1000 : Nat) + ((((0 : Nat) : Int) - (1000 : Nat)) * ((0 : Nat) + 1)).tdiv (160 : Nat) := by
  decide +kernel

/-- The laws of the light channels at reset, and a command's next state. -/
theorem witness_LightLawsAreKept : (∀ h, (R.lt h).drive = ((R.lt h).level * (R.lt h).level * 255 + 500000) / 1000000 ∧
    (R.lt h).safetyTarget = (R.hs h).levels.emergency ∧ (R.lt h).fade = none) ∧
    ∃ t, exec (.fadeStep 500 0) R = .next t := ⟨by decide +kernel, _, rfl⟩

/-! ## Witnesses: fire shutters and booth protection -/

/-- A port that is not DOWN, one that is covered, and one whose up switch is open or closed; a window at its end. -/
theorem witness_ArmPortRaisesTheShutter : R.linkReady ∧ (12 : Byte).toNat = (11 : PortId).val + 1 ∧
    (showing.pt 0).state ≠ .down ∧ (R.pt 11).state = .down ∧ R.booth.covers 11 = false ∧ (R.pt 11).upSwitch = false ∧
    (wBo R (fun x => { x with fusible := true })).booth.covers 11 = true ∧
    ((wPt R (fun x => { x with upSwitch := true })).pt 0).upSwitch = true ∧ R.houseAtRest (portHouse 0) ∧
    R.link.transmitter ≠ .idle ∧
    (let s := wPt R (fun x => { x with state := .arming, windowEnd := some 300000 })
     (s.pt 0).state = .arming ∧ (s.pt 0).windowEnd = some 300000 ∧ s.now + 299999 < 300000 ∧
      300000 ≤ s.now + 300000) := by decide +kernel

/-- A port in every state; a DROPPING and a JAMMED one with its record in the log; the limit at its instant and before. -/
theorem witness_PortFallIsConfirmed : (∀ st ∈ [PortState.down, .arming, .held, .dropping, .jammed],
    let s := wBo (wPt R (fun x => { x with state := st, link := some ⟨1, false, false⟩, releasedAt := some 0 }))
      (fun x => { x with log := [dropped 1] })
    (s.pt 0).state = st ∧ s.houseAtRest (portHouse 0) ∧ (s.pt 0).link = some ⟨1, false, false⟩ ∧ (s.pt 0).releasedAt = some 0 ∧
      s.booth.log.find? (fun x => x.seq = 1) = some (dropped 1) ∧ (6 : Nat) = (s.now + 65 - 0) / 10 ∧
      (∀ k, k ≠ 0 → (s.pt k).state = .dropping → (s.pt k).link ≠ some ⟨1, false, false⟩) ∧ s.now + 9999 < 0 + 10000 ∧
      0 + 10000 ≤ s.now + 10000) ∧
    (let s := R.setPt 1 { R.pt 1 with state := .dropping, link := some ⟨1, false, false⟩ }
     ∃ k, k ≠ 0 ∧ (s.pt k).state = .dropping ∧ (s.pt k).link = some ⟨1, false, false⟩) := by decide +kernel

/-- A port whose record was discarded, reported and not, DROPPING and JAMMED. -/
theorem witness_PortFallIsConfirmed_discarded : ∀ b : Bool, ∀ st ∈ [PortState.dropping, .jammed],
    let s := wPt R (fun x => { x with state := st, link := some ⟨1, true, b⟩, releasedAt := some 0 })
    (s.pt 0).link = some ⟨1, true, b⟩ ∧ (s.pt 0).releasedAt = some 0 ∧ (s.pt 0).state = st ∧ 0 + 10000 ≤ s.now + 10000 ∧
      (1000 : Nat) = (s.now + 10000 - 0) / 10 := by decide +kernel

/-- A HELD port whose house is at rest; a DROP TEST of it, of its house, and of a house in a show. -/
theorem witness_DropsAreRecorded :
    (let s := wPt R (fun x => { x with state := .held, downSwitch := false })
     (s.pt 0).state = .held ∧ (s.pt 0).downSwitch = false ∧ s.houseAtRest (portHouse 0) ∧ s.booth.log.length < 16 ∧
      s.linkReady ∧ (1 : Byte).toNat = (0 : PortId).val + 1 ∧ (∀ d ∈ s.booth.log, d.seq ≠ s.booth.nextSeq)) ∧
    (1 : Byte).toNat = (0 : HouseId).val + 1 ∧ (showing.hs 0).state.inShow = true ∧
    ((wPt R (fun x => { x with state := .arming })).pt 0).downSwitch = true := by decide +kernel

/-- A full log, and a port linked to its oldest record. -/
theorem witness_DropsAreRecorded_full :
    let s := (wBo (wPt R (fun x => { x with state := .held, downSwitch := false })) (fun x => { x with
      log := dropped 1 :: (List.range 15).map (fun k => dropped (k + 2))
      nextSeq := 17 })).setPt 1 { R.pt 1 with state := .dropping, link := some ⟨1, false, false⟩ }
    (s.pt 0).state = .held ∧ (s.pt 0).downSwitch = false ∧ s.houseAtRest (portHouse 0) ∧
      s.booth.log = dropped 1 :: (List.range 15).map (fun k => dropped (k + 2)) ∧
      ((List.range 15).map (fun k => dropped (k + 2))).length = 15 ∧
      nextIs (exec (.upSwitchOpens 0 0) s) (fun t => decide ((t.pt 1).link = some ⟨1, true, false⟩) &&
        decide (t.booth.log.length = 16)) = true := by decide +kernel

/-- Each cause inactive, a reading of 55 that is due, and a house in a show. -/
theorem witness_FirePutsTheBoothSafe : showing.booth.fusible = false ∧ showing.booth.emergency = false ∧
    showing.booth.nextReading ≤ showing.now + 10000 ∧ showing.booth.grade ≠ .critical ∧ showing.booth.critical = false ∧
    showing.booth.filmFire.cell 0 = false ∧ (showing.hs 0).state.inShow = true := by decide +kernel

/-- Each cause active and inactive; each grade at its entry and its leaving value. -/
theorem witness_CausesEndAndReadingsAreGraded : R.booth.fusible = false ∧ R.booth.filmFire.cell 0 = false ∧
    (wBo R (fun x => { x with fusible := true })).booth.fusible = true ∧
    (wBo R (fun x => { x with filmFire := x.filmFire.put 0 true })).booth.filmFire.cell 0 = true ∧
    R.now + 9999 < R.booth.nextReading ∧ R.booth.nextReading ≤ R.now + 10000 ∧ R.booth.grade = .normal ∧
    (wBo R (fun x => { x with grade := .critical, critical := true })).booth.grade = .critical ∧
    (∀ x ∈ [(Grade.normal, 34, Grade.normal), (.normal, 35, .warm), (.warm, 32, .normal), (.warm, 45, .hot),
        (.hot, 42, .warm), (.hot, 43, .hot), (.critical, 53, .critical), (.critical, 52, .hot), (.hot, 55, .critical)],
      x.2.2 = (if 55 ≤ x.2.1 then .critical
        else if x.1 = .critical ∧ 52 < x.2.1 then .critical
        else if 45 ≤ x.2.1 then .hot
        else if (x.1 = .hot ∨ x.1 = .critical) ∧ 42 < x.2.1 then .hot
        else if 35 ≤ x.2.1 then .warm
        else if x.1 ≠ .normal ∧ 32 < x.2.1 then .warm
        else .normal)) := by decide +kernel

/-- The cause inactive; active with the button pressed and released; a transmitter that sends and one that is IDLE. -/
theorem witness_ClearEmergencyEndsTheCause : R.linkReady ∧ R.booth.emergency = false ∧
    (∀ b : Bool, (wBo R (fun x => { x with emergency := true, pressed := b })).booth.pressed = b) ∧
    R.link.transmitter ≠ .idle ∧ (wLk R (fun x => { x with transmitter := .idle })).linkReady := by decide +kernel

/-- A cause active with every port DOWN, and a command's next state. -/
theorem witness_CoveredPortsStayDown :
    (∀ n, (wBo R (fun x => { x with fusible := true })).booth.covers n = true ∧ (R.pt n).state ≠ .held ∧
      (R.pt n).state ≠ .arming) ∧ ∃ t, exec (.downSwitchOpens 0 0) R = .next t := ⟨by decide +kernel, _, rfl⟩

/-! ## Witnesses: the console link -/

/-- A well-formed request, and a record that is read as a request. -/
theorem witness_RequestsAndRecordsAgree : (Request.start 2).wf = true ∧ parseRequest ⟨30, [2]⟩ = some (.start 2) := by decide

/-- A record of 0 and of 250 bytes, a receiver in HUNT, and a request that is not RESTART. -/
theorem witness_FramesBringTheirRecords : (Record.mk 39 []).payload.length ≤ 250 ∧
    (Record.mk 99 (List.replicate 250 0)).payload.length ≤ 250 ∧ R.link.receive = .hunt none ∧
    Request.start 2 ≠ .restart := by decide +kernel

/-- The receiver in HUNT with and without the half, and in each part of an assembly; the time-outs at 20 ms. -/
theorem witness_ReceiverFollowsTheBytes : (∀ x ∈ [ReceiveState.hunt none, .hunt (some 0), .assemble ⟨none, none, [], 0, 0⟩,
      .assemble ⟨some 30, none, [], 30, 0⟩, .assemble ⟨some 30, some 1, [], 31, 0⟩, .assemble ⟨some 30, some 1, [2], 33, 0⟩],
      (wLk R (fun l => { l with receive := x })).link.receive = x) ∧
    (250 : Byte).toNat ≤ 250 ∧ 250 < (251 : Byte).toNat ∧ (0 : Nat) < (1 : Byte).toNat ∧ (33 : Byte) + 222 ≠ 0 ∧
    R.link.queue.any (fun y => y.body.isLineError) = false ∧ 0 + 200 ≤ R.now + 200 ∧ R.now + 199 < 0 + 200 := by
  decide +kernel

/-- A record that is no request's, and the numbers just outside each range. -/
theorem witness_FormatAndTargetAreRefused : R.linkReady ∧ parseRequest ⟨99, []⟩ = none ∧ 8 < (9 : Byte).toNat ∧
    4 < (5 : Byte).toNat ∧ 12 < (13 : Byte).toNat ∧ (0 : Byte).toNat = 0 ∧
    (ReelSpec.mk 1 1 0 1 0 0 false []).cues.length ≤ 4 := by decide +kernel

/-- A request that is refused: START of an IDLE house. -/
theorem witness_RefusedRequestChangesNothing : R.linkReady ∧
    ∃ t, exec (commandOf (.start 1) 0 (Vector.replicate 8 ⟨false, true⟩)) R = .next t ∧
      t.link.slot = some (.refused (Request.start 1).kind .state .nothing) :=
  ⟨by decide +kernel, _, rfl, by decide +kernel⟩

/-- A buffer of none, one and two records behind a reply, and each thing that the transmitter may choose from. -/
theorem witness_RecordsWaitAndAreSentInTurn :
    (∀ l ∈ [[], [Record.mk 99 []], [Record.mk 99 [], Record.mk 39 []]],
      let s := wLk R (fun x => { x with slot := some (.status []), buffer := l, transmitter := .reply })
      s.link.buffer = l ∧ s.link.slot ≠ none ∧ s.link.transmitter = .reply ∧ s.link.queue = [] ∧
        s.link.queue.any (fun y => y.body.isLineError) = false) ∧
    parseRequest ⟨99, []⟩ = none ∧ R.link.transmitter = .report ⟨0, none, .restarted .powerOn⟩ ∧
    R.link.slot = none ∧ R.link.queue = [] ∧ R.link.lost = none ∧
    (wLk R (fun x => { x with queue := [⟨9, none, .portHeld⟩], lost := some 1 })).link.lost = some 1 ∧
    (wLk R (fun x => { x with transmitter := .idle })).link.transmitter = .idle := by decide +kernel

/-- The laws of the link at reset, and a command's next state. -/
theorem witness_LinkLawsAreKept : (R.link.queue.length ≤ 24 ∧ R.link.buffer.length ≤ 2 ∧
    (R.link.slot = none → R.link.buffer = []) ∧
    (R.link.transmitter = .idle → R.link.slot = none ∧ R.link.queue = []) ∧
    (R.link.transmitter = .reply → R.link.slot ≠ none)) ∧ ∃ t, exec (.transmitEnd 0) R = .next t :=
  ⟨by decide +kernel, _, rfl⟩

/-- A house, a projector, and a sequence number that is 0 and one that is not. -/
theorem witness_StatusAndReadLogOnlyShow : R.linkReady ∧ (4 : Byte).toNat = (3 : HouseId).val + 1 ∧
    (8 : Byte).toNat = (7 : Proj).val + 1 ∧ (0 : BitVec 16).toNat = 0 ∧ (65535 : BitVec 16).toNat ≠ 0 := by decide +kernel

/-- The last time of day and one past it; a second at its instant and one tenth before; an invalid time of day. -/
theorem witness_ClockCountsTheSeconds : R.linkReady ∧ (86399 : BitVec 24).toNat ≤ 86399 ∧ 86399 < (86400 : BitVec 24).toNat ∧
    (let s := wLk R (fun x => { x with clock := some 86399, nextSecond := some 10000 })
     s.link.clock = some 86399 ∧ s.link.nextSecond = some 10000 ∧ 10000 ≤ s.now + 10000 ∧ s.now + 9999 < 10000) ∧
    R.link.nextSecond = none := by decide +kernel

/-- A house in a show, a motor that runs, and a booth at rest. -/
theorem witness_RestartTakesTheRestartValues : R.linkReady ∧ (showing.hs 0).state.inShow = true ∧
    (showing.tr 0).state = .running ∧ showing.linkReady ∧ (∀ h, (R.hs h).state.inShow = false) ∧
    (∀ p, (R.tr p).state = .stopped ∨ (R.tr p).state = .broken) := by decide +kernel

end Sys2Proof.Tests
end

section
/-! PROOFS. What the blocks bring about among themselves, seen from a house's speed: no change of the agenda touches the speed,
the reply in the slot or the judgement of a lamp (R80), but for a disarming (R91), which empties the projector and its
judgement together. -/

namespace Sys2Proof.Machine

/-! ## The view of a state that speeds and judgements rest on -/

/-- What SET SPEED (R15) speaks of: the reply in the slot, the houses' speeds, and what a judgement (R79, R80) is made on and
what it says: the tails of the plans' reels, the reel and the frame counter of each projector, and the burn account. -/
structure SpeedView where
  slot : Option Reply
  speed : HouseId → Nat
  tail : HouseId → Nat → Option Nat
  armed : Proj → Option Armed
  counter : Proj → Nat
  rate : Proj → Nat
  account : Proj → Nat
  judged : Proj → Option Sufficiency

/-- The view of a state. -/
def State.speedView (s : State) : SpeedView where
  slot := s.link.slot
  speed h := (s.hs h).speed
  tail h n := (findReel (s.hs h).plan n).map ReelEntry.tail
  armed p := (s.tr p).armed
  counter p := (s.tr p).counter
  rate p := (s.lp p).rate
  account p := (s.lp p).account
  judged p := (s.lp p).sufficiency

/-- R79, R80: what a lamp's account is judged to be, at a burn rate and a speed, for a number of frames. -/
def judgement (rate account speed frames : Nat) : Sufficiency where
  sufficient := decide (carbonNeed rate frames speed ≤ account)
  need := carbonNeed rate frames speed
  frames := frames

/-- R79, R80: the judgement of projector `p` that a view gives. -/
def SpeedView.verdict (w : SpeedView) (p : Proj) : Option Sufficiency :=
  ((w.armed p).bind (fun a => w.tail a.house a.reel)).map (fun tail =>
    judgement (w.rate p) (w.account p) (w.speed (houseOf p)) (tail - w.counter p))

/-- R80: the model's judgement is the one the statements write out. -/
theorem State.judge_eq_sufficiencyOf (s : State) (p : Proj) : s.judge p = s.sufficiencyOf p := rfl

/-- R80: the judgement of a projector by the entry it holds. -/
theorem State.sufficiencyOf_eq_map (s : State) (p : Proj) : s.sufficiencyOf p = (s.heldEntry p).map (fun e =>
    judgement (s.lp p).rate (s.lp p).account (s.speedOf p) (e.tail - (s.tr p).counter)) := by
  unfold State.sufficiencyOf
  cases s.heldEntry p <;> rfl

/-- The judgement of a state is the one its view gives. -/
theorem State.sufficiencyOf_eq_verdict (s : State) (p : Proj) : s.sufficiencyOf p = s.speedView.verdict p := by
  rw [s.sufficiencyOf_eq_map]
  unfold State.heldEntry SpeedView.verdict
  cases ha : (s.tr p).armed with
  | none => simp [State.speedView, ha]
  | some a => simp [State.speedView, ha, State.speedOf, Function.comp_def]

/-- The view reads the slot, the transports, the lamps and the houses alone. -/
theorem State.speedView_congr {s t : State} (hl : t.link = s.link) (ht : t.transports = s.transports)
    (hp : t.lamps = s.lamps) (hh : t.houses = s.houses) : t.speedView = s.speedView := by
  simp only [State.speedView, State.hs, State.tr, State.lp, hl, ht, hp, hh]

/-! ## One record replaced -/

@[simp] theorem State.speedView_setRd (s : State) (p : Proj) (x : Reader) : (s.setRd p x).speedView = s.speedView := rfl
@[simp] theorem State.speedView_setDs (s : State) (p : Proj) (x : Douser) : (s.setDs p x).speedView = s.speedView := rfl
@[simp] theorem State.speedView_setLt (s : State) (h : HouseId) (x : Light) : (s.setLt h x).speedView = s.speedView := rfl
@[simp] theorem State.speedView_setPt (s : State) (n : PortId) (x : Port) : (s.setPt n x).speedView = s.speedView := rfl
@[simp] theorem State.speedView_setBooth (s : State) (x : Booth) : (s.setBooth x).speedView = s.speedView := rfl
@[simp] theorem State.speedView_setDraws (s : State) (n : Nat) : (s.setDraws n).speedView = s.speedView := rfl
@[simp] theorem State.speedView_elapse (s : State) (dt : Nat) : (s.elapse dt).speedView = s.speedView := rfl
@[simp] theorem State.speedView_setLink (s : State) (x : Link) (hx : x.slot = s.link.slot) :
    (s.setLink x).speedView = s.speedView := by
  simp [State.speedView, hx]

/-- A transport's record replaced shows its reel and its counter. -/
theorem State.speedView_setTr_eq (s : State) (p : Proj) (x : Transport) : (s.setTr p x).speedView = { s.speedView with
    armed := fun q => if q = p then x.armed else s.speedView.armed q
    counter := fun q => if q = p then x.counter else s.speedView.counter q } := by
  simp only [State.speedView, State.setTr_link, State.setTr_hs, State.setTr_lp, State.setTr_tr, SpeedView.mk.injEq, true_and]
  refine ⟨funext fun q => ?_, funext fun q => ?_, trivial⟩ <;> split <;> rfl

@[simp] theorem State.speedView_setTr (s : State) (p : Proj) (x : Transport) (ha : x.armed = (s.tr p).armed)
    (hc : x.counter = (s.tr p).counter) : (s.setTr p x).speedView = s.speedView := by
  rw [State.speedView_setTr_eq]
  simp only [State.speedView, SpeedView.mk.injEq, true_and]
  refine ⟨funext fun q => ?_, funext fun q => ?_, trivial⟩ <;> split <;> simp_all

/-- A lamp's record replaced by one of its rate and its account shows its judgement. -/
theorem State.speedView_setLp_judged (s : State) (p : Proj) (x : Lamp) (hr : x.rate = (s.lp p).rate)
    (ha : x.account = (s.lp p).account) : (s.setLp p x).speedView =
      { s.speedView with judged := fun q => if q = p then x.sufficiency else s.speedView.judged q } := by
  simp only [State.speedView, State.setLp_link, State.setLp_hs, State.setLp_tr, State.setLp_lp, SpeedView.mk.injEq, true_and]
  refine ⟨funext fun q => ?_, funext fun q => ?_, funext fun q => ?_⟩ <;> split <;> simp_all

@[simp] theorem State.speedView_setLp (s : State) (p : Proj) (x : Lamp) (hr : x.rate = (s.lp p).rate)
    (ha : x.account = (s.lp p).account) (hj : x.sufficiency = (s.lp p).sufficiency) :
    (s.setLp p x).speedView = s.speedView := by
  rw [s.speedView_setLp_judged p x hr ha]
  simp only [State.speedView, SpeedView.mk.injEq, true_and]
  funext q
  split <;> simp_all

/-- A house's record replaced by one of its speed and with its reels' tails. -/
theorem State.speedView_setHs_tails (s : State) (h : HouseId) (x : House) (hs : x.speed = (s.hs h).speed)
    (ht : ∀ n, (findReel x.plan n).map ReelEntry.tail = (findReel (s.hs h).plan n).map ReelEntry.tail) :
    (s.setHs h x).speedView = s.speedView := by
  simp only [State.speedView, State.setHs_link, State.setHs_lp, State.setHs_tr, State.setHs_hs, SpeedView.mk.injEq, true_and,
    and_true]
  refine ⟨funext fun g => ?_, funext fun g => funext fun n => ?_⟩ <;> split <;> simp_all

@[simp] theorem State.speedView_setHs (s : State) (h : HouseId) (x : House) (hs : x.speed = (s.hs h).speed)
    (hp : x.plan = (s.hs h).plan) : (s.setHs h x).speedView = s.speedView :=
  s.speedView_setHs_tails h x hs (fun n => by rw [hp])

@[simp] theorem State.speedView_modHs (s : State) (h : HouseId) (f : House → House) (hs : (f (s.hs h)).speed = (s.hs h).speed)
    (hp : (f (s.hs h)).plan = (s.hs h).plan) : (s.modHs h f).speedView = s.speedView := by
  simp [State.modHs, hs, hp]

/-- R84: a change of an entry that leaves its number and its lengths keeps the tail of every reel. -/
theorem findReel_mapReel_tail (plan : List ReelEntry) (reel n : Nat) (f : ReelEntry → ReelEntry)
    (hf : ∀ e, (f e).reel = e.reel ∧ (f e).leader = e.leader ∧ (f e).picture = e.picture) :
    (findReel (mapReel plan reel f) n).map ReelEntry.tail = (findReel plan n).map ReelEntry.tail := by
  have hreel : (fun e : ReelEntry => decide (e.reel = n)) ∘ (fun e => if e.reel = reel then f e else e) =
      fun e => decide (e.reel = n) := by
    funext e
    simp only [Function.comp]
    split <;> simp [hf e]
  simp only [findReel, mapReel, List.find?_map, hreel, Option.map_map]
  congr 1
  funext e
  simp only [Function.comp, ReelEntry.tail]
  split <;> simp [hf e]

@[simp] theorem State.speedView_modReel (s : State) (h : HouseId) (reel : Nat) (f : ReelEntry → ReelEntry)
    (hf : ∀ e, (f e).reel = e.reel ∧ (f e).leader = e.leader ∧ (f e).picture = e.picture) :
    (s.modReel h reel f).speedView = s.speedView :=
  s.speedView_setHs_tails h _ rfl (fun n => findReel_mapReel_tail _ reel n f hf)

/-! ## Operations of one block -/

@[simp] theorem State.speedView_report (s : State) (n : Nat) (b : ReportBody) : (s.report n b).speedView = s.speedView :=
  s.speedView_setLink _ (s.link.enqueue_keeps n b).2.2.1

@[simp] theorem State.speedView_reportProj (s : State) (p : Proj) (b : ReportBody) :
    (s.reportProj p b).speedView = s.speedView := s.speedView_report _ b

@[simp] theorem State.speedView_reportHouse (s : State) (h : HouseId) (b : ReportBody) :
    (s.reportHouse h b).speedView = s.speedView := s.speedView_report _ b

@[simp] theorem State.speedView_reportBooth (s : State) (b : ReportBody) : (s.reportBooth b).speedView = s.speedView :=
  s.speedView_report _ b

@[simp] theorem State.speedView_programTarget (s : State) (h : HouseId) (t f : Nat) (o : Origin) :
    (s.programTarget h t f o).speedView = s.speedView := rfl

@[simp] theorem State.speedView_activateSafety (s : State) (h : HouseId) : (s.activateSafety h).speedView = s.speedView := rfl

@[simp] theorem State.speedView_setStatus (s : State) (h : HouseId) (n : Nat) (x : ReelStatus) :
    (s.setStatus h n x).speedView = s.speedView := by
  simp [State.setStatus]

@[simp] theorem State.speedView_giveCues (s : State) (h : HouseId) (n : Nat) (l : List LightCue) :
    (s.giveCues h n l).speedView = s.speedView := by
  induction l generalizing s with
  | nil => rfl
  | cons c rest ih => exact ih _

@[simp] theorem State.speedView_fireCues (s : State) (h : HouseId) (n : Nat) (cond : CueTrigger → Bool) :
    (s.fireCues h n cond).speedView = s.speedView := by
  unfold State.fireCues
  split <;> simp

@[simp] theorem State.speedView_fireFrameCues (s : State) (h : HouseId) : (s.fireFrameCues h).speedView = s.speedView := by
  unfold State.fireFrameCues
  (repeat' split) <;> simp

@[simp] theorem State.speedView_selectSide (s : State) (h : HouseId) (sd : Side) :
    (s.selectSide h sd).speedView = s.speedView := by
  unfold State.selectSide
  split <;> simp

@[simp] theorem State.speedView_selectNone (s : State) (h : HouseId) : (s.selectNone h).speedView = s.speedView := by
  simp [State.selectNone]

@[simp] theorem State.speedView_soundWatch (s : State) (p : Proj) : (s.soundWatch p).speedView = s.speedView := by
  unfold State.soundWatch
  split <;> simp

@[simp] theorem State.speedView_closeCommand (s : State) (p : Proj) : (s.closeCommand p).speedView = s.speedView := by
  obtain ⟨x, h | h⟩ := s.closeCommand_cases p <;> simp [h]

@[simp] theorem State.speedView_openCommand (s : State) (p : Proj) : (s.openCommand p).speedView = s.speedView := by
  obtain ⟨hl, ht, -, hp, hh, -⟩ := s.openCommand_keeps p
  exact State.speedView_congr hl ht hp hh

@[simp] theorem State.speedView_gatingWatch (s : State) (p : Proj) : (s.gatingWatch p).speedView = s.speedView := by
  obtain ⟨hl, ht, -, hp, hh, -⟩ := s.gatingWatch_keeps p
  exact State.speedView_congr hl ht hp hh

@[simp] theorem State.speedView_endTrial (s : State) (p : Proj) (o : TrialOutcome) :
    (s.endTrial p o).speedView = s.speedView := by
  unfold State.endTrial
  split <;> simp

/-- R55, R60: an evaluation of a burst leaves the rate, the account and the judgement of the lamp. -/
theorem Lamp.evaluate_keeps (l : Lamp) (b : Bool) (now : Instant) :
    (l.evaluate b now).rate = l.rate ∧ (l.evaluate b now).account = l.account ∧
      (l.evaluate b now).sufficiency = l.sufficiency := by
  have hsend (l : Lamp) : (l.trySend now).rate = l.rate ∧ (l.trySend now).account = l.account ∧
      (l.trySend now).sufficiency = l.sufficiency := by
    rcases l.trySend_cases now with h | ⟨dir, -, -, -, h⟩ <;> rw [h] <;> simp [Lamp.countSend]
  unfold Lamp.evaluate
  split
  · simp
  · split
    · simp
    · exact hsend _

@[simp] theorem State.speedView_evalBurst (s : State) (p : Proj) : (s.evalBurst p).speedView = s.speedView := by
  obtain ⟨hr, ha, hj⟩ := (s.lp p).evaluate_keeps (s.rd p).assembling s.now
  exact s.speedView_setLp p _ hr ha hj

@[simp] theorem State.speedView_clearBadMark (s : State) (p : Proj) : (s.clearBadMark p).speedView = s.speedView := by
  unfold State.clearBadMark
  dsimp only
  split <;> simp

@[simp] theorem State.speedView_readerDiscards (s : State) (p : Proj) (x : ReaderState) :
    (s.readerDiscards p x).speedView = s.speedView := by
  unfold State.readerDiscards
  dsimp only
  split <;> simp

@[simp] theorem State.speedView_readerStarts (s : State) (p : Proj) : (s.readerStarts p).speedView = s.speedView := by
  unfold State.readerStarts
  split <;> simp

@[simp] theorem State.speedView_leaveRunning (s : State) (p : Proj) : (s.leaveRunning p).speedView = s.speedView := by
  unfold State.leaveRunning State.dropRunoutCount
  dsimp only
  split <;> simp

@[simp] theorem State.speedView_endBurstFor (s : State) (p : Proj) (reason : StopReason) :
    (s.endBurstFor p reason).speedView = s.speedView := by
  unfold State.endBurstFor State.endBurst
  (repeat' split) <;> simp

@[simp] theorem State.speedView_giveUpEntry (s : State) (p : Proj) : (s.giveUpEntry p).speedView = s.speedView := by
  unfold State.giveUpEntry
  split <;> simp

@[simp] theorem State.speedView_writeRecord (s : State) (c : DropCause) (p : Option Proj) (l : List PortId) :
    (s.writeRecord c p l).speedView = s.speedView := by
  obtain ⟨hl, ht, -, -, hp, hh, -⟩ := s.writeRecord_keeps c p l
  exact State.speedView_congr hl ht hp hh

@[simp] theorem State.speedView_writeOutcome (s : State) (n : PortId) (o : DropOutcome) :
    (s.writeOutcome n o).speedView = s.speedView := by
  obtain ⟨hl, ht, -, -, hp, hh, -⟩ := s.writeOutcome_keeps n o
  exact State.speedView_congr hl ht hp hh

@[simp] theorem State.speedView_judgeDiscarded (s : State) (l : DropLink) :
    (s.judgeDiscarded l).speedView = s.speedView := by
  unfold State.judgeDiscarded
  split
  · rfl
  · exact (State.speedView_congr rfl rfl rfl rfl).trans (s.speedView_reportBooth _)

@[simp] theorem State.speedView_judgeSettled (s : State) (l : DropLink) : (s.judgeSettled l).speedView = s.speedView := by
  unfold State.judgeSettled
  (repeat' split) <;> simp

@[simp] theorem State.speedView_stopTrials (s : State) (l : List PortId) : (s.stopTrials l).speedView = s.speedView := by
  induction l generalizing s with
  | nil => rfl
  | cons n rest ih =>
    unfold State.stopTrials
    split <;> simp [ih]

/-! ## The house controller's own changes -/

@[simp] theorem State.speedView_modChange (s : State) (h : HouseId) (f : Changeover → Changeover) :
    (s.modChange h f).speedView = s.speedView := by
  simp [State.modChange]

@[simp] theorem State.speedView_modMarks (s : State) (h : HouseId) (f : ReelMarks → ReelMarks) :
    (s.modMarks h f).speedView = s.speedView := by
  simp [State.modMarks]

@[simp] theorem State.speedView_setHeldStatus (s : State) (p : Proj) (x : ReelStatus) :
    (s.setHeldStatus p x).speedView = s.speedView := by
  unfold State.setHeldStatus
  split <;> simp

@[simp] theorem State.speedView_interrupt (s : State) (h : HouseId) : (s.interrupt h).speedView = s.speedView := by
  unfold State.interrupt State.setLiveStatus
  (repeat' split) <;> simp

@[simp] theorem State.speedView_closeBoth (s : State) (h : HouseId) : (s.closeBoth h).speedView = s.speedView := by
  simp [State.closeBoth]

@[simp] theorem State.speedView_endDoused (s : State) (h : HouseId) : (s.endDoused h).speedView = s.speedView := by
  unfold State.endDoused
  split <;> simp

@[simp] theorem State.speedView_endDouserSees (s : State) (p : Proj) : (s.endDouserSees p).speedView = s.speedView := by
  unfold State.endDouserSees
  dsimp only
  split <;> simp

@[simp] theorem State.speedView_crossingOpen (s : State) (h : HouseId) (c : Changeover) (x : Crossing) (n : Nat) :
    (s.crossingOpen h c x n).speedView = s.speedView := by
  unfold State.crossingOpen
  split <;> simp

@[simp] theorem State.speedView_crossingClose (s : State) (h : HouseId) (c : Changeover) (x : Crossing) (n : Nat) :
    (s.crossingClose h c x n).speedView = s.speedView := by
  unfold State.crossingClose
  split <;> simp

@[simp] theorem State.speedView_crossingSound (s : State) (h : HouseId) (c : Changeover) (x : Crossing) (n : Nat) :
    (s.crossingSound h c x n).speedView = s.speedView := by
  unfold State.crossingSound
  dsimp only
  (repeat' split) <;> simp

@[simp] theorem State.speedView_crossingAt (s : State) (h : HouseId) (n : Nat) : (s.crossingAt h n).speedView = s.speedView := by
  unfold State.crossingAt
  (repeat' split) <;> simp

@[simp] theorem State.speedView_createChange (s : State) (h : HouseId) (c : Changeover) :
    (s.createChange h c).speedView = s.speedView := by
  simp [State.createChange]

@[simp] theorem State.speedView_holdChange (s : State) (h : HouseId) (x : CueSource) :
    (s.holdChange h x).speedView = s.speedView := by
  simp [State.holdChange]

@[simp] theorem State.speedView_reportBadHead (s : State) (h : HouseId) (p : Proj) (e : CueEntry) :
    (s.reportBadHead h p e).speedView = s.speedView := by
  unfold State.reportBadHead
  split <;> simp

@[simp] theorem State.speedView_lampReturns (s : State) (p : Proj) : (s.lampReturns p).speedView = s.speedView := by
  unfold State.lampReturns
  dsimp only
  (repeat' split) <;> simp

@[simp] theorem State.speedView_lockChange (s : State) (p : Proj) : (s.lockChange p).speedView = s.speedView := by
  simp [State.lockChange]

end Sys2Proof.Machine
end

section
/-! PROOFS. What every rule that the blocks bring about keeps: the reply, a house's speed, and the judgements of its lamps. -/

namespace Sys2Proof.Machine

/-! ## The speed in force -/

/-- R15, R80: the view has speed `v` in house `h`, the lamps of that house judged at it, and reply `x` in the slot. -/
structure SpeedView.InForce (w : SpeedView) (h : HouseId) (v : Nat) (x : Option Reply) : Prop where
  speed : w.speed h = v
  slot : w.slot = x
  judged : ∀ p, houseOf p = h → w.judged p = w.verdict p

/-- R91: the view once projector `p` is disarmed: EMPTY, its counter 0, and judged no more. -/
def SpeedView.disarmed (w : SpeedView) (p : Proj) : SpeedView :=
  { w with
    armed := fun q => if q = p then none else w.armed q
    counter := fun q => if q = p then 0 else w.counter q
    judged := fun q => if q = p then none else w.judged q }

/-- R80, R91: a disarming leaves the speed in force, since an EMPTY projector has no judgement. -/
theorem SpeedView.InForce.disarmed {w : SpeedView} {h : HouseId} {v : Nat} {x : Option Reply} (hi : w.InForce h v x)
    (p : Proj) : (w.disarmed p).InForce h v x := by
  refine ⟨hi.speed, hi.slot, fun q hq => ?_⟩
  by_cases hp : q = p
  · simp [SpeedView.disarmed, SpeedView.verdict, hp]
  · simpa [SpeedView.disarmed, SpeedView.verdict, hp] using hi.judged q hq

/-- The rule's state has the speed in force. -/
def Rule.InForce (r : Rule) (h : HouseId) (v : Nat) (x : Option Reply) : Prop := r.st.speedView.InForce h v x

/-! ## Rules that keep the view -/

@[simp] theorem Rule.upd_st (r : Rule) (f : State → State) : (r.upd f).st = f r.st := rfl
@[simp] theorem Rule.emit_st (r : Rule) (x : Signal) : (r.emit x).st = r.st := rfl

@[simp] theorem Rule.joinCue_speedView (r : Rule) (p : Proj) (e : CueEntry) :
    (r.joinCue p e).st.speedView = r.st.speedView := by
  unfold Rule.joinCue
  dsimp only
  split <;> simp

@[simp] theorem Rule.joinCues_speedView (r : Rule) (p : Proj) (l : List CueEntry) :
    (r.joinCues p l).st.speedView = r.st.speedView := by
  induction l generalizing r with
  | nil => rfl
  | cons e rest ih => exact (ih _).trans (r.joinCue_speedView p e)

@[simp] theorem Rule.offerCounted_speedView (r : Rule) (p : Proj) (code : CueCode) :
    (r.offerCounted p code).st.speedView = r.st.speedView := by
  unfold Rule.offerCounted
  dsimp only
  (repeat' split) <;> simp

@[simp] theorem Rule.readerStops_speedView (r : Rule) (p : Proj) : (r.readerStops p).st.speedView = r.st.speedView := by
  unfold Rule.readerStops
  dsimp only
  split <;> simp

@[simp] theorem Rule.motorStart_speedView (r : Rule) (p : Proj) : (r.motorStart p).st.speedView = r.st.speedView := by
  unfold Rule.motorStart
  dsimp only
  split <;> simp

@[simp] theorem Rule.motorStop_speedView (r : Rule) (p : Proj) : (r.motorStop p).st.speedView = r.st.speedView := by
  unfold Rule.motorStop
  dsimp only
  split <;> simp

@[simp] theorem Rule.extinguish_speedView (r : Rule) (p : Proj) (reason : StopReason) :
    (r.extinguish p reason).st.speedView = r.st.speedView := by
  unfold Rule.extinguish Rule.lampStops Rule.emitLampLeft
  dsimp only
  (repeat' split) <;> simp [Lamp.clearRun]

@[simp] theorem Rule.release_speedView (r : Rule) (seq : Nat) (n : PortId) :
    (r.release seq n).st.speedView = r.st.speedView := by
  unfold Rule.release
  dsimp only
  (repeat' split) <;> simp

@[simp] theorem Rule.releaseAll_speedView (r : Rule) (seq : Nat) (l : List PortId) :
    (r.releaseAll seq l).st.speedView = r.st.speedView := by
  induction l generalizing r with
  | nil => rfl
  | cons n rest ih => exact (ih _).trans (r.release_speedView seq n)

@[simp] theorem Rule.activation_speedView (r : Rule) (cause : DropCause) (p : Option Proj) (l : List PortId) :
    (r.activation cause p l).st.speedView = r.st.speedView := by
  unfold Rule.activation Rule.drop
  dsimp only
  split <;> simp

@[simp] theorem Rule.douserCause_speedView (r : Rule) (p : Proj) : (r.douserCause p).st.speedView = r.st.speedView := by
  unfold Rule.douserCause
  split <;> simp

@[simp] theorem Rule.abandonStart_speedView (r : Rule) (h : HouseId) (p : Proj) (reason : HoldReason) :
    (r.abandonStart h p reason).st.speedView = r.st.speedView := by
  simp [Rule.abandonStart]

@[simp] theorem Rule.crossingTest_speedView (r : Rule) (h : HouseId) : (r.crossingTest h).st.speedView = r.st.speedView := by
  unfold Rule.crossingTest Rule.beginCrossing
  dsimp only
  (repeat' split) <;> simp
  split <;> simp

@[simp] theorem Rule.enterDue_speedView (r : Rule) (h : HouseId) (source : ChangeSource) (loss : Option LossReason) :
    (r.enterDue h source loss).st.speedView = r.st.speedView := by
  simp [Rule.enterDue]

@[simp] theorem Rule.startIncoming_speedView (r : Rule) (c : Changeover) :
    (r.startIncoming c).st.speedView = r.st.speedView := r.motorStart_speedView _

@[simp] theorem Rule.delayFalls_speedView (r : Rule) (h : HouseId) (c : Changeover) :
    (r.delayFalls h c).st.speedView = r.st.speedView := by
  unfold Rule.delayFalls
  split <;> simp

@[simp] theorem Rule.align_speedView (r : Rule) (h : HouseId) (c : Changeover) :
    (r.align h c).st.speedView = r.st.speedView := by
  unfold Rule.align
  dsimp only
  (repeat' split) <;> simp

@[simp] theorem Rule.readinessTest_speedView (r : Rule) (h : HouseId) : (r.readinessTest h).st.speedView = r.st.speedView := by
  unfold Rule.readinessTest
  (repeat' split) <;> simp

@[simp] theorem Rule.takeMotor_speedView (r : Rule) (h : HouseId) (p : Proj) (live : ReelEntry) (e : CueEntry) :
    (r.takeMotor h p live e).st.speedView = r.st.speedView := by
  unfold Rule.takeMotor
  dsimp only
  (repeat' split) <;> simp

@[simp] theorem Rule.takeChange_speedView (r : Rule) (h : HouseId) (p : Proj) (live : ReelEntry) (e : CueEntry) :
    (r.takeChange h p live e).st.speedView = r.st.speedView := by
  unfold Rule.takeChange
  dsimp only
  (repeat' split) <;> simp

@[simp] theorem Rule.takeLights_speedView (r : Rule) (h : HouseId) (live : ReelEntry) (e : CueEntry) :
    (r.takeLights h live e).st.speedView = r.st.speedView := by
  unfold Rule.takeLights
  split <;> simp

/-! ## Rules that may disarm a projector -/

/-- R91: what a disarming does to the view. -/
theorem Rule.disarm_speedView (r : Rule) (p : Proj) : (r.disarm p).st.speedView = r.st.speedView.disarmed p := by
  unfold Rule.disarm
  dsimp only
  split <;> simp [State.speedView_setLp_judged, State.speedView_setTr_eq, SpeedView.disarmed]

section
variable {r : Rule} {h : HouseId} {v : Nat} {x : Option Reply}

/-- A rule with the view of another has its speed in force. -/
theorem Rule.InForce.of_view {r' : Rule} (hi : r.InForce h v x) (he : r'.st.speedView = r.st.speedView) :
    r'.InForce h v x := by
  unfold Rule.InForce
  rw [he]
  exact hi

theorem Rule.InForce.upd (hi : r.InForce h v x) (f : State → State) (hf : (f r.st).speedView = r.st.speedView) :
    (r.upd f).InForce h v x := hi.of_view hf

theorem Rule.InForce.motorStop (hi : r.InForce h v x) (p : Proj) : (r.motorStop p).InForce h v x :=
  hi.of_view (r.motorStop_speedView p)

theorem Rule.InForce.disarm (hi : r.InForce h v x) (p : Proj) : (r.disarm p).InForce h v x := by
  unfold Rule.InForce
  rw [r.disarm_speedView p]
  exact SpeedView.InForce.disarmed hi p

/-- R97: dropping a record disarms a started incoming. -/
theorem Rule.InForce.dropChange (hi : r.InForce h v x) (g : HouseId) : (r.dropChange g).InForce h v x := by
  unfold Rule.dropChange
  split
  · exact hi
  · have hd := hi.upd (fun s => s.modHs g (fun x => { x with change := none })) (by simp)
    dsimp only
    split
    · exact hd.disarm _
    · exact hd

/-- R97, R123: a hold stops the motors and drops the record. -/
theorem Rule.InForce.enterHold (hi : r.InForce h v x) (g : HouseId) (reason : HoldReason) (lights : Bool) :
    (r.enterHold g reason lights).InForce h v x := by
  have hd := (((hi.upd (fun s => (s.closeBoth g).selectNone g) (by simp)).motorStop (projAt g .a)).motorStop
    (projAt g .b)).dropChange g
  refine hd.upd _ ?_
  dsimp only
  split <;> simp

/-- R97, R149, R150: a fire holds a show. -/
theorem Rule.InForce.fireHold (hi : r.InForce h v x) (g : HouseId) (reason : HoldReason) :
    (r.fireHold g reason).InForce h v x := by
  unfold Rule.fireHold
  split
  case h_4 => exact hi.upd _ (by simp)
  case h_1 | h_2 | h_3 => exact hi.enterHold ..
  all_goals exact hi

/-- R100: the end sequence drops the record. -/
theorem Rule.InForce.endSequence (hi : r.InForce h v x) (g : HouseId) : (r.endSequence g).InForce h v x := by
  unfold Rule.endSequence
  split
  · refine (hi.dropChange g).upd _ ?_
    dsimp only
    split <;> simp
  · exact hi

/-- R101: the end of a show disarms its projector, but after a break. -/
theorem Rule.InForce.endCompletes (hi : r.InForce h v x) (g : HouseId) (p : Proj) (onBreak : Bool) :
    (r.endCompletes g p onBreak).InForce h v x := by
  unfold Rule.endCompletes
  split
  · exact hi
  · rename_i e _
    have hd := hi.upd (fun s => (s.setStatus g e.reel .finished).modHs g (fun x => { x with
      ending := none
      state := .finished })) (by simp)
    dsimp only
    refine Rule.InForce.upd ?_ _ (by simp)
    split
    · exact hd
    · exact hd.disarm p

/-- R122: runout disarms a started incoming. -/
theorem Rule.InForce.runoutDrop (hi : r.InForce h v x) (g : HouseId) : (r.runoutDrop g).InForce h v x := by
  unfold Rule.runoutDrop
  split
  · exact hi
  · rename_i c _
    have hd := hi.upd (fun s => s.modHs g (fun x => { x with change := none })) (by simp)
    dsimp only
    split
    · exact ((hd.motorStop c.incoming).upd _ (by simp)).disarm _
    · exact hd

/-- R122: runout. -/
theorem Rule.InForce.runout (hi : r.InForce h v x) (g : HouseId) : (r.runout g).InForce h v x := by
  unfold Rule.runout
  split
  · exact ((hi.upd _ (by simp)).runoutDrop g).upd _ (by simp)
  · exact hi

/-- R100, R122: the tail ends the show or runs out. -/
theorem Rule.InForce.tailTest (hi : r.InForce h v x) (g : HouseId) : (r.tailTest g).InForce h v x := by
  unfold Rule.tailTest
  (repeat' split)
  · exact hi.endSequence g
  · exact hi
  · exact hi.runout g
  · exact hi
  · exact hi

/-- R118: the outgoing retires, or is disarmed at once. -/
theorem Rule.InForce.retire (hi : r.InForce h v x) (g : HouseId) (p : Proj) : (r.retire g p).InForce h v x := by
  unfold Rule.retire
  dsimp only
  (repeat' split)
  · exact hi.disarm p
  all_goals exact hi.of_view (by simp)

/-- R118: a retiring projector at rest is disarmed. -/
theorem Rule.InForce.retireSees (hi : r.InForce h v x) (g : HouseId) (p : Proj) (to1 : TransportState) :
    (r.retireSees g p to1).InForce h v x := by
  unfold Rule.retireSees
  split
  · exact hi
  · split
    · exact hi
    · cases to1 with
      | stopping => exact hi.upd _ (by simp)
      | stopped => exact (hi.upd _ (by simp)).disarm p
      | broken => exact (hi.upd _ (by simp)).disarm p
      | starting => exact hi
      | running => exact hi

/-- R107 to R109: of the entries only END may disarm. -/
theorem Rule.InForce.takeEntry (hi : r.InForce h v x) (g : HouseId) (p : Proj) (live : ReelEntry) (e : CueEntry) :
    (r.takeEntry g p live e).InForce h v x := by
  unfold Rule.takeEntry
  split
  · exact hi.of_view (by simp)
  · exact hi.of_view (by simp)
  · exact hi.of_view (by simp)
  · unfold Rule.takeEnd
    split
    · exact hi.endSequence g
    · exact hi.upd _ (by simp)
  · exact hi

/-- R106: the heads of the live queue are taken in turn. -/
theorem Rule.InForce.takeHeads (fuel : Nat) (g : HouseId) {r : Rule} (hi : r.InForce h v x) :
    (r.takeHeads fuel g).InForce h v x := by
  induction fuel generalizing r with
  | zero => exact hi
  | succ n ih =>
    unfold Rule.takeHeads
    (repeat' split)
    · exact hi
    · exact hi.upd _ (by simp)
    · exact ih ((hi.upd _ (by simp)).takeEntry ..)
    · exact hi
    · exact hi

/-- R106: the live queue is read. -/
theorem Rule.InForce.takeCues (hi : r.InForce h v x) (g : HouseId) : (r.takeCues g).InForce h v x := by
  unfold Rule.takeCues
  split
  · exact hi
  · exact hi.takeHeads ..

/-- R110: a counted entry is offered and the queue read. -/
theorem Rule.InForce.countedFallback (hi : r.InForce h v x) (g : HouseId) : (r.countedFallback g).InForce h v x := by
  have hoffer {r : Rule} (hi : r.InForce h v x) (p : Proj) (code : CueCode) (f : ReelMarks → ReelMarks) :
      (((r.offerCounted p code).upd (fun s => s.modMarks g f)).takeCues g).InForce h v x :=
    (hi.of_view (r' := (r.offerCounted p code).upd (fun s => s.modMarks g f)) (by simp)).takeCues g
  unfold Rule.countedFallback
  dsimp only
  (repeat' split)
  · exact hoffer (hoffer hi ..) ..
  · exact hoffer hi ..
  · exact hoffer hi ..
  · exact hi
  · exact hi

/-- R95: the live picture begins. -/
theorem Rule.InForce.pictureTest (hi : r.InForce h v x) (g : HouseId) : (r.pictureTest g).InForce h v x := by
  unfold Rule.pictureTest
  dsimp only
  (repeat' split)
  · exact hi
  · exact ((((hi.upd _ (by simp)).upd _ (by simp)).takeCues g).countedFallback g).tailTest g
  · exact hi
  · exact hi

/-- R117: a completed crossing retires its outgoing. -/
theorem Rule.InForce.completionTest (hi : r.InForce h v x) (g : HouseId) : (r.completionTest g).InForce h v x := by
  unfold Rule.completionTest
  dsimp only
  (repeat' split)
  · exact hi
  · exact hi
  · exact ((((hi.upd _ (by simp)).retire g _).upd _ (by simp)).upd _ (by simp)).takeCues g
  · exact hi

/-- What a house looks at. -/
theorem Rule.InForce.look (hi : r.InForce h v x) (g : HouseId) : (r.look g).InForce h v x :=
  ((hi.pictureTest g).of_view (r' := ((r.pictureTest g).readinessTest g).crossingTest g) (by simp)).completionTest g

/-! ## Failures and losses -/

/-- R123: a loss hold. -/
theorem Rule.InForce.lossHold (hi : r.InForce h v x) (g : HouseId) (reason : LossReason) :
    (r.lossHold g reason).InForce h v x := hi.enterHold ..

/-- R113: a failed incoming is disarmed. -/
theorem Rule.InForce.incomingFails (hi : r.InForce h v x) (g : HouseId) (c : Changeover) :
    (r.incomingFails g c).InForce h v x := by
  unfold Rule.incomingFails
  extract_lets q r1
  have hd : r1.InForce h v x := ((hi.motorStop q).upd _ (by simp)).disarm q
  (repeat' split)
  · exact hd.lossHold ..
  · exact hd
  · exact hd

/-- R119: an abandoned crossing disarms its incoming. -/
theorem Rule.InForce.abandonCrossing (hi : r.InForce h v x) (g : HouseId) (c : Changeover) :
    (r.abandonCrossing g c).InForce h v x := by
  unfold Rule.abandonCrossing
  extract_lets q out r1 r2
  have hd : r2.InForce h v x := (((hi.upd _ (by simp)).motorStop q).upd _ (by simp)).disarm q
  (repeat' split)
  · exact hd.runout g
  · exact hd.upd _ (by simp)
  · exact hd.lossHold ..
  · exact hd.lossHold ..

/-- R123: the live picture is lost. -/
theorem Rule.InForce.pictureLoss (hi : r.InForce h v x) (g : HouseId) (p : Proj) (reason : LossReason) (restrike : Bool) :
    (r.pictureLoss g p reason restrike).InForce h v x := by
  unfold Rule.pictureLoss
  extract_lets r1
  have hd : r1.InForce h v x := by
    refine hi.upd _ ?_
    dsimp only
    (repeat' split) <;> simp
  have hlost : ((r1.upd (fun s => s.modHs g (fun y => { y with change := none }))).lossHold g reason).InForce h v x :=
    (hd.upd _ (by simp)).lossHold ..
  split
  · rename_i c _
    cases c.phase with
    | waitReady => exact hlost
    | delay =>
      dsimp only
      split
      · exact hd.of_view (by simp)
      · exact hlost
    | runup => exact hd.of_view (by simp)
    | locked => exact hd.of_view (by simp)
    | due => exact hd.upd _ (by simp)
    | crossing => exact hd
  · split
    · exact hd.upd _ (by simp)
    · exact hd.lossHold ..

/-- R124: a dark house loses its lamp. -/
theorem Rule.InForce.darkLampOff (hi : r.InForce h v x) (p : Proj) : (r.darkLampOff p).InForce h v x := by
  unfold Rule.darkLampOff
  dsimp only
  split
  · exact hi.pictureLoss ..
  · exact hi

/-- R113, R119: the incoming fails by the phase of its record. -/
theorem Rule.InForce.changeSees (hi : r.InForce h v x) (g : HouseId) (p : Proj) : (r.changeSees g p).InForce h v x := by
  unfold Rule.changeSees
  split
  · exact hi
  · rename_i c _
    split
    · exact hi
    · cases c.phase with
      | waitReady => exact hi
      | delay => exact hi
      | runup => exact hi.incomingFails g c
      | locked => exact hi.incomingFails g c
      | due => exact hi.incomingFails g c
      | crossing => exact hi.abandonCrossing g c

/-- R96, R101, R113, R119, R123: a projector fails its house. -/
theorem Rule.InForce.failure (hi : r.InForce h v x) (p : Proj) (f : Failure) : (r.failure p f).InForce h v x := by
  unfold Rule.failure
  dsimp only
  (repeat' split)
  · exact hi.of_view (by simp)
  · exact hi
  · exact hi.pictureLoss ..
  · exact hi
  · exact hi.changeSees ..
  · exact hi.endCompletes ..
  all_goals exact hi

/-! ## The agenda -/

/-- R101: the run-out ends at STOPPED. -/
theorem Rule.InForce.endStops (hi : r.InForce h v x) (p : Proj) : (r.endStops p).InForce h v x := by
  unfold Rule.endStops
  dsimp only
  split
  · exact hi.endCompletes ..
  · exact hi

/-- R151: the DOUSER cause disarms nothing. -/
theorem Rule.InForce.douserCause (hi : r.InForce h v x) (p : Proj) : (r.douserCause p).InForce h v x :=
  hi.of_view (r.douserCause_speedView p)

/-- What a change of a transport's state brings about. -/
theorem Rule.InForce.transportSeen (hi : r.InForce h v x) (p : Proj) (to1 : TransportState) :
    (r.transportSeen p to1).InForce h v x := by
  cases to1 with
  | starting => exact hi
  | running => exact (hi.upd _ (by simp)).look _
  | stopping => exact ((hi.retireSees ..).douserCause p).look _
  | stopped => exact (((hi.endStops p).retireSees ..).douserCause p).look _
  | broken => exact (((hi.failure ..).retireSees ..).douserCause p).look _

/-- What a change of a douser's state brings about. -/
theorem Rule.InForce.douserSeen (hi : r.InForce h v x) (p : Proj) (to1 : DouserState) :
    (r.douserSeen p to1).InForce h v x := by
  cases to1 with
  | closed => exact (hi.upd _ (by simp)).look _
  | opened => exact hi.look _
  | stuck => exact (((hi.failure ..).upd _ (by simp)).douserCause p).look _
  | opening => exact hi
  | closing => exact hi

/-- Every change of the agenda leaves the speed in force. -/
theorem Rule.InForce.sees (hi : r.InForce h v x) (y : Signal) : (r.sees y).InForce h v x := by
  cases y with
  | transport p to1 => exact hi.transportSeen p to1
  | runupFailed p => exact (hi.failure ..).look _
  | lampLeft p restrike => exact (hi.failure ..).look _
  | lampOff p => exact hi.darkLampOff p
  | lampBurning p => exact (hi.upd _ (by simp)).look _
  | lampStruck p => exact hi.douserCause p
  | portLeft p => exact (hi.failure ..).look _
  | portHeld p => exact hi.look _
  | douser p to1 => exact hi.douserSeen p to1
  | cues p =>
    unfold Rule.sees Rule.cuesJoined
    dsimp only
    split
    · exact hi.takeCues _
    · exact hi
  | readiness g => exact hi.look g

/-- The blocks come to rest with the speed in force. -/
theorem Rule.InForce.settle (n : Nat) {r : Rule} (hi : r.InForce h v x) : (r.settle n).InForce h v x := by
  induction n generalizing r with
  | zero => exact hi
  | succ n ih =>
    unfold Rule.settle
    split
    · exact hi
    · rename_i y rest _
      exact ih (Rule.InForce.sees (hi.of_view (r' := { r with agenda := rest }) rfl) y)

/-- R165: the head of the queue leaves the slot as it is. -/
theorem Link.sendHead_slot (l : Link) : l.sendHead.slot = l.slot := by
  unfold Link.sendHead
  (repeat' split) <;> rfl

/-- R165: a tie broken leaves the view. -/
theorem Rule.breakTie_speedView (r : Rule) : r.breakTie.st.speedView = r.st.speedView := by
  unfold Rule.breakTie
  split
  · rw [Rule.upd_st]
    split <;> simp [Link.sendHead_slot]
  · rfl

/-- A rule ends with the speed in force. -/
theorem Rule.InForce.finish (hi : r.InForce h v x) : ∃ t, r.finish = .next t ∧ t.speedView.InForce h v x :=
  ⟨_, rfl, (hi.settle settleBound).of_view (Rule.breakTie_speedView _)⟩

/-! ## Fire causes -/

/-- A rule carried on over a list. -/
theorem Rule.InForce.each {α : Type} {f : Rule → α → Rule} (hf : ∀ r a, r.InForce h v x → (f r a).InForce h v x)
    (l : List α) {r : Rule} (hi : r.InForce h v x) : (r.each f l).InForce h v x := by
  induction l generalizing r with
  | nil => exact hi
  | cons a rest ih => exact ih (hf r a hi)

/-- R149, R150: houses held, lamps out, motors stopped, lights raised. -/
theorem Rule.InForce.consequences (hi : r.InForce h v x) (cause : DropCause) (p : Option Proj) :
    (r.consequences cause p).InForce h v x := by
  have hheld := hi.each (fun r g hi => hi.fireHold g cause.hold) (fireHouses cause p)
  have hout := hheld.each (f := fun r q => r.extinguish q .fire) (fun r q hi => hi.of_view (by simp)) (fireProjs cause p)
  have hstopped := hout.each (fun r q hi => hi.motorStop q) (fireProjs cause p)
  exact hstopped.each (fun r g hi => hi.upd _ (by simp)) (fireHouses cause p)

/-- R148: a fire cause, whichever of failure and hold is taken first. -/
theorem Rule.InForce.fire (hi : r.InForce h v x) (cause : DropCause) (p : Option Proj) :
    (r.fire cause p).InForce h v x := by
  unfold Rule.fire
  extract_lets r1
  have hd : r1.InForce h v x := hi.of_view (by simp [r1])
  split
  · rename_i r2 _
    have hdrawn : r2.InForce h v x := hd.upd _ (by simp)
    split
    · exact (hdrawn.settle _).consequences ..
    · exact hdrawn.consequences ..
  · exact hd.consequences ..

/-- R155: a reading, and the CRITICAL cause it may bring. -/
theorem Rule.InForce.gradeReading (hi : r.InForce h v x) (t : Nat) : (r.gradeReading t).InForce h v x := by
  unfold Rule.gradeReading
  extract_lets old new r1
  have h1 : r1.InForce h v x := hi.upd _ (by simp)
  split
  · exact h1
  · rename_i r2 _
    have h2 : r2.InForce h v x := h1.upd _ (by simp)
    (repeat' split)
    · exact h2
    · exact h2.fire ..
    · exact h2.upd _ (by simp)
    · exact h2
    · exact h2

/-- R157: the inputs read at power-on leave the speed in force. -/
theorem Rule.InForce.readInputs (hi : r.InForce h v x) (i : FieldInputs) : (r.readInputs i).InForce h v x := by
  unfold Rule.readInputs
  extract_lets r1 r2 r3
  have h1 : r1.InForce h v x := by
    unfold r1
    split
    · exact hi.fire ..
    · exact hi
  have h2 : r2.InForce h v x := by
    unfold r2
    split
    · exact h1.fire ..
    · exact h1
  have h3 : r3.InForce h v x := by
    refine h2.each (fun r p hi => ?_) allProjs
    unfold Rule.gateHeats
    (repeat' split)
    · exact hi
    · exact hi.fire ..
    · exact hi
  exact h3.gradeReading _

end
end Sys2Proof.Machine
end

section
/-! PROOFS. SET SPEED (R15): its decision, the state it leaves, and the speed at power-on and restart. -/

namespace Sys2Proof.Machine

/-! ## Numbers -/

/-- A number of a house names that house. -/
theorem houseOfNumber_of_toNat {b : Byte} {h : HouseId} (hb : b.toNat = h.val + 1) : houseOfNumber b = some h := by
  have hin : 1 ≤ b.toNat ∧ b.toNat ≤ 4 := by omega
  simp only [houseOfNumber, hin, and_self, dite_true, Option.some.injEq, Fin.ext_iff]
  omega

/-- A number outside 1 to 4 names no house. -/
theorem houseOfNumber_outside {b : Byte} (hb : b.toNat = 0 ∨ 4 < b.toNat) : houseOfNumber b = none := by
  have hout : ¬ (1 ≤ b.toNat ∧ b.toNat ≤ 4) := by omega
  simp [houseOfNumber, hout]

/-- A house's projectors are the ones of its two sides. -/
theorem houseOf_eq_iff (p : Proj) (h : HouseId) : houseOf p = h ↔ p = projAt h .a ∨ p = projAt h .b := by
  simp only [houseOf, projAt, Fin.ext_iff]
  omega

/-- The two sides of a house are two projectors. -/
theorem projAt_a_ne_b (h : HouseId) : projAt h .a ≠ projAt h .b := by
  simp [projAt, Fin.ext_iff]

/-! ## A record taken at once -/

/-- A rule that settles in a state with no tie to break ends in it. -/
theorem Rule.finish_settled {r : Rule} {s : State} {t : Bool} (hr : r.settle settleBound = ⟨s, [], t⟩)
    (ht : t = true → s.link.queue = []) : r.finish = .next s := by
  simp only [Rule.finish, hr, Rule.breakTie]
  split
  · rename_i hq
    exact absurd (ht hq.1) hq.2
  · rfl

/-- Changes that the blocks see with no effect leave the state in which the rule stands. -/
theorem Rule.settle_unheeded (n : Nat) (s : State) (l : List Signal) (t : Bool) (hl : l.length ≤ n)
    (hq : ∀ y ∈ l, ∀ l', Rule.sees ⟨s, l', t⟩ y = ⟨s, l', t⟩) : Rule.settle n ⟨s, l, t⟩ = ⟨s, [], t⟩ := by
  induction l generalizing n with
  | nil => simp
  | cons y rest ih =>
    cases n with
    | zero => simp at hl
    | succ n =>
      rw [Rule.settle_cons, hq y (by simp)]
      exact ih n (by simpa using hl) (fun z hz => hq z (by simp [hz]))

/-- R165: an IDLE transmitter is taken for the reply to come. -/
def Link.claimed (l : Link) : Link := { l with transmitter := if l.transmitter = .idle then .reply else l.transmitter }

/-- The reply placed where the transmitter has been claimed for it. -/
theorem Link.claimed_replied (l : Link) (x : Reply) : { l.claimed with slot := some x } = l.replied x := rfl

/-- R161, R162, R163: where the link is ready, a request's record is decided in its own rule and its reply placed. The rule's
tie is there only for an IDLE transmitter, which has no report waiting. -/
theorem Rule.request_ready (s : State) (q : Request) (hs : s.linkReady) :
    ∃ tie, (tie = true → s.link.queue = []) ∧ Rule.request ⟨s, [], false⟩ q =
      let d := Rule.decideRecord ⟨s.setLink s.link.claimed, [], false⟩ (recordOf q)
      { d.rule.upd (fun s => s.setLink { s.link with slot := some (d.answer.reply (recordOf q).kind) }) with
        tie := tie } := by
  obtain ⟨hb, hslot, hidle⟩ := hs
  refine ⟨decide (s.link.transmitter = .idle) && decide ((recordOf q).kind ≠ restartKind), ?_, ?_⟩
  · intro ht
    exact hidle (by simp_all)
  · unfold Rule.request
    rw [Rule.arrives_taken _ _ hb hslot]
    rfl

/-! ## The decision of SET SPEED -/

/-- R15: the state in which SET SPEED leaves house `h`: the speed given, and both lamps judged at it. -/
def State.setSpeed (s : State) (h : HouseId) (v : Nat) : State :=
  ((s.modHs h (fun x => { x with speed := v })).judged (projAt h .a)).judged (projAt h .b)

/-- R80: a judgement changes the view's judgement alone. -/
theorem State.speedView_judged (s : State) (p : Proj) : (s.judged p).speedView =
    { s.speedView with judged := fun q => if q = p then s.sufficiencyOf p else s.speedView.judged q } :=
  s.speedView_setLp_judged p _ rfl rfl

/-- R80: a judgement rests on no judgement. -/
@[simp] theorem State.sufficiencyOf_judged (s : State) (p q : Proj) : (s.judged p).sufficiencyOf q = s.sufficiencyOf q := by
  rw [State.sufficiencyOf_eq_verdict, State.sufficiencyOf_eq_verdict, State.speedView_judged]
  rfl

@[simp] theorem State.judged_lp (s : State) (p q : Proj) :
    (s.judged p).lp q = if q = p then { s.lp q with sufficiency := s.sufficiencyOf q } else s.lp q := by
  simp only [State.judged, State.setLp_lp]
  split <;> simp_all

/-- R80: an evaluation judges the lamp, and at most tells its house of a readiness. -/
theorem Rule.evalSufficiency_cases (s : State) (l : List Signal) (t : Bool) (p : Proj) :
    ∃ l', (l' = [] ∨ l' = [.readiness (houseOf p)]) ∧ Rule.evalSufficiency ⟨s, l, t⟩ p = ⟨s.judged p, l ++ l', t⟩ := by
  unfold Rule.evalSufficiency
  dsimp only
  split
  · exact ⟨_, .inr rfl, rfl⟩
  · exact ⟨[], .inl rfl, by simp [Rule.upd, State.judged, State.judge_eq_sufficiencyOf]⟩

/-- R15: an accepted SET SPEED, and what it leaves on the agenda: a readiness at most, of each lamp. -/
theorem Rule.decideSetSpeed_done (s : State) (b speed : Byte) (h : HouseId) (hb : b.toNat = h.val + 1)
    (hv : speed.toNat = 24 ∨ speed.toNat = 25) (ht : ∀ sd, (s.tr (projAt h sd)).state = .stopped) :
    ∃ l, l.length ≤ 2 ∧ (∀ y ∈ l, y = .readiness h) ∧
      Rule.decideSetSpeed ⟨s, [], false⟩ b speed = ⟨.done .nothing, ⟨s.setSpeed h speed.toNat, l, false⟩⟩ := by
  have hrange : ¬ (speed.toNat ≠ 24 ∧ speed.toNat ≠ 25) := by omega
  obtain ⟨la, hla, hea⟩ := Rule.evalSufficiency_cases (s.modHs h (fun x => { x with speed := speed.toNat })) [] false
    (projAt h .a)
  obtain ⟨lb, hlb, heb⟩ := Rule.evalSufficiency_cases
    ((s.modHs h (fun x => { x with speed := speed.toNat })).judged (projAt h .a)) la false (projAt h .b)
  have hha : houseOf (projAt h .a) = h := (houseOf_eq_iff _ h).2 (.inl rfl)
  have hhb : houseOf (projAt h .b) = h := (houseOf_eq_iff _ h).2 (.inr rfl)
  refine ⟨la ++ lb, ?_, ?_, ?_⟩
  · rcases hla with rfl | rfl <;> rcases hlb with rfl | rfl <;> simp
  · rcases hla with rfl | rfl <;> rcases hlb with rfl | rfl <;> simp [hha, hhb]
  · simp only [Rule.decideSetSpeed, houseOfNumber_of_toNat hb, hrange, ht, if_false, ne_eq, not_true_eq_false, or_self]
    simp only [Rule.upd, hea, List.nil_append, heb, Rule.done]
    rfl

/-! ## The state that SET SPEED leaves -/

/-- R15: SET SPEED touches houses and lamps alone. -/
theorem State.setSpeed_keeps (s : State) (h : HouseId) (v : Nat) :
    (s.setSpeed h v).link = s.link ∧ (s.setSpeed h v).transports = s.transports ∧ (s.setSpeed h v).readers = s.readers ∧
      (s.setSpeed h v).dousers = s.dousers ∧ (s.setSpeed h v).lights = s.lights ∧ (s.setSpeed h v).ports = s.ports ∧
      (s.setSpeed h v).booth = s.booth := by
  simp [State.setSpeed, State.modHs, State.judged]

/-- R15: the house's record has the speed given, and no other house is changed. -/
theorem State.setSpeed_hs (s : State) (h g : HouseId) (v : Nat) :
    (s.setSpeed h v).hs g = if g = h then { s.hs h with speed := v } else s.hs g := by
  simp [State.setSpeed, State.modHs, State.judged]

/-- R80: the lamps of the house are judged afresh at the speed given, and no other lamp is changed. -/
theorem State.setSpeed_lp (s : State) (h : HouseId) (v : Nat) (p : Proj) :
    (s.setSpeed h v).lp p = if houseOf p = h then { s.lp p with sufficiency := (s.setSpeed h v).sufficiencyOf p }
      else s.lp p := by
  have hne := (projAt_a_ne_b h).symm
  by_cases ha : p = projAt h .a
  · simp [State.setSpeed, houseOf_eq_iff, ha, State.modHs]
  · by_cases hb : p = projAt h .b <;> simp [State.setSpeed, houseOf_eq_iff, ha, hb, hne, State.modHs]

/-- R15, R80: SET SPEED puts its speed in force. -/
theorem State.setSpeed_inForce (s : State) (h : HouseId) (v : Nat) :
    (s.setSpeed h v).speedView.InForce h v s.link.slot where
  speed := by simp [State.speedView, s.setSpeed_hs]
  slot := congrArg Link.slot (s.setSpeed_keeps h v).1
  judged p hp := by
    rw [← State.sufficiencyOf_eq_verdict]
    show ((s.setSpeed h v).lp p).sufficiency = _
    rw [s.setSpeed_lp, if_pos hp]

/-- R95, R112, R114, R117: a house with no changeover record and both transports STOPPED has nothing to begin. -/
theorem Rule.look_stopped (r : Rule) (h : HouseId) (hc : (r.st.hs h).change = none)
    (ht : ∀ sd, (r.st.tr (projAt h sd)).state = .stopped) : r.look h = r := by
  have hpicture : r.pictureTest h = r := by
    unfold Rule.pictureTest
    dsimp only
    (repeat' split) <;> simp_all
  simp [Rule.look, hpicture, Rule.readinessTest, Rule.crossingTest, Rule.completionTest, hc]

/-! ## The command -/

/-- R162: a SET SPEED that is refused leaves its reply and nothing else. -/
theorem exec_setSpeed_refused (s : State) (dt : Nat) (b speed : Byte) (reason : RefusalReason) (hs : s.linkReady)
    (hd : ∀ r : Rule, r.st.transports = s.transports → r.decideSetSpeed b speed = r.refuse reason) :
    exec (.setSpeed dt b speed) s = .next ((s.elapse dt).replied (.refused 18 reason .nothing)) := by
  obtain ⟨tie, htie, hr⟩ := Rule.request_ready (s.elapse dt) (.setSpeed b speed) hs
  have hrefuse : Rule.decideRecord ⟨(s.elapse dt).setLink s.link.claimed, [], false⟩ (recordOf (.setSpeed b speed)) =
      Rule.refuse _ reason := hd _ rfl
  calc exec (.setSpeed dt b speed) s = (Rule.request ⟨s.elapse dt, [], false⟩ (.setSpeed b speed)).finish := rfl
    _ = _ := by
      rw [hr, State.elapse_link, hrefuse]
      exact Rule.finish_settled (Rule.settle_nil _ _ _) htie

/-- R15: an accepted SET SPEED, up to what the blocks then see: the state it leaves, with DONE in the slot, and readinesses of
its house on the agenda. -/
theorem exec_setSpeed_accepted (s : State) (dt : Nat) (b speed : Byte) (h : HouseId) (hs : s.linkReady)
    (hb : b.toNat = h.val + 1) (hv : speed.toNat = 24 ∨ speed.toNat = 25)
    (ht : ∀ sd, (s.tr (projAt h sd)).state = .stopped) :
    ∃ l tie, l.length ≤ 2 ∧ (∀ y ∈ l, y = .readiness h) ∧ (tie = true → s.link.queue = []) ∧
      exec (.setSpeed dt b speed) s = Rule.finish ⟨(((s.elapse dt).setLink s.link.claimed).setSpeed h speed.toNat).setLink
        (s.link.replied (.done 18 .nothing)), l, tie⟩ := by
  obtain ⟨tie, htie, hr⟩ := Rule.request_ready (s.elapse dt) (.setSpeed b speed) hs
  obtain ⟨l, hlen, hl, hd⟩ := Rule.decideSetSpeed_done ((s.elapse dt).setLink s.link.claimed) b speed h hb hv ht
  refine ⟨l, tie, hlen, hl, htie, ?_⟩
  have hdone : Rule.decideRecord ⟨(s.elapse dt).setLink s.link.claimed, [], false⟩ (recordOf (.setSpeed b speed)) = _ := hd
  calc exec (.setSpeed dt b speed) s = (Rule.request ⟨s.elapse dt, [], false⟩ (.setSpeed b speed)).finish := rfl
    _ = _ := by
      rw [hr, State.elapse_link, hdone]
      simp only [Rule.upd, (State.setSpeed_keeps _ h speed.toNat).1, State.setLink_link, Link.claimed_replied]
      rfl

/-- R15: with no changeover record to wait for it, an accepted SET SPEED ends in the state it leaves. -/
theorem exec_setSpeed_noChange (s : State) (dt : Nat) (b speed : Byte) (h : HouseId) (hs : s.linkReady)
    (hb : b.toNat = h.val + 1) (hv : speed.toNat = 24 ∨ speed.toNat = 25)
    (ht : ∀ sd, (s.tr (projAt h sd)).state = .stopped) (hc : (s.hs h).change = none) :
    exec (.setSpeed dt b speed) s = .next ((((s.elapse dt).setLink s.link.claimed).setSpeed h speed.toNat).setLink
      (s.link.replied (.done 18 .nothing))) := by
  obtain ⟨l, tie, hlen, hl, htie, he⟩ := exec_setSpeed_accepted s dt b speed h hs hb hv ht
  rw [he]
  refine Rule.finish_settled (Rule.settle_unheeded settleBound _ l tie (hlen.trans (by decide)) fun y hy l' => ?_) htie
  rw [hl y hy]
  refine Rule.look_stopped _ h ?_ fun sd => ?_
  · simp [State.setSpeed_hs, hc]
  · obtain ⟨-, htr, -⟩ := State.setSpeed_keeps ((s.elapse dt).setLink s.link.claimed) h speed.toNat
    simpa [State.tr, htr] using ht sd

/-- R15, R80: an accepted SET SPEED puts its speed in force, whatever the house does as it sees a lamp become sufficient. -/
theorem exec_setSpeed_inForce (s : State) (dt : Nat) (b speed : Byte) (h : HouseId) (hs : s.linkReady)
    (hb : b.toNat = h.val + 1) (hv : speed.toNat = 24 ∨ speed.toNat = 25)
    (ht : ∀ sd, (s.tr (projAt h sd)).state = .stopped) :
    ∃ t, exec (.setSpeed dt b speed) s = .next t ∧
      t.speedView.InForce h speed.toNat (some (.done 18 .nothing)) := by
  obtain ⟨l, tie, -, -, -, he⟩ := exec_setSpeed_accepted s dt b speed h hs hb hv ht
  obtain ⟨hspeed, -, hjudged⟩ := ((s.elapse dt).setLink s.link.claimed).setSpeed_inForce h speed.toNat
  rw [he]
  exact Rule.InForce.finish ⟨hspeed, rfl, hjudged⟩

/-! ## Power-on and restart -/

/-- R102: at power-on the speed in force is 24: no projector holds a reel, so none is judged. -/
theorem State.powerOn_inForce (s : State) (i : FieldInputs) (h : HouseId) :
    (s.powerOn i).speedView.InForce h 24 none := by
  have hh : (s.powerOn i).hs h = House.powerOn := by simp [State.powerOn, State.hs, Bank.cell]
  have ht (p : Proj) : (s.powerOn i).tr p = Transport.powerOn := by simp [State.powerOn, State.tr, Bank.cell]
  have hl (p : Proj) : (s.powerOn i).lp p = Lamp.powerOn := by simp [State.powerOn, State.lp, Bank.cell]
  refine ⟨by simp [State.speedView, hh, House.powerOn], rfl, fun p _ => ?_⟩
  simp [SpeedView.verdict, State.speedView, ht, hl, Transport.powerOn, Lamp.powerOn]

/-- What each step of a list keeps, the list keeps. -/
theorem State.each_keeps {α β : Type} (g : State → β) (f : State → α → State) (hf : ∀ s a, g (f s a) = g s)
    (l : List α) (s : State) : g (s.each f l) = g s := by
  induction l generalizing s with
  | nil => rfl
  | cons a rest ih => exact (ih _).trans (hf s a)

/-- R48: a douser's restart touches no house. -/
theorem State.restartDouser_hs (s : State) (p : Proj) (h : HouseId) : (s.restartDouser p).hs h = s.hs h := by
  unfold State.restartDouser
  split <;> simp

/-- R102: the restart values of the blocks keep the speed of every house. -/
theorem State.restartBlocks_speed (s : State) (h : HouseId) : (s.restartBlocks.hs h).speed = (s.hs h).speed := by
  unfold State.restartBlocks
  extract_lets s1 s2 s3 s4 s5 s6
  have hhouses : (s6.hs h).speed = (s5.hs h).speed := by
    refine State.each_keeps (fun s => (s.hs h).speed) _ (fun s g => ?_) allHouses s5
    simp only [State.setHs_hs]
    split <;> simp_all [House.restart]
  calc _ = (s6.hs h).speed := congrArg House.speed (State.each_keeps (fun s => s.hs h) _ (by simp) allHouses s6)
    _ = (s5.hs h).speed := hhouses
    _ = (s4.hs h).speed := congrArg House.speed (State.each_keeps (fun s => s.hs h) _ (by simp [State.restartJudge]) allProjs s4)
    _ = (s3.hs h).speed := congrArg House.speed
      (State.each_keeps (fun s => s.hs h) _ (fun s p => s.restartDouser_hs p h) allProjs s3)
    _ = (s2.hs h).speed := congrArg House.speed (State.each_keeps (fun s => s.hs h) _ (by simp) allProjs s2)
    _ = (s1.hs h).speed := congrArg House.speed (State.each_keeps (fun s => s.hs h) _ (by simp) allProjs s1)
    _ = (s.hs h).speed := congrArg House.speed (State.each_keeps (fun s => s.hs h) _ (by simp) allProjs s)

/-- R48: reading the switches touches neither the link nor a house. -/
theorem State.readSwitches_keeps (s : State) (sw : Bank SwitchPair 8) :
    (s.readSwitches sw).link = s.link ∧ (s.readSwitches sw).houses = s.houses := by
  unfold State.readSwitches
  split
  · exact ⟨State.each_keeps State.link _ (by simp) allProjs s, State.each_keeps State.houses _ (by simp) allProjs s⟩
  · exact ⟨rfl, rfl⟩

/-- R169: RESTART, accepted or refused, leaves nothing for the blocks to see and keeps the speed of every house. -/
theorem Rule.decideRestart_keeps (s : State) (tie : Bool) (h : HouseId) :
    (Rule.decideRestart ⟨s, [], tie⟩).rule.agenda = [] ∧
      ((Rule.decideRestart ⟨s, [], tie⟩).rule.st.hs h).speed = (s.hs h).speed := by
  unfold Rule.decideRestart
  split
  · exact ⟨rfl, rfl⟩
  · refine ⟨rfl, ?_⟩
    simp only [Rule.done, Rule.upd_st, State.setLink_hs]
    exact s.restartBlocks_speed h

/-- A rule with nothing on its agenda ends with the view it has. -/
theorem Rule.finish_speedView (r : Rule) (hr : r.agenda = []) :
    ∃ t, r.finish = .next t ∧ t.speedView = r.st.speedView := by
  obtain ⟨s, l, tie⟩ := r
  obtain rfl : l = [] := hr
  exact ⟨_, rfl, by rw [Rule.settle_nil, Rule.breakTie_speedView]⟩

/-- R102: a RESTART keeps the speed of every house. -/
theorem exec_restart_speed (s : State) (dt : Nat) (sw : Bank SwitchPair 8) (h : HouseId) (hs : s.linkReady) :
    ∃ t, exec (.restart dt sw) s = .next t ∧ (t.hs h).speed = (s.hs h).speed := by
  obtain ⟨hlink, hhouses⟩ := (s.elapse dt).readSwitches_keeps sw
  obtain ⟨tie, -, hr⟩ := Rule.request_ready ((s.elapse dt).readSwitches sw) .restart (by simpa [State.linkReady, hlink] using hs)
  obtain ⟨hagenda, hspeed⟩ := Rule.decideRestart_keeps
    (((s.elapse dt).readSwitches sw).setLink ((s.elapse dt).readSwitches sw).link.claimed) false h
  obtain ⟨t, he, hv⟩ := Rule.finish_speedView (Rule.request ⟨(s.elapse dt).readSwitches sw, [], false⟩ .restart)
    (by rw [hr]; exact hagenda)
  refine ⟨t, he, ?_⟩
  calc (t.hs h).speed = t.speedView.speed h := rfl
    _ = (((s.elapse dt).readSwitches sw).hs h).speed := by
      rw [hv, hr]
      exact hspeed
    _ = (s.hs h).speed := by simp [State.hs, hhouses]

/-- R102: the speed of every house is 24 after a power-on. -/
theorem exec_powerOn_speed (s : State) (dt : Nat) (i : FieldInputs) (h : HouseId) :
    ∃ t, exec (.powerOn dt i) s = .next t ∧ (t.hs h).speed = 24 := by
  have hi : ((Rule.begin s dt).upd (fun s => s.powerOn i)).InForce h 24 none := (s.elapse dt).powerOn_inForce i h
  obtain ⟨t, he, ht⟩ := (hi.readInputs i).finish
  exact ⟨t, he, ht.speed⟩

/-! ## The statement -/

/-- Settles O6. The refusals are read off the decision; an accepted SET SPEED is known exactly where no changeover record
waits, and elsewhere what it puts in force survives all that the blocks bring about. -/
theorem setSpeedPutsTheSpeedInForce : Obligations.SetSpeedPutsTheSpeedInForce := by
  have hboth {s : State} {h : HouseId} (ha : (s.tr (projAt h .a)).state = .stopped)
      (hb : (s.tr (projAt h .b)).state = .stopped) (sd : Side) : (s.tr (projAt h sd)).state = .stopped := by
    cases sd with
    | a => exact ha
    | b => exact hb
  refine ⟨fun s dt b v h hs hb => ⟨fun h24 h25 => ?_, fun hv hmoves => ?_, fun hv hta htb hc => ?_⟩,
    fun s dt b v h hs hb hv hta htb => ?_, fun s dt b v h i sw hs => ⟨fun hb => ?_, ?_, ?_⟩⟩
  · refine exec_setSpeed_refused s dt b v .range hs fun r _ => ?_
    simp [Rule.decideSetSpeed, houseOfNumber_of_toNat hb, h24, h25]
  · refine exec_setSpeed_refused s dt b v .state hs fun r hr => ?_
    have hrange : ¬ (v.toNat ≠ 24 ∧ v.toNat ≠ 25) := by omega
    simp only [State.tr, ← hr] at hmoves
    simp only [Rule.decideSetSpeed, houseOfNumber_of_toNat hb, if_neg hrange]
    exact if_pos hmoves
  · refine ⟨_, exec_setSpeed_noChange s dt b v h hs hb hv (hboth hta htb) hc, ?_⟩
    obtain ⟨-, htr, hrd, hds, hlt, hpt, hbooth⟩ := State.setSpeed_keeps ((s.elapse dt).setLink s.link.claimed) h v.toNat
    refine ⟨?_, fun g hg => ?_, fun p hp => ?_, fun p hp => ?_, htr, hrd, hds, hlt, hpt, hbooth, rfl⟩
    · simp [State.setSpeed_hs]
    · simp [State.setSpeed_hs, hg]
    · exact (State.setSpeed_lp _ h v.toNat p).trans (if_pos hp)
    · exact (State.setSpeed_lp _ h v.toNat p).trans (if_neg hp)
  · obtain ⟨t, he, hspeed, hslot, hjudged⟩ := exec_setSpeed_inForce s dt b v h hs hb hv (hboth hta htb)
    refine ⟨t, he, hspeed, fun p hp => ⟨by subst hp; exact hspeed, ?_⟩, hslot⟩
    exact (hjudged p hp).trans (t.sufficiencyOf_eq_verdict p).symm
  · refine exec_setSpeed_refused s dt b v .target hs fun r _ => ?_
    simp [Rule.decideSetSpeed, houseOfNumber_outside hb]
  · exact exec_powerOn_speed s dt i h
  · exact exec_restart_speed s dt sw h hs

end Sys2Proof.Machine
end

section
/-! PROOFS. What a house shows: the part of its records that a show turns on, and what the operations of the blocks leave of it.
Two kinds of lemma: an operation that keeps the view of every house, and one of house `g` that keeps the view of any other. -/

namespace Sys2Proof.Machine

/-! ## The view of a house -/

/-- What a house controller acts on in a show (R93, R103), the levels in force (R99), and the program target last given to the
house's light channel with its fade (R126, R130). -/
structure ShowView where
  state : HouseState
  startingSide : Option Side
  liveSide : Option Side
  change : Option Changeover
  levels : HouseLevels
  target : Nat
  fade : Nat

/-- The view of house `h` in a state. -/
def State.showView (s : State) (h : HouseId) : ShowView where
  state := (s.hs h).state
  startingSide := (s.hs h).startingSide
  liveSide := (s.hs h).liveSide
  change := (s.hs h).change
  levels := (s.hs h).levels
  target := (s.lt h).programTarget
  fade := (s.lt h).programFade

/-- The view reads the houses and the lights alone. -/
theorem State.showView_congr {s s' : State} (hh : s'.houses = s.houses) (hl : s'.lights = s.lights) (h : HouseId) :
    s'.showView h = s.showView h := by
  simp only [State.showView, State.hs, State.lt, hh, hl]

/-! ## One record replaced -/

@[simp] theorem State.showView_setTr (s : State) (p : Proj) (x : Transport) (h : HouseId) :
    (s.setTr p x).showView h = s.showView h := rfl
@[simp] theorem State.showView_setRd (s : State) (p : Proj) (x : Reader) (h : HouseId) :
    (s.setRd p x).showView h = s.showView h := rfl
@[simp] theorem State.showView_setDs (s : State) (p : Proj) (x : Douser) (h : HouseId) :
    (s.setDs p x).showView h = s.showView h := rfl
@[simp] theorem State.showView_setLp (s : State) (p : Proj) (x : Lamp) (h : HouseId) :
    (s.setLp p x).showView h = s.showView h := rfl
@[simp] theorem State.showView_setPt (s : State) (n : PortId) (x : Port) (h : HouseId) :
    (s.setPt n x).showView h = s.showView h := rfl
@[simp] theorem State.showView_setLink (s : State) (x : Link) (h : HouseId) : (s.setLink x).showView h = s.showView h := rfl
@[simp] theorem State.showView_setBooth (s : State) (x : Booth) (h : HouseId) : (s.setBooth x).showView h = s.showView h := rfl
@[simp] theorem State.showView_setDraws (s : State) (n : Nat) (h : HouseId) : (s.setDraws n).showView h = s.showView h := rfl
@[simp] theorem State.showView_elapse (s : State) (dt : Nat) (h : HouseId) : (s.elapse dt).showView h = s.showView h := rfl

/-- A house's record replaced by one that shows the same. -/
@[simp] theorem State.showView_setHs (s : State) (g h : HouseId) (x : House) (hst : x.state = (s.hs g).state)
    (hss : x.startingSide = (s.hs g).startingSide) (hls : x.liveSide = (s.hs g).liveSide) (hc : x.change = (s.hs g).change)
    (hl : x.levels = (s.hs g).levels) : (s.setHs g x).showView h = s.showView h := by
  simp only [State.showView, State.setHs_hs, State.setHs_lt]
  split <;> simp_all

@[simp] theorem State.showView_setHs_other (s : State) (g h : HouseId) (x : House) (hg : h ≠ g) :
    (s.setHs g x).showView h = s.showView h := by
  simp [State.showView, hg]

@[simp] theorem State.showView_modHs (s : State) (g h : HouseId) (f : House → House) (hst : (f (s.hs g)).state = (s.hs g).state)
    (hss : (f (s.hs g)).startingSide = (s.hs g).startingSide) (hls : (f (s.hs g)).liveSide = (s.hs g).liveSide)
    (hc : (f (s.hs g)).change = (s.hs g).change) (hl : (f (s.hs g)).levels = (s.hs g).levels) :
    (s.modHs g f).showView h = s.showView h :=
  s.showView_setHs g h _ hst hss hls hc hl

@[simp] theorem State.showView_modHs_other (s : State) (g h : HouseId) (f : House → House) (hg : h ≠ g) :
    (s.modHs g f).showView h = s.showView h := s.showView_setHs_other g h _ hg

@[simp] theorem State.showView_setLt_other (s : State) (g h : HouseId) (x : Light) (hg : h ≠ g) :
    (s.setLt g x).showView h = s.showView h := by
  simp [State.showView, hg]

/-! ## Light channels -/

/-- R127: a fade begun leaves the program target and its fade as they were given. -/
theorem Light.fadeTo_program (l : Light) (now : Instant) (f : Nat) :
    (l.fadeTo now f).programTarget = l.programTarget ∧ (l.fadeTo now f).programFade = l.programFade := by
  unfold Light.fadeTo
  (repeat' split) <;> simp [Light.setLevel]

/-- R130: a program target given stands in the channel, whichever layer controls. -/
theorem Light.giveProgram_program (l : Light) (now : Instant) (target fade : Nat) (o : Origin) :
    (l.giveProgram now target fade o).programTarget = target ∧ (l.giveProgram now target fade o).programFade = fade := by
  unfold Light.giveProgram
  dsimp only
  (repeat' split)
  · simp
  · simp
  · exact Light.fadeTo_program _ now fade

/-- R130: the house shows the program target it gives. -/
theorem State.showView_programTarget_same (s : State) (h : HouseId) (target fade : Nat) (o : Origin) :
    (s.programTarget h target fade o).showView h = { s.showView h with target := target, fade := fade } := by
  obtain ⟨ht, hf⟩ := (s.lt h).giveProgram_program s.now target fade o
  simp [State.showView, State.programTarget, ht, hf]

@[simp] theorem State.showView_programTarget (s : State) (g h : HouseId) (target fade : Nat) (o : Origin) (hg : h ≠ g) :
    (s.programTarget g target fade o).showView h = s.showView h := by
  simp [State.programTarget, hg]

/-- R133: an activation of SAFETY leaves the program target that the MANUAL and SAFETY layers hide. -/
@[simp] theorem State.showView_activateSafety (s : State) (g h : HouseId) :
    (s.activateSafety g).showView h = s.showView h := by
  have hkeeps (l : Light) : (l.activateSafety s.now).programTarget = l.programTarget ∧
      (l.activateSafety s.now).programFade = l.programFade := by
    unfold Light.activateSafety
    split
    · simp
    · exact Light.fadeTo_program _ s.now 0
  by_cases hg : h = g
  · simp [State.showView, State.activateSafety, hg, hkeeps]
  · simp [State.activateSafety, hg]

/-! ## Operations that keep the view of every house -/

@[simp] theorem State.showView_report (s : State) (n : Nat) (b : ReportBody) (h : HouseId) :
    (s.report n b).showView h = s.showView h := rfl
@[simp] theorem State.showView_reportProj (s : State) (p : Proj) (b : ReportBody) (h : HouseId) :
    (s.reportProj p b).showView h = s.showView h := rfl
@[simp] theorem State.showView_reportHouse (s : State) (g : HouseId) (b : ReportBody) (h : HouseId) :
    (s.reportHouse g b).showView h = s.showView h := rfl
@[simp] theorem State.showView_reportBooth (s : State) (b : ReportBody) (h : HouseId) :
    (s.reportBooth b).showView h = s.showView h := rfl
@[simp] theorem State.showView_evalBurst (s : State) (p : Proj) (h : HouseId) :
    (s.evalBurst p).showView h = s.showView h := rfl

@[simp] theorem State.showView_modReel (s : State) (g : HouseId) (n : Nat) (f : ReelEntry → ReelEntry) (h : HouseId) :
    (s.modReel g n f).showView h = s.showView h := by
  simp [State.modReel]

@[simp] theorem State.showView_setStatus (s : State) (g : HouseId) (n : Nat) (x : ReelStatus) (h : HouseId) :
    (s.setStatus g n x).showView h = s.showView h := by
  simp [State.setStatus]

@[simp] theorem State.showView_setLiveStatus (s : State) (g : HouseId) (x : ReelStatus) (h : HouseId) :
    (s.setLiveStatus g x).showView h = s.showView h := by
  unfold State.setLiveStatus
  split <;> simp

@[simp] theorem State.showView_setHeldStatus (s : State) (p : Proj) (x : ReelStatus) (h : HouseId) :
    (s.setHeldStatus p x).showView h = s.showView h := by
  unfold State.setHeldStatus
  split <;> simp

@[simp] theorem State.showView_interrupt (s : State) (g h : HouseId) : (s.interrupt g).showView h = s.showView h := by
  unfold State.interrupt
  split <;> simp

@[simp] theorem State.showView_giveUpEntry (s : State) (p : Proj) (h : HouseId) :
    (s.giveUpEntry p).showView h = s.showView h := by
  unfold State.giveUpEntry
  split <;> simp

@[simp] theorem State.showView_modMarks (s : State) (g : HouseId) (f : ReelMarks → ReelMarks) (h : HouseId) :
    (s.modMarks g f).showView h = s.showView h := by
  simp [State.modMarks]

@[simp] theorem State.showView_clearBadMark (s : State) (p : Proj) (h : HouseId) :
    (s.clearBadMark p).showView h = s.showView h := by
  unfold State.clearBadMark
  dsimp only
  split <;> simp

@[simp] theorem State.showView_reportBadHead (s : State) (g : HouseId) (p : Proj) (e : CueEntry) (h : HouseId) :
    (s.reportBadHead g p e).showView h = s.showView h := by
  unfold State.reportBadHead
  split <;> simp

@[simp] theorem State.showView_selectSide (s : State) (g : HouseId) (sd : Side) (h : HouseId) :
    (s.selectSide g sd).showView h = s.showView h := by
  unfold State.selectSide
  split <;> simp

@[simp] theorem State.showView_selectNone (s : State) (g h : HouseId) : (s.selectNone g).showView h = s.showView h := by
  simp [State.selectNone]

@[simp] theorem State.showView_soundWatch (s : State) (p : Proj) (h : HouseId) :
    (s.soundWatch p).showView h = s.showView h := by
  unfold State.soundWatch
  split <;> simp

@[simp] theorem State.showView_closeCommand (s : State) (p : Proj) (h : HouseId) :
    (s.closeCommand p).showView h = s.showView h := by
  obtain ⟨x, he | he⟩ := s.closeCommand_cases p <;> simp [he]

@[simp] theorem State.showView_closeBoth (s : State) (g h : HouseId) : (s.closeBoth g).showView h = s.showView h := by
  simp [State.closeBoth]

@[simp] theorem State.showView_openCommand (s : State) (p : Proj) (h : HouseId) :
    (s.openCommand p).showView h = s.showView h := by
  unfold State.openCommand
  dsimp only
  split <;> simp

@[simp] theorem State.showView_gatingWatch (s : State) (p : Proj) (h : HouseId) :
    (s.gatingWatch p).showView h = s.showView h := by
  unfold State.gatingWatch
  split <;> simp

@[simp] theorem State.showView_endTrial (s : State) (p : Proj) (o : TrialOutcome) (h : HouseId) :
    (s.endTrial p o).showView h = s.showView h := by
  unfold State.endTrial
  split <;> simp

@[simp] theorem State.showView_stopTrials (s : State) (l : List PortId) (h : HouseId) :
    (s.stopTrials l).showView h = s.showView h := by
  induction l generalizing s with
  | nil => rfl
  | cons n rest ih =>
    unfold State.stopTrials
    split <;> simp [ih]

@[simp] theorem State.showView_readerDiscards (s : State) (p : Proj) (x : ReaderState) (h : HouseId) :
    (s.readerDiscards p x).showView h = s.showView h := by
  unfold State.readerDiscards
  dsimp only
  split <;> simp

@[simp] theorem State.showView_readerStarts (s : State) (p : Proj) (h : HouseId) :
    (s.readerStarts p).showView h = s.showView h := by
  unfold State.readerStarts
  split <;> simp

@[simp] theorem State.showView_leaveRunning (s : State) (p : Proj) (h : HouseId) :
    (s.leaveRunning p).showView h = s.showView h := by
  unfold State.leaveRunning State.dropRunoutCount
  dsimp only
  split <;> simp

@[simp] theorem State.showView_endBurstFor (s : State) (p : Proj) (reason : StopReason) (h : HouseId) :
    (s.endBurstFor p reason).showView h = s.showView h := by
  unfold State.endBurstFor State.endBurst
  (repeat' split) <;> simp

@[simp] theorem State.showView_writeRecord (s : State) (c : DropCause) (p : Option Proj) (l : List PortId) (h : HouseId) :
    (s.writeRecord c p l).showView h = s.showView h := by
  obtain ⟨-, -, -, -, -, hh, hl, -⟩ := s.writeRecord_keeps c p l
  exact State.showView_congr hh hl h

@[simp] theorem State.showView_writeOutcome (s : State) (n : PortId) (o : DropOutcome) (h : HouseId) :
    (s.writeOutcome n o).showView h = s.showView h := by
  obtain ⟨-, -, -, -, -, hh, hl, -⟩ := s.writeOutcome_keeps n o
  exact State.showView_congr hh hl h

@[simp] theorem State.showView_judgeSettled (s : State) (l : DropLink) (h : HouseId) :
    (s.judgeSettled l).showView h = s.showView h := by
  obtain ⟨-, -, -, -, hh, hl, -⟩ := s.judgeDiscarded_keeps l
  have hdiscarded := State.showView_congr hh hl h
  unfold State.judgeSettled
  (repeat' split) <;> simp [hdiscarded]

@[simp] theorem State.showView_endDoused (s : State) (g h : HouseId) : (s.endDoused g).showView h = s.showView h := by
  unfold State.endDoused
  split <;> simp

@[simp] theorem State.showView_endDouserSees (s : State) (p : Proj) (h : HouseId) :
    (s.endDouserSees p).showView h = s.showView h := by
  unfold State.endDouserSees
  dsimp only
  split <;> simp

@[simp] theorem State.showView_lampReturns (s : State) (p : Proj) (h : HouseId) :
    (s.lampReturns p).showView h = s.showView h := by
  unfold State.lampReturns
  dsimp only
  (repeat' split) <;> simp

@[simp] theorem Rule.joinCue_showView (r : Rule) (p : Proj) (e : CueEntry) (h : HouseId) :
    (r.joinCue p e).st.showView h = r.st.showView h := by
  unfold Rule.joinCue
  dsimp only
  split <;> simp

@[simp] theorem Rule.joinCues_showView (r : Rule) (p : Proj) (l : List CueEntry) (h : HouseId) :
    (r.joinCues p l).st.showView h = r.st.showView h := by
  induction l generalizing r with
  | nil => rfl
  | cons e rest ih => exact (ih _).trans (r.joinCue_showView p e h)

@[simp] theorem Rule.offerCounted_showView (r : Rule) (p : Proj) (code : CueCode) (h : HouseId) :
    (r.offerCounted p code).st.showView h = r.st.showView h := by
  unfold Rule.offerCounted
  dsimp only
  (repeat' split) <;> simp

@[simp] theorem Rule.readerStops_showView (r : Rule) (p : Proj) (h : HouseId) :
    (r.readerStops p).st.showView h = r.st.showView h := by
  unfold Rule.readerStops
  dsimp only
  split <;> simp

@[simp] theorem Rule.motorStart_showView (r : Rule) (p : Proj) (h : HouseId) :
    (r.motorStart p).st.showView h = r.st.showView h := by
  unfold Rule.motorStart
  dsimp only
  split <;> simp

@[simp] theorem Rule.startIncoming_showView (r : Rule) (c : Changeover) (h : HouseId) :
    (r.startIncoming c).st.showView h = r.st.showView h := r.motorStart_showView _ h

@[simp] theorem Rule.motorStop_showView (r : Rule) (p : Proj) (h : HouseId) :
    (r.motorStop p).st.showView h = r.st.showView h := by
  unfold Rule.motorStop
  dsimp only
  split <;> simp

@[simp] theorem Rule.extinguish_showView (r : Rule) (p : Proj) (reason : StopReason) (h : HouseId) :
    (r.extinguish p reason).st.showView h = r.st.showView h := by
  unfold Rule.extinguish Rule.lampStops Rule.emitLampLeft
  dsimp only
  (repeat' split) <;> simp

@[simp] theorem Rule.disarm_showView (r : Rule) (p : Proj) (h : HouseId) :
    (r.disarm p).st.showView h = r.st.showView h := by
  unfold Rule.disarm
  dsimp only
  split <;> simp

@[simp] theorem Rule.release_showView (r : Rule) (seq : Nat) (n : PortId) (h : HouseId) :
    (r.release seq n).st.showView h = r.st.showView h := by
  unfold Rule.release
  dsimp only
  (repeat' split) <;> simp

@[simp] theorem Rule.releaseAll_showView (r : Rule) (seq : Nat) (l : List PortId) (h : HouseId) :
    (r.releaseAll seq l).st.showView h = r.st.showView h := by
  induction l generalizing r with
  | nil => rfl
  | cons n rest ih => exact (ih _).trans (r.release_showView seq n h)

@[simp] theorem Rule.activation_showView (r : Rule) (cause : DropCause) (p : Option Proj) (l : List PortId) (h : HouseId) :
    (r.activation cause p l).st.showView h = r.st.showView h := by
  unfold Rule.activation Rule.drop
  dsimp only
  split <;> simp

@[simp] theorem Rule.douserCause_showView (r : Rule) (p : Proj) (h : HouseId) :
    (r.douserCause p).st.showView h = r.st.showView h := by
  unfold Rule.douserCause
  split <;> simp

@[simp] theorem Rule.retire_showView (r : Rule) (g : HouseId) (p : Proj) (h : HouseId) :
    (r.retire g p).st.showView h = r.st.showView h := by
  unfold Rule.retire
  dsimp only
  (repeat' split) <;> simp

@[simp] theorem Rule.retireSees_showView (r : Rule) (g : HouseId) (p : Proj) (to1 : TransportState) (h : HouseId) :
    (r.retireSees g p to1).st.showView h = r.st.showView h := by
  unfold Rule.retireSees
  (repeat' split) <;> simp

/-- R165: a tie broken leaves the view. -/
@[simp] theorem Rule.breakTie_showView (r : Rule) (h : HouseId) : r.breakTie.st.showView h = r.st.showView h := by
  unfold Rule.breakTie
  split
  · rw [Rule.upd_st]
    split <;> simp
  · rfl

/-! ## The cues and the changeover of another house -/

section
variable {g h : HouseId}

@[simp] theorem State.showView_giveCues (s : State) (n : Nat) (l : List LightCue) (hg : h ≠ g) :
    (s.giveCues g n l).showView h = s.showView h := by
  induction l generalizing s with
  | nil => rfl
  | cons c rest ih =>
    unfold State.giveCues
    simp [ih, hg]

@[simp] theorem State.showView_fireCues (s : State) (n : Nat) (cond : CueTrigger → Bool) (hg : h ≠ g) :
    (s.fireCues g n cond).showView h = s.showView h := by
  unfold State.fireCues
  split <;> simp [hg]

@[simp] theorem State.showView_fireFrameCues (s : State) (hg : h ≠ g) : (s.fireFrameCues g).showView h = s.showView h := by
  unfold State.fireFrameCues
  (repeat' split) <;> simp [hg]

@[simp] theorem State.showView_modChange (s : State) (f : Changeover → Changeover) (hg : h ≠ g) :
    (s.modChange g f).showView h = s.showView h := by
  simp [State.modChange, hg]

@[simp] theorem State.showView_createChange (s : State) (c : Changeover) (hg : h ≠ g) :
    (s.createChange g c).showView h = s.showView h := by
  simp [State.createChange, hg]

@[simp] theorem State.showView_holdChange (s : State) (x : CueSource) (hg : h ≠ g) :
    (s.holdChange g x).showView h = s.showView h := by
  simp [State.holdChange, hg]

@[simp] theorem State.showView_crossingAt (s : State) (n : Nat) (hg : h ≠ g) : (s.crossingAt g n).showView h = s.showView h := by
  have hopen (s : State) (c : Changeover) (x : Crossing) : (s.crossingOpen g c x n).showView h = s.showView h := by
    unfold State.crossingOpen
    split <;> simp [hg]
  have hclose (s : State) (c : Changeover) (x : Crossing) : (s.crossingClose g c x n).showView h = s.showView h := by
    unfold State.crossingClose
    split <;> simp [hg]
  have hsound (s : State) (c : Changeover) (x : Crossing) : (s.crossingSound g c x n).showView h = s.showView h := by
    unfold State.crossingSound
    dsimp only
    (repeat' split) <;> simp [hg]
  unfold State.crossingAt
  (repeat' split) <;> simp [hopen, hclose, hsound]

/-! ## The rules of another house's show -/

@[simp] theorem Rule.dropChange_showView (r : Rule) (hg : h ≠ g) : (r.dropChange g).st.showView h = r.st.showView h := by
  unfold Rule.dropChange
  dsimp only
  (repeat' split) <;> simp [hg]

@[simp] theorem Rule.enterHold_showView (r : Rule) (reason : HoldReason) (lights : Bool) (hg : h ≠ g) :
    (r.enterHold g reason lights).st.showView h = r.st.showView h := by
  unfold Rule.enterHold
  dsimp only
  rw [Rule.upd_st]
  split <;> simp [hg]

@[simp] theorem Rule.abandonStart_showView (r : Rule) (p : Proj) (reason : HoldReason) (hg : h ≠ g) :
    (r.abandonStart g p reason).st.showView h = r.st.showView h := by
  simp [Rule.abandonStart, hg]

@[simp] theorem Rule.endSequence_showView (r : Rule) (hg : h ≠ g) : (r.endSequence g).st.showView h = r.st.showView h := by
  unfold Rule.endSequence
  split
  · rw [Rule.upd_st]
    dsimp only
    split <;> simp [hg]
  · rfl

@[simp] theorem Rule.endCompletes_showView (r : Rule) (p : Proj) (onBreak : Bool) (hg : h ≠ g) :
    (r.endCompletes g p onBreak).st.showView h = r.st.showView h := by
  unfold Rule.endCompletes
  dsimp only
  (repeat' split) <;> simp [hg]

@[simp] theorem Rule.runout_showView (r : Rule) (hg : h ≠ g) : (r.runout g).st.showView h = r.st.showView h := by
  have hdrop (r : Rule) : (r.runoutDrop g).st.showView h = r.st.showView h := by
    unfold Rule.runoutDrop
    dsimp only
    (repeat' split) <;> simp [hg]
  unfold Rule.runout
  split <;> simp [hg, hdrop]

@[simp] theorem Rule.tailTest_showView (r : Rule) (hg : h ≠ g) : (r.tailTest g).st.showView h = r.st.showView h := by
  unfold Rule.tailTest
  (repeat' split) <;> simp [hg]

@[simp] theorem Rule.crossingTest_showView (r : Rule) (hg : h ≠ g) : (r.crossingTest g).st.showView h = r.st.showView h := by
  unfold Rule.crossingTest Rule.beginCrossing
  dsimp only
  (repeat' split) <;> simp [hg]
  split <;> simp [hg]

@[simp] theorem Rule.enterDue_showView (r : Rule) (source : ChangeSource) (loss : Option LossReason) (hg : h ≠ g) :
    (r.enterDue g source loss).st.showView h = r.st.showView h := by
  simp [Rule.enterDue, hg]

@[simp] theorem Rule.align_showView (r : Rule) (c : Changeover) (hg : h ≠ g) : (r.align g c).st.showView h = r.st.showView h := by
  unfold Rule.align Rule.delayFalls
  dsimp only
  (repeat' split) <;> simp [hg]

@[simp] theorem Rule.readinessTest_showView (r : Rule) (hg : h ≠ g) : (r.readinessTest g).st.showView h = r.st.showView h := by
  unfold Rule.readinessTest
  (repeat' split) <;> simp [hg]

@[simp] theorem Rule.takeEntry_showView (r : Rule) (p : Proj) (live : ReelEntry) (e : CueEntry) (hg : h ≠ g) :
    (r.takeEntry g p live e).st.showView h = r.st.showView h := by
  cases he : e.code with
  | motor =>
    simp only [Rule.takeEntry, he, Rule.takeMotor]
    (repeat' split) <;> simp [hg]
  | change =>
    simp only [Rule.takeEntry, he, Rule.takeChange]
    (repeat' split) <;> simp [hg]
  | lights =>
    simp only [Rule.takeEntry, he, Rule.takeLights]
    split <;> simp [hg]
  | ending =>
    simp only [Rule.takeEntry, he, Rule.takeEnd]
    split <;> simp [hg]
  | bad => simp only [Rule.takeEntry, he]

@[simp] theorem Rule.takeHeads_showView (fuel : Nat) (r : Rule) (hg : h ≠ g) :
    (r.takeHeads fuel g).st.showView h = r.st.showView h := by
  induction fuel generalizing r with
  | zero => rfl
  | succ n ih =>
    unfold Rule.takeHeads
    (repeat' split) <;> simp [ih, hg]

@[simp] theorem Rule.takeCues_showView (r : Rule) (hg : h ≠ g) : (r.takeCues g).st.showView h = r.st.showView h := by
  unfold Rule.takeCues
  split <;> simp [hg]

@[simp] theorem Rule.countedFallback_showView (r : Rule) (hg : h ≠ g) :
    (r.countedFallback g).st.showView h = r.st.showView h := by
  unfold Rule.countedFallback
  dsimp only
  (repeat' split) <;> simp [hg]

@[simp] theorem Rule.pictureTest_showView (r : Rule) (hg : h ≠ g) : (r.pictureTest g).st.showView h = r.st.showView h := by
  unfold Rule.pictureTest
  dsimp only
  (repeat' split) <;> simp [hg]

@[simp] theorem Rule.completionTest_showView (r : Rule) (hg : h ≠ g) :
    (r.completionTest g).st.showView h = r.st.showView h := by
  unfold Rule.completionTest
  dsimp only
  (repeat' split) <;> simp [hg]

@[simp] theorem Rule.look_showView (r : Rule) (hg : h ≠ g) : (r.look g).st.showView h = r.st.showView h := by
  simp [Rule.look, hg]

@[simp] theorem Rule.incomingFails_showView (r : Rule) (c : Changeover) (hg : h ≠ g) :
    (r.incomingFails g c).st.showView h = r.st.showView h := by
  unfold Rule.incomingFails Rule.lossHold
  dsimp only
  (repeat' split) <;> simp [hg]

@[simp] theorem Rule.abandonCrossing_showView (r : Rule) (c : Changeover) (hg : h ≠ g) :
    (r.abandonCrossing g c).st.showView h = r.st.showView h := by
  unfold Rule.abandonCrossing Rule.lossHold
  dsimp only
  (repeat' split) <;> simp [hg]

@[simp] theorem Rule.pictureLoss_showView (r : Rule) (p : Proj) (reason : LossReason) (restrike : Bool) (hg : h ≠ g) :
    (r.pictureLoss g p reason restrike).st.showView h = r.st.showView h := by
  unfold Rule.pictureLoss Rule.lossHold
  extract_lets r1
  have hlost : r1.st.showView h = r.st.showView h := by
    rw [Rule.upd_st]
    dsimp only
    (repeat' split) <;> simp [hg]
  (repeat' split) <;> simp [hg, hlost]

@[simp] theorem Rule.changeSees_showView (r : Rule) (p : Proj) (hg : h ≠ g) :
    (r.changeSees g p).st.showView h = r.st.showView h := by
  unfold Rule.changeSees
  (repeat' split) <;> simp [hg]

end

@[simp] theorem Rule.failure_showView (r : Rule) (p : Proj) (f : Failure) (h : HouseId) (hg : h ≠ houseOf p) :
    (r.failure p f).st.showView h = r.st.showView h := by
  unfold Rule.failure
  dsimp only
  (repeat' split) <;> simp [hg]

end Sys2Proof.Machine
end

section
/-! PROOFS. A house in no show and without a changeover record: whatever the blocks bring about, and whatever fire breaks out, its
levels and the program target of its lights stand. -/

namespace Sys2Proof.Machine

/-! ## A house without a show has nothing to begin -/

/-- What a house in no show, with no changeover record, looks at brings about nothing. -/
theorem Rule.look_noShow (r : Rule) (h : HouseId) (hs : (r.st.hs h).state.inShow = false) (hc : (r.st.hs h).change = none) :
    r.look h = r := by
  simp [Rule.look, r.pictureTest_atRest h hs, Rule.readinessTest, Rule.crossingTest, Rule.completionTest, hc]

/-- A failure in a house in no show brings about nothing. -/
theorem Rule.failure_noShow (r : Rule) (p : Proj) (f : Failure) (hs : (r.st.hs (houseOf p)).state.inShow = false) :
    r.failure p f = r := by
  have hstate := HouseState.inShow_false hs
  unfold Rule.failure
  dsimp only
  split <;> simp_all

/-- R124: a house that is not SHOWING loses nothing with its lamp. -/
theorem Rule.darkLampOff_notShowing (r : Rule) (p : Proj) (hs : (r.st.hs (houseOf p)).state ≠ .showing) :
    r.darkLampOff p = r := by
  simp [Rule.darkLampOff, hs]

/-- R97, R149, R150: a fire has no show to hold in such a house; a house in HOLD takes its reason. -/
theorem Rule.fireHold_noShow (r : Rule) (h : HouseId) (reason : HoldReason) (hs : (r.st.hs h).state.inShow = false) :
    (r.fireHold h reason).st.showView h = r.st.showView h := by
  have hstate := HouseState.inShow_false hs
  unfold Rule.fireHold
  split <;> simp_all

/-! ## The view kept through a rule -/

/-- In the rule's state house `h` has the view `v`, that of a house in no show with no changeover record. -/
structure Rule.Rests (r : Rule) (h : HouseId) (v : ShowView) : Prop where
  view : r.st.showView h = v
  noShow : v.state.inShow = false
  noChange : v.change = none

section
variable {r : Rule} {h : HouseId} {v : ShowView}

theorem Rule.Rests.state (hi : r.Rests h v) : (r.st.hs h).state.inShow = false :=
  (congrArg (fun w => w.state.inShow) hi.view).trans hi.noShow

theorem Rule.Rests.change (hi : r.Rests h v) : (r.st.hs h).change = none :=
  (congrArg ShowView.change hi.view).trans hi.noChange

/-- A rule in whose state the house shows the same. -/
theorem Rule.Rests.of_view {r' : Rule} (hi : r.Rests h v) (he : r'.st.showView h = r.st.showView h) : r'.Rests h v :=
  ⟨he.trans hi.view, hi.noShow, hi.noChange⟩

theorem Rule.Rests.upd (hi : r.Rests h v) (f : State → State) (hf : (f r.st).showView h = r.st.showView h) :
    (r.upd f).Rests h v := hi.of_view hf

theorem Rule.Rests.look (hi : r.Rests h v) (g : HouseId) : (r.look g).Rests h v := by
  by_cases hg : h = g
  · subst hg
    rwa [r.look_noShow h hi.state hi.change]
  · exact hi.of_view (r.look_showView hg)

theorem Rule.Rests.failure (hi : r.Rests h v) (p : Proj) (f : Failure) : (r.failure p f).Rests h v := by
  by_cases hg : h = houseOf p
  · subst hg
    rwa [r.failure_noShow p f hi.state]
  · exact hi.of_view (r.failure_showView p f h hg)

theorem Rule.Rests.retireSees (hi : r.Rests h v) (g : HouseId) (p : Proj) (to1 : TransportState) :
    (r.retireSees g p to1).Rests h v := hi.of_view (by simp)

theorem Rule.Rests.douserCause (hi : r.Rests h v) (p : Proj) : (r.douserCause p).Rests h v := hi.of_view (by simp)

theorem Rule.Rests.endStops (hi : r.Rests h v) (p : Proj) : (r.endStops p).Rests h v := by
  by_cases hg : h = houseOf p
  · subst hg
    rwa [r.endStops_atRest p hi.state]
  · refine hi.of_view ?_
    unfold Rule.endStops
    dsimp only
    split <;> simp [hg]

theorem Rule.Rests.darkLampOff (hi : r.Rests h v) (p : Proj) : (r.darkLampOff p).Rests h v := by
  by_cases hg : h = houseOf p
  · subst hg
    rwa [r.darkLampOff_notShowing p (HouseState.inShow_false hi.state).2.1]
  · refine hi.of_view ?_
    unfold Rule.darkLampOff
    dsimp only
    split <;> simp [hg]

theorem Rule.Rests.cuesJoined (hi : r.Rests h v) (p : Proj) : (r.cuesJoined p).Rests h v := by
  unfold Rule.cuesJoined
  split
  · by_cases hg : h = houseOf p
    · subst hg
      rwa [r.takeCues_atRest _ hi.state]
    · exact hi.of_view (r.takeCues_showView hg)
  · exact hi

theorem Rule.Rests.lockChange (hi : r.Rests h v) (p : Proj) : (r.upd (fun s => s.lockChange p)).Rests h v := by
  refine hi.upd _ ?_
  by_cases hg : h = houseOf p
  · subst hg
    rw [State.lockChange_none _ p hi.change]
  · simp [State.lockChange, hg]

/-! ## The agenda -/

/-- What a change of a transport's state brings about. -/
theorem Rule.Rests.transportSeen (hi : r.Rests h v) (p : Proj) (to1 : TransportState) : (r.transportSeen p to1).Rests h v := by
  cases to1 with
  | starting => exact hi
  | running => exact (hi.lockChange p).look _
  | stopping => exact ((hi.retireSees ..).douserCause p).look _
  | stopped => exact (((hi.endStops p).retireSees ..).douserCause p).look _
  | broken => exact (((hi.failure ..).retireSees ..).douserCause p).look _

/-- What a change of a douser's state brings about. -/
theorem Rule.Rests.douserSeen (hi : r.Rests h v) (p : Proj) (to1 : DouserState) : (r.douserSeen p to1).Rests h v := by
  cases to1 with
  | closed => exact (hi.upd _ (by simp)).look _
  | opened => exact hi.look _
  | stuck => exact (((hi.failure ..).upd _ (by simp)).douserCause p).look _
  | opening => exact hi
  | closing => exact hi

/-- Every change of the agenda. -/
theorem Rule.Rests.sees (hi : r.Rests h v) (y : Signal) : (r.sees y).Rests h v := by
  cases y with
  | transport p to1 => exact hi.transportSeen p to1
  | runupFailed p => exact (hi.failure ..).look _
  | lampLeft p restrike => exact (hi.failure ..).look _
  | lampOff p => exact hi.darkLampOff p
  | lampBurning p => exact (hi.upd _ (by simp)).look _
  | lampStruck p => exact hi.douserCause p
  | portLeft p => exact (hi.failure ..).look _
  | portHeld p => exact hi.look _
  | douser p to1 => exact hi.douserSeen p to1
  | cues p => exact hi.cuesJoined p
  | readiness g => exact hi.look g

/-- The blocks come to rest. -/
theorem Rule.Rests.settle (n : Nat) {r : Rule} (hi : r.Rests h v) : (r.settle n).Rests h v := by
  induction n generalizing r with
  | zero => exact hi
  | succ n ih =>
    unfold Rule.settle
    split
    · exact hi
    · rename_i y rest _
      exact ih (Rule.Rests.sees (hi.of_view (r' := { r with agenda := rest }) rfl) y)

/-- A rule ends with the view. -/
theorem Rule.Rests.finish (hi : r.Rests h v) : ∃ t, r.finish = .next t ∧ t.showView h = v :=
  ⟨_, rfl, (Rule.breakTie_showView _ h).trans (hi.settle settleBound).view⟩

/-! ## Fire causes -/

/-- A rule carried on over a list. -/
theorem Rule.Rests.each {α : Type} {f : Rule → α → Rule} (hf : ∀ r a, r.Rests h v → (f r a).Rests h v)
    (l : List α) {r : Rule} (hi : r.Rests h v) : (r.each f l).Rests h v := by
  induction l generalizing r with
  | nil => exact hi
  | cons a rest ih => exact ih (hf r a hi)

theorem Rule.Rests.fireHold (hi : r.Rests h v) (g : HouseId) (reason : HoldReason) : (r.fireHold g reason).Rests h v := by
  refine hi.of_view ?_
  by_cases hg : h = g
  · subst hg
    exact r.fireHold_noShow h reason hi.state
  · unfold Rule.fireHold
    split <;> simp [hg]

/-- R149, R150: houses held, lamps out, motors stopped, lights raised. -/
theorem Rule.Rests.consequences (hi : r.Rests h v) (cause : DropCause) (p : Option Proj) :
    (r.consequences cause p).Rests h v := by
  have hheld := hi.each (fun r g hi => hi.fireHold g cause.hold) (fireHouses cause p)
  have hout := hheld.each (f := fun r q => r.extinguish q .fire) (fun r q hi => hi.of_view (by simp)) (fireProjs cause p)
  have hstopped := hout.each (f := fun r q => r.motorStop q) (fun r q hi => hi.of_view (by simp)) (fireProjs cause p)
  exact hstopped.each (fun r g hi => hi.upd _ (by simp)) (fireHouses cause p)

/-- R148: a fire cause, whichever of failure and hold is taken first. -/
theorem Rule.Rests.fire (hi : r.Rests h v) (cause : DropCause) (p : Option Proj) : (r.fire cause p).Rests h v := by
  unfold Rule.fire
  extract_lets r1
  have hactive : r1.Rests h v := hi.of_view (by simp [r1])
  split
  · rename_i r2 _
    have hdrawn : r2.Rests h v := hactive.upd _ (by simp)
    split
    · exact (hdrawn.settle _).consequences ..
    · exact hdrawn.consequences ..
  · exact hactive.consequences ..

/-- R155: a reading, and the CRITICAL cause it may bring. -/
theorem Rule.Rests.gradeReading (hi : r.Rests h v) (t : Nat) : (r.gradeReading t).Rests h v := by
  unfold Rule.gradeReading
  extract_lets old new r1
  have hgraded : r1.Rests h v := hi.upd _ (by simp)
  split
  · exact hgraded
  · rename_i r2 _
    have htold : r2.Rests h v := hgraded.upd _ (by simp)
    (repeat' split)
    · exact htold
    · exact htold.fire ..
    · exact htold.upd _ (by simp)
    · exact htold
    · exact htold

/-- R157: the inputs read at power-on. -/
theorem Rule.Rests.readInputs (hi : r.Rests h v) (i : FieldInputs) : (r.readInputs i).Rests h v := by
  have hfire (b : Bool) (cause : DropCause) {r : Rule} (hi : r.Rests h v) :
      (if b then r.fire cause none else r).Rests h v := by
    cases b with
    | false => exact hi
    | true => exact hi.fire cause none
  refine (Rule.Rests.each (fun r p hi => ?_) allProjs (hfire _ _ (hfire _ _ hi))).gradeReading _
  unfold Rule.gateHeats
  (repeat' split)
  · exact hi
  · exact hi.fire ..
  · exact hi

end
end Sys2Proof.Machine
end

section
/-! PROOFS. SET HOUSE LEVELS (R99): its decision, and the levels at power-on and restart. -/

namespace Sys2Proof.Machine

/-! ## The request -/

/-- R170: the two bytes of a number are its number. -/
theorem wordOf_bytes (w : BitVec 16) : wordOf (w.extractLsb' 8 8) (w.extractLsb' 0 8) = w := by
  apply BitVec.eq_of_toNat_eq
  simp only [wordOf, BitVec.toNat_append, BitVec.extractLsb'_toNat, Nat.shiftRight_zero]
  rw [← Nat.shiftLeft_add_eq_or_of_lt (Nat.mod_lt _ (by decide)), Nat.shiftLeft_eq, Nat.shiftRight_eq_div_pow]
  have hw := w.isLt
  omega

/-- R162, R170: the record of SET HOUSE LEVELS is read as that request. -/
theorem Rule.decideRecord_setHouseLevels (r : Rule) (b : Byte) (v w x y : BitVec 16) :
    r.decideRecord (recordOf (.setHouseLevels b v w x y)) = r.decideSetHouseLevels b v w x y := by
  have hparse : parseRequest (recordOf (.setHouseLevels b v w x y)) = some (.setHouseLevels b v w x y) := by
    change parseLevels (b :: (wordBytes v ++ wordBytes w ++ wordBytes x ++ wordBytes y)) = _
    simp [parseLevels, wordBytes, wordOf_bytes]
  simp only [Rule.decideRecord, hparse, Rule.ask]

/-- R99, R133: what the channel does with an emergency level: its SAFETY target, and where that layer is active its level. -/
theorem Light.giveEmergency_eq (l : Light) (now : Instant) (n : Nat) : l.giveEmergency now n =
    if l.safetyActive then { l with
        safetyTarget := n
        level := n
        drive := (n * n * 255 + 500000) / 1000000
        fade := none }
      else { l with safetyTarget := n } := by
  unfold Light.giveEmergency
  dsimp only
  split <;> simp_all [Light.fadeTo, Light.setLevel, Light.effective, driveOf]

/-- R162: a SET HOUSE LEVELS that names no house leaves its reply and nothing else. -/
theorem exec_setHouseLevels_refused (s : State) (dt : Nat) (b : Byte) (v w x y : BitVec 16) (hs : s.linkReady)
    (hb : b.toNat = 0 ∨ 4 < b.toNat) : exec (.setHouseLevels dt b v w x y) s =
      .next ((s.elapse dt).replied (.refused 33 .target .nothing)) := by
  obtain ⟨tie, htie, hr⟩ := Rule.request_ready (s.elapse dt) (.setHouseLevels b v w x y) hs
  calc exec (.setHouseLevels dt b v w x y) s
    _ = (Rule.request ⟨s.elapse dt, [], false⟩ (.setHouseLevels b v w x y)).finish := rfl
    _ = _ := by
      rw [hr, Rule.decideRecord_setHouseLevels]
      simp only [Rule.decideSetHouseLevels, houseOfNumber_outside hb]
      exact Rule.finish_settled (Rule.settle_nil _ _ _) htie

/-- R99: an accepted SET HOUSE LEVELS puts the clamped levels into the house's record and hands the channel the emergency
level; nothing is left for the blocks to see. -/
theorem exec_setHouseLevels_done (s : State) (dt : Nat) (b : Byte) (v w x y : BitVec 16) (h : HouseId) (l : HouseLevels)
    (hs : s.linkReady) (hb : b.toNat = h.val + 1)
    (hl : l = ⟨min 1000 v.toNat, min 1000 w.toNat, min 1000 x.toNat, min 1000 y.toNat⟩) :
    exec (.setHouseLevels dt b v w x y) s = .next ((((s.elapse dt).setHs h { s.hs h with levels := l }).setLt h
      ((s.lt h).giveEmergency (s.now + dt) l.emergency)).replied (.done 33 (.levels l))) := by
  subst hl
  obtain ⟨tie, htie, hr⟩ := Rule.request_ready (s.elapse dt) (.setHouseLevels b v w x y) hs
  calc exec (.setHouseLevels dt b v w x y) s
    _ = (Rule.request ⟨s.elapse dt, [], false⟩ (.setHouseLevels b v w x y)).finish := rfl
    _ = _ := by
      rw [hr, Rule.decideRecord_setHouseLevels]
      simp only [Rule.decideSetHouseLevels, houseOfNumber_of_toNat hb, clamp, Nat.zero_max]
      exact Rule.finish_settled (Rule.settle_nil _ _ _) htie

/-! ## Power-on and restart -/

/-- R102: the levels are 600, 300, 300 and 1000 after a power-on, whatever fire the inputs bring: no show is on. -/
theorem exec_powerOn_levels (s : State) (dt : Nat) (i : FieldInputs) (h : HouseId) :
    ∃ t, exec (.powerOn dt i) s = .next t ∧ (t.hs h).levels = ⟨600, 300, 300, 1000⟩ := by
  have hh : ((s.elapse dt).powerOn i).hs h = House.powerOn := by simp [State.powerOn, State.hs, Bank.cell]
  have hi : ((Rule.begin s dt).upd (fun s => s.powerOn i)).Rests h (((s.elapse dt).powerOn i).showView h) :=
    ⟨rfl, by simp [State.showView, hh, House.powerOn, HouseState.inShow], by simp [State.showView, hh, House.powerOn]⟩
  obtain ⟨t, he, hv⟩ := (hi.readInputs i).finish
  refine ⟨t, he, ?_⟩
  calc (t.hs h).levels = (((s.elapse dt).powerOn i).hs h).levels := congrArg ShowView.levels hv
    _ = _ := by rw [hh]; rfl

/-- R102: the restart values of the blocks keep the levels of every house. -/
theorem State.restartBlocks_levels (s : State) (h : HouseId) : (s.restartBlocks.hs h).levels = (s.hs h).levels := by
  have hkeep {α : Type} (f : State → α → State) (l : List α) (s : State)
      (hf : ∀ s a, ((f s a).hs h).levels = (s.hs h).levels) : ((s.each f l).hs h).levels = (s.hs h).levels :=
    State.each_keeps (fun s => (s.hs h).levels) f hf l s
  have hhouse (s : State) (g : HouseId) : ((s.setHs g (s.hs g).restart).hs h).levels = (s.hs h).levels := by
    rw [State.setHs_hs]
    split <;> simp_all [House.restart]
  unfold State.restartBlocks
  dsimp only
  rw [hkeep _ allHouses, hkeep _ allHouses, hkeep _ allProjs, hkeep _ allProjs, hkeep _ allProjs, hkeep _ allProjs,
    hkeep _ allProjs]
  case hf => simp
  case hf => simp
  case hf => simp
  case hf => exact fun s p => congrArg House.levels (s.restartDouser_hs p h)
  case hf => simp [State.restartJudge]
  case hf => exact hhouse
  case hf => simp

/-- R169: RESTART, accepted or refused, keeps the levels of every house. -/
theorem Rule.decideRestart_levels (r : Rule) (h : HouseId) :
    (r.decideRestart.rule.st.hs h).levels = (r.st.hs h).levels := by
  unfold Rule.decideRestart
  split
  · rfl
  · simp only [Rule.done, Rule.upd_st, State.setLink_hs]
    exact r.st.restartBlocks_levels h

/-- A rule with nothing on its agenda ends with the view it has. -/
theorem Rule.finish_showView {r : Rule} (hr : r.agenda = []) (h : HouseId) :
    ∃ t, r.finish = .next t ∧ t.showView h = r.st.showView h := by
  obtain ⟨s, l, tie⟩ := r
  obtain rfl : l = [] := hr
  exact ⟨_, rfl, by rw [Rule.settle_nil, Rule.breakTie_showView]⟩

/-- R102: a RESTART keeps the levels of every house. -/
theorem exec_restart_levels (s : State) (dt : Nat) (sw : Bank SwitchPair 8) (h : HouseId) (hs : s.linkReady) :
    ∃ t, exec (.restart dt sw) s = .next t ∧ (t.hs h).levels = (s.hs h).levels := by
  obtain ⟨hlink, hhouses⟩ := (s.elapse dt).readSwitches_keeps sw
  obtain ⟨tie, -, hr⟩ := Rule.request_ready ((s.elapse dt).readSwitches sw) .restart
    (by simpa [State.linkReady, hlink] using hs)
  obtain ⟨hagenda, -⟩ := Rule.decideRestart_keeps
    (((s.elapse dt).readSwitches sw).setLink ((s.elapse dt).readSwitches sw).link.claimed) false h
  obtain ⟨t, he, hv⟩ := Rule.finish_showView (r := Rule.request ⟨(s.elapse dt).readSwitches sw, [], false⟩ .restart)
    (by rw [hr]; exact hagenda) h
  refine ⟨t, he, ?_⟩
  calc (t.hs h).levels = (t.showView h).levels := rfl
    _ = (((s.elapse dt).readSwitches sw).hs h).levels := by
      rw [hv, hr]
      exact Rule.decideRestart_levels _ h
    _ = (s.hs h).levels := by simp [State.hs, hhouses]

end Sys2Proof.Machine
end

section
/-! PROOFS. The program targets that a show's end gives its house (R96, R97, R122, R123): each is the level in force, and what the
blocks then bring about leaves it, since the house is in HOLD with no changeover record. -/

namespace Sys2Proof.Machine

/-! ## A house held with a program target -/

/-- House `h` is in HOLD with no changeover record, and the program target last given to its lights is `target` over `fade`. -/
structure State.Holds (s : State) (h : HouseId) (target fade : Nat) : Prop where
  state : (s.hs h).state = .hold
  change : (s.hs h).change = none
  target : (s.lt h).programTarget = target
  fade : (s.lt h).programFade = fade

section
variable {s : State} {h : HouseId} {target fade : Nat}

/-- What the blocks bring about leaves such a house as it is. -/
theorem State.Holds.rests {r : Rule} (hh : r.st.Holds h target fade) : r.Rests h (r.st.showView h) where
  view := rfl
  noShow := congrArg HouseState.inShow hh.state
  noChange := hh.change

/-- It is read off the view. -/
theorem State.Holds.of_view {t : State} (hh : s.Holds h target fade) (hv : t.showView h = s.showView h) :
    t.Holds h target fade where
  state := (congrArg ShowView.state hv).trans hh.state
  change := (congrArg ShowView.change hv).trans hh.change
  target := (congrArg ShowView.target hv).trans hh.target
  fade := (congrArg ShowView.fade hv).trans hh.fade

/-- A house's record put in HOLD, with no changeover record, under the program target it has given. -/
theorem State.Holds.of_modHs (f : House → House) (hst : (f (s.hs h)).state = .hold) (hc : (f (s.hs h)).change = none)
    (ht : (s.lt h).programTarget = target) (hf : (s.lt h).programFade = fade) : (s.modHs h f).Holds h target fade :=
  ⟨by simp [State.modHs, hst], by simp [State.modHs, hc], ht, hf⟩

/-- R130: a program target given is the channel's. -/
theorem State.programTarget_lt (s : State) (h : HouseId) (target fade : Nat) (o : Origin) :
    ((s.programTarget h target fade o).lt h).programTarget = target ∧
      ((s.programTarget h target fade o).lt h).programFade = fade := by
  simpa [State.programTarget] using (s.lt h).giveProgram_program s.now target fade o

/-- The house's record is read off the view. -/
theorem State.levels_of_view {t : State} (hv : t.showView h = s.showView h) : (t.hs h).levels = (s.hs h).levels :=
  congrArg ShowView.levels hv

end

/-! ## The hold and the abandoned start -/

/-- R97: a dropped record is absent, and the house shows the rest as before. -/
theorem Rule.dropChange_showView_same (r : Rule) (h : HouseId) :
    (r.dropChange h).st.showView h = { r.st.showView h with change := none } := by
  unfold Rule.dropChange
  split
  next hc =>
    have hnone : (r.st.showView h).change = none := hc
    rw [← hnone]
  next c _ =>
    have hdropped : (r.st.modHs h (fun x => { x with change := none })).showView h = { r.st.showView h with change := none } := by
      simp [State.showView, State.modHs]
    dsimp only
    split
    · exact (Rule.disarm_showView _ _ h).trans hdropped
    · exact hdropped

/-- R97, R123: a house that enters HOLD, where the hold level is given, is given the one in force; else its target stands. -/
theorem Rule.enterHold_holds (r : Rule) (h : HouseId) (reason : HoldReason) (lights : Bool) :
    (r.enterHold h reason lights).st.Holds h (if lights then (r.st.hs h).levels.hold else (r.st.lt h).programTarget)
      (if lights then 30 else (r.st.lt h).programFade) := by
  unfold Rule.enterHold
  extract_lets r1 r2
  have hdropped : (r2.st.interrupt h).showView h = { r.st.showView h with change := none } := by
    simp [r2, r1, Rule.dropChange_showView_same]
  rw [Rule.upd_st]
  generalize r2.st.interrupt h = s1 at hdropped
  have hchange : (s1.hs h).change = none := congrArg ShowView.change hdropped
  have hlevels : (s1.hs h).levels = (r.st.hs h).levels := congrArg ShowView.levels hdropped
  cases lights with
  | false =>
    exact State.Holds.of_modHs _ rfl hchange (congrArg ShowView.target hdropped) (congrArg ShowView.fade hdropped)
  | true =>
    obtain ⟨ht, hf⟩ := s1.programTarget_lt h (s1.hs h).levels.hold 30 .hold
    exact State.Holds.of_modHs _ rfl hchange (ht.trans (by rw [hlevels]; rfl)) hf

/-- R96: an abandoned start with no changeover record gives the hold level in force. -/
theorem Rule.abandonStart_holds (r : Rule) (h : HouseId) (p : Proj) (reason : HoldReason) (hc : (r.st.hs h).change = none) :
    (r.abandonStart h p reason).st.Holds h (r.st.hs h).levels.hold 30 := by
  unfold Rule.abandonStart
  rw [Rule.upd_st]
  have hstopped := r.motorStop_showView p h
  generalize (r.motorStop p).st = s1 at hstopped
  have hclosed : ((s1.closeBoth h).selectNone h).showView h = r.st.showView h := by simp [hstopped]
  generalize (s1.closeBoth h).selectNone h = s2 at hclosed
  obtain ⟨ht, hf⟩ := s2.programTarget_lt h (s1.hs h).levels.hold 30 .hold
  refine State.Holds.of_modHs _ rfl ((congrArg ShowView.change hclosed).trans hc) (ht.trans ?_) hf
  rw [State.levels_of_view hstopped]

/-- R123: a break of the live projector, with no changeover record, gives the break level in force and holds the show. -/
theorem Rule.pictureLoss_brk_holds (r : Rule) (h : HouseId) (p : Proj) (hc : (r.st.hs h).change = none) :
    (r.pictureLoss h p .brk false).st.Holds h (r.st.hs h).levels.brk 10 := by
  unfold Rule.pictureLoss
  extract_lets r1
  have hgiven (s2 : State) (hv : s2.showView h = r.st.showView h) :
      ((s2.programTarget h (s2.hs h).levels.brk 10 .brk).hs h).change = none ∧
        ((s2.programTarget h (s2.hs h).levels.brk 10 .brk).lt h).programTarget = (r.st.hs h).levels.brk ∧
        ((s2.programTarget h (s2.hs h).levels.brk 10 .brk).lt h).programFade = 10 := by
    rw [← State.levels_of_view hv]
    exact ⟨(congrArg ShowView.change hv).trans hc, s2.programTarget_lt h _ 10 .brk⟩
  obtain ⟨hchange, ht, hf⟩ : (r1.st.hs h).change = none ∧ (r1.st.lt h).programTarget = (r.st.hs h).levels.brk ∧
      (r1.st.lt h).programFade = 10 := by
    refine hgiven _ ?_
    split <;> simp
  simp only [hchange]
  rw [if_neg (by simp)]
  simpa [Rule.lossHold, ht, hf] using r1.enterHold_holds h LossReason.brk.hold false

/-! ## The end of a command -/

/-- A house held in the state of a rule is held so when the rule ends. -/
theorem Rule.finish_holds {r : Rule} {h : HouseId} {target fade : Nat} (hh : r.st.Holds h target fade) :
    ∃ t, r.finish = .next t ∧ t.Holds h target fade := by
  obtain ⟨t, he, hv⟩ := hh.rests.finish
  exact ⟨t, he, hh.of_view hv⟩

/-- R98: the HOLD button of a house in a show gives the hold level in force. -/
theorem exec_holdButton_target (s : State) (dt : Nat) (h : HouseId) (hs : (s.hs h).state.inShow = true) :
    ∃ t, exec (.holdButton dt h) s = .next t ∧ t.Holds h (s.hs h).levels.hold 30 := by
  have hpressed : (Rule.begin s dt).holdPressed h = (Rule.begin s dt).enterHold h .panel true := if_pos hs
  change ∃ t, ((Rule.begin s dt).holdPressed h).finish = .next t ∧ _
  rw [hpressed]
  exact Rule.finish_holds (Rule.enterHold_holds (Rule.begin s dt) h .panel true)

/-! ## The break deadline -/

/-- Changes at the front of the agenda that the blocks see with no effect are passed over. -/
theorem Rule.settle_append_unheeded (n : Nat) (s : State) (l rest : List Signal) (t : Bool)
    (hq : ∀ y ∈ l, ∀ l', Rule.sees ⟨s, l', t⟩ y = ⟨s, l', t⟩) :
    Rule.settle (l.length + n) ⟨s, l ++ rest, t⟩ = Rule.settle n ⟨s, rest, t⟩ := by
  induction l with
  | nil => simp
  | cons y l ih =>
    have hlength : (y :: l).length + n = l.length + n + 1 := by simp; omega
    rw [hlength, List.cons_append, Rule.settle_cons, hq y (by simp)]
    exact ih (fun z hz => hq z (by simp [hz]))

/-- R106: a house that is not SHOWING takes no entry that joins. -/
theorem Rule.cuesJoined_notShowing (r : Rule) (p : Proj) (hs : (r.st.hs (houseOf p)).state ≠ .showing) :
    r.cuesJoined p = r := by
  unfold Rule.cuesJoined Rule.takeCues
  (repeat' split) <;> simp [Rule.takeHeads, hs]

/-- R30: an entry that joins is told of while the queue has room, and dropped untold where it is full. -/
theorem Rule.joinCue_cases (r : Rule) (p : Proj) (e : CueEntry) :
    ((r.st.rd p).queue.length < 8 ∧ (r.joinCue p e).agenda = r.agenda ++ [.cues p] ∧
      ((r.joinCue p e).st.rd p).queue.length = (r.st.rd p).queue.length + 1) ∨
    ((r.joinCue p e).agenda = r.agenda ∧ (r.joinCue p e).st.rd p = r.st.rd p) := by
  unfold Rule.joinCue
  dsimp only
  split
  next hroom => exact .inl ⟨hroom, rfl, by simp [State.reportProj, State.report]⟩
  next => exact .inr ⟨rfl, rfl⟩

/-- R30: of the entries that join no more are told of than the queue has room for. -/
theorem Rule.joinCues_agenda (r : Rule) (p : Proj) (es : List CueEntry) :
    ∃ l, (r.joinCues p es).agenda = r.agenda ++ l ∧ l.length + (r.st.rd p).queue.length ≤ max 8 (r.st.rd p).queue.length ∧
      ∀ y ∈ l, y = .cues p := by
  induction es generalizing r with
  | nil => exact ⟨[], by simp [Rule.joinCues], by simp, by simp⟩
  | cons e rest ih =>
    obtain ⟨l, hl, hlen, hcues⟩ := ih (r.joinCue p e)
    rcases r.joinCue_cases p e with ⟨hroom, hagenda, hqueue⟩ | ⟨hagenda, hqueue⟩
    · refine ⟨.cues p :: l, ?_, ?_, by simpa using hcues⟩
      · simp [Rule.joinCues, hl, hagenda]
      · simp only [List.length_cons]
        omega
    · exact ⟨l, by simp [Rule.joinCues, hl, hagenda], by rwa [hqueue] at hlen, hcues⟩

/-- R22: a reader that stops tells of eight joining entries at most, and of none where it assembles no group. -/
theorem Rule.readerStops_agenda (r : Rule) (p : Proj) : ∃ l, (r.readerStops p).agenda = r.agenda ++ l ∧ l.length ≤ 8 ∧
    (∀ y ∈ l, y = .cues p) ∧ ((r.st.rd p).assembling = false → l = []) := by
  unfold Rule.readerStops
  dsimp only
  split
  next ha =>
    obtain ⟨l, hl, hlen, hcues⟩ := Rule.joinCues_agenda (r.upd (fun s =>
      (s.setRd p { r.st.rd p with state := .off, group := none, held := [] }).evalBurst p)) p (r.st.rd p).held
    exact ⟨l, hl, by omega, hcues, by simp [ha]⟩
  next => exact ⟨[], by simp [Rule.upd], by simp, by simp, fun _ => rfl⟩

/-- R12, R22: a film break shows in no house yet; it is on the agenda behind the entries that join, if any do. -/
theorem Rule.filmBreaks_broken (s : State) (p : Proj) (u : Instant) (hr : (s.tr p).state = .running)
    (hu : (s.tr p).lastPulse = some u) (ht : 25000 ≤ (s.now - u) * s.speedOf p) :
    ∃ s' l tie, Rule.filmBreaks ⟨s, [], false⟩ p = ⟨s', l ++ [.transport p .broken], tie⟩ ∧
      (∀ h, s'.showView h = s.showView h) ∧ l.length ≤ 8 ∧ (∀ y ∈ l, y = .cues p) ∧
      ((s.rd p).assembling = false → l = []) := by
  have hsilent : s.silent p brokenAfter = true := by simp [State.silent, hu, brokenAfter, ht]
  unfold Rule.filmBreaks
  dsimp only
  rw [if_pos ⟨hr, hsilent⟩]
  generalize hr1 : Rule.upd ⟨s, [], false⟩ _ = r1
  obtain ⟨l, hl, hlen, hcues, hnone⟩ := r1.readerStops_agenda p
  have hfirst : r1.agenda = [] := by rw [← hr1]; rfl
  refine ⟨(r1.readerStops p).st.leaveRunning p, l, (r1.readerStops p).tie, ?_, fun h => ?_, hlen, hcues, fun ha => ?_⟩
  · simp only [Rule.emit, Rule.upd, hl, hfirst, List.nil_append]
  · simp [← hr1]
  · exact hnone (by simpa [← hr1, State.reportProj, State.report] using ha)

/-- R12: a break deadline ends in what the house makes of the failure, where the entries that join are not taken: the house is not
SHOWING, or none joins. -/
theorem exec_breakDeadline_holds (s : State) (dt : Nat) (p : Proj) (u : Instant) (target fade : Nat)
    (hr : (s.tr p).state = .running) (hu : (s.tr p).lastPulse = some u) (ht : 25000 ≤ (s.now + dt - u) * s.speedOf p)
    (hq : (s.hs (houseOf p)).state ≠ .showing ∨ (s.rd p).assembling = false)
    (hf : ∀ r : Rule, r.st.showView (houseOf p) = s.showView (houseOf p) →
      (r.failure p .brk).st.Holds (houseOf p) target fade) :
    ∃ t, exec (.breakDeadline dt p) s = .next t ∧ t.Holds (houseOf p) target fade := by
  obtain ⟨s', l, tie, hbroken, hview, hlen, hcues, hnone⟩ := Rule.filmBreaks_broken (s.elapse dt) p u hr hu ht
  have hunheeded : ∀ y ∈ l, ∀ l', Rule.sees ⟨s', l', tie⟩ y = ⟨s', l', tie⟩ := by
    intro y hy l'
    rw [hcues y hy]
    refine Rule.cuesJoined_notShowing ⟨s', l', tie⟩ p ?_
    rcases hq with hs | ha
    · exact fun he => hs ((congrArg ShowView.state (hview (houseOf p))).symm.trans he)
    · simp [hnone ha] at hy
  have hfailed := hf ⟨s', [], tie⟩ (hview (houseOf p))
  have hrests := (((hfailed.rests.retireSees (houseOf p) p .broken).douserCause p).look (houseOf p)).settle (511 - l.length)
  refine ⟨_, rfl, hfailed.of_view ?_⟩
  have hbound : settleBound = l.length + (511 - l.length + 1) := by simp only [settleBound]; omega
  rw [Rule.breakTie_showView]
  change ((Rule.filmBreaks ⟨s.elapse dt, [], false⟩ p).settle settleBound).st.showView _ = _
  rw [hbroken, hbound, Rule.settle_append_unheeded _ _ _ _ _ hunheeded]
  exact hrests.view

/-- A projector is the one of its house and side. -/
theorem projAt_houseOf_sideOf (p : Proj) : projAt (houseOf p) (sideOf p) = p := by
  revert p
  decide

/-- R96: at a break of the starting projector the house is given the hold level in force. -/
theorem exec_breakDeadline_starting (s : State) (dt : Nat) (p : Proj) (u : Instant)
    (hc : (s.hs (houseOf p)).change = none) (hr : (s.tr p).state = .running) (hu : (s.tr p).lastPulse = some u)
    (ht : 25000 ≤ (s.now + dt - u) * s.speedOf p) (hs : (s.hs (houseOf p)).state = .starting)
    (hside : (s.hs (houseOf p)).startingSide = some (sideOf p)) :
    ∃ t, exec (.breakDeadline dt p) s = .next t ∧ t.Holds (houseOf p) (s.hs (houseOf p)).levels.hold 30 := by
  refine exec_breakDeadline_holds s dt p u _ 30 hr hu ht (.inl (by simp [hs])) fun r hv => ?_
  have hstate : (r.st.hs (houseOf p)).state = .starting := (congrArg ShowView.state hv).trans hs
  have hstarting : r.st.startingProj (houseOf p) = some p := by
    have hsd : (r.st.hs (houseOf p)).startingSide = some (sideOf p) := (congrArg ShowView.startingSide hv).trans hside
    simp [State.startingProj, hsd, projAt_houseOf_sideOf]
  have hfailure : r.failure p .brk = r.abandonStart (houseOf p) p .brk := by
    simp [Rule.failure, hstate, hstarting, Failure.startReason]
  rw [hfailure, ← State.levels_of_view hv]
  exact r.abandonStart_holds _ p .brk ((congrArg ShowView.change hv).trans hc)

/-- R123: at a break of the live projector, with no changeover record and no group in assembly, the house is given the break level
in force. -/
theorem exec_breakDeadline_showing (s : State) (dt : Nat) (p : Proj) (u : Instant)
    (hc : (s.hs (houseOf p)).change = none) (hr : (s.tr p).state = .running) (hu : (s.tr p).lastPulse = some u)
    (ht : 25000 ≤ (s.now + dt - u) * s.speedOf p) (hs : (s.hs (houseOf p)).state = .showing)
    (hside : (s.hs (houseOf p)).liveSide = some (sideOf p)) (ha : (s.rd p).assembling = false) :
    ∃ t, exec (.breakDeadline dt p) s = .next t ∧ t.Holds (houseOf p) (s.hs (houseOf p)).levels.brk 10 := by
  refine exec_breakDeadline_holds s dt p u _ 10 hr hu ht (.inr ha) fun r hv => ?_
  have hstate : (r.st.hs (houseOf p)).state = .showing := (congrArg ShowView.state hv).trans hs
  have hlive : r.st.liveProj (houseOf p) = some p := by
    have hsd : (r.st.hs (houseOf p)).liveSide = some (sideOf p) := (congrArg ShowView.liveSide hv).trans hside
    simp [State.liveProj, hsd, projAt_houseOf_sideOf]
  have hfailure : r.failure p .brk = r.pictureLoss (houseOf p) p .brk false := by
    simp [Rule.failure, hstate, hlive, Failure.lossReason, Failure.restrike]
  rw [hfailure, ← State.levels_of_view hv]
  exact r.pictureLoss_brk_holds _ p ((congrArg ShowView.change hv).trans hc)

end Sys2Proof.Machine
end

section
/-! PROOFS. The tach pulse that reaches the tail of a reel that is not the last (R122): the runout gives the runout level in
force. Then the statement of SET HOUSE LEVELS. -/

namespace Sys2Proof.Machine

/-! ## Firing light cues -/

/-- R84: an entry found after a change of the entries of one reel, which keeps its number. -/
theorem findReel_mapReel (plan : List ReelEntry) (reel n : Nat) (f : ReelEntry → ReelEntry) (hf : ∀ e, (f e).reel = e.reel) :
    findReel (mapReel plan reel f) n = (findReel plan n).map (fun e => if e.reel = reel then f e else e) := by
  have hreel : (fun e : ReelEntry => decide (e.reel = n)) ∘ (fun e => if e.reel = reel then f e else e) =
      fun e => decide (e.reel = n) := by
    funext e
    simp only [Function.comp]
    split <;> simp [hf e]
  simp only [findReel, mapReel, List.find?_map, hreel]

/-- R130: cues given to the channel change light channels alone. -/
theorem State.giveCues_keeps (s : State) (h : HouseId) (n : Nat) (l : List LightCue) :
    (s.giveCues h n l).houses = s.houses ∧ (s.giveCues h n l).transports = s.transports ∧
      (s.giveCues h n l).readers = s.readers := by
  induction l generalizing s with
  | nil => exact ⟨rfl, rfl, rfl⟩
  | cons c rest ih => exact ih (s.programTarget h c.target c.fade (.cue n c.trigger))

/-- R131: cues that fire leave the transports and the readers, and of the houses change only one plan, where they set marks. -/
theorem State.fireCues_keeps (s : State) (h : HouseId) (n : Nat) (cond : CueTrigger → Bool) :
    (s.fireCues h n cond).transports = s.transports ∧ (s.fireCues h n cond).readers = s.readers ∧
      (s.fireCues h n cond).houses =
        (s.modReel h n (fun x => { x with cues := markFired x.cues cond })).houses := by
  unfold State.fireCues
  split
  next hnone =>
    have hplan : mapReel (s.hs h).plan n (fun x => { x with cues := markFired x.cues cond }) = (s.hs h).plan := by
      refine (List.map_congr_left fun e he => if_neg ?_).trans (List.map_id _)
      simpa using List.find?_eq_none.1 hnone e he
    refine ⟨rfl, rfl, ?_⟩
    rw [State.modReel, hplan]
    exact congrArg State.houses (s.setHs_self h).symm
  next e _ =>
    obtain ⟨hh, ht, hr⟩ := (s.modReel h n (fun x => { x with cues := markFired x.cues cond })).giveCues_keeps h n
      (e.cues.filter (fun c => !c.fired && cond c.trigger))
    exact ⟨ht, hr, hh⟩

/-- R131: the house's record with its cues fired. -/
theorem State.fireCues_hs (s : State) (h : HouseId) (n : Nat) (cond : CueTrigger → Bool) : (s.fireCues h n cond).hs h =
    { s.hs h with plan := mapReel (s.hs h).plan n (fun x => { x with cues := markFired x.cues cond }) } := by
  obtain ⟨-, -, hh⟩ := s.fireCues_keeps h n cond
  calc (s.fireCues h n cond).hs h
    _ = (s.modReel h n (fun x => { x with cues := markFired x.cues cond })).hs h := congrArg (fun b => Bank.cell b h) hh
    _ = _ := by simp [State.modReel]

/-! ## The live reel past its tail -/

/-- R122: projector `p` of SHOWING house `h`, which has no changeover record, is live with the entry `e` of its plan, not the
last, and has counted to its tail; the entry has no expected frame (R110), and no cue entry waits (R106). -/
structure State.ReelEnds (s : State) (h : HouseId) (p : Proj) (e : ReelEntry) : Prop where
  house : houseOf p = h
  showing : (s.hs h).state = .showing
  live : (s.hs h).liveSide = some (sideOf p)
  noChange : (s.hs h).change = none
  home : (s.tr p).armed.map (fun a => a.house) = some h
  held : s.heldEntry p = some e
  notLast : e.last = false
  noMotor : e.motorFrame = none
  noCue : e.changeFrame = none
  tail : e.tail ≤ (s.tr p).counter
  noEntry : (s.rd p).queue = []

section
variable {s : State} {h : HouseId} {p : Proj} {e : ReelEntry}

theorem State.ReelEnds.liveProj (hs : s.ReelEnds h p e) : s.liveProj h = some p := by
  rw [State.liveProj, hs.live, ← hs.house, Option.map_some, projAt_houseOf_sideOf]

theorem State.ReelEnds.liveEntry (hs : s.ReelEnds h p e) : s.liveEntry h = some e := by
  simp [State.liveEntry, hs.liveProj, hs.held]

/-- The end of the reel rests on the houses, the readers, the reel that the projector holds and its frame counter. -/
theorem State.ReelEnds.congr {s' : State} (hs : s.ReelEnds h p e) (hh : s'.houses = s.houses) (hr : s'.readers = s.readers)
    (ha : (s'.tr p).armed = (s.tr p).armed) (hc : (s'.tr p).counter = (s.tr p).counter) : s'.ReelEnds h p e := by
  have hhs (g : HouseId) : s'.hs g = s.hs g := by simp only [State.hs, hh]
  have hrd : s'.rd p = s.rd p := by simp only [State.rd, hr]
  have hheld : s'.heldEntry p = s.heldEntry p := by simp only [State.heldEntry, ha, hhs]
  refine ⟨hs.house, ?_, ?_, ?_, ?_, hheld.trans hs.held, hs.notLast, hs.noMotor, hs.noCue, ?_, ?_⟩
  · rw [hhs]; exact hs.showing
  · rw [hhs]; exact hs.live
  · rw [hhs]; exact hs.noChange
  · rw [ha]; exact hs.home
  · rw [hc]; exact hs.tail
  · rw [hrd]; exact hs.noEntry

/-- R131: cues of the house that fire leave the reel at its end. -/
theorem State.ReelEnds.fireCues (hs : s.ReelEnds h p e) (n : Nat) (cond : CueTrigger → Bool) :
    ∃ e', (s.fireCues h n cond).ReelEnds h p e' := by
  obtain ⟨ht, hr, -⟩ := s.fireCues_keeps h n cond
  have htr : (s.fireCues h n cond).tr p = s.tr p := by simp only [State.tr, ht]
  have hrd : (s.fireCues h n cond).rd p = s.rd p := by simp only [State.rd, hr]
  have hhs := s.fireCues_hs h n cond
  obtain ⟨a, ha, rfl⟩ := Option.map_eq_some_iff.1 hs.home
  have hfound : findReel (s.hs a.house).plan a.reel = some e := by simpa [State.heldEntry, ha] using hs.held
  have hheld : (s.fireCues a.house n cond).heldEntry p =
      some (if e.reel = n then { e with cues := markFired e.cues cond } else e) := by
    simp only [State.heldEntry, htr, ha, hhs]
    exact (findReel_mapReel _ n a.reel (fun x => { x with cues := markFired x.cues cond }) (fun _ => rfl)).trans
      (congrArg _ hfound)
  refine ⟨_, hs.house, ?_, ?_, ?_, ?_, hheld, ?_, ?_, ?_, ?_, ?_⟩
  · rw [hhs]; exact hs.showing
  · rw [hhs]; exact hs.live
  · rw [hhs]; exact hs.noChange
  · rw [htr]; exact hs.home
  · split <;> exact hs.notLast
  · split <;> exact hs.noMotor
  · split <;> exact hs.noCue
  · rw [htr]
    split <;> exact hs.tail
  · rw [hrd]; exact hs.noEntry

end

/-! ## Runout -/

/-- R122: runout with no changeover record gives the runout level in force. -/
theorem Rule.runout_holds {r : Rule} {h : HouseId} {p : Proj} {e : ReelEntry} (hr : r.st.ReelEnds h p e) :
    (r.runout h).st.Holds h (r.st.hs h).levels.runout 30 := by
  unfold Rule.runout
  simp only [hr.liveProj, hr.liveEntry]
  have hclosed : ((r.st.closeCommand p).selectNone h).showView h = r.st.showView h := by simp
  have hchange : (((r.upd (fun s => (s.closeCommand p).selectNone h)).st.hs h).change) = none :=
    (congrArg ShowView.change hclosed).trans hr.noChange
  have hdrop : (r.upd (fun s => (s.closeCommand p).selectNone h)).runoutDrop h =
      r.upd (fun s => (s.closeCommand p).selectNone h) := by
    simp only [Rule.runoutDrop, hchange]
  rw [hdrop, Rule.upd_st, Rule.upd_st]
  generalize (r.st.closeCommand p).selectNone h = s at hclosed
  have hfired := (s.setStatus h e.reel .interrupted).fireCues_hs h e.reel isEnding
  generalize (s.setStatus h e.reel .interrupted).fireCues h e.reel isEnding = s1 at hfired
  obtain ⟨ht, hf⟩ := s1.programTarget_lt h (s1.hs h).levels.runout 30 .runout
  have hlevels : (s1.hs h).levels = (r.st.hs h).levels := by
    rw [hfired, ← State.levels_of_view hclosed]
    exact State.levels_of_view (s.showView_setStatus h e.reel .interrupted h)
  have hnone : (s1.hs h).change = none := by
    rw [hfired]
    exact (congrArg ShowView.change ((s.showView_setStatus h e.reel .interrupted h).trans hclosed)).trans hr.noChange
  rw [hlevels] at ht hf ⊢
  exact (State.Holds.of_modHs (s := s1.programTarget h (r.st.hs h).levels.runout 30 .runout) (fun x => { x with
    dark := false
    state := .hold
    holdReason := some .runout
    runoutCount := some 0 }) rfl hnone ht hf).of_view rfl

/-- R106: an empty queue gives no entry to take. -/
theorem Rule.takeCues_empty {r : Rule} {h : HouseId} {p : Proj} {e : ReelEntry} (hr : r.st.ReelEnds h p e) :
    r.takeCues h = r := by
  simp [Rule.takeCues, Rule.takeHeads, hr.liveProj, hr.liveEntry, hr.noEntry]

/-- R110: with no expected frame there is no counted fallback. -/
theorem Rule.countedFallback_noFrame {r : Rule} {h : HouseId} {p : Proj} {e : ReelEntry} (hr : r.st.ReelEnds h p e) :
    r.countedFallback h = r := by
  simp [Rule.countedFallback, hr.liveProj, hr.liveEntry, hr.noMotor, hr.noCue, State.counterPasses]

/-- R122: the test of the tail is runout. -/
theorem Rule.tailTest_runout {r : Rule} {h : HouseId} {p : Proj} {e : ReelEntry} (hr : r.st.ReelEnds h p e) :
    r.tailTest h = r.runout h := by
  have htail : r.st.atTail p = true := by simp [State.atTail, hr.held, hr.tail]
  simp [Rule.tailTest, hr.liveProj, hr.liveEntry, hr.showing, htail, hr.notLast, hr.noChange]

/-- R122: the counted pulse at which the reel has ended gives its house the runout level in force. -/
theorem Rule.showPulse_holds {r : Rule} {h : HouseId} {p : Proj} {e : ReelEntry} (hr : r.st.ReelEnds h p e) :
    (r.showPulse h p).st.Holds h (r.st.hs h).levels.runout 30 := by
  have hfired : ∃ e', (r.st.fireFrameCues h).ReelEnds h p e' ∧ ((r.st.fireFrameCues h).hs h).levels = (r.st.hs h).levels := by
    unfold State.fireFrameCues
    simp only [hr.liveProj, hr.liveEntry, hr.showing, if_true]
    obtain ⟨e', he'⟩ := hr.fireCues e.reel (frameReached (r.st.tr p).counter)
    exact ⟨e', he', by rw [State.fireCues_hs]⟩
  obtain ⟨e', he', hlevels⟩ := hfired
  have hrule : (r.upd (fun s => s.fireFrameCues h)).st.ReelEnds h p e' := he'
  unfold Rule.showPulse
  rw [if_pos ⟨hr.showing, hr.liveProj⟩, Rule.takeCues_empty hr, Rule.countedFallback_noFrame hrule,
    Rule.tailTest_runout hrule, ← hlevels]
  exact Rule.runout_holds hrule

/-- R5, R122: so does the house's whole reading of that pulse. -/
theorem Rule.housePulse_holds {r : Rule} {h : HouseId} {p : Proj} {e : ReelEntry} (hr : r.st.ReelEnds h p e)
    (hx : (r.st.hs h).retiring.map (fun x => x.projector) ≠ some p) :
    (r.housePulse p).st.Holds h (r.st.hs h).levels.runout 30 := by
  have hlive : r.countLivePulse h p = r := by
    simp [Rule.countLivePulse, hr.liveProj, hr.showing]
  have hretire : r.countRetirePulse h p = r := by
    unfold Rule.countRetirePulse
    split
    · rfl
    next x hx' => exact if_pos fun he => hx (by simp [hx', he])
  have hended := Rule.showPulse_holds hr
  have hpicture : (r.showPulse h p).pictureTest h = r.showPulse h p := Rule.pictureTest_atRest _ h hended.rests.state
  unfold Rule.housePulse
  simp only [hr.house, hlive, hretire, hpicture]
  simpa only [Rule.crossingTest, hended.change] using hended

/-! ## The tach pulse -/

/-- R9, R10: the bookkeeping of an interval leaves the reel and the frame counter. -/
theorem Transport.speedStep_keeps (t : Transport) (good : Bool) :
    (t.speedStep good).armed = t.armed ∧ (t.speedStep good).counter = t.counter := by
  unfold Transport.speedStep
  (repeat' split) <;> simp

/-- R5: a pulse of a RUNNING projector counts a frame, and changes neither a house nor a reader. -/
theorem Rule.pulseRunning_counts (r : Rule) (p : Proj) (u : Instant) (hu : (r.st.tr p).lastPulse = some u) :
    (r.pulseRunning p).st.houses = r.st.houses ∧ (r.pulseRunning p).st.readers = r.st.readers ∧
      ((r.pulseRunning p).st.tr p).armed = (r.st.tr p).armed ∧
      ((r.pulseRunning p).st.tr p).counter = min 65535 ((r.st.tr p).counter + 1) := by
  unfold Rule.pulseRunning
  simp only [hu]
  split <;> simp [State.reportProj, State.report, Transport.count, countFrame, Transport.speedStep_keeps]

/-- R24, R25: a reading below T leaves a reader in WATCH as it is. -/
theorem Rule.examine_watch (r : Rule) (p : Proj) (reading : Nat) (hw : (r.st.rd p).state = .watch)
    (hlow : reading < (r.st.rd p).threshold) : r.examine p reading = r := by
  have hsame : (r.st.rd p).watchFrame (r.st.tr p).counter reading = r.st.rd p := by
    have hhigh : (r.st.rd p).high reading = false := by simpa [Reader.high] using hlow
    rw [Reader.watchFrame, hhigh, if_neg Bool.false_ne_true, ← hw]
  unfold Rule.examine
  simp only [hw, hsame]
  split <;> simp [Rule.upd]

/-- R122: at the pulse by which a reel that is not the last reaches its tail the house is given the runout level in force. -/
theorem exec_tachPulse_runout (s : State) (dt : Nat) (p : Proj) (reading : Byte) (u : Instant) (e : ReelEntry)
    (hr : (s.tr p).state = .running) (hu : (s.tr p).lastPulse = some u) (hcap : (s.tr p).counter < 65535)
    (hs : (s.setTr p { s.tr p with counter := (s.tr p).counter + 1 }).ReelEnds (houseOf p) p e)
    (hx : (s.hs (houseOf p)).retiring.map (fun x => x.projector) ≠ some p) (hw : (s.rd p).state = .watch)
    (hlow : reading.toNat < (s.rd p).threshold) :
    ∃ t, exec (.tachPulse dt p reading) s = .next t ∧ t.Holds (houseOf p) (s.hs (houseOf p)).levels.runout 30 := by
  have hpulse : (Rule.begin s dt).pulse p reading.toNat =
      ((Rule.begin s dt).pulseRunning p).passPulse p reading.toNat := by
    have hrunning : ((Rule.begin s dt).st.tr p).state = .running := hr
    simp only [Rule.pulse, hrunning]
  obtain ⟨hhouses, hreaders, harmed, hcounter⟩ := (Rule.begin s dt).pulseRunning_counts p u hu
  generalize (Rule.begin s dt).pulseRunning p = r1 at *
  have hrd : r1.st.rd p = s.rd p := congrArg (fun b => Bank.cell b p) hreaders
  have hexamine : r1.examine p reading.toNat = r1 := r1.examine_watch p _ (by rwa [hrd]) (by rwa [hrd])
  obtain ⟨-, htr2, hrd2, -, hhs2, -⟩ := r1.evalSufficiency_keeps p
  change ∃ t, ((Rule.begin s dt).pulse p reading.toNat).finish = .next t ∧ _
  rw [hpulse, Rule.passPulse, hexamine]
  generalize r1.evalSufficiency p = r2 at *
  have htr : r2.st.tr p = r1.st.tr p := by simp only [State.tr, htr2]
  have hhs : r2.st.hs (houseOf p) = s.hs (houseOf p) := congrArg (fun b => Bank.cell b (houseOf p)) (hhs2.trans hhouses)
  have hends : r2.st.ReelEnds (houseOf p) p e := by
    refine hs.congr (hhs2.trans hhouses) (hrd2.trans hreaders) ?_ ?_
    · rw [htr, harmed]
      simp [Rule.begin]
    · rw [htr, hcounter]
      simp only [Rule.begin, State.elapse_tr, State.setTr_tr, if_true]
      omega
  rw [← hhs]
  exact Rule.finish_holds (Rule.housePulse_holds hends (by rwa [hhs]))

/-! ## The statement -/

/-- Settles O32. The request's decision leaves nothing for the blocks to see; at power-on and restart the levels are read off the
house's record; and each of the four targets is given as the house enters HOLD, which the rest of the rule leaves alone. -/
theorem setHouseLevelsPutsThemInForce : Obligations.SetHouseLevelsPutsThemInForce := by
  have hprogram {o : Host.Outcome State Fault Refusal} {h : HouseId} {target fade : Nat}
      (hh : ∃ t, o = .next t ∧ t.Holds h target fade) :
      ∃ t, o = .next t ∧ (t.lt h).programTarget = target ∧ (t.lt h).programFade = fade := by
    obtain ⟨t, he, ht⟩ := hh
    exact ⟨t, he, ht.target, ht.fade⟩
  refine ⟨fun s dt b v w x y h l hs hb hl => ?_, fun s dt b v w x y h i sw hs => ⟨fun hb => ?_, ?_, ?_⟩,
    fun s dt p h u e reading hp hrecord => ⟨fun hshow => ?_, fun hr hu ht => ⟨fun hst hside => ?_, fun hst hside hc ha => ?_⟩,
      fun hr hu hst hside hc he hl ha hx hm hce ht hcap hw hq hlow => ?_⟩⟩
  · rw [exec_setHouseLevels_done s dt b v w x y h l hs hb hl, Light.giveEmergency_eq]
  · exact exec_setHouseLevels_refused s dt b v w x y hs hb
  · exact exec_powerOn_levels s dt i h
  · exact exec_restart_levels s dt sw h hs
  · exact hprogram (exec_holdButton_target s dt h hshow)
  · subst hp
    exact hprogram (exec_breakDeadline_starting s dt p u (hrecord (by simp [hst])) hr hu ht hst hside)
  · subst hp
    exact hprogram (exec_breakDeadline_showing s dt p u hc hr hu ht hst hside ha)
  · subst hp
    have hheld : (s.setTr p { s.tr p with counter := (s.tr p).counter + 1 }).heldEntry p = some e := by
      simpa [State.heldEntry] using he
    exact hprogram (exec_tachPulse_runout s dt p reading u e hr hu hcap ⟨rfl, hst, hside, hc, by simpa using ha, hheld, hl, hm, hce,
      by simpa [ReelEntry.tail] using ht, hq⟩ hx hw hlow)

end Sys2Proof.Machine
end

section
/-! PROOFS. CLEAR EMERGENCY (R154): its three decisions, and how its reply and its FIRE CAUSE OFF share the transmitter
(R165). -/

namespace Sys2Proof.Machine

/-! ## A reply and a report in one rule -/

/-- R165: nothing is claimed of a transmitter that sends. -/
theorem Link.claimed_busy {l : Link} (hl : l.transmitter ≠ .idle) : l.claimed = l := by
  simp only [Link.claimed, hl, if_false]

/-- R165: an IDLE transmitter is claimed for the reply. -/
theorem Link.claimed_idle {l : Link} (hl : l.transmitter = .idle) : l.claimed = { l with transmitter := .reply } := by
  simp only [Link.claimed, hl, if_true]

/-- R164: a report that joins an empty queue while a record is sent waits there alone. -/
theorem Link.enqueue_waits {l : Link} (hq : l.queue = []) (hl : l.transmitter ≠ .idle) (n : Nat) (b : ReportBody) :
    l.enqueue n b = { l with queue := [⟨n, l.clock, b⟩] } := by
  simp [Link.enqueue, hq, hl, reportCapacity]

/-- R165: the report that waits alone is the one sent, whether or not REPORTS LOST takes its place. -/
theorem Link.sendHead_single {l : Link} {x : Report} (hq : l.queue = [x]) : l.sendHead.transmitter = .report x := by
  simp only [Link.sendHead, hq]
  split <;> rfl

/-- R165: a tie with a report waiting goes either way: the reply stays first, or the head of the queue is sent. -/
theorem Rule.finish_tied (s : State) (hq : s.link.queue ≠ []) :
    Rule.finish ⟨s, [], true⟩ = .next (s.setDraws (s.draws + 1)) ∨
      Rule.finish ⟨s, [], true⟩ = .next ((s.setLink s.link.sendHead).setDraws (s.draws + 1)) := by
  simp only [Rule.finish, Rule.settle_nil, Rule.breakTie, hq, ne_eq, not_false_eq_true, and_self, if_true, Rule.upd_st]
  split
  · exact .inl rfl
  · exact .inr rfl

/-! ## The request -/

/-- R154: a press that finds the EMERGENCY cause active changes the pressed state alone. -/
theorem exec_emergencyButtonPress_active (s : State) (dt : Nat) (he : s.booth.emergency = true) :
    exec (.emergencyButtonPress dt) s = .next ((s.elapse dt).setBooth { s.booth with pressed := true }) := by
  have hpressed : (Rule.begin s dt).emergencyPressed =
      ⟨(s.elapse dt).setBooth { s.booth with pressed := true }, [], false⟩ := if_pos he
  change (Rule.begin s dt).emergencyPressed.finish = _
  rw [hpressed, Rule.finish_plain]

/-- R154, R162: where the link is ready, CLEAR EMERGENCY is decided in its own rule, which has a tie for an IDLE transmitter. -/
theorem exec_clearEmergency_decided (s : State) (dt : Nat) (hs : s.linkReady) : exec (.clearEmergency dt) s =
    let d := Rule.decideClearEmergency ⟨(s.elapse dt).setLink s.link.claimed, [], false⟩
    Rule.finish { d.rule.upd (fun s => s.setLink { s.link with slot := some (d.answer.reply 39) }) with
      tie := decide (s.link.transmitter = .idle) } := by
  have ⟨hbuffer, hslot, _⟩ := hs
  obtain ⟨tie, -, hr⟩ := Rule.request_ready (s.elapse dt) .clearEmergency hs
  have htie : tie = decide (s.link.transmitter = .idle) := by
    calc tie
      _ = (Rule.request ⟨s.elapse dt, [], false⟩ .clearEmergency).tie := (congrArg Rule.tie hr).symm
      _ = (false || (decide (s.link.transmitter = .idle) && true)) := by
        rw [Rule.request, Rule.arrives_taken _ _ hbuffer hslot]
        rfl
      _ = decide (s.link.transmitter = .idle) := by simp
  subst htie
  exact congrArg Rule.finish hr

/-- R154: a CLEAR EMERGENCY that decides without a change leaves its reply and nothing else. -/
theorem exec_clearEmergency_answered (s : State) (dt : Nat) (a : Answer) (hs : s.linkReady)
    (hd : ∀ r : Rule, r.st.booth = s.booth → r.decideClearEmergency = ⟨a, r⟩) :
    exec (.clearEmergency dt) s = .next ((s.elapse dt).replied (a.reply 39)) := by
  have ⟨_, _, hempty⟩ := hs
  rw [exec_clearEmergency_decided s dt hs, hd _ rfl]
  exact Rule.finish_settled (Rule.settle_nil _ _ _) (fun hidle => hempty (of_decide_eq_true hidle))

/-- R154: with the cause inactive the request is DONE. -/
theorem Rule.decideClearEmergency_inactive (r : Rule) (he : r.st.booth.emergency = false) :
    r.decideClearEmergency = ⟨.done .nothing, r⟩ := by
  simp [Rule.decideClearEmergency, he, Rule.done]

/-- R154: with the cause active and the button pressed the request is refused with STATE. -/
theorem Rule.decideClearEmergency_pressed (r : Rule) (he : r.st.booth.emergency = true) (hp : r.st.booth.pressed = true) :
    r.decideClearEmergency = ⟨.refused .state .nothing, r⟩ := by
  simp [Rule.decideClearEmergency, he, hp, Rule.refuse]

/-- R154: with the cause active and the button released the request is DONE and ends the cause. -/
theorem Rule.decideClearEmergency_released (r : Rule) (he : r.st.booth.emergency = true) (hp : r.st.booth.pressed = false) :
    r.decideClearEmergency = ⟨.done .nothing, r.endCause .emergency none⟩ := by
  simp [Rule.decideClearEmergency, he, hp, Rule.done]

/-- R152, R154: the link after an accepted CLEAR EMERGENCY: its FIRE CAUSE OFF queued, its DONE in the slot. -/
def Link.emergencyCleared (l : Link) : Link :=
  { l.enqueue 0 (.fireCauseOff .emergency none) with slot := some (.done 39 .nothing) }

/-- R152, R154: an accepted CLEAR EMERGENCY changes the cause and the link, and counts the choice where it has a tie. -/
theorem exec_clearEmergency_ends (s : State) (dt : Nat) (hs : s.linkReady) (he : s.booth.emergency = true)
    (hp : s.booth.pressed = false) : exec (.clearEmergency dt) s = Rule.finish
      ⟨((s.elapse dt).setBooth { s.booth with emergency := false }).setLink s.link.claimed.emergencyCleared, [],
        decide (s.link.transmitter = .idle)⟩ := by
  rw [exec_clearEmergency_decided s dt hs, Rule.decideClearEmergency_released _ he hp]
  rfl

/-- R165: with a record being sent, the reply and the report wait. -/
theorem exec_clearEmergency_busy (s : State) (dt : Nat) (hs : s.linkReady) (he : s.booth.emergency = true)
    (hp : s.booth.pressed = false) (hl : s.link.transmitter ≠ .idle) : exec (.clearEmergency dt) s =
      .next (((s.elapse dt).setBooth { s.booth with emergency := false }).setLink s.link.emergencyCleared) := by
  rw [exec_clearEmergency_ends s dt hs he hp, Link.claimed_busy hl, decide_eq_false hl, Rule.finish_plain]

/-- R165: with an IDLE transmitter claimed for the DONE, the report waits alone. -/
theorem Link.emergencyCleared_idle {l : Link} (hl : l.transmitter = .idle) (hq : l.queue = []) :
    l.claimed.emergencyCleared.transmitter = .reply ∧
      l.claimed.emergencyCleared.queue = [⟨0, l.clock, .fireCauseOff .emergency none⟩] := by
  have hclaimed : l.claimed.transmitter = .reply := by rw [Link.claimed_idle hl]
  have hwaits := Link.enqueue_waits (l := l.claimed) hq (by simp [hclaimed]) 0 (.fireCauseOff .emergency none)
  exact ⟨(congrArg Link.transmitter hwaits).trans hclaimed, congrArg Link.queue hwaits⟩

/-- R165: an IDLE transmitter sends the reply, with the report waiting alone, or the report. -/
theorem exec_clearEmergency_idle (s : State) (dt : Nat) (hs : s.linkReady) (he : s.booth.emergency = true)
    (hp : s.booth.pressed = false) (hl : s.link.transmitter = .idle) : ∃ l, exec (.clearEmergency dt) s =
      .next ((((s.elapse dt).setBooth { s.booth with emergency := false }).setLink l).setDraws (s.draws + 1)) ∧
      l.slot = some (.done 39 .nothing) ∧
      ((l.transmitter = .reply ∧ l.queue = [⟨0, s.link.clock, .fireCauseOff .emergency none⟩]) ∨
        l.transmitter = .report ⟨0, s.link.clock, .fireCauseOff .emergency none⟩) := by
  have ⟨_, _, hempty⟩ := hs
  obtain ⟨hreply, hqueue⟩ := Link.emergencyCleared_idle hl (hempty hl)
  rw [exec_clearEmergency_ends s dt hs he hp, decide_eq_true hl]
  rcases Rule.finish_tied (((s.elapse dt).setBooth { s.booth with emergency := false }).setLink
    s.link.claimed.emergencyCleared) (by simp [hqueue]) with hstays | hsends
  · exact ⟨_, hstays, rfl, .inl ⟨hreply, hqueue⟩⟩
  · exact ⟨_, hsends, Link.sendHead_slot _, .inr (Link.sendHead_single hqueue)⟩

/-! ## The statement -/

/-- Settles O49, by the branches of the decision, and at the end of the cause by what the transmitter is at. -/
theorem clearEmergencyEndsTheCause : Obligations.ClearEmergencyEndsTheCause := by
  refine fun s dt hs => ⟨exec_emergencyButtonPress_active s dt, fun he => ?_, fun he hp => ?_, fun he hp => ?_⟩
  · exact exec_clearEmergency_answered s dt _ hs fun r hb => r.decideClearEmergency_inactive (by rw [hb, he])
  · exact exec_clearEmergency_answered s dt _ hs fun r hb =>
      r.decideClearEmergency_pressed (by rw [hb, he]) (by rw [hb, hp])
  · by_cases hl : s.link.transmitter = .idle
    · obtain ⟨l, hexec, hslot, hsent⟩ := exec_clearEmergency_idle s dt hs he hp hl
      exact ⟨_, hexec, rfl, hslot, fun hbusy => absurd hl hbusy, fun _ => hsent, rfl, rfl, rfl, rfl, rfl, rfl, rfl⟩
    · exact ⟨_, exec_clearEmergency_busy s dt hs he hp hl, rfl, rfl, fun _ => rfl, fun hidle => absurd hidle hl,
        rfl, rfl, rfl, rfl, rfl, rfl, rfl⟩

end Sys2Proof.Machine
end

section
/-! PROOFS. What a command can do to the state: one rule of the booth is a chain of touches, each of which changes a few records
in a way that every law of the booth survives. The laws are kept touch by touch; that every rule is such a chain is shown
once. -/

namespace Sys2Proof.Machine

/-! ## Touches -/

/-- What a rule does to the link beside receiving and sending: reports join (R164), a restart empties the queue (R169), and the
clock is set (R168). -/
inductive Link.Touch (l : Link) : Link → Prop where
  | report (n : Nat) (b : ReportBody) : Link.Touch l (l.enqueue n b)
  | restart : Link.Touch l l.restart
  | clock (c : Option Nat) (t : Option Instant) : Link.Touch l { l with clock := c, nextSecond := t }

/-- What stands aside from the laws of the booth: readers, the instant, the choices, reports, and what of a lamp is neither its
state, its strike phase nor its account. -/
structure State.Aside (s u : State) : Prop where
  transports : u.transports = s.transports
  dousers : u.dousers = s.dousers
  lamps : ∀ q, (u.lp q).state = (s.lp q).state ∧ (u.lp q).phase = (s.lp q).phase ∧ (u.lp q).account = (s.lp q).account
  houses : u.houses = s.houses
  lights : u.lights = s.lights
  ports : u.ports = s.ports
  booth : u.booth = s.booth
  pending : u.pending = s.pending
  link : Relation.ReflTransGen Link.Touch s.link u.link

/-- R54 to R58: a lamp that is not struck anew goes on from `l` to `x`: it is lit or BURNING after the rules of its strike, and an
account of a lamp that is not OFF does not come to the stub limit. -/
structure Lamp.Goes (l x : Lamp) : Prop where
  off : l.state = .off ↔ x.state = .off
  burning : l.state = .burning → x.state = .burning
  phased : x.phased
  account : x.state = .off ∨ x.account = l.account ∨ stubLimit < x.account

/-- R127 to R133: the laws of a light channel whose house has the emergency level `e`. -/
structure Light.Lawful (e : Nat) (l : Light) : Prop where
  drive : l.drive = driveOf l.level
  target : l.safetyTarget = e
  fade : ∀ f, l.fade = some f → f.target = l.effective ∧ f.step < f.steps
  safety : l.safetyActive = true → l.level = l.safetyTarget ∧ l.fade = none

/-- R139: a port whose hold magnet is energized. -/
abbrev Port.raised (x : Port) : Prop := x.state = .held ∨ x.state = .arming

/-- R36: a douser OPEN or OPENING, whose gating condition R38 watches. -/
abbrev Douser.agape (d : Douser) : Prop := d.state = .opened ∨ d.state = .opening

/-- R41: a measured travel leaves learned times of 40 ms or more so. -/
abbrev Douser.TimesKept (d x : Douser) : Prop :=
  (40 ≤ d.openTime → 40 ≤ x.openTime) ∧ (40 ≤ d.closeTime → 40 ≤ x.closeTime)

/-- R49, R85, R97, R99: what a rule may make of the record `old` of house `h` in state `s`. -/
structure State.HouseGoes (s : State) (h : HouseId) (x : House) : Prop where
  reels : s.distinctReels h → (x.plan.map (fun e => e.reel)).Nodup
  gate : x.gate = (s.hs h).gate ∨ x.gate = .none ∨ ∃ sd, x.gate = .side sd ∧ (s.tr (projAt h sd)).state = .running
  levels : x.levels.emergency = (s.hs h).levels.emergency
  record : s.recordInShow h → x.state ≠ .showing → x.change = none

/-- One touch of the state. -/
inductive State.Touch (s : State) : State → Prop where
  | aside {u : State} : s.Aside u → Touch s u
  /-- R1: a transport changes, but leaves neither RUNNING nor STOPPED; it is ARMED for its own house only (R88). -/
  | transport (p : Proj) (x : Transport) : (∀ a, x.armed = some a → (s.tr p).armed = some a ∨ a.house = houseOf p) →
      ((s.tr p).state = .running → x.state = .running) → ((s.tr p).state = .stopped → x.state = .stopped) →
      Touch s (s.setTr p x)
  /-- R3, R47: a transport leaves STOPPED, and with it a trial ends. -/
  | motorStart (p : Proj) (x : Transport) : (s.tr p).state = .stopped → x.armed = (s.tr p).armed →
      Touch s ((s.setTr p x).endTrial p .motor)
  /-- R4, R12: a transport leaves RUNNING; R38 and R50 watch. -/
  | leaveRunning (p : Proj) (x : Transport) {u : State} : x.armed = (s.tr p).armed → (s.setTr p x).Aside u →
      Touch s (u.leaveRunning p)
  | close (p : Proj) : Touch s (s.closeCommand p)
  | opens (p : Proj) : Touch s (s.openCommand p)
  /-- R40 to R46: a douser changes, and does not become OPEN or OPENING. -/
  | douser (p : Proj) (x : Douser) : (x.agape → x.state = (s.ds p).state ∧ ((s.ds p).trial.isSome → x.trial.isSome)) →
      (s.ds p).TimesKept x → Touch s (s.setDs p x)
  | endTrial (p : Proj) (o : TrialOutcome) : Touch s (s.endTrial p o)
  /-- R40, R43, R44: a douser becomes OPEN. -/
  | opened (p : Proj) (x : Douser) : x.state = .opened → ((s.ds p).trial.isSome → x.trial.isSome) → (s.ds p).TimesKept x →
      ((s.ds p).state = .opening ∨ (s.setDs p x).gating p = true) → Touch s ((s.setDs p x).interlock p)
  /-- R54 to R58: a lamp goes on; its strike rules rest on the law of its phase. -/
  | lamp (p : Proj) (x : Lamp) : ((s.lp p).phased → (s.lp p).Goes x) → Touch s (s.setLp p x)
  /-- R68: a lamp, its account perhaps debited in the same rule (R75), becomes OFF; the douser of a lit one is closed. -/
  | lampOff (p : Proj) (y x : Lamp) {u : State} (b : Bool) : y.state = (s.lp p).state → (s.setLp p y).Aside u → x.state = .off →
      x.phase = none → ((s.tr p).state = .running → (s.lp p).state = .burning → b = true) →
      Touch s (if b then (u.setLp p x).closeCommand p else u.setLp p x)
  /-- R54: a strike begins; R38 watches. -/
  | strike (p : Proj) (x : Lamp) : x.state = .striking → (((s.lp p).state ≠ .off → stubLimit < (s.lp p).account) →
      stubLimit < x.account) → Touch s ((s.setLp p x).gatingWatch p)
  | house (h : HouseId) (x : House) : s.HouseGoes h x → Touch s (s.setHs h x)
  /-- R99, R133: the house levels, and with them the emergency level of the light channel. -/
  | levels (h : HouseId) (l : HouseLevels) :
      Touch s ((s.setHs h { s.hs h with levels := l }).setLt h ((s.lt h).giveEmergency s.now l.emergency))
  | light (h : HouseId) (x : Light) : (∀ e, (s.lt h).Lawful e → x.Lawful e) → Touch s (s.setLt h x)
  /-- R140, R141, R143: a port changes; it is raised only where no cause covers it, and does not leave HELD. -/
  | port (n : PortId) (x : Port) : (x.raised → (s.pt n).raised ∨ s.booth.covers n = false) →
      (portProj n = none ∨ ((s.pt n).state = .held → x.state = .held)) → Touch s (s.setPt n x)
  /-- R142: a projection port is released, and its douser closed. -/
  | release (n : PortId) (x : Port) (p : Proj) : ¬ x.raised → portProj n = some p → Touch s ((s.setPt n x).closeCommand p)
  /-- R145, R146: the drop links are marked. -/
  | links (f : Port → Port) : (∀ x, (f x).state = x.state) → Touch s { s with ports := s.ports.map f }
  /-- R144, R152: the booth-level state changes, and no cause becomes active. -/
  | booth (x : Booth) : (∀ n, x.covers n = true → s.booth.covers n = true) → Touch s (s.setBooth x)

/-- A chain of touches. -/
abbrev State.Moves (s t : State) : Prop := Relation.ReflTransGen State.Touch s t

/-! ## Standing aside -/

theorem State.Aside.refl (s : State) : s.Aside s where
  transports := rfl
  dousers := rfl
  lamps _ := ⟨rfl, rfl, rfl⟩
  houses := rfl
  lights := rfl
  ports := rfl
  booth := rfl
  pending := rfl
  link := .refl

theorem State.Aside.trans {s u v : State} (h : s.Aside u) (k : u.Aside v) : s.Aside v where
  transports := k.transports.trans h.transports
  dousers := k.dousers.trans h.dousers
  lamps q := ⟨(k.lamps q).1.trans (h.lamps q).1, (k.lamps q).2.1.trans (h.lamps q).2.1, (k.lamps q).2.2.trans (h.lamps q).2.2⟩
  houses := k.houses.trans h.houses
  lights := k.lights.trans h.lights
  ports := k.ports.trans h.ports
  booth := k.booth.trans h.booth
  pending := k.pending.trans h.pending
  link := h.link.trans k.link

theorem State.Aside.moves {s u : State} (h : s.Aside u) : s.Moves u := .single (.aside h)

theorem State.aside_relink (s : State) {x : Link} (hx : Link.Touch s.link x) : s.Aside (s.setLink x) :=
  { State.Aside.refl s with link := .single hx }

theorem State.aside_report (s : State) (n : Nat) (b : ReportBody) : s.Aside (s.report n b) :=
  s.aside_relink (.report n b)

theorem State.aside_reader (s : State) (p : Proj) (x : Reader) : s.Aside (s.setRd p x) :=
  { State.Aside.refl s with }

theorem State.aside_draws (s : State) (n : Nat) : s.Aside (s.setDraws n) := { State.Aside.refl s with }

theorem State.aside_elapse (s : State) (dt : Nat) : s.Aside (s.elapse dt) := { State.Aside.refl s with }

theorem State.aside_lamp (s : State) (p : Proj) (x : Lamp) (hs : x.state = (s.lp p).state) (hp : x.phase = (s.lp p).phase)
    (ha : x.account = (s.lp p).account) : s.Aside (s.setLp p x) :=
  { State.Aside.refl s with lamps := fun q => by simp only [State.setLp_lp]; split <;> simp_all }

theorem State.aside_sufficiency (s : State) (p : Proj) (x : Option Sufficiency) :
    s.Aside (s.setLp p { s.lp p with sufficiency := x }) := s.aside_lamp p _ rfl rfl rfl

/-- R60: an evaluation of a burst touches neither the state, the phase nor the account of a lamp. -/
theorem Lamp.evaluate_aside (l : Lamp) (b : Bool) (now : Instant) :
    (l.evaluate b now).state = l.state ∧ (l.evaluate b now).phase = l.phase ∧ (l.evaluate b now).account = l.account := by
  unfold Lamp.evaluate
  (repeat' split) <;> simp [Lamp.trySend_keeps]

theorem State.aside_evalBurst (s : State) (p : Proj) : s.Aside (s.evalBurst p) :=
  have h := (s.lp p).evaluate_aside (s.rd p).assembling s.now
  s.aside_lamp p _ h.1 h.2.1 h.2.2

theorem State.aside_endBurst (s : State) (p : Proj) (cause : ShortCause) : s.Aside (s.endBurst p cause) := by
  unfold State.endBurst
  (repeat' split)
  · exact .refl s
  · exact s.aside_report ..
  · exact .refl s

theorem State.aside_endBurstFor (s : State) (p : Proj) (reason : StopReason) : s.Aside (s.endBurstFor p reason) := by
  unfold State.endBurstFor
  split
  · exact s.aside_endBurst ..
  · exact .refl s

theorem Rule.joinCue_aside (r : Rule) (p : Proj) (e : CueEntry) : r.st.Aside (r.joinCue p e).st := by
  unfold Rule.joinCue
  dsimp only
  split
  · exact (r.st.aside_reader p _).trans (State.aside_report ..)
  · exact r.st.aside_report ..

theorem Rule.joinCues_aside (r : Rule) (p : Proj) (l : List CueEntry) : r.st.Aside (r.joinCues p l).st := by
  induction l generalizing r with
  | nil => exact .refl _
  | cons e rest ih => exact (r.joinCue_aside p e).trans (ih _)

theorem Rule.offerCounted_aside (r : Rule) (p : Proj) (code : CueCode) : r.st.Aside (r.offerCounted p code).st := by
  unfold Rule.offerCounted
  dsimp only
  (repeat' split)
  · exact r.st.aside_reader ..
  · exact r.st.aside_report ..
  · exact r.joinCue_aside ..

theorem Rule.readerStops_aside (r : Rule) (p : Proj) : r.st.Aside (r.readerStops p).st := by
  unfold Rule.readerStops
  dsimp only
  split
  · refine State.Aside.trans ?_ (Rule.joinCues_aside _ p _)
    exact (r.st.aside_reader p _).trans (State.aside_evalBurst ..)
  · exact r.st.aside_reader ..

theorem State.aside_readerStarts (s : State) (p : Proj) : s.Aside (s.readerStarts p) := by
  unfold State.readerStarts
  split
  · exact .refl s
  · exact s.aside_reader ..

theorem Rule.evalSufficiency_aside (r : Rule) (p : Proj) : r.st.Aside (r.evalSufficiency p).st := by
  unfold Rule.evalSufficiency
  dsimp only
  split <;> exact r.st.aside_sufficiency p _

/-! ## Houses -/

/-- A house's record changes without its plan's numbers, its gate, its emergency level, and without leaving a show. -/
theorem State.houseGoes_plain (s : State) (h : HouseId) (x : House)
    (hp : x.plan.map (fun e => e.reel) = (s.hs h).plan.map (fun e => e.reel)) (hg : x.gate = (s.hs h).gate ∨ x.gate = .none)
    (hl : x.levels = (s.hs h).levels)
    (hr : ((s.hs h).state ≠ .showing → (s.hs h).change = none) → x.state ≠ .showing → x.change = none) :
    s.HouseGoes h x where
  reels := by intro hn; rw [hp]; exact hn
  gate := hg.elim .inl (fun h => .inr (.inl h))
  levels := by rw [hl]
  record := hr

theorem State.moves_house (s : State) (h : HouseId) (x : House)
    (hp : x.plan.map (fun e => e.reel) = (s.hs h).plan.map (fun e => e.reel)) (hg : x.gate = (s.hs h).gate ∨ x.gate = .none)
    (hl : x.levels = (s.hs h).levels)
    (hr : ((s.hs h).state ≠ .showing → (s.hs h).change = none) → x.state ≠ .showing → x.change = none) :
    s.Moves (s.setHs h x) := .single (.house h x (s.houseGoes_plain h x hp hg hl hr))

/-- A house's record changes in fields that no law speaks of. -/
theorem State.moves_modHs (s : State) (h : HouseId) (f : House → House) (hp : (f (s.hs h)).plan = (s.hs h).plan)
    (hg : (f (s.hs h)).gate = (s.hs h).gate) (hl : (f (s.hs h)).levels = (s.hs h).levels)
    (hr : ((s.hs h).state ≠ .showing → (s.hs h).change = none) → (f (s.hs h)).state ≠ .showing → (f (s.hs h)).change = none) :
    s.Moves (s.modHs h f) := s.moves_house h _ (by rw [hp]) (.inl hg) hl hr

theorem State.moves_modReel (s : State) (h : HouseId) (n : Nat) (f : ReelEntry → ReelEntry) (hf : ∀ e, (f e).reel = e.reel) :
    s.Moves (s.modReel h n f) :=
  s.moves_house h _ (mapReel_reels _ n f hf) (.inl rfl) rfl (fun h => h)

theorem State.moves_setStatus (s : State) (h : HouseId) (n : Nat) (x : ReelStatus) : s.Moves (s.setStatus h n x) :=
  s.moves_modReel h n _ (fun _ => rfl)

theorem State.moves_modChange (s : State) (h : HouseId) (f : Changeover → Changeover) : s.Moves (s.modChange h f) :=
  s.moves_modHs h _ rfl rfl rfl (fun hr hs => by simp [hr hs])

theorem State.moves_modMarks (s : State) (h : HouseId) (f : ReelMarks → ReelMarks) : s.Moves (s.modMarks h f) :=
  s.moves_modHs h _ rfl rfl rfl (fun hr => hr)

theorem State.moves_selectNone (s : State) (h : HouseId) : s.Moves (s.selectNone h) :=
  s.moves_house h _ rfl (.inr rfl) rfl (fun hr => hr)

theorem State.moves_selectSide (s : State) (h : HouseId) (sd : Side) : s.Moves (s.selectSide h sd) := by
  unfold State.selectSide
  split
  · rename_i hrun
    exact .single (.house h _ ⟨fun h => h, .inr (.inr ⟨sd, rfl, hrun⟩), rfl, fun h => h⟩)
  · exact .refl

theorem State.moves_setLiveStatus (s : State) (h : HouseId) (x : ReelStatus) : s.Moves (s.setLiveStatus h x) := by
  unfold State.setLiveStatus
  split
  · exact .refl
  · exact s.moves_setStatus ..

theorem State.moves_setHeldStatus (s : State) (p : Proj) (x : ReelStatus) : s.Moves (s.setHeldStatus p x) := by
  unfold State.setHeldStatus
  split
  · exact .refl
  · exact s.moves_setStatus ..

theorem State.moves_interrupt (s : State) (h : HouseId) : s.Moves (s.interrupt h) := by
  unfold State.interrupt
  split
  · exact s.moves_setLiveStatus ..
  · exact s.moves_setLiveStatus ..
  all_goals exact .refl

theorem State.moves_clearBadMark (s : State) (p : Proj) : s.Moves (s.clearBadMark p) := by
  unfold State.clearBadMark
  dsimp only
  split
  · exact s.moves_house _ _ rfl (.inl rfl) rfl (fun h => h)
  · exact .refl

theorem State.moves_giveUpEntry (s : State) (p : Proj) : s.Moves (s.giveUpEntry p) := by
  unfold State.giveUpEntry
  split
  · exact .refl
  · exact s.moves_modReel _ _ _ (fun _ => rfl)

theorem State.moves_createChange (s : State) (h : HouseId) (c : Changeover) (hs : (s.hs h).state = .showing) :
    s.Moves (s.createChange h c) :=
  (s.moves_modHs h _ rfl rfl rfl (fun _ hn => absurd hs hn)).trans (State.moves_modMarks ..)

theorem State.moves_holdChange (s : State) (h : HouseId) (x : CueSource) : s.Moves (s.holdChange h x) :=
  (s.moves_modChange h _).trans (State.moves_modMarks ..)

theorem State.moves_reportBadHead (s : State) (h : HouseId) (p : Proj) (e : CueEntry) : s.Moves (s.reportBadHead h p e) := by
  unfold State.reportBadHead
  split
  · exact .refl
  · exact (s.aside_report _ _).moves.trans (State.moves_modMarks ..)

theorem State.moves_lockChange (s : State) (p : Proj) : s.Moves (s.lockChange p) := s.moves_modChange _ _

/-! ## Light channels -/

/-- R127: a fade that begins heads for the effective target. -/
theorem Light.Lawful.fadeTo {e : Nat} {l : Light} (now : Instant) (f : Nat) (hd : l.drive = driveOf l.level)
    (ht : l.safetyTarget = e) (hs : l.safetyActive = true → f = 0) : (l.fadeTo now f).Lawful e := by
  unfold Light.fadeTo
  split
  · exact ⟨rfl, ht, nofun, fun h => by simp_all [Light.setLevel, Light.effective]⟩
  · rename_i hf
    have hoff : l.safetyActive = false := by
      cases h : l.safetyActive
      · rfl
      · exact absurd (by simp [hs h]) hf
    split
    · exact ⟨hd, ht, nofun, fun h => by simp_all⟩
    · refine ⟨hd, ht, fun g hg => ?_, fun h => by simp_all⟩
      obtain rfl : _ = g := by simpa using hg
      exact ⟨rfl, by dsimp only; omega⟩

theorem Light.Lawful.giveProgram {e : Nat} {l : Light} (hl : l.Lawful e) (now : Instant) (t f : Nat) (o : Origin) :
    (l.giveProgram now t f o).Lawful e := by
  obtain ⟨hd, ht, hf, hs⟩ := hl
  unfold Light.giveProgram
  dsimp only
  split
  · exact ⟨hd, ht, fun g hg => by simpa [Light.effective, *] using hf g hg, hs⟩
  · split
    · exact ⟨hd, ht, fun g hg => by simpa [Light.effective, *] using hf g hg, hs⟩
    · exact Light.Lawful.fadeTo now f hd ht (fun h => by simp_all)

theorem Light.Lawful.activateSafety {e : Nat} {l : Light} (hl : l.Lawful e) (now : Instant) : (l.activateSafety now).Lawful e := by
  unfold Light.activateSafety
  split
  · exact hl
  · exact Light.Lawful.fadeTo now 0 hl.drive hl.target (fun _ => rfl)

theorem Light.Lawful.stepFade {e : Nat} {l : Light} (hl : l.Lawful e) (now : Instant) : (l.stepFade now).Lawful e := by
  obtain ⟨hd, ht, hf, hs⟩ := hl
  unfold Light.stepFade
  split
  · exact ⟨hd, ht, hf, hs⟩
  · rename_i f hfade
    split
    · refine ⟨rfl, ht, fun g hg => ?_, fun h => ?_⟩
      · have := hf f hfade
        dsimp only at hg
        split at hg <;> simp_all [Light.effective, Light.setLevel]
        subst hg
        simp_all
      · have := (hs h).2
        simp_all
    · exact ⟨hd, ht, hf, hs⟩

theorem Light.Lawful.setManual {e : Nat} {l : Light} (hl : l.Lawful e) (now : Instant) (t f : Nat) :
    (l.setManual now t f).Lawful e := by
  obtain ⟨hd, ht, hf, hs⟩ := hl
  unfold Light.setManual
  dsimp only
  split
  · exact ⟨hd, ht, fun g hg => by simpa [Light.effective, *] using hf g hg, hs⟩
  · exact Light.Lawful.fadeTo now f hd ht (fun h => by simp_all)

theorem Light.Lawful.release {e : Nat} {l : Light} (hl : l.Lawful e) (now : Instant) (f : Nat) : (l.release now f).Lawful e := by
  obtain ⟨hd, ht, hf, hs⟩ := hl
  unfold Light.release
  dsimp only
  split
  · exact ⟨hd, ht, fun g hg => by simpa [Light.effective, *] using hf g hg, hs⟩
  · exact Light.Lawful.fadeTo now f hd ht (fun h => by simp_all)

theorem Light.Lawful.clearSafety {e : Nat} {l : Light} (hl : l.Lawful e) (now : Instant) : (l.clearSafety now).Lawful e :=
  Light.Lawful.fadeTo now 30 hl.drive hl.target (fun h => by simp at h)

theorem Light.Lawful.restart {e : Nat} {l : Light} (hl : l.Lawful e) (b : Bool) (now : Instant) : (l.restart b now).Lawful e := by
  obtain ⟨hd, ht, hf, hs⟩ := hl
  unfold Light.restart
  dsimp only
  split
  · exact ⟨hd, ht, nofun, fun h => ⟨(hs (by simp_all)).1, rfl⟩⟩
  · rename_i hne
    refine Light.Lawful.fadeTo now 30 hd ht (fun h => ?_)
    simp_all [Light.effective]

theorem Light.Lawful.giveEmergency {e : Nat} {l : Light} (hl : l.Lawful e) (now : Instant) (n : Nat) :
    (l.giveEmergency now n).Lawful n := by
  obtain ⟨hd, ht, hf, hs⟩ := hl
  unfold Light.giveEmergency
  dsimp only
  split
  · exact Light.Lawful.fadeTo now 0 hd rfl (fun _ => rfl)
  · exact ⟨hd, rfl, fun g hg => by simpa [Light.effective, *] using hf g hg, fun h => by simp_all⟩

theorem State.moves_programTarget (s : State) (h : HouseId) (t f : Nat) (o : Origin) : s.Moves (s.programTarget h t f o) :=
  .single (.light h _ (fun _ hl => hl.giveProgram ..))

theorem State.moves_activateSafety (s : State) (h : HouseId) : s.Moves (s.activateSafety h) :=
  .single (.light h _ (fun _ hl => hl.activateSafety _))

theorem State.moves_giveCues (s : State) (h : HouseId) (n : Nat) (l : List LightCue) : s.Moves (s.giveCues h n l) := by
  induction l generalizing s with
  | nil => exact .refl
  | cons c rest ih => exact (s.moves_programTarget ..).trans (ih _)

theorem State.moves_fireCues (s : State) (h : HouseId) (n : Nat) (cond : CueTrigger → Bool) : s.Moves (s.fireCues h n cond) := by
  unfold State.fireCues
  split
  · exact .refl
  · refine .trans ?_ (State.moves_giveCues ..)
    exact s.moves_modReel h n _ (fun _ => rfl)

theorem State.moves_fireFrameCues (s : State) (h : HouseId) : s.Moves (s.fireFrameCues h) := by
  unfold State.fireFrameCues
  (repeat' split)
  · exact s.moves_fireCues ..
  all_goals exact .refl

/-! ## Dousers -/

theorem State.moves_close (s : State) (p : Proj) : s.Moves (s.closeCommand p) := .single (.close p)
theorem State.moves_open (s : State) (p : Proj) : s.Moves (s.openCommand p) := .single (.opens p)
theorem State.moves_endTrial (s : State) (p : Proj) (o : TrialOutcome) : s.Moves (s.endTrial p o) := .single (.endTrial p o)

theorem State.moves_closeBoth (s : State) (h : HouseId) : s.Moves (s.closeBoth h) :=
  (s.moves_close _).trans (State.moves_close ..)

theorem State.moves_stopTrials (s : State) (l : List PortId) : s.Moves (s.stopTrials l) := by
  induction l generalizing s with
  | nil => exact .refl
  | cons n rest ih =>
    unfold State.stopTrials
    split
    · exact (s.moves_endTrial ..).trans (ih _)
    · exact ih _

/-- A douser's record changes in fields that no law speaks of. -/
theorem State.moves_douser (s : State) (p : Proj) (x : Douser) (hs : x.state = (s.ds p).state)
    (ht : (s.ds p).trial.isSome → x.trial.isSome) (ho : x.openTime = (s.ds p).openTime)
    (hc : x.closeTime = (s.ds p).closeTime) : s.Moves (s.setDs p x) :=
  .single (.douser p x (fun _ => ⟨hs, ht⟩) ⟨fun h => by rwa [ho], fun h => by rwa [hc]⟩)

/-- A douser comes to stand neither OPEN nor OPENING. -/
theorem State.moves_douserShut (s : State) (p : Proj) (x : Douser) (hs : ¬ x.agape) (ht : (s.ds p).TimesKept x) :
    s.Moves (s.setDs p x) := .single (.douser p x (fun h => absurd h hs) ht)

/-! ## The house controller -/

theorem State.moves_endDoused (s : State) (h : HouseId) : s.Moves (s.endDoused h) := by
  unfold State.endDoused
  split
  · exact (s.moves_selectNone h).trans (State.moves_modHs _ _ _ rfl rfl rfl (fun hr => hr))
  all_goals exact .refl

theorem State.moves_endDouserSees (s : State) (p : Proj) : s.Moves (s.endDouserSees p) := by
  unfold State.endDouserSees
  dsimp only
  split
  · exact s.moves_endDoused _
  · exact .refl

theorem State.moves_lampReturns (s : State) (p : Proj) : s.Moves (s.lampReturns p) := by
  unfold State.lampReturns
  have hdark := s.moves_modHs (houseOf p) (fun x => { x with dark := false }) rfl rfl rfl (fun hr => hr)
  dsimp only
  split
  · split
    · exact hdark
    · exact hdark.trans (State.moves_open ..)
  · exact .refl

theorem State.moves_crossingAt (s : State) (h : HouseId) (n : Nat) : s.Moves (s.crossingAt h n) := by
  have hopen (s : State) (c : Changeover) (x : Crossing) : s.Moves (s.crossingOpen h c x n) := by
    unfold State.crossingOpen
    split
    · exact (s.moves_open _).trans (State.moves_modChange ..)
    · exact .refl
  have hclose (s : State) (c : Changeover) (x : Crossing) : s.Moves (s.crossingClose h c x n) := by
    unfold State.crossingClose
    split
    · exact (s.moves_close _).trans (State.moves_modChange ..)
    · exact .refl
  have hsound (s : State) (c : Changeover) (x : Crossing) : s.Moves (s.crossingSound h c x n) := by
    unfold State.crossingSound
    dsimp only
    split
    · split
      · exact ((s.moves_selectSide ..).trans (State.moves_fireCues ..)).trans (State.moves_modChange ..)
      · exact (s.moves_selectSide ..).trans (State.moves_modChange ..)
    · exact .refl
  unfold State.crossingAt
  split
  · exact .refl
  · split
    · exact .refl
    · exact ((hopen ..).trans (hclose ..)).trans (hsound ..)

end Sys2Proof.Machine
end

section
/-! PROOFS. Every rule is a chain of touches: the actions of the blocks, the house controller's rules, and the agenda. -/

namespace Sys2Proof.Machine

/-- A rule goes from one state of it to another by touches. -/
def Rule.Moves (r r' : Rule) : Prop := r.st.Moves r'.st

theorem Rule.Moves.refl {r : Rule} : r.Moves r := Relation.ReflTransGen.refl

theorem Rule.Moves.trans {r t u : Rule} (h1 : r.Moves t) (h2 : t.Moves u) : r.Moves u := Relation.ReflTransGen.trans h1 h2

/-- Touches that lead to where others began. -/
theorem Rule.Moves.via {r t u : Rule} (h2 : t.Moves u) (h1 : r.Moves t) : r.Moves u := h1.trans h2

theorem Rule.Moves.upd {r t : Rule} {f : State → State} (h : r.Moves t) (hf : t.st.Moves (f t.st)) : r.Moves (t.upd f) :=
  Relation.ReflTransGen.trans h hf

theorem Rule.Moves.emit {r t : Rule} (h : r.Moves t) (x : Signal) : r.Moves (t.emit x) := h

theorem Rule.Moves.ofState {r t : Rule} (h : r.st.Moves t.st) : r.Moves t := h

theorem Rule.moves_upd {r : Rule} {f : State → State} (hf : r.st.Moves (f r.st)) : r.Moves (r.upd f) := hf


/-- Touches that lead to where others began. -/
theorem moves_via {s t u : State} (h2 : t.Moves u) (h1 : s.Moves t) : s.Moves u := h1.trans h2

/-! ## Transports and lamps -/

theorem Rule.moves_motorStart (r : Rule) (p : Proj) : r.Moves (r.motorStart p) := by
  unfold Rule.motorStart
  dsimp only
  split
  · rename_i hs
    refine .emit (Rule.moves_upd (.trans ?_ (State.aside_readerStarts _ p).moves)) _
    exact .single (.motorStart p _ hs rfl)
  · exact .refl

/-- R4, R22: a transport leaves RUNNING, and its reader stops between. -/
theorem State.Touch.leaveRunning_readerStops {r : Rule} (p : Proj) (f : State → Transport)
    (ha : (f r.st).armed = (r.st.tr p).armed) :
    r.st.Touch (((r.upd (fun s => s.setTr p (f s))).readerStops p).upd (fun s => s.leaveRunning p)).st :=
  .leaveRunning p (f r.st) ha (Rule.readerStops_aside (r.upd (fun s => s.setTr p (f s))) p)

theorem Rule.Moves.ofTouch {r t : Rule} (h : r.st.Touch t.st) : r.Moves t := Relation.ReflTransGen.single h

theorem Rule.moves_motorStop (r : Rule) (p : Proj) : r.Moves (r.motorStop p) := by
  unfold Rule.motorStop
  dsimp only
  split
  · rename_i hs
    refine .emit (.trans ?_ (Rule.readerStops_aside _ p).moves) _
    exact .single (.transport p _ (fun a ha => .inl ha) (by simp [hs]) (by simp [hs]))
  · exact .emit (.ofTouch (.leaveRunning_readerStops p _ rfl)) _
  all_goals exact .refl

/-- R68: a lamp becomes OFF, perhaps with a debit in the same rule. -/
theorem Rule.moves_lampStops_debited (s : State) (r : Rule) (p : Proj) (reason : StopReason) (y : Lamp)
    (hy : y.state = (s.lp p).state) (hr : (s.setLp p y).Aside r.st) : s.Moves (r.lampStops p reason).st := by
  have hlit : (r.st.lp p).state = (s.lp p).state := by simpa [hy] using (hr.lamps p).1
  have ho := State.aside_endBurstFor r.st p reason
  have h (x : Lamp) (hx : x.state = .off) (hp : x.phase = none) := State.Touch.lampOff (s := s) p y x (r.st.lp p).lit hy
    (hr.trans ho) hx hp (fun _ hb => by simp [Lamp.lit, hlit, hb])
  unfold Rule.lampStops Rule.emitLampLeft
  dsimp only
  refine .single ?_
  convert h { ((r.st.endBurstFor p reason).lp p).clearRun with state := .off, stop := some reason } rfl rfl using 1
  cases (r.st.lp p).lit <;> (dsimp only [Rule.upd]; split <;> rfl)

theorem Rule.moves_lampStops (r : Rule) (p : Proj) (reason : StopReason) : r.Moves (r.lampStops p reason) :=
  Rule.moves_lampStops_debited r.st r p reason (r.st.lp p) rfl (by rw [State.setLp_self]; exact .refl _)

theorem Rule.moves_extinguish (r : Rule) (p : Proj) (reason : StopReason) : r.Moves (r.extinguish p reason) := by
  unfold Rule.extinguish
  split
  · exact .refl
  · exact r.moves_lampStops ..

theorem Rule.moves_strikeBegins (r : Rule) (p : Proj)
    (ha : ((r.st.lp p).state ≠ .off → stubLimit < (r.st.lp p).account) → stubLimit < (r.st.lp p).account) :
    r.Moves (r.strikeBegins p) := by
  unfold Rule.strikeBegins
  dsimp only
  split <;> exact .single (.strike p _ rfl ha)

/-! ## Disarming and drops -/

theorem State.moves_readerDiscards (s : State) (p : Proj) (x : ReaderState) : s.Moves (s.readerDiscards p x) := by
  unfold State.readerDiscards
  dsimp only
  have h := (s.aside_reader p { s.rd p with state := x, group := none, held := [], queue := [] }).moves.trans
    (State.moves_clearBadMark _ p)
  split
  · exact h.trans (State.aside_evalBurst ..).moves
  · exact h

theorem Rule.moves_disarm (r : Rule) (p : Proj) : r.Moves (r.disarm p) := by
  have hg : (r.st.giveUpEntry p).tr p = r.st.tr p := by
    unfold State.giveUpEntry
    split <;> rfl
  have hback {x : Transport} (hx : x.armed = none) (hs : (r.st.tr p).state ≠ .broken → x.state = (r.st.tr p).state)
      (hb : (r.st.tr p).state = .broken → x.state = .stopped) : r.st.Moves ((r.st.giveUpEntry p).setTr p x) := by
    refine (r.st.moves_giveUpEntry p).tail (.transport p x (by simp [hx]) ?_ ?_) <;> rw [hg] <;> intro h
    · exact (hs (by simp [h])).trans h
    · exact (hs (by simp [h])).trans h
  unfold Rule.disarm
  dsimp only
  split
  · rename_i hb
    refine .ofState ?_
    dsimp only [Rule.upd]
    refine .trans (.trans ?_ (State.moves_readerDiscards _ p .off)) (State.aside_sufficiency _ p none).moves
    exact hback rfl (fun h => absurd hb h) (fun _ => rfl)
  · rename_i hb
    refine .ofState ?_
    dsimp only [Rule.upd]
    refine .trans (.trans ?_ (State.moves_readerDiscards _ p .off)) (State.aside_sufficiency _ p none).moves
    exact hback rfl (fun _ => rfl) (fun h => absurd h hb)

theorem State.moves_booth (s : State) (x : Booth) (hx : x.active = s.booth.active) : s.Moves (s.setBooth x) :=
  .single (.booth x (fun n h => by simpa [Booth.covers, Booth.covering, hx] using h))

theorem State.moves_trimLog (s : State) : s.Moves s.trimLog := by
  unfold State.trimLog
  split
  · exact .refl
  · split
    · exact .refl
    · refine .tail (s.moves_booth _ ?_) (.links _ ?_)
      · rfl
      · exact fun _ => rfl

theorem State.moves_writeRecord (s : State) (c : DropCause) (p : Option Proj) (l : List PortId) :
    s.Moves (s.writeRecord c p l) := s.moves_trimLog.trans (State.moves_booth _ _ rfl)

theorem State.moves_writeOutcome (s : State) (n : PortId) (o : DropOutcome) : s.Moves (s.writeOutcome n o) := by
  unfold State.writeOutcome
  (repeat' split)
  · exact .refl
  · exact .refl
  · exact s.moves_booth _ rfl

theorem State.moves_judgeDiscarded (s : State) (l : DropLink) : s.Moves (s.judgeDiscarded l) := by
  unfold State.judgeDiscarded
  split
  · exact .refl
  · exact (s.aside_report 0 (.portDropped l.seq none none)).moves.tail (.links _ (fun _ => rfl))

theorem State.moves_judgeSettled (s : State) (l : DropLink) : s.Moves (s.judgeSettled l) := by
  unfold State.judgeSettled
  (repeat' split)
  · exact s.moves_judgeDiscarded l
  · exact (s.aside_report ..).moves
  · exact (s.aside_report ..).moves
  · exact .refl

/-- A port's record changes in fields that no law speaks of. -/
theorem State.moves_port (s : State) (n : PortId) (x : Port) (hx : x.state = (s.pt n).state) : s.Moves (s.setPt n x) :=
  .single (.port n x (fun h => .inl (by rwa [Port.raised, ← hx])) (.inr (fun h => hx.trans h)))

theorem Rule.moves_release (r : Rule) (seq : Nat) (n : PortId) : r.Moves (r.release seq n) := by
  unfold Rule.release
  dsimp only
  split
  · rename_i hup
    have hout (s : State) (x : Port) (hx : ¬ x.raised) (hn : portProj n = none ∨ (s.pt n).state ≠ .held) : s.Moves (s.setPt n x) :=
      .single (.port n x (fun h => absurd h hx) (hn.imp_right (fun h h' => absurd h' h)))
    have hdown (s : State) (x : Port) (p : Proj) (hx : ¬ x.raised) (hn : portProj n = some p) :
        s.Moves ((s.setPt n x).closeCommand p) := .single (.release n x p hx hn)
    have hlink (x : Port) (hx : x.state = (r.st.pt n).state) :
        r.st.Moves ((r.st.setPt n x).writeOutcome n (.closed 0)) :=
      (r.st.moves_port n x hx).trans (State.moves_writeOutcome ..)
    have hkept (x : Port) (hx : x.state = (r.st.pt n).state) : (((r.st.setPt n x).writeOutcome n (.closed 0)).pt n).state =
        (r.st.pt n).state := by
      obtain ⟨-, -, -, -, -, -, -, hp, -⟩ := (r.st.setPt n x).writeOutcome_keeps n (.closed 0)
      rw [State.pt, hp]
      exact (congrArg Port.state (r.st.setPt_pt n x n)).trans (by simp [hx])
    split
    · rename_i q hq
      split
      · rename_i hheld
        split
        · refine .ofState ?_
          simp only [Rule.upd_st, Rule.emit_st]
          refine .trans (hlink _ ?_) (hdown _ _ q ?_ hq)
          · rfl
          · simp
        · refine .ofState ?_
          simp only [Rule.upd_st, Rule.emit_st]
          refine hdown _ _ q ?_ hq
          simp
      · rename_i hheld
        split
        · refine .ofState ?_
          simp only [Rule.upd_st]
          refine .trans (hlink _ ?_) (hout _ _ ?_ (.inr ?_))
          · rfl
          · simp
          · exact (hkept _ (by rfl)).trans_ne hheld
        · refine .ofState ?_
          simp only [Rule.upd_st]
          refine hout _ _ ?_ (.inr hheld)
          simp
    · rename_i hq
      split
      · refine .ofState ?_
        simp only [Rule.upd_st]
        refine .trans (hlink _ ?_) (hout _ _ ?_ (.inl hq)) <;> simp
      · refine .ofState ?_
        simp only [Rule.upd_st]
        refine hout _ _ ?_ (.inl hq)
        simp
  · exact .refl

theorem Rule.moves_releaseAll (r : Rule) (seq : Nat) (l : List PortId) : r.Moves (r.releaseAll seq l) := by
  induction l generalizing r with
  | nil => exact .refl
  | cons n rest ih => exact (r.moves_release seq n).trans (ih _)

theorem Rule.moves_drop (r : Rule) (cause : DropCause) (p : Option Proj) (l : List PortId) : r.Moves (r.drop cause p l) := by
  have h : r.Moves ((r.upd (fun s => s.writeRecord cause p l)).releaseAll r.st.booth.nextSeq l) :=
    .via (Rule.moves_releaseAll ..) (.upd .refl (r.st.moves_writeRecord cause p l))
  unfold Rule.drop
  dsimp only
  split
  · exact .upd (.upd h (State.aside_report ..).moves) (State.moves_judgeSettled ..)
  · exact .upd h (State.moves_judgeSettled ..)

theorem Rule.moves_activation (r : Rule) (cause : DropCause) (p : Option Proj) (l : List PortId) :
    r.Moves (r.activation cause p l) := (r.moves_drop cause p l).trans (State.moves_stopTrials ..)

theorem Rule.moves_douserCause (r : Rule) (p : Proj) : r.Moves (r.douserCause p) := by
  unfold Rule.douserCause
  split
  · exact (r.moves_activation ..).trans (Rule.moves_extinguish ..)
  · exact .refl

/-! ## The house controller -/

theorem Rule.moves_dropChange (r : Rule) (h : HouseId) : r.Moves (r.dropChange h) := by
  unfold Rule.dropChange
  split
  · exact .refl
  · have hd := r.st.moves_modHs h (fun x => { x with change := none }) rfl rfl rfl (fun _ _ => rfl)
    dsimp only
    split
    · refine .trans ?_ (Rule.moves_disarm ..)
      exact hd
    · exact hd

/-- R91: a disarming leaves the changeover record and the state of every house. -/
theorem Rule.disarm_record (r : Rule) (p : Proj) (h : HouseId) :
    ((r.disarm p).st.hs h).change = (r.st.hs h).change ∧ ((r.disarm p).st.hs h).state = (r.st.hs h).state := by
  have hv := r.disarm_showView p h
  exact ⟨congrArg ShowView.change hv, congrArg ShowView.state hv⟩

/-- R97: the record dropped is gone. -/
theorem Rule.dropChange_change (r : Rule) (h : HouseId) : ((r.dropChange h).st.hs h).change = none := by
  unfold Rule.dropChange
  split
  · assumption
  · dsimp only
    split
    · rw [(Rule.disarm_record _ _ h).1]
      simp [State.modHs]
    · simp [State.modHs]

/-- R97: a house comes out of a show with its record gone. -/
theorem State.moves_out (s : State) (h : HouseId) (f : House → House) (hp : (f (s.hs h)).plan = (s.hs h).plan)
    (hg : (f (s.hs h)).gate = (s.hs h).gate) (hl : (f (s.hs h)).levels = (s.hs h).levels)
    (hk : (f (s.hs h)).change = (s.hs h).change) (hc : (s.hs h).change = none) :
    s.Moves (s.modHs h f) := s.moves_modHs h f hp hg hl (fun _ _ => hk.trans hc)

/-- R97: a hold, once the motors are stopped and the record is dropped. -/
theorem State.moves_held (s : State) (h : HouseId) (reason : HoldReason) (lights : Bool) (hc : (s.hs h).change = none) :
    s.Moves (let s1 := s.interrupt h
      let s2 := if lights then s1.programTarget h (s1.hs h).levels.hold 30 .hold else s1
      s2.modHs h (fun x => { x with
        startingSide := none
        ending := none
        dark := false
        state := .hold
        holdReason := some reason })) := by
  have hi : ((s.interrupt h).hs h).change = none := (congrArg ShowView.change (s.showView_interrupt h h)).trans hc
  dsimp only
  split
  · refine .trans ?_ (State.moves_out _ h _ rfl rfl rfl rfl hi)
    exact (s.moves_interrupt h).trans (State.moves_programTarget ..)
  · exact (s.moves_interrupt h).trans (State.moves_out _ h _ rfl rfl rfl rfl hi)

theorem Rule.moves_enterHold (r : Rule) (h : HouseId) (reason : HoldReason) (lights : Bool) :
    r.Moves (r.enterHold h reason lights) := by
  refine .trans ?_ (State.moves_held _ h reason lights (Rule.dropChange_change _ h))
  refine .trans ?_ (Rule.moves_dropChange _ h)
  refine .trans ?_ (Rule.moves_motorStop ..)
  refine .trans ?_ (Rule.moves_motorStop ..)
  exact (r.st.moves_closeBoth h).trans (State.moves_selectNone ..)

theorem Rule.moves_fireHold (r : Rule) (h : HouseId) (reason : HoldReason) : r.Moves (r.fireHold h reason) := by
  unfold Rule.fireHold
  split
  case h_1 | h_2 | h_3 => exact r.moves_enterHold ..
  case h_4 => exact r.st.moves_modHs h (fun x => { x with holdReason := some reason }) rfl rfl rfl (fun hr => hr)
  all_goals exact .refl

theorem Rule.moves_lossHold (r : Rule) (h : HouseId) (reason : LossReason) : r.Moves (r.lossHold h reason) :=
  r.moves_enterHold ..

/-- R4: a motor stop leaves the changeover record and the state of every house. -/
theorem Rule.motorStop_record (r : Rule) (p : Proj) (h : HouseId) :
    ((r.motorStop p).st.hs h).change = (r.st.hs h).change ∧ ((r.motorStop p).st.hs h).state = (r.st.hs h).state := by
  have hv := r.motorStop_showView p h
  exact ⟨congrArg ShowView.change hv, congrArg ShowView.state hv⟩

theorem Rule.moves_abandonStart (r : Rule) (h : HouseId) (p : Proj) (reason : HoldReason)
    (hs : (r.st.hs h).state = .starting) : r.Moves (r.abandonStart h p reason) := by
  have h1 := (State.moves_closeBoth (r.motorStop p).st h).trans (State.moves_selectNone _ h)
  have hv : ((((r.motorStop p).st.closeBoth h).selectNone h).showView h).state = (r.st.showView h).state := by simp
  have hst : ((((r.motorStop p).st.closeBoth h).selectNone h).hs h).state ≠ .showing := hv.trans_ne (by simp [State.showView, hs])
  refine .upd (r.moves_motorStop p) ((h1.trans (State.moves_programTarget ..)).trans (State.moves_modHs _ h
    (fun x => { x with startingSide := none, state := .hold, holdReason := some reason }) rfl rfl rfl (fun hr _ => hr hst)))

theorem State.fireCues_change (s : State) (h : HouseId) (n : Nat) (cond : CueTrigger → Bool) :
    ((s.fireCues h n cond).hs h).change = (s.hs h).change := by rw [s.fireCues_hs]

theorem Rule.moves_endSequence (r : Rule) (h : HouseId) : r.Moves (r.endSequence h) := by
  unfold Rule.endSequence
  split
  · rename_i p e _ _
    have hc : ((((r.dropChange h).st.closeCommand p).fireCues h e.reel isEnding).hs h).change =
        ((r.dropChange h).st.hs h).change :=
      (State.fireCues_change ..).trans (congrArg ShowView.change (State.showView_closeCommand _ p h))
    have h1 := ((State.moves_close (r.dropChange h).st p).trans (State.moves_fireCues _ h e.reel isEnding)).trans
      (State.moves_out _ h (fun x => { x with dark := false, ending := some ⟨.dousing, 0⟩, state := .ending }) rfl rfl rfl rfl
        (hc.trans (r.dropChange_change h)))
    refine .upd (r.moves_dropChange h) ?_
    dsimp only
    split
    · exact h1.trans (State.moves_endDoused _ h)
    · exact h1
  · exact .refl

theorem Rule.moves_endCompletes (r : Rule) (h : HouseId) (p : Proj) (onBreak : Bool) (hs : (r.st.hs h).state = .ending) :
    r.Moves (r.endCompletes h p onBreak) := by
  unfold Rule.endCompletes
  split
  · exact .refl
  · rename_i e _
    have h1 := (r.st.moves_setStatus h e.reel .finished).trans (State.moves_modHs _ h
      (fun x => { x with ending := none, state := .finished }) rfl rfl rfl (fun hr _ => hr (by
        simp [State.setStatus, State.modReel, hs])))
    refine .upd ?_ (State.aside_report ..).moves
    split
    · exact Rule.moves_upd h1
    · exact .via (Rule.moves_disarm ..) (Rule.moves_upd h1)

theorem Rule.moves_countEndPulse (r : Rule) (h : HouseId) (p : Proj) : r.Moves (r.countEndPulse h p) := by
  have hm (x : EndRecord) := r.st.moves_modHs h (fun y => { y with ending := some x }) rfl rfl rfl (fun hr => hr)
  unfold Rule.countEndPulse
  split
  · split
    · exact hm _
    · exact .via (Rule.moves_motorStop ..) (Rule.moves_upd (hm _))
  all_goals exact .refl

theorem Rule.moves_runoutDrop (r : Rule) (h : HouseId) : r.Moves (r.runoutDrop h) := by
  unfold Rule.runoutDrop
  split
  · exact .refl
  · rename_i c _
    have hd := r.st.moves_modHs h (fun x => { x with change := none }) rfl rfl rfl (fun _ _ => rfl)
    dsimp only
    split
    · exact .via (Rule.moves_disarm ..) (.upd (.via (Rule.moves_motorStop ..) (Rule.moves_upd hd)) (State.moves_close _ c.incoming))
    · exact hd

theorem Rule.runoutDrop_change (r : Rule) (h : HouseId) : ((r.runoutDrop h).st.hs h).change = none := by
  unfold Rule.runoutDrop
  split
  · assumption
  · rename_i c _
    dsimp only
    split
    · rw [(Rule.disarm_record _ _ h).1]
      have hv := State.showView_closeCommand ((r.upd (fun s => s.modHs h (fun x => { x with change := none }))).motorStop
        c.incoming).st c.incoming h
      rw [Rule.motorStop_showView] at hv
      refine (congrArg ShowView.change hv).trans ?_
      simp [State.showView, State.modHs]
    · simp [State.modHs]

theorem Rule.moves_runout (r : Rule) (h : HouseId) : r.Moves (r.runout h) := by
  unfold Rule.runout
  split
  · rename_i p e _ _
    extract_lets phase r1
    have h1 : r.Moves r1 := .via (Rule.moves_runoutDrop ..) (.upd .refl ((r.st.moves_close p).trans (State.moves_selectNone _ h)))
    have hc : (r1.st.hs h).change = none := Rule.runoutDrop_change _ h
    have hv : (((r1.st.setStatus h e.reel .interrupted).fireCues h e.reel isEnding).hs h).change = (r1.st.hs h).change :=
      (State.fireCues_change ..).trans (congrArg ShowView.change (State.showView_setStatus _ h e.reel .interrupted h))
    refine .upd h1 (.trans ?_ (State.aside_report ..).moves)
    refine .trans ?_ (State.moves_out _ h (fun x => { x with
      dark := false, state := .hold, holdReason := some .runout, runoutCount := some 0 }) rfl rfl rfl rfl (hv.trans hc))
    exact ((r1.st.moves_setStatus h e.reel .interrupted).trans (State.moves_fireCues _ h e.reel isEnding)).trans
      (State.moves_programTarget ..)
  · exact .refl

theorem Rule.moves_countRunoutPulse (r : Rule) (h : HouseId) (p : Proj) (n : Nat) : r.Moves (r.countRunoutPulse h p n) := by
  have hm (x : Option Nat) := r.st.moves_modHs h (fun y => { y with runoutCount := x }) rfl rfl rfl (fun hr => hr)
  unfold Rule.countRunoutPulse
  split
  · exact hm _
  · exact .via (Rule.moves_motorStop ..) (Rule.moves_upd (hm _))

theorem Rule.moves_tailTest (r : Rule) (h : HouseId) : r.Moves (r.tailTest h) := by
  unfold Rule.tailTest
  (repeat' split)
  · exact r.moves_endSequence h
  · exact .refl
  · exact r.moves_runout h
  · exact .refl
  · exact .refl

theorem State.moves_retiring (s : State) (h : HouseId) (x : Option Retiring) :
    s.Moves (s.modHs h (fun y => { y with retiring := x })) := s.moves_modHs h _ rfl rfl rfl (fun hr => hr)

theorem Rule.moves_retire (r : Rule) (h : HouseId) (p : Proj) : r.Moves (r.retire h p) := by
  have hm (phase : RetirePhase) : r.Moves (r.upd (fun s => s.modHs h (fun x => { x with retiring := some ⟨p, phase, 0⟩ }))) :=
    Rule.moves_upd (r.st.moves_retiring h _)
  unfold Rule.retire
  extract_lets t tail make
  split
  · exact r.moves_disarm p
  · split
    · exact hm .toTail
    · split
      · exact hm .runOut
      · exact .via (Rule.moves_motorStop ..) (hm .stopping)

theorem Rule.moves_countRetirePulse (r : Rule) (h : HouseId) (p : Proj) : r.Moves (r.countRetirePulse h p) := by
  unfold Rule.countRetirePulse
  (repeat' split)
  · exact .refl
  · exact .refl
  · exact r.st.moves_retiring h _
  · exact .refl
  · exact r.st.moves_retiring h _
  · exact .via (Rule.moves_motorStop ..) (Rule.moves_upd <| r.st.moves_retiring h _)
  · exact .refl

theorem Rule.moves_retireSees (r : Rule) (h : HouseId) (p : Proj) (to1 : TransportState) :
    r.Moves (r.retireSees h p to1) := by
  unfold Rule.retireSees
  (repeat' split)
  · exact .refl
  · exact .refl
  · exact r.st.moves_retiring h _
  · exact .via (Rule.moves_disarm ..) (Rule.moves_upd <| r.st.moves_retiring h _)
  · exact .via (Rule.moves_disarm ..) (Rule.moves_upd <| r.st.moves_retiring h _)
  · exact .refl
  · exact .refl

theorem Rule.moves_crossingTest (r : Rule) (h : HouseId) : r.Moves (r.crossingTest h) := by
  unfold Rule.crossingTest Rule.beginCrossing
  split
  · exact .refl
  · split
    · simp only [Rule.Moves, Rule.upd_st]
      refine .trans ?_ (State.moves_crossingAt _ h 0)
      split
      · exact (r.st.moves_modChange h _).trans (State.moves_fireCues ..)
      · exact r.st.moves_modChange h _
    · exact .refl

theorem Rule.moves_enterDue (r : Rule) (h : HouseId) (source : ChangeSource) (loss : Option LossReason) :
    r.Moves (r.enterDue h source loss) :=
  .via (Rule.moves_crossingTest ..) (Rule.moves_upd ((r.st.moves_modChange h _).trans (State.moves_modMarks ..)))

theorem Rule.moves_startIncoming (r : Rule) (c : Changeover) : r.Moves (r.startIncoming c) := r.moves_motorStart _

theorem Rule.moves_delayFalls (r : Rule) (h : HouseId) (c : Changeover) : r.Moves (r.delayFalls h c) := by
  unfold Rule.delayFalls
  split
  · exact .via (Rule.moves_startIncoming ..) (Rule.moves_upd <| r.st.moves_modChange h _)
  · exact r.st.moves_modChange h _

theorem Rule.moves_align (r : Rule) (h : HouseId) (c : Changeover) : r.Moves (r.align h c) := by
  unfold Rule.align
  extract_lets s speed lr tr tOut tIn d r1 r2
  have h1 : r.Moves r1 := by
    unfold r1
    split
    · exact (r.st.aside_report ..).moves
    · exact .refl
  have h2 : r.Moves r2 := h1.trans (State.moves_modChange _ h _)
  split
  · exact h2.trans (Rule.moves_delayFalls ..)
  · exact h2

theorem Rule.moves_readinessTest (r : Rule) (h : HouseId) : r.Moves (r.readinessTest h) := by
  unfold Rule.readinessTest
  (repeat' split)
  · exact .refl
  · exact r.moves_align ..
  · exact (r.moves_startIncoming _).trans (Rule.moves_enterDue ..)
  · exact (r.moves_startIncoming _).trans (Rule.moves_enterDue ..)
  · exact .via (Rule.moves_startIncoming ..) (Rule.moves_upd <| r.st.moves_modChange h _)
  · exact .refl
  · exact (r.moves_startIncoming _).trans (Rule.moves_enterDue ..)
  · exact (r.moves_startIncoming _).trans (Rule.moves_enterDue ..)
  all_goals exact .refl

/-! ## The live cue queue -/

theorem Rule.moves_takeMotor (r : Rule) (h : HouseId) (p : Proj) (live : ReelEntry) (e : CueEntry)
    (hs : (r.st.hs h).state = .showing) : r.Moves (r.takeMotor h p live e) := by
  unfold Rule.takeMotor
  extract_lets src c r1
  have h1 : r.Moves r1 := Rule.moves_upd (r.st.moves_createChange h c hs)
  split
  · exact (r.st.aside_report ..).moves
  · split
    · exact (r.st.aside_report ..).moves
    · split
      · exact h1.trans (Rule.moves_align ..)
      · exact h1

theorem Rule.moves_takeChange (r : Rule) (h : HouseId) (p : Proj) (live : ReelEntry) (e : CueEntry)
    (hs : (r.st.hs h).state = .showing) : r.Moves (r.takeChange h p live e) := by
  have hlate : r.Moves (r.upd (fun s => s.reportHouse h (.late e))) := (r.st.aside_report ..).moves
  unfold Rule.takeChange
  dsimp only
  (repeat' split)
  · exact (r.st.aside_report ..).moves
  · exact hlate
  · exact .via (Rule.moves_enterDue ..) (.via (Rule.moves_startIncoming ..) (Rule.moves_upd (r.st.moves_createChange h _ hs)))
  · exact (r.st.moves_createChange h _ hs).trans (State.moves_holdChange ..)
  · exact hlate
  · exact r.st.moves_holdChange ..
  · exact hlate
  · exact (r.moves_startIncoming _).trans (Rule.moves_enterDue ..)
  · exact r.st.moves_holdChange ..
  · exact r.moves_enterDue ..
  · exact r.moves_enterDue ..
  · exact hlate
  · exact hlate

theorem Rule.moves_takeEntry (r : Rule) (h : HouseId) (p : Proj) (live : ReelEntry) (e : CueEntry)
    (hs : (r.st.hs h).state = .showing) : r.Moves (r.takeEntry h p live e) := by
  unfold Rule.takeEntry
  split
  · exact r.moves_takeMotor h p live e hs
  · exact r.moves_takeChange h p live e hs
  · unfold Rule.takeLights
    split
    · exact (r.st.aside_report ..).moves
    · rename_i cue cues hf
      have hreel := r.st.moves_modReel h live.reel (fun x => { x with cues := cues }) (fun _ => rfl)
      exact hreel.trans (State.moves_giveCues _ h live.reel [cue])
  · unfold Rule.takeEnd
    split
    · exact r.moves_endSequence h
    · exact (r.st.aside_report ..).moves
  · exact .refl

theorem Rule.moves_takeHeads (fuel : Nat) (h : HouseId) (r : Rule) : r.Moves (r.takeHeads fuel h) := by
  induction fuel generalizing r with
  | zero => exact .refl
  | succ n ih =>
    unfold Rule.takeHeads
    split
    · rename_i hs
      (repeat' split)
      · exact .refl
      · exact r.st.moves_reportBadHead ..
      · exact .via (ih _) (.via (Rule.moves_takeEntry _ h _ _ _ hs) (Rule.moves_upd (r.st.aside_reader _ _).moves))
      · exact .refl
    · exact .refl

theorem Rule.moves_takeCues (r : Rule) (h : HouseId) : r.Moves (r.takeCues h) := by
  unfold Rule.takeCues
  split
  · exact .refl
  · exact Rule.moves_takeHeads ..

theorem Rule.moves_countedFallback (r : Rule) (h : HouseId) : r.Moves (r.countedFallback h) := by
  have hoffer (r : Rule) (p : Proj) (code : CueCode) (f : ReelMarks → ReelMarks) :
      r.Moves (((r.offerCounted p code).upd (fun s => s.modMarks h f)).takeCues h) :=
    .via (Rule.moves_takeCues ..) (.upd (r.offerCounted_aside p code).moves (State.moves_modMarks _ h f))
  unfold Rule.countedFallback
  dsimp only
  (repeat' split)
  · exact (hoffer r ..).trans (hoffer ..)
  · exact hoffer ..
  · exact hoffer r ..
  · exact .refl
  · exact .refl

theorem State.moves_goesLive (s : State) (h : HouseId) (sd : Side) : s.Moves (s.modHs h (fun x => { x with
    liveSide := some sd, startingSide := none, state := .showing, marks := ReelMarks.clear })) :=
  s.moves_modHs h _ rfl rfl rfl (fun _ hn => absurd rfl hn)

theorem Rule.moves_pictureTest (r : Rule) (h : HouseId) : r.Moves (r.pictureTest h) := by
  unfold Rule.pictureTest
  split
  · rename_i sd _ _
    dsimp only
    split
    · exact .refl
    · rename_i e _
      have hlive : r.st.Moves (((((r.st.openCommand (projAt h sd)).selectSide h sd).fireCues h e.reel isStart).setStatus h
          e.reel .showing).modHs h (fun x => { x with
            state := .showing, liveSide := some sd, startingSide := none, marks := ReelMarks.clear })) :=
        .trans ((((r.st.moves_open _).trans (State.moves_selectSide _ h sd)).trans (State.moves_fireCues ..)).trans
          (State.moves_setStatus ..)) (State.moves_goesLive ..)
      split
      · exact .via (Rule.moves_tailTest ..) (.via (Rule.moves_countedFallback ..) (.via (Rule.moves_takeCues ..)
          (.upd (Rule.moves_upd hlive) (State.moves_fireFrameCues _ h))))
      · exact .refl
  · exact .refl

theorem Rule.moves_completionTest (r : Rule) (h : HouseId) : r.Moves (r.completionTest h) := by
  unfold Rule.completionTest
  split
  · exact .refl
  · rename_i c _
    split
    · exact .refl
    · dsimp only
      have hdone : r.st.Moves (((r.st.setHeldStatus c.incoming .showing).setHeldStatus (otherProj c.incoming) .finished).modHs h
          (fun y => { y with
            change := none, liveSide := some (sideOf c.incoming), marks := ReelMarks.clear, dark := false })) :=
        .trans ((r.st.moves_setHeldStatus ..).trans (State.moves_setHeldStatus ..))
          (State.moves_modHs _ h _ rfl rfl rfl (fun _ _ => rfl))
      split
      · exact .via (Rule.moves_takeCues ..) (.upd (.upd (.via (Rule.moves_retire ..) (Rule.moves_upd hdone))
          (State.aside_report ..).moves) (State.moves_fireFrameCues _ h))
      · exact .refl

theorem Rule.moves_look (r : Rule) (h : HouseId) : r.Moves (r.look h) :=
  (((r.moves_pictureTest h).trans (Rule.moves_readinessTest ..)).trans (Rule.moves_crossingTest ..)).trans
    (Rule.moves_completionTest ..)

/-! ## Failures and losses -/

theorem State.moves_noChange (s : State) (h : HouseId) : s.Moves (s.modHs h (fun x => { x with change := none })) :=
  s.moves_modHs h _ rfl rfl rfl (fun _ _ => rfl)

theorem Rule.moves_incomingFails (r : Rule) (h : HouseId) (c : Changeover) : r.Moves (r.incomingFails h c) := by
  unfold Rule.incomingFails
  extract_lets q r1
  have h1 : r.Moves r1 := .via (Rule.moves_disarm ..)
    (.upd (r.moves_motorStop q) ((State.moves_close _ q).trans (State.moves_noChange _ h)))
  (repeat' split)
  · exact h1.trans (Rule.moves_lossHold ..)
  · exact h1
  · exact h1

theorem Rule.moves_abandonCrossing (r : Rule) (h : HouseId) (c : Changeover) : r.Moves (r.abandonCrossing h c) := by
  unfold Rule.abandonCrossing
  extract_lets q out r1 r2
  have h2 : r.Moves r2 := .via (Rule.moves_disarm ..)
    (.upd (.via (Rule.moves_motorStop ..) (Rule.moves_upd (r.st.moves_close q))) (State.moves_noChange _ h))
  (repeat' split)
  · exact h2.trans (Rule.moves_runout ..)
  · exact h2.upd ((State.moves_open _ _).trans (State.moves_selectSide ..))
  · exact h2.trans (Rule.moves_lossHold ..)
  · exact h2.trans (Rule.moves_lossHold ..)

theorem Rule.moves_pictureLoss (r : Rule) (h : HouseId) (p : Proj) (reason : LossReason) (restrike : Bool) :
    r.Moves (r.pictureLoss h p reason restrike) := by
  unfold Rule.pictureLoss
  extract_lets r1
  have h1 : r.Moves r1 := by
    have hd := (r.st.moves_modHs h (fun x => { x with dark := false }) rfl rfl rfl (fun hr => hr)).trans
      (State.moves_close _ p)
    refine Rule.moves_upd ?_
    dsimp only
    (repeat' split)
    · exact (hd.trans (State.moves_selectNone _ h)).trans (State.moves_programTarget ..)
    · exact hd.trans (State.moves_programTarget ..)
    · exact hd.trans (State.moves_selectNone _ h)
    · exact hd
  have hlost : r.Moves ((r1.upd (fun s => s.modHs h (fun x => { x with change := none }))).lossHold h reason) :=
    .via (Rule.moves_lossHold ..) (h1.upd (State.moves_noChange _ h))
  split
  · rename_i c _
    cases c.phase with
    | waitReady => exact hlost
    | delay =>
      dsimp only
      split
      · exact (h1.trans (Rule.moves_startIncoming ..)).trans (Rule.moves_enterDue ..)
      · exact hlost
    | runup => exact h1.trans (Rule.moves_enterDue ..)
    | locked => exact h1.trans (Rule.moves_enterDue ..)
    | due => exact h1.upd ((State.moves_modChange _ h _).trans (State.moves_modMarks ..))
    | crossing => exact h1
  · split
    · exact h1.upd (State.moves_modHs _ h _ rfl rfl rfl (fun hr => hr))
    · exact h1.trans (Rule.moves_lossHold ..)

theorem Rule.moves_darkLampOff (r : Rule) (p : Proj) : r.Moves (r.darkLampOff p) := by
  unfold Rule.darkLampOff
  dsimp only
  split
  · exact r.moves_pictureLoss ..
  · exact .refl

theorem Rule.moves_changeSees (r : Rule) (h : HouseId) (p : Proj) : r.Moves (r.changeSees h p) := by
  unfold Rule.changeSees
  (repeat' split)
  · exact .refl
  · exact .refl
  · exact r.moves_incomingFails ..
  · exact r.moves_incomingFails ..
  · exact r.moves_incomingFails ..
  · exact r.moves_abandonCrossing ..
  · exact .refl
  · exact .refl

theorem Rule.moves_failure (r : Rule) (p : Proj) (f : Failure) : r.Moves (r.failure p f) := by
  unfold Rule.failure
  dsimp only
  split
  · rename_i hs
    split
    · exact r.moves_abandonStart _ _ _ hs
    · exact .refl
  · (repeat' split)
    · exact r.moves_pictureLoss ..
    · exact .refl
    · exact r.moves_changeSees ..
  · rename_i hs
    split
    · exact r.moves_endCompletes _ _ _ hs
    · exact .refl
  all_goals exact .refl

/-! ## The agenda -/

theorem Rule.moves_endStops (r : Rule) (p : Proj) : r.Moves (r.endStops p) := by
  unfold Rule.endStops
  dsimp only
  split
  · rename_i hs
    exact r.moves_endCompletes _ _ _ hs.1
  · exact .refl

theorem Rule.moves_transportSeen (r : Rule) (p : Proj) (to1 : TransportState) : r.Moves (r.transportSeen p to1) := by
  cases to1 with
  | starting => exact .refl
  | running => exact .via (Rule.moves_look ..) (Rule.moves_upd (r.st.moves_lockChange p))
  | stopping => exact ((r.moves_retireSees ..).trans (Rule.moves_douserCause ..)).trans (Rule.moves_look ..)
  | stopped =>
    exact (((r.moves_endStops p).trans (Rule.moves_retireSees ..)).trans (Rule.moves_douserCause ..)).trans (Rule.moves_look ..)
  | broken =>
    exact (((r.moves_failure p _).trans (Rule.moves_retireSees ..)).trans (Rule.moves_douserCause ..)).trans (Rule.moves_look ..)

theorem Rule.moves_douserSeen (r : Rule) (p : Proj) (to1 : DouserState) : r.Moves (r.douserSeen p to1) := by
  cases to1 with
  | closed => exact .via (Rule.moves_look ..) (Rule.moves_upd (r.st.moves_endDouserSees p))
  | opened => exact r.moves_look _
  | stuck =>
    exact .via (Rule.moves_look ..) (.via (Rule.moves_douserCause ..) (.upd (r.moves_failure p _) (State.moves_endDouserSees _ p)))
  | opening => exact .refl
  | closing => exact .refl

theorem Rule.moves_sees (r : Rule) (x : Signal) : r.Moves (r.sees x) := by
  cases x with
  | transport p to1 => exact r.moves_transportSeen p to1
  | runupFailed p => exact (r.moves_failure ..).trans (Rule.moves_look ..)
  | lampLeft p restrike => exact (r.moves_failure ..).trans (Rule.moves_look ..)
  | lampOff p => exact r.moves_darkLampOff p
  | lampBurning p => exact .via (Rule.moves_look ..) (Rule.moves_upd (r.st.moves_lampReturns p))
  | lampStruck p => exact r.moves_douserCause p
  | portLeft p => exact (r.moves_failure ..).trans (Rule.moves_look ..)
  | portHeld p => exact r.moves_look _
  | douser p to1 => exact r.moves_douserSeen p to1
  | cues p =>
    unfold Rule.sees Rule.cuesJoined
    dsimp only
    split
    · exact r.moves_takeCues _
    · exact .refl
  | readiness h => exact r.moves_look h

theorem Rule.moves_settle (n : Nat) (r : Rule) : r.Moves (r.settle n) := by
  induction n generalizing r with
  | zero => exact .refl
  | succ n ih =>
    unfold Rule.settle
    split
    · exact .refl
    · rename_i x rest _
      exact (Rule.moves_sees { r with agenda := rest } x).trans (ih _)

theorem Rule.moves_each {α : Type} {f : Rule → α → Rule} (hf : ∀ (r : Rule) (a : α), r.Moves (f r a)) (l : List α) (r : Rule) :
    r.Moves (r.each f l) := by
  induction l generalizing r with
  | nil => exact .refl
  | cons a rest ih => exact (hf r a).trans (ih _)

theorem Rule.moves_consequences (r : Rule) (cause : DropCause) (p : Option Proj) : r.Moves (r.consequences cause p) :=
  (((Rule.moves_each (fun r g => r.moves_fireHold g cause.hold) _ r).trans
    (Rule.moves_each (fun r q => r.moves_extinguish q .fire) ..)).trans
    (Rule.moves_each (fun r q => r.moves_motorStop q) ..)).trans
    (Rule.moves_each (f := fun r h => r.upd (fun s => s.activateSafety h)) (fun r h => r.st.moves_activateSafety h) ..)

end Sys2Proof.Machine
end

section
/-! PROOFS. Every command is a chain of acts: touches, what the console link does with its own records, the activation of a
fire cause up to its consequences, and power-on. -/

namespace Sys2Proof.Machine

/-! ## Acts -/

/-- R160 to R165: what the receiver and the transmitter do beside the decision of a record. -/
inductive Link.Act (l : Link) : Link → Prop where
  | receive (x : ReceiveState) : Link.Act l { l with receive := x }
  | lineError (f : Report → Report) : Link.Act l { l with queue := l.queue.map f }
  | join (d : Record) : ¬ (l.buffer = [] ∧ l.slot = none) → l.buffer.length < bufferCapacity →
      Link.Act l { l with buffer := l.buffer ++ [d] }
  | choose : Link.Act l l.choose
  | sendHead : l.queue ≠ [] → Link.Act l l.sendHead

/-- R162, R165: the link as a record is decided: the slot is empty, the buffer is what waits behind the record, and an IDLE
transmitter is taken for the reply. -/
def Link.deciding (l : Link) (buffer : List Record) : Link :=
  { l with slot := none, buffer := buffer, transmitter := if l.transmitter = .idle then .reply else l.transmitter }

/-- One act of a command. -/
inductive State.Act (s : State) : State → Prop where
  | touch {t : State} : s.Touch t → Act s t
  | relink {x : Link} : s.link.Act x → Act s (s.setLink x)
  /-- R162: a record is decided, and its reply placed. -/
  | answer (buffer : List Record) (x : Reply) {u : State} : buffer.length ≤ s.link.buffer.length →
      (s.setLink (s.link.deciding buffer)).Moves u → Act s (u.setLink { u.link with slot := some x })
  /-- R165: a reply has been sent with no record waiting, and the transmitter chooses. -/
  | sent {u : State} : s.link.buffer = [] → (s.setLink { s.link with slot := none }).Moves u → Act s (u.setLink u.link.choose)
  /-- R148: a lasting cause is active, and the ports it covers are released. -/
  | fire (r : Rule) (cause : DropCause) (p : Option Proj) : r.st = s →
      Act s ((r.upd (fun s => s.setBooth (s.booth.setActive cause p true))).activation cause p (coverage cause p [])).st
  /-- R159: every block takes its power-on values. -/
  | powerOn (i : FieldInputs) : Act s (s.powerOn i)

/-- A chain of acts. -/
abbrev State.Acts (s t : State) : Prop := Relation.ReflTransGen State.Act s t

/-- A rule goes from one state of it to another by acts. -/
def Rule.Acts (r r' : Rule) : Prop := r.st.Acts r'.st

theorem State.Moves.acts {s t : State} (h : s.Moves t) : s.Acts t := by
  induction h with
  | refl => exact .refl
  | tail _ hstep ih => exact ih.tail (.touch hstep)

theorem Rule.Moves.acts {r t : Rule} (h : r.Moves t) : r.Acts t := State.Moves.acts h

theorem Rule.Acts.refl {r : Rule} : r.Acts r := Relation.ReflTransGen.refl

theorem Rule.Acts.trans {r t u : Rule} (h1 : r.Acts t) (h2 : t.Acts u) : r.Acts u := Relation.ReflTransGen.trans h1 h2

theorem Rule.Acts.via {r t u : Rule} (h2 : t.Acts u) (h1 : r.Acts t) : r.Acts u := h1.trans h2

theorem Rule.Acts.upd {r t : Rule} {f : State → State} (h : r.Acts t) (hf : t.st.Acts (f t.st)) : r.Acts (t.upd f) :=
  Relation.ReflTransGen.trans h hf

theorem State.acts_relink (s : State) {x : Link} (hx : s.link.Act x) : s.Acts (s.setLink x) := .single (.relink hx)

/-- What every act keeps is kept by a chain of them. -/
theorem State.Acts.kept {I : State → Prop} (hI : ∀ s t, s.Act t → I s → I t) {s t : State} (h : s.Acts t) (hs : I s) : I t := by
  induction h with
  | refl => exact hs
  | tail _ hact ih => exact hI _ _ hact ih

/-! ## Ports and fire causes -/

theorem Rule.moves_becomesHeld (r : Rule) (n : PortId)
    (hn : (r.st.pt n).raised ∨ r.st.booth.covers n = false) : r.Moves (r.becomesHeld n) := by
  have h1 : r.Moves (r.upd (fun s => (s.setPt n { s.pt n with state := .held, windowEnd := none }).reportPort n .portHeld)) :=
    Rule.moves_upd (.tail (.single (.port n _ (fun _ => hn) (.inr (fun _ => rfl)))) (.aside (State.aside_report ..)))
  unfold Rule.becomesHeld
  dsimp only
  split
  · exact h1.emit _
  · exact h1

/-- A port's switch reading changes. -/
theorem State.moves_portSwitch (s : State) (n : PortId) (x : Port) (hx : x.state = (s.pt n).state) : s.Moves (s.setPt n x) :=
  s.moves_port n x hx

theorem Rule.moves_upCloses (r : Rule) (n : PortId) : r.Moves (r.upCloses n) := by
  have h1 : r.Moves (r.upd (fun s => s.setPt n { s.pt n with upSwitch := true })) := Rule.moves_upd (r.st.moves_port n _ rfl)
  unfold Rule.upCloses
  dsimp only
  split
  · rename_i ha
    exact .via (Rule.moves_becomesHeld _ n (.inl (.inr (by simpa using ha)))) h1
  · exact h1

theorem Rule.moves_upOpens (r : Rule) (n : PortId) : r.Moves (r.upOpens n) := by
  have h1 : r.Moves (r.upd (fun s => s.setPt n { s.pt n with upSwitch := false })) := Rule.moves_upd (r.st.moves_port n _ rfl)
  unfold Rule.upOpens
  dsimp only
  split
  · exact .via (Rule.moves_drop ..) h1
  · exact h1

/-- A port that is not HELD comes to stand lowered. -/
theorem State.moves_portLowered (s : State) (n : PortId) (x : Port) (hx : ¬ x.raised) (hn : (s.pt n).state ≠ .held) :
    s.Moves (s.setPt n x) := .single (.port n x (fun h => absurd h hx) (.inr (fun h => absurd h hn)))

theorem State.writeOutcome_port (s : State) (n : PortId) (o : DropOutcome) : (s.writeOutcome n o).pt n = s.pt n := by
  obtain ⟨-, -, -, -, -, -, -, hp, -⟩ := s.writeOutcome_keeps n o
  exact congrArg (fun b => b.cell n) hp

/-- R143: an outcome is written, and the port that fell is confirmed. -/
theorem State.moves_outcome (s : State) (n : PortId) (o : DropOutcome) (x : Port) (hx : ¬ x.raised)
    (hn : (s.pt n).state ≠ .held) : s.Moves ((s.writeOutcome n o).setPt n x) :=
  (s.moves_writeOutcome n o).trans (State.moves_portLowered _ n x hx (by rwa [s.writeOutcome_port n o]))

theorem State.moves_confirmDrop (s : State) (n : PortId) (hn : (s.pt n).state ≠ .held) : s.Moves (s.confirmDrop n) := by
  have h1 := s.moves_outcome n (.closed ((s.pt n).fallTime s.now)) (s.pt n).landed (by simp [Port.landed]) hn
  unfold State.confirmDrop
  dsimp only
  split
  · exact h1
  · exact h1.trans (State.moves_judgeSettled ..)

theorem State.moves_confirmLate (s : State) (n : PortId) (hn : (s.pt n).state ≠ .held) : s.Moves (s.confirmLate n) := by
  have h1 := s.moves_outcome n (.late ((s.pt n).fallTime s.now)) (s.pt n).landed (by simp [Port.landed]) hn
  unfold State.confirmLate
  dsimp only
  split
  · exact h1
  · split
    · exact (h1.trans (State.moves_judgeDiscarded ..)).trans (State.aside_report ..).moves
    · exact h1.trans (State.aside_report ..).moves

theorem State.moves_downCloses (s : State) (n : PortId) : s.Moves (s.downCloses n) := by
  have h1 := s.moves_port n { s.pt n with downSwitch := true } rfl
  unfold State.downCloses
  dsimp only
  split
  · rename_i hd
    exact h1.trans (State.moves_confirmDrop _ n (by simp [hd]))
  · rename_i hj
    exact h1.trans (State.moves_confirmLate _ n (by simp [hj]))
  all_goals exact h1

theorem State.moves_windowEnds (s : State) (n : PortId) : s.Moves (s.windowEnds n) := by
  unfold State.windowEnds
  dsimp only
  split
  · rename_i ha
    exact (s.moves_portLowered n _ (by simp) (by simp [ha.1])).trans (State.aside_report ..).moves
  · exact .refl

theorem State.moves_jams (s : State) (n : PortId) : s.Moves (s.jams n) := by
  unfold State.jams
  dsimp only
  split
  · rename_i hd
    have h1 := s.moves_outcome n .jammed { s.pt n with state := .jammed } (by simp) (by simp [hd.1])
    split
    · exact h1.trans (State.aside_report ..).moves
    · exact (h1.trans (State.aside_report ..).moves).trans (State.moves_judgeSettled ..)
  · exact .refl

theorem Rule.acts_fire (r : Rule) (cause : DropCause) (p : Option Proj) : r.Acts (r.fire cause p) := by
  unfold Rule.fire
  extract_lets r1 r2
  have h1 : r.Acts r1 := .single (.fire r cause p rfl)
  have h2 : r.Acts r2 := h1.upd (State.aside_draws ..).moves.acts
  split
  · split
    · exact (h2.trans (Rule.moves_settle ..).acts).trans (Rule.moves_consequences ..).acts
    · exact h2.trans (Rule.moves_consequences ..).acts
  · exact h1.trans (Rule.moves_consequences ..).acts

theorem mem_allProjs (p : Proj) : p ∈ allProjs := by
  revert p
  decide

theorem Booth.covers_iff (b : Booth) (n : PortId) : b.covers n = true ↔ ∃ c ∈ b.active, n ∈ coverage c.1 c.2 [] := by
  simp [Booth.covers, Booth.covering]

theorem Booth.mem_active (b : Booth) (c : DropCause × Option Proj) : c ∈ b.active ↔
    (b.fusible ∧ c = (.fusible, none)) ∨ (b.emergency ∧ c = (.emergency, none)) ∨ (b.critical ∧ c = (.critical, none)) ∨
      ∃ p, b.filmFire.cell p = true ∧ c = (.filmFire, some p) := by
  unfold Booth.active
  simp only [List.mem_append, List.mem_map, List.mem_filter, List.mem_ite_nil_right, List.mem_singleton, mem_allProjs, true_and, or_assoc,
    eq_comm (b := c)]

theorem Booth.mem_active_of_inactive (b : Booth) (cause : DropCause) (p : Option Proj) {c : DropCause × Option Proj}
    (h : c ∈ (b.setActive cause p false).active) : c ∈ b.active := by
  rw [Booth.mem_active] at h ⊢
  cases cause <;> cases p <;> simp only [Booth.setActive] at h <;> grind [Bank.cell_put]

/-- R152: the end of a cause leaves no port covered that was not. -/
theorem Booth.covers_of_inactive (b : Booth) (cause : DropCause) (p : Option Proj) (n : PortId)
    (h : (b.setActive cause p false).covers n = true) : b.covers n = true := by
  rw [Booth.covers_iff] at h ⊢
  obtain ⟨c, hc, hn⟩ := h
  exact ⟨c, b.mem_active_of_inactive cause p hc, hn⟩

theorem Rule.moves_endCause (r : Rule) (cause : DropCause) (p : Option Proj) : r.Moves (r.endCause cause p) :=
  Rule.moves_upd (.tail (.single (.booth _ (fun n => r.st.booth.covers_of_inactive cause p n)))
    (.aside (State.aside_report ..)))

/-- R155: the temperature, the grade and the buttons are no cause. -/
theorem Rule.moves_setBooth (r : Rule) (x : State → Booth) (hx : (x r.st).active = r.st.booth.active) :
    r.Moves (r.upd (fun s => s.setBooth (x s))) := Rule.moves_upd (r.st.moves_booth _ hx)

theorem Rule.acts_fusibleOpens (r : Rule) : r.Acts r.fusibleOpens := by
  have h1 := r.moves_setBooth (fun s => { s.booth with fusibleOpen := true }) rfl
  unfold Rule.fusibleOpens
  dsimp only
  split
  · exact h1.acts
  · exact .via (Rule.acts_fire ..) h1.acts

theorem Rule.moves_fusibleCloses (r : Rule) : r.Moves r.fusibleCloses := by
  have h1 := r.moves_setBooth (fun s => { s.booth with fusibleOpen := false }) rfl
  unfold Rule.fusibleCloses
  dsimp only
  split
  · exact .via (Rule.moves_endCause ..) h1
  · exact h1

theorem Rule.acts_gateHeats (r : Rule) (p : Proj) : r.Acts (r.gateHeats p) := by
  unfold Rule.gateHeats
  split
  · exact .refl
  · exact r.acts_fire ..

theorem Rule.moves_gateCools (r : Rule) (p : Proj) : r.Moves (r.gateCools p) := by
  unfold Rule.gateCools
  split
  · exact r.moves_endCause ..
  · exact .refl

theorem Rule.acts_emergencyPressed (r : Rule) : r.Acts r.emergencyPressed := by
  have h1 := r.moves_setBooth (fun s => { s.booth with pressed := true }) rfl
  unfold Rule.emergencyPressed
  dsimp only
  split
  · exact h1.acts
  · exact .via (Rule.acts_fire ..) h1.acts

theorem Rule.acts_gradeReading (r : Rule) (t : Nat) : r.Acts (r.gradeReading t) := by
  unfold Rule.gradeReading
  extract_lets old new r1 r2
  have h1 : r.Moves r1 := r.moves_setBooth (fun s => { s.booth with temperature := t, grade := new }) rfl
  have h2 : r.Moves r2 := h1.upd (State.aside_report ..).moves
  (repeat' split)
  · exact h1.acts
  · exact h2.acts
  · exact h2.acts.trans (Rule.acts_fire ..)
  · exact (h2.trans (Rule.moves_endCause ..)).acts
  · exact h2.acts
  · exact h2.acts

theorem Rule.acts_readTemperature (r : Rule) (t : Nat) : r.Acts (r.readTemperature t) := by
  unfold Rule.readTemperature
  split
  · exact .via (Rule.acts_gradeReading ..)
      (r.moves_setBooth (fun s => { s.booth with nextReading := s.booth.nextReading + ms 1000 }) rfl).acts
  · exact .refl

/-! ## Dousers -/

/-- R41: a measured travel leaves learned times of 40 ms or more. -/
theorem Douser.measure_timesKept (d : Douser) (now : Instant) : d.TimesKept (d.measure now) := by
  unfold Douser.measure
  (repeat' split) <;> simp_all [Douser.TimesKept, learnTravel_least]

theorem Douser.measure_trial (d : Douser) (now : Instant) : (d.measure now).trial = d.trial := by
  unfold Douser.measure
  (repeat' split) <;> rfl

theorem State.moves_trialTravelEnds (s : State) (p : Proj) : s.Moves (s.trialTravelEnds p) := by
  unfold State.trialTravelEnds
  split
  · exact .refl
  · split
    · exact s.moves_douser p _ rfl (fun _ => rfl) rfl rfl
    · exact moves_via (State.moves_endTrial ..) (s.moves_douser p _ rfl (fun _ => rfl) rfl rfl)

/-- R40, R44: a douser becomes OPEN at the end of an opening. -/
theorem Rule.moves_travelEnds_opened (r : Rule) (p : Proj) (ho : (r.st.ds p).state = .opening) :
    r.Moves (r.travelEnds p .opened) :=
  .emit (.upd (.ofTouch (.opened p { (r.st.ds p).measure r.st.now with state := .opened, travel := none } rfl
    (fun h => by rwa [← Douser.measure_trial] at h) (Douser.measure_timesKept _ _) (.inl ho)))
    (State.moves_trialTravelEnds _ p)) _

/-- R40: a douser becomes CLOSED at the end of a closing. -/
theorem Rule.moves_travelEnds_closed (r : Rule) (p : Proj) : r.Moves (r.travelEnds p .closed) := by
  have h1 := r.st.moves_douserShut p { (r.st.ds p).measure r.st.now with state := .closed, travel := none }
    (by simp [Douser.agape]) (Douser.measure_timesKept _ _)
  unfold Rule.travelEnds
  dsimp only
  rw [if_neg (by decide)]
  exact .emit (.upd (Rule.moves_upd h1) (State.moves_trialTravelEnds _ p)) _

theorem Rule.moves_uncommanded (r : Rule) (p : Proj) (sw : DouserSwitch) : r.Moves (r.uncommanded p sw) := by
  refine .emit (Rule.moves_upd (.trans ?_ (State.aside_report ..).moves)) _
  exact r.st.moves_douserShut p { r.st.ds p with state := .stuck, drive := .closes } (by simp [Douser.agape]) ⟨id, id⟩

theorem Rule.moves_unstick (r : Rule) (p : Proj) (sw : DouserSwitch) : r.Moves (r.unstick p sw) := by
  cases sw with
  | closedEnd =>
    exact .emit (Rule.moves_upd (r.st.moves_douserShut p { r.st.ds p with state := .closed, drive := .closes }
      (by simp [Douser.agape]) ⟨id, id⟩)) _
  | openEnd =>
    unfold Rule.unstick
    dsimp only
    split
    · rename_i hg
      exact .emit (.ofTouch (.opened p { r.st.ds p with state := .opened } rfl id ⟨id, id⟩ (.inr hg.2))) _
    · have hc : ((r.st.setDs p { r.st.ds p with state := .opened }).closeCommand p) = r.st.setDs p { r.st.ds p with
          state := .closing
          drive := .closes
          travel := some ⟨.closes, r.st.now, true, travelLimit (r.st.ds p).closeTime⟩ } := by
        simp [State.closeCommand]
      refine .ofState ?_
      simp only [Rule.upd_st]
      rw [hc]
      exact r.st.moves_douserShut p _ (by simp [Douser.agape]) ⟨id, id⟩

theorem Rule.moves_switchCloses (r : Rule) (p : Proj) (sw : DouserSwitch) : r.Moves (r.switchCloses p sw) := by
  have h1 : r.Moves (r.upd (fun s => s.setDs p { s.ds p with switches := some ⟨switchReading sw, s.now⟩ })) :=
    Rule.moves_upd (r.st.moves_douser p _ rfl id rfl rfl)
  unfold Rule.switchCloses
  dsimp only
  split
  · rename_i ho
    exact .via (Rule.moves_travelEnds_opened _ p (by simpa using ho)) h1
  · exact .via (Rule.moves_travelEnds_closed ..) h1
  · exact .via (Rule.moves_uncommanded ..) h1
  · exact .via (Rule.moves_uncommanded ..) h1
  · exact .via (Rule.moves_unstick ..) h1
  all_goals exact h1

theorem State.moves_trialSticks (s : State) (p : Proj) : s.Moves (s.trialSticks p) := by
  unfold State.trialSticks
  (repeat' split)
  · exact .refl
  · exact s.moves_endTrial ..
  · exact .refl

theorem Rule.moves_travelExpires (r : Rule) (p : Proj) : r.Moves (r.travelExpires p) := by
  unfold Rule.travelExpires
  dsimp only
  (repeat' split)
  · exact .refl
  · refine .emit (Rule.moves_upd (.trans (.trans ?_ (State.aside_report ..).moves) (State.moves_trialSticks _ p))) _
    exact r.st.moves_douserShut p _ (by simp [Douser.agape]) ⟨id, id⟩
  · exact .refl

theorem Rule.moves_pauseEnds (r : Rule) (p : Proj) : r.Moves (r.pauseEnds p) := by
  have h1 (t : Trial) (ht : (r.st.ds p).trial = some t) :
      r.Moves (r.upd (fun s => s.setDs p { r.st.ds p with trial := some ⟨t.completed, .travel, none⟩ })) :=
    Rule.moves_upd (r.st.moves_douser p _ rfl (fun _ => rfl) rfl rfl)
  unfold Rule.pauseEnds
  dsimp only
  split
  · exact .refl
  · rename_i t ht
    (repeat' split)
    · exact (h1 t ht).upd (State.moves_open ..)
    · exact (h1 t ht).upd (State.moves_close ..)
    · exact h1 t ht
    · exact h1 t ht
    · exact h1 t ht
    · exact .refl

/-! ## Film transport and the cue reader -/

/-- A transport's record changes, its state and its reel kept. -/
theorem State.moves_transport (s : State) (p : Proj) (x : Transport) (ha : x.armed = (s.tr p).armed)
    (hs : x.state = (s.tr p).state) : s.Moves (s.setTr p x) :=
  .single (.transport p x (fun _ h => .inl (ha ▸ h)) (fun h => hs.trans h) (fun h => hs.trans h))

theorem Transport.lockStep_keeps (t : Transport) (prev now : Instant) (speed : Nat) :
    (t.lockStep prev now speed).state = t.state ∧ (t.lockStep prev now speed).armed = t.armed := by
  unfold Transport.lockStep
  split <;> exact ⟨rfl, rfl⟩

theorem Rule.moves_pulseStarting (r : Rule) (p : Proj) (hs : (r.st.tr p).state = .starting) : r.Moves (r.pulseStarting p) := by
  unfold Rule.pulseStarting
  dsimp only
  split
  · exact Rule.moves_upd (r.st.moves_transport p _ rfl rfl)
  · rename_i prev _
    obtain ⟨hstate, harmed⟩ := (r.st.tr p).lockStep_keeps prev r.st.now (r.st.speedOf p)
    split
    · have h1 := State.Touch.transport (s := r.st) p (((r.st.tr p).lockStep prev r.st.now (r.st.speedOf p)).count r.st.now).lock
        (fun _ h => .inl (harmed ▸ h)) (by simp [hs]) (by simp [hs])
      exact .emit (Rule.moves_upd (moves_via (State.aside_report ..).moves (.single h1))) _
    · exact Rule.moves_upd (r.st.moves_transport p _ harmed hstate)

theorem Transport.speedStep_state (t : Transport) (good : Bool) : (t.speedStep good).state = t.state := by
  unfold Transport.speedStep
  (repeat' split) <;> rfl

theorem Rule.moves_pulseRunning (r : Rule) (p : Proj) : r.Moves (r.pulseRunning p) := by
  unfold Rule.pulseRunning
  dsimp only
  split
  · exact Rule.moves_upd (r.st.moves_transport p _ rfl rfl)
  · rename_i prev _
    obtain ⟨harmed, -⟩ := Transport.speedStep_keeps { r.st.tr p with miss := .normal }
      (inTolerance (r.st.now - prev) (r.st.speedOf p))
    have hstate := Transport.speedStep_state { r.st.tr p with miss := .normal } (inTolerance (r.st.now - prev) (r.st.speedOf p))
    have h1 := Rule.moves_upd (r := r) (f := fun s => s.setTr p _) (r.st.moves_transport p
      (({ r.st.tr p with miss := .normal }.speedStep (inTolerance (r.st.now - prev) (r.st.speedOf p))).count r.st.now)
      harmed hstate)
    split
    · exact h1.upd (State.aside_report ..).moves
    · exact h1

theorem Rule.moves_closeGroup (r : Rule) (p : Proj) (g : TabGroup) : r.Moves (r.closeGroup p g) := by
  unfold Rule.closeGroup
  extract_lets r1 held
  have h1 : r.st.Aside r1.st := r.joinCue_aside p g.entry
  refine .trans ?_ (Rule.joinCues_aside _ p held).moves
  exact .upd h1.moves ((State.aside_reader _ p _).trans (State.aside_evalBurst ..)).moves

theorem Rule.moves_examine (r : Rule) (p : Proj) (reading : Nat) : r.Moves (r.examine p reading) := by
  have h1 (x : Reader) : r.Moves (r.upd (fun s => s.setRd p x)) := (r.st.aside_reader p x).moves
  unfold Rule.examine Rule.gapFrame
  dsimp only
  (repeat' split)
  · exact .refl
  · exact .refl
  · exact h1 _
  · exact h1 _
  · exact h1 _
  · exact h1 _
  · exact r.moves_closeGroup ..
  · exact h1 _
  all_goals exact .refl

theorem Rule.moves_housePulse (r : Rule) (p : Proj) : r.Moves (r.housePulse p) := by
  have hlive (r : Rule) (h : HouseId) : r.Moves (r.countLivePulse h p) := by
    unfold Rule.countLivePulse
    (repeat' split)
    · exact r.moves_countEndPulse ..
    · exact r.moves_countRunoutPulse ..
    all_goals exact .refl
  have hshow (r : Rule) (h : HouseId) : r.Moves (r.showPulse h p) := by
    unfold Rule.showPulse
    split
    · exact .via (Rule.moves_tailTest ..) (.via (Rule.moves_countedFallback ..)
        (.upd (r.moves_takeCues h) (State.moves_fireFrameCues _ h)))
    · exact .refl
  exact ((((hlive r _).trans (Rule.moves_countRetirePulse ..)).trans (hshow ..)).trans (Rule.moves_pictureTest ..)).trans
    (Rule.moves_crossingTest ..)

theorem Rule.moves_passPulse (r : Rule) (p : Proj) (reading : Nat) : r.Moves (r.passPulse p reading) :=
  ((r.moves_examine p reading).trans (Rule.evalSufficiency_aside _ p).moves).trans (Rule.moves_housePulse ..)

theorem Rule.moves_pulse (r : Rule) (p : Proj) (reading : Nat) : r.Moves (r.pulse p reading) := by
  unfold Rule.pulse
  split
  · rename_i hs
    exact (r.moves_pulseStarting p hs).trans (Rule.moves_passPulse ..)
  · exact (r.moves_pulseRunning p).trans (Rule.moves_passPulse ..)
  · exact .via (Rule.moves_passPulse ..) (Rule.moves_upd (r.st.moves_transport p _ rfl rfl))
  all_goals exact .refl

theorem Rule.moves_runUpExpires (r : Rule) (p : Proj) : r.Moves (r.runUpExpires p) := by
  unfold Rule.runUpExpires
  dsimp only
  split
  · rename_i hs
    refine .emit (.emit (.trans (Rule.moves_upd (.trans (.single ?_) (State.aside_report ..).moves))
      (Rule.readerStops_aside _ p).moves) _) _
    exact .transport p _ (fun a h => .inl h) (by simp [hs.1]) (by simp [hs.1])
  · exact .refl

theorem Rule.moves_filmBreaks (r : Rule) (p : Proj) : r.Moves (r.filmBreaks p) := by
  unfold Rule.filmBreaks
  dsimp only
  split
  · have hstop (r1 : Rule) (x : Transport) (n : Nat) (b : ReportBody) (h1 : r1.st = (r.st.setTr p x).report n b) :
        (r.st.setTr p x).Aside (r1.readerStops p).st := by
      refine .trans ?_ (r1.readerStops_aside p)
      rw [h1]
      exact State.aside_report ..
    exact .emit (.ofTouch (.leaveRunning p { r.st.tr p with state := .broken, miss := .normal, lockCount := 0 } rfl
      (hstop _ _ _ _ rfl))) _
  · exact .refl

theorem Rule.moves_pulseMissing (r : Rule) (p : Proj) : r.Moves (r.pulseMissing p) := by
  unfold Rule.pulseMissing
  dsimp only
  split
  · exact Rule.moves_upd (moves_via (State.aside_report ..).moves (r.st.moves_transport p _ rfl rfl))
  · exact .refl

theorem Rule.moves_runsDown (r : Rule) (p : Proj) : r.Moves (r.runsDown p) := by
  unfold Rule.runsDown
  dsimp only
  split
  · rename_i hs
    refine .emit (Rule.moves_upd (.single ?_)) _
    exact .transport p _ (fun a h => .inl h) (by simp [hs.1]) (by simp [hs.1])
  · exact .refl

/-! ## Lamps -/

/-- R54 to R58: a lamp goes on, in what the law of its phase permits. -/
theorem State.moves_modLp (s : State) (p : Proj) (f : Lamp → Lamp) (hf : (s.lp p).phased → (s.lp p).Goes (f (s.lp p))) :
    s.Moves (s.modLp p f) := .single (.lamp p _ hf)

/-- R54 to R58: a rule that keeps a lamp's state and its account, and gives it a phase only where it had one. -/
theorem Lamp.Goes.kept {l x : Lamp} (hs : x.state = l.state) (hp : x.phase ≠ none → l.phase ≠ none) (ha : x.account = l.account)
    (hl : l.phased) : l.Goes x where
  off := by rw [hs]
  burning h := hs.trans h
  phased h := hs.trans (hl (hp h))
  account := .inr (.inl ha)

/-- R54: a sweep or a draw begins in a strike phase. -/
theorem Lamp.sweepBegins_keeps (l : Lamp) (amps : Nat) (now : Instant) :
    (l.sweepBegins amps now).state = l.state ∧ (l.sweepBegins amps now).account = l.account := by
  unfold Lamp.sweepBegins Lamp.drawBegins
  dsimp only
  split <;> simp [Lamp.trySend_keeps]

theorem Lamp.read_goes (l : Lamp) (volts amps : Nat) (now : Instant) (hl : l.phased) : l.Goes (l.read volts amps now) := by
  unfold Lamp.read Lamp.watchLow Lamp.watchBand
  dsimp only
  split
  · exact .kept rfl id rfl hl
  · split
    · rename_i hp
      split
      · have hk := { l with amps := amps, highSupply := max l.highSupply volts }.sweepBegins_keeps amps now
        exact .kept hk.1 (fun _ => by simp [hp]) hk.2 hl
      · exact .kept rfl id rfl hl
    all_goals exact .kept rfl id rfl hl
  · split <;> exact .kept rfl id rfl hl
  · split <;> split <;> exact .kept rfl id rfl hl

theorem Rule.moves_supplyExpires (r : Rule) (p : Proj) : r.Moves (r.supplyExpires p) := by
  unfold Rule.supplyExpires
  dsimp only
  split
  · exact (r.moves_lampStops ..).upd (State.aside_report ..).moves
  · exact .refl

theorem Lamp.trySend_goes (l : Lamp) (now : Instant) (hl : l.phased) : l.Goes (l.trySend now) := by
  obtain ⟨ha, hs, hp, -, -⟩ := l.trySend_keeps now
  exact .kept hs (by simp [hp]) ha hl

/-- R57: a draw begins in a strike phase. -/
theorem Lamp.drawBegins_goes (l : Lamp) (amps : Nat) (now : Instant) (hp : l.phase ≠ none) (hl : l.phased) :
    l.Goes ({ l with amps := amps }.drawBegins now) := by
  obtain ⟨ha, hs, -, -, -⟩ := Lamp.trySend_keeps { l with amps := amps, phase := some .draw, drawPulses := 0 } now
  exact .kept hs (fun _ => hp) ha hl

/-- R58: a lamp that draws becomes SETTLING. -/
theorem Lamp.settleBegins_goes (l : Lamp) (amps : Nat) (now : Instant) (hp : l.phase ≠ none) (hl : l.phased) :
    l.Goes (l.settleBegins amps now) where
  off := by simp [hl hp, Lamp.settleBegins]
  burning h := by simp [hl hp] at h
  phased h := absurd rfl h
  account := .inr (.inl rfl)

theorem Rule.moves_goOn (r : Rule) (p : Proj) (amps : Nat) : r.Moves (r.goOn p amps) := by
  unfold Rule.goOn
  dsimp only
  split
  · rename_i hp
    (repeat' split)
    · exact Rule.moves_upd (r.st.moves_modLp p _ (Lamp.drawBegins_goes _ amps _ (by simp [hp])))
    · refine Rule.moves_upd (r.st.moves_modLp p (fun l => { l with amps := amps }.trySend r.st.now) fun hl => ?_)
      obtain ⟨ha, hs, hph, -, -⟩ := Lamp.trySend_keeps { r.st.lp p with amps := amps } r.st.now
      exact .kept hs (by simp [hph]) ha hl
    · exact (r.moves_lampStops ..).upd (State.aside_report ..).moves
  · rename_i hp
    split
    · exact Rule.moves_upd (r.st.moves_modLp p _ (Lamp.trySend_goes _ _))
    · exact Rule.moves_upd (r.st.moves_modLp p _ (Lamp.settleBegins_goes _ amps _ (by simp [hp])))
  · exact .refl
  · exact Rule.moves_upd (r.st.moves_modLp p _ (Lamp.trySend_goes _ _))

theorem Lamp.countConfirmed_keeps (l : Lamp) (now : Instant) : (l.countConfirmed now).state = l.state ∧
    (l.countConfirmed now).phase = l.phase ∧ (l.countConfirmed now).account = l.account := by
  unfold Lamp.countConfirmed
  (repeat' split) <;> simp [*]

theorem Rule.moves_evalSufficiency (r : Rule) (p : Proj) : r.Moves (r.evalSufficiency p) := (r.evalSufficiency_aside p).moves

/-- R75, R76: a lamp whose account a debit takes to the stub limit is stopped in the same rule. -/
theorem Rule.moves_burnout_debited (s : State) (r : Rule) (p : Proj) (y : Lamp) (hy : y.state = (s.lp p).state)
    (hr : r.st = s.setLp p y) : s.Moves (r.burnout p).st := by
  have hstops := fun (r1 : Rule) (h1 : r1.st = r.st.reportProj p (.burnout (r.st.lp p).account (r.st.armedFrame p))) =>
    Rule.moves_lampStops_debited s r1 p .stub y hy (by rw [h1, ← hr]; exact State.aside_report ..)
  unfold Rule.burnout Rule.lampFails
  split
  · exact (hstops _ rfl).trans (State.aside_report ..).moves
  · exact hstops _ rfl

theorem Rule.moves_confirmForward (r : Rule) (p : Proj) (amps : Nat) : r.Moves (r.confirmForward p amps) := by
  obtain ⟨hs, hp, ha⟩ := (r.st.lp p).debit.countConfirmed_keeps r.st.now
  unfold Rule.confirmForward
  dsimp only
  split
  · exact .via (Rule.moves_evalSufficiency ..) (Rule.moves_burnout_debited r.st _ p _ hs rfl)
  · rename_i hstub
    refine .via (Rule.moves_evalSufficiency ..) (.via (Rule.moves_goOn ..) (Rule.moves_upd
      (r.st.moves_modLp p (fun l => l.debit.countConfirmed r.st.now) fun hl => ?_)))
    have hstub' : stubLimit < ((r.st.lp p).debit.countConfirmed r.st.now).account := by simpa [State.modLp] using hstub
    exact ⟨by rw [hs]; rfl, fun h => hs.trans h, fun h => hs.trans (hl (by rwa [hp] at h)), .inr (.inr hstub')⟩

theorem Rule.moves_confirmReverse (r : Rule) (p : Proj) (amps : Nat) : r.Moves (r.confirmReverse p amps) := by
  obtain ⟨hs, hp, ha⟩ := (r.st.lp p).countConfirmed_keeps r.st.now
  exact .via (Rule.moves_goOn ..) (Rule.moves_upd (r.st.moves_modLp p (fun l => l.countConfirmed r.st.now)
    (fun hl => .kept hs (by simp [hp]) ha hl)))

theorem Rule.moves_feedSense (r : Rule) (p : Proj) (amps : Nat) : r.Moves (r.feedSense p amps) := by
  have h1 : r.Moves (r.upd (fun s => s.modLp p (fun l => { l with outstanding := none }))) :=
    Rule.moves_upd (r.st.moves_modLp p _ (fun hl => .kept rfl id rfl hl))
  unfold Rule.feedSense
  dsimp only
  (repeat' split)
  · exact .refl
  · exact .via (Rule.moves_confirmForward ..) h1
  · exact .via (Rule.moves_confirmReverse ..) h1
  · exact .refl

theorem Rule.moves_strikeStalls (r : Rule) (p : Proj) (phase : StallPhase) : r.Moves (r.strikeStalls p phase) :=
  .upd (.via (Rule.moves_lampStops ..) (Rule.moves_upd (State.aside_report ..).moves)) (State.aside_report ..).moves

theorem Rule.moves_lampFails (r : Rule) (p : Proj) (reason : StopReason) : r.Moves (r.lampFails p reason) := by
  unfold Rule.lampFails
  split
  · exact (r.moves_lampStops ..).upd (State.aside_report ..).moves
  · exact r.moves_lampStops ..

theorem Rule.moves_burstStalls (r : Rule) (p : Proj) (b : Burst) : r.Moves (r.burstStalls p b) := by
  unfold Rule.burstStalls
  extract_lets n r1
  have h1 : r.Moves r1 := Rule.moves_upd (moves_via (State.aside_report ..).moves (moves_via (State.aside_report ..).moves
    (r.st.moves_modLp p _ (fun hl => .kept rfl id rfl hl))))
  split
  · exact h1.upd (State.moves_modLp _ p _ (fun hl => .kept rfl id rfl hl))
  · exact h1.trans (Rule.moves_lampFails ..)

theorem Rule.moves_stall (r : Rule) (p : Proj) : r.Moves (r.stall p) := by
  have h1 : r.Moves (r.upd (fun s => s.modLp p (fun l => { l with outstanding := none }))) :=
    Rule.moves_upd (r.st.moves_modLp p _ (fun hl => .kept rfl id rfl hl))
  unfold Rule.stall
  dsimp only
  (repeat' split)
  · exact .via (Rule.moves_strikeStalls ..) h1
  · exact .via (Rule.moves_strikeStalls ..) h1
  · exact .via (Rule.moves_burstStalls ..) h1
  · exact h1
  · exact h1
  · exact .refl

theorem Rule.moves_settles (r : Rule) (p : Proj) : r.Moves (r.settles p) := by
  unfold Rule.settles
  dsimp only
  split
  · rename_i hs
    refine .emit (Rule.moves_upd (moves_via (State.aside_report ..).moves (.single (.lamp p _ fun hl => ?_)))) _
    exact ⟨by simp [hs.1], by simp [hs.1], fun h => absurd (hl h) (by simp [hs.1]), .inr (.inl rfl)⟩
  · exact .refl

theorem State.moves_lampAside (s : State) (p : Proj) (x : Lamp) (hs : x.state = (s.lp p).state) (hp : x.phase = (s.lp p).phase)
    (ha : x.account = (s.lp p).account) : s.Moves (s.setLp p x) := (s.aside_lamp p x hs hp ha).moves

theorem State.moves_sample (s : State) (p : Proj) (volts : Nat) : s.Moves (s.sample p volts) := by
  unfold State.sample
  dsimp only
  split
  · exact moves_via (State.aside_evalBurst ..).moves (s.moves_lampAside p _ rfl rfl rfl)
  · exact .refl

theorem State.moves_blankOutEnds (s : State) (p : Proj) : s.Moves (s.blankOutEnds p) := by
  unfold State.blankOutEnds
  split
  · exact moves_via (State.aside_evalBurst ..).moves (s.moves_lampAside p _ rfl rfl rfl)
  · exact .refl

theorem State.moves_bandExpires (s : State) (p : Proj) : s.Moves (s.bandExpires p) := by
  unfold State.bandExpires
  dsimp only
  (repeat' split)
  · exact .refl
  · exact moves_via (State.aside_report ..).moves (s.moves_lampAside p _ rfl rfl rfl)
  · exact .refl

theorem Rule.moves_restrike (r : Rule) (p : Proj) (ha : strikeAccount ≤ (r.st.lp p).account) : r.Moves (r.restrike p) := by
  unfold Rule.restrike
  extract_lets was r1
  have haside : r.st.Aside r1.st := by
    have hmark := r.st.aside_lamp p { r.st.lp p with restrikeUsed := true } rfl rfl rfl
    exact (hmark.trans (State.aside_endBurst ..)).trans (State.aside_report ..)
  have hstrike : r1.Moves (r1.strikeBegins p) := r1.moves_strikeBegins p (fun _ => by
    rw [(haside.lamps p).2.2]
    exact Nat.lt_of_lt_of_le (by decide) ha)
  have hclosed : r.Moves ((r1.strikeBegins p).upd (fun s => s.closeCommand p)) :=
    .upd (.trans haside.moves hstrike) (State.moves_close _ p)
  unfold Rule.emitLampLeft
  split
  · exact hclosed.emit _
  · exact hclosed

theorem Rule.moves_arcGoesOut (r : Rule) (p : Proj) : r.Moves (r.arcGoesOut p) := by
  unfold Rule.arcGoesOut
  dsimp only
  (repeat' split)
  · rename_i hp
    have ha : strikeAccount ≤ (r.st.lp p).account := by simp_all [State.restrikePermitted]
    exact r.moves_restrike p ha
  · exact (r.moves_lampStops ..).upd (State.aside_report ..).moves
  · exact (r.moves_lampStops ..).upd (State.aside_report ..).moves
  · exact .refl

theorem State.moves_carbonLowTest (s : State) (p : Proj) : s.Moves (s.carbonLowTest p) := by
  unfold State.carbonLowTest
  dsimp only
  (repeat' split)
  · exact .refl
  · exact moves_via (State.aside_report ..).moves (s.moves_lampAside p _ rfl rfl rfl)
  · exact .refl

theorem Rule.moves_minuteEnds (r : Rule) (p : Proj) : r.Moves (r.minuteEnds p) := by
  have h1 (n : Nat) (m : Option Minute) : r.Moves (r.upd (fun s => s.setLp p { r.st.lp p with rate := n, minute := m })) :=
    Rule.moves_upd (r.st.moves_lampAside p _ rfl rfl rfl)
  unfold Rule.minuteEnds
  dsimp only
  (repeat' split)
  · exact .refl
  · exact (h1 _ _).upd (State.moves_carbonLowTest ..)
  · exact .upd (.via (Rule.moves_evalSufficiency ..) (h1 _ _)) (State.moves_carbonLowTest ..)
  · exact .refl

/-! ## Changeovers by hand, and their instants -/

theorem Rule.moves_delayEnds (r : Rule) (h : HouseId) : r.Moves (r.delayEnds h) := by
  unfold Rule.delayEnds
  (repeat' split)
  · exact .refl
  · exact r.moves_delayFalls ..
  · exact .refl

theorem Rule.moves_crossingInstant (r : Rule) (h : HouseId) (start : Instant) (n : Nat) :
    r.Moves (r.crossingInstant h start n) := by
  unfold Rule.crossingInstant
  split
  · exact .via (Rule.moves_look ..) (Rule.moves_upd (r.st.moves_crossingAt h n))
  · exact .refl

theorem Rule.moves_manualChange (r : Rule) (h : HouseId) (hs : r.st.changeRefusal h = none) : r.Moves (r.manualChange h) := by
  have hshow : (r.st.hs h).state = .showing := by
    unfold State.changeRefusal at hs
    dsimp only at hs
    split at hs
    · cases hs
    · rename_i hn
      exact Decidable.not_not.mp hn
  have hmark : r.Moves (r.markMotorTaken h) := Rule.moves_upd (r.st.moves_modMarks h _)
  unfold Rule.manualChange
  dsimp only
  (repeat' split)
  · exact (hmark.trans (Rule.moves_startIncoming ..)).trans (Rule.moves_enterDue ..)
  · exact (hmark.trans (Rule.moves_startIncoming ..)).trans (Rule.moves_enterDue ..)
  · exact hmark.trans (Rule.moves_enterDue ..)
  · exact hmark.trans (Rule.moves_enterDue ..)
  · exact .refl
  · exact .refl
  · exact .via (Rule.moves_enterDue ..) (.via (Rule.moves_startIncoming ..)
      (Rule.moves_upd (r.st.moves_createChange h _ hshow)))
  · exact .refl

theorem Rule.moves_changePressed (r : Rule) (h : HouseId) : r.Moves (r.changePressed h) := by
  unfold Rule.changePressed
  split
  · exact (State.aside_report ..).moves
  · rename_i hs
    exact r.moves_manualChange h hs

theorem Rule.moves_holdPressed (r : Rule) (h : HouseId) : r.Moves (r.holdPressed h) := by
  unfold Rule.holdPressed
  split
  · exact r.moves_enterHold ..
  · exact (State.aside_report ..).moves

/-! ## Requests -/

theorem Rule.moves_decideRunMotor (r : Rule) (b : Byte) : r.Moves (r.decideRunMotor b).rule := by
  unfold Rule.decideRunMotor
  (repeat' split)
  · exact .refl
  · exact .refl
  · exact .refl
  · exact r.moves_motorStart _

theorem Rule.moves_decideStopMotor (r : Rule) (b : Byte) : r.Moves (r.decideStopMotor b).rule := by
  unfold Rule.decideStopMotor
  (repeat' split)
  · exact .refl
  · exact .refl
  · exact r.moves_motorStop _

theorem Rule.moves_decideSetSpeed (r : Rule) (b speed : Byte) : r.Moves (r.decideSetSpeed b speed).rule := by
  unfold Rule.decideSetSpeed
  (repeat' split)
  · exact .refl
  · exact .refl
  · exact .refl
  · exact .via (Rule.moves_evalSufficiency ..) (.via (Rule.moves_evalSufficiency ..)
      (Rule.moves_upd (r.st.moves_modHs _ _ rfl rfl rfl id)))

theorem Rule.moves_decideSetCueSense (r : Rule) (b t y : Byte) : r.Moves (r.decideSetCueSense b t y).rule := by
  unfold Rule.decideSetCueSense
  split
  · exact .refl
  · exact (r.st.aside_reader ..).moves

theorem Rule.moves_decideCueClear (r : Rule) (b : Byte) : r.Moves (r.decideCueClear b).rule := by
  unfold Rule.decideCueClear
  split
  · exact .refl
  · rename_i p _
    split
    · exact .refl
    · rename_i e rest _
      dsimp only
      have h1 : r.Moves (r.upd (fun s => (s.setRd p { s.rd p with queue := rest }).clearBadMark p)) :=
        Rule.moves_upd ((r.st.aside_reader p _).moves.trans (State.moves_clearBadMark ..))
      split
      · split
        · exact (h1.trans (Rule.moves_takeCues ..)).trans (Rule.moves_countedFallback ..)
        · exact h1
      · exact .refl

theorem Rule.moves_decideDouserTrial (r : Rule) (b : Byte) : r.Moves (r.decideDouserTrial b).rule := by
  unfold Rule.decideDouserTrial
  split
  · exact .refl
  · rename_i p _
    dsimp only
    split
    · exact .refl
    · rename_i hn
      split
      · exact .refl
      · have hclosed : (r.st.ds p).state = .closed := by simp_all
        exact Rule.moves_upd (moves_via (State.moves_open ..)
          (r.st.moves_douserShut p _ (by simp [Douser.agape, hclosed]) ⟨id, id⟩))

theorem Rule.moves_decideStrike (r : Rule) (b : Byte) : r.Moves (r.decideStrike b).rule := by
  unfold Rule.decideStrike
  split
  · exact .refl
  · rename_i p _
    dsimp only
    split
    · exact .refl
    · split
      · exact .refl
      · rename_i ha
        (repeat' split)
        · exact .refl
        · exact .refl
        · refine .via (Rule.moves_strikeBegins _ p fun _ => ?_) (Rule.moves_upd (r.st.moves_lampAside p _ rfl rfl rfl))
          have : strikeAccount ≤ (r.st.lp p).account := Nat.le_of_not_lt ha
          simpa [State.modLp] using Nat.lt_of_lt_of_le (by decide) this

theorem Rule.moves_decideExtinguish (r : Rule) (b : Byte) : r.Moves (r.decideExtinguish b).rule := by
  unfold Rule.decideExtinguish
  split
  · exact .refl
  · exact r.moves_extinguish ..

theorem Lamp.setArc_keeps (l : Lamp) (i v : Nat) (auto : Bool) : (l.setArc i v auto).state = l.state ∧
    (l.setArc i v auto).phase = l.phase ∧ (l.setArc i v auto).account = l.account := by
  unfold Lamp.setArc Lamp.reband
  dsimp only
  (repeat' split) <;> simp

theorem Rule.moves_decideSetArc (r : Rule) (b current : Byte) (voltage : BitVec 16) (auto : Bool) :
    r.Moves (r.decideSetArc b current voltage auto).rule := by
  unfold Rule.decideSetArc
  split
  · exact .refl
  · rename_i p _
    extract_lets i v r1
    obtain ⟨hs, hp, ha⟩ := (r.st.lp p).setArc_keeps i v auto
    have h1 : r.Moves r1 := Rule.moves_upd (r.st.moves_lampAside p _ hs hp ha)
    change r.Moves (if i = (r.st.lp p).current then r1 else r1.evalSufficiency p)
    split
    · exact h1
    · exact h1.trans (Rule.moves_evalSufficiency ..)

theorem Rule.moves_decideLoadCarbon (r : Rule) (b : Byte) (length : BitVec 16) :
    r.Moves (r.decideLoadCarbon b length).rule := by
  unfold Rule.decideLoadCarbon
  split
  · exact .refl
  · rename_i p _
    split
    · exact .refl
    · rename_i hoff
      have hoff' : (r.st.lp p).state = .off := Decidable.not_not.mp hoff
      exact .via (Rule.moves_evalSufficiency ..) (Rule.moves_upd (r.st.moves_modLp p _ fun hl =>
        ⟨Iff.rfl, id, hl, .inl hoff'⟩))

theorem Rule.moves_disarmArmed (r : Rule) (p : Proj) : r.Moves (r.disarmArmed p) := by
  unfold Rule.disarmArmed
  split
  · exact r.moves_disarm p
  · exact .refl

theorem Rule.disarmArmed_record (r : Rule) (p : Proj) (h : HouseId) :
    ((r.disarmArmed p).st.hs h).state = (r.st.hs h).state := by
  unfold Rule.disarmArmed
  split
  · exact (r.disarm_record p h).2
  · rfl

theorem Rule.moves_decideClearProgram (r : Rule) (b : Byte) : r.Moves (r.decideClearProgram b).rule := by
  unfold Rule.decideClearProgram
  split
  · exact .refl
  · rename_i h _
    split
    · exact .refl
    · rename_i hn
      have hshow : (((r.disarmArmed (projAt h .a)).disarmArmed (projAt h .b)).st.hs h).state ≠ .showing := by
        rw [Rule.disarmArmed_record, Rule.disarmArmed_record]
        intro hs
        exact hn (.inl (by rw [hs]; rfl))
      exact .upd ((r.moves_disarmArmed _).trans (Rule.moves_disarmArmed ..)) (.single (.house h _
        ⟨fun _ => List.nodup_nil, .inl rfl, rfl, fun hr _ => hr hshow⟩))

/-- R86: the entry that joins has a reel number of its own. -/
theorem findReel_none_notMem (plan : List ReelEntry) (n : Nat) (h : findReel plan n = none) : n ∉ plan.map (fun e => e.reel) := by
  simpa [findReel] using h

theorem Rule.moves_decideAddReel (r : Rule) (b : Byte) (spec : ReelSpec) : r.Moves (r.decideAddReel b spec).rule := by
  unfold Rule.decideAddReel
  split
  · exact .refl
  · rename_i h _
    dsimp only
    split
    · exact .refl
    · rename_i hn
      split
      · exact .refl
      · rename_i e _
        split
        · exact .refl
        · split
          · exact .refl
          · rename_i hdup
            have hnew := findReel_none_notMem (r.st.hs h).plan e.reel (by simpa using hdup)
            split
            · exact .refl
            · split
              · exact .refl
              · refine Rule.moves_upd (.single (.house h _ ⟨fun hd => ?_, .inl rfl, rfl, fun hr hs => hr ?_⟩))
                · have hnod : ((r.st.hs h).plan.map (fun e => e.reel)).Nodup := hd
                  simp only [House.addReel, List.map_append, List.map_cons, List.map_nil]
                  exact List.nodup_append.mpr ⟨hnod, List.nodup_singleton _, by
                    intro a ha c hc hac
                    simp only [List.mem_singleton] at hc
                    exact hnew (hc ▸ hac ▸ ha)⟩
                · intro hs'
                  simp [hs'] at hn

theorem State.moves_arm (s : State) (p : Proj) (e : ReelEntry) (n : Nat) : s.Moves (s.arm (houseOf p) p e n) := by
  unfold State.arm
  extract_lets _ s1 s2
  have h1 : s.Moves s1 := by
    refine .tail (s.moves_modReel (houseOf p) e.reel ReelEntry.arm (fun _ => rfl)) (.transport p _ (fun a ha => ?_) id id)
    obtain rfl : _ = a := by simpa using ha
    exact .inr rfl
  have h2 : s.Moves s2 := h1.trans (State.moves_readerDiscards ..)
  exact h2.trans (State.moves_lampAside _ p _ rfl rfl rfl)

theorem State.moves_carbonShort (s : State) (p : Proj) (n : Nat) : s.Moves (s.carbonShort p n) := by
  unfold State.carbonShort
  (repeat' split)
  · exact .refl
  · exact .refl
  · exact (s.aside_report ..).moves

theorem Rule.moves_arm (r : Rule) (p : Proj) (e : ReelEntry) (n : Nat) : r.Moves (r.arm (houseOf p) p e n) :=
  .emit (.upd (.via (Rule.moves_evalSufficiency ..) (Rule.moves_upd (r.st.moves_arm p e n))) (State.moves_carbonShort ..)) _

theorem Rule.moves_decideArmReel (r : Rule) (b reel : Byte) (start : Option (BitVec 16)) :
    r.Moves (r.decideArmReel b reel start).rule := by
  unfold Rule.decideArmReel
  split
  · exact .refl
  · rename_i p _
    extract_lets h
    split
    · exact .refl
    · split
      · exact .refl
      · extract_lets frame
        split
        · exact .refl
        · split
          · exact .refl
          · exact r.moves_arm ..

theorem Rule.moves_decideUnarm (r : Rule) (b : Byte) : r.Moves (r.decideUnarm b).rule := by
  unfold Rule.decideUnarm
  (repeat' split)
  · exact .refl
  · exact .refl
  · exact r.moves_disarm _

theorem Rule.moves_decideStart (r : Rule) (b : Byte) : r.Moves (r.decideStart b).rule := by
  unfold Rule.decideStart
  split
  · exact .refl
  · rename_i h _
    dsimp only
    split
    · exact .refl
    · rename_i hn
      (repeat' split)
      · exact .refl
      · have hs : (r.st.hs h).state ≠ .showing := by
          intro hs
          simp [hs] at hn
        refine .via (Rule.moves_motorStart ..) (Rule.moves_upd ?_)
        exact moves_via (State.moves_endTrial ..) (moves_via (State.moves_endTrial ..)
          (r.st.moves_modHs h _ rfl rfl rfl (fun hr _ => hr hs)))
      · exact .refl

theorem Rule.moves_decideHold (r : Rule) (b : Byte) : r.Moves (r.decideHold b).rule := by
  unfold Rule.decideHold
  (repeat' split)
  · exact .refl
  · exact r.moves_enterHold ..
  · exact .refl

theorem Rule.moves_decideChangeNow (r : Rule) (b : Byte) : r.Moves (r.decideChangeNow b).rule := by
  unfold Rule.decideChangeNow
  split
  · exact .refl
  · split
    · exact .refl
    · rename_i hs
      exact r.moves_manualChange _ hs

theorem Rule.moves_decideSetHouseLevels (r : Rule) (b : Byte) (x y z w : BitVec 16) :
    r.Moves (r.decideSetHouseLevels b x y z w).rule := by
  unfold Rule.decideSetHouseLevels
  split
  · exact .refl
  · rename_i h _
    exact Rule.moves_upd (.single (.levels h _))

theorem Rule.moves_decideLightsSet (r : Rule) (b : Byte) (x y : BitVec 16) : r.Moves (r.decideLightsSet b x y).rule := by
  unfold Rule.decideLightsSet
  split
  · exact .refl
  · exact Rule.moves_upd (.single (.light _ _ (fun _ hl => hl.setManual ..)))

theorem Rule.moves_decideLightsRelease (r : Rule) (b : Byte) (x : BitVec 16) : r.Moves (r.decideLightsRelease b x).rule := by
  unfold Rule.decideLightsRelease
  split
  · exact .refl
  · dsimp only
    split
    · exact Rule.moves_upd (.single (.light _ _ (fun _ hl => hl.release ..)))
    · exact .refl

theorem Rule.moves_decideClearSafety (r : Rule) (b : Byte) : r.Moves (r.decideClearSafety b).rule := by
  unfold Rule.decideClearSafety
  split
  · exact .refl
  · rename_i h _
    dsimp only
    split
    · exact .refl
    · change r.Moves (if (r.st.lt h).safetyActive then r.upd (fun s => s.setLt h ((s.lt h).clearSafety s.now)) else r)
      split
      · exact Rule.moves_upd (.single (.light _ _ (fun _ hl => hl.clearSafety _)))
      · exact .refl

theorem Rule.moves_decideArmPort (r : Rule) (b : Byte) : r.Moves (r.decideArmPort b).rule := by
  unfold Rule.decideArmPort
  split
  · exact .refl
  · rename_i n _
    dsimp only
    split
    · exact .refl
    · rename_i hdown
      split
      · exact .refl
      · rename_i hfree
        have hcov : r.st.booth.covers n = false := by
          simpa [Booth.covers] using hfree
        split
        · exact r.moves_becomesHeld n (.inr hcov)
        · exact Rule.moves_upd (.single (.port n _ (fun _ => .inr hcov) (.inr (fun hh => by simp_all))))

theorem Rule.moves_decideDropTest (r : Rule) (form : DropForm) (b : Byte) : r.Moves (r.decideDropTest form b).rule := by
  unfold Rule.decideDropTest
  (repeat' split)
  · exact .refl
  · exact .refl
  · exact r.moves_activation ..

theorem Rule.moves_decideClearEmergency (r : Rule) : r.Moves r.decideClearEmergency.rule := by
  unfold Rule.decideClearEmergency
  (repeat' split)
  · exact .refl
  · exact r.moves_endCause ..
  · exact .refl

theorem Rule.moves_decideStatus (r : Rule) (x : StatusSubject) (n first : Byte) : r.Moves (r.decideStatus x n first).rule := by
  unfold Rule.decideStatus
  (repeat' split) <;> exact .refl

theorem Rule.moves_decideReadLog (r : Rule) (w : BitVec 16) : r.Moves (r.decideReadLog w).rule := by
  unfold Rule.decideReadLog
  dsimp only
  split <;> exact .refl

theorem Rule.moves_decideSetClock (r : Rule) (w : BitVec 24) : r.Moves (r.decideSetClock w).rule := by
  unfold Rule.decideSetClock
  split
  · exact .refl
  · exact (r.st.aside_relink (.clock ..)).moves

/-! ## Restart -/

/-- A state carried on over a list by moves, each of which keeps what the next one needs. -/
theorem State.moves_each {α : Type} {f : State → α → State} (P : State → Prop)
    (hf : ∀ (s : State) (a : α), P s → s.Moves (f s a) ∧ P (f s a)) (l : List α) (s : State) (hs : P s) :
    s.Moves (s.each f l) ∧ P (s.each f l) := by
  induction l generalizing s with
  | nil => exact ⟨.refl, hs⟩
  | cons a rest ih =>
    obtain ⟨hmove, hkeep⟩ := hf s a hs
    obtain ⟨hrest, hend⟩ := ih (f s a) hkeep
    exact ⟨hmove.trans hrest, hend⟩

/-- R169: no motor runs. -/
def State.motorsOff (s : State) : Prop := ∀ p, (s.tr p).state ≠ .running

theorem State.moves_restartDouser (s : State) (p : Proj) : s.Moves (s.restartDouser p) := by
  have hshut (sw : SwitchPair) : s.Moves (s.setDs p ((s.ds p).fromSwitches sw s.now)) := by
    refine s.moves_douserShut p _ ?_ ⟨id, id⟩
    simp only [Douser.agape, Douser.fromSwitches, douserFrom]
    (repeat' split) <;> simp
  unfold State.restartDouser
  split
  · exact hshut _
  · exact (hshut _).trans (State.aside_draws ..).moves

/-- R19: the transports of a booth whose motors are off restart. -/
theorem State.moves_restartTransports (s : State) (hs : s.motorsOff) :
    s.Moves (s.each (fun s p => s.setTr p (s.tr p).restart) allProjs) ∧
      (s.each (fun s p => s.setTr p (s.tr p).restart) allProjs).motorsOff := by
  refine State.moves_each State.motorsOff (fun s p h => ⟨?_, fun q => ?_⟩) allProjs s hs
  · exact .single (.transport p (s.tr p).restart (fun _ h => .inl h) (fun hr => absurd hr (h p)) (fun _ => rfl))
  · rw [State.setTr_tr]
    split
    · exact nofun
    · exact h q

/-- R72: the lamps of a booth whose motors are off become OFF. -/
theorem State.moves_restartLamps (s : State) (hs : s.motorsOff) :
    s.Moves (s.each (fun s p => s.setLp p (s.lp p).restart) allProjs) :=
  (State.moves_each State.motorsOff (f := fun s p => s.setLp p (s.lp p).restart) (fun s p h =>
    ⟨.single (.lampOff (u := s) p (s.lp p) (s.lp p).restart false rfl (by rw [State.setLp_self]; exact .refl _) rfl rfl
      (fun hr => absurd hr (h p))), h⟩) allProjs s hs).1

/-- A state carried on over a list by moves. -/
theorem State.moves_eachOf {α : Type} {f : State → α → State} (hf : ∀ (s : State) (a : α), s.Moves (f s a)) (l : List α)
    (s : State) : s.Moves (s.each f l) :=
  (State.moves_each (fun _ => True) (fun s a _ => ⟨hf s a, trivial⟩) l s trivial).1

theorem State.moves_restartBlocks (s : State) (hs : s.motorsOff) : s.Moves s.restartBlocks := by
  unfold State.restartBlocks
  extract_lets s1 s2 s3 s4 s5 s6
  obtain ⟨h1, k1⟩ : s.Moves s1 ∧ s1.motorsOff := s.moves_restartTransports hs
  obtain ⟨h2, k2⟩ : s1.Moves s2 ∧ s2.motorsOff := State.moves_each State.motorsOff
    (f := fun s p => s.setRd p ((s.rd p).restart (s.restartReaderState p))) (fun s p h =>
    ⟨(s.aside_reader p _).moves, h⟩) allProjs s1 k1
  have h3 : s2.Moves s3 := s2.moves_restartLamps k2
  have h4 : s3.Moves s4 := State.moves_eachOf State.moves_restartDouser allProjs s3
  have h5 : s4.Moves s5 := State.moves_eachOf (f := State.restartJudge) (fun s p => (s.aside_sufficiency p _).moves) allProjs s4
  have h6 : s5.Moves s6 := State.moves_eachOf (f := fun s h => s.setHs h (s.hs h).restart) (fun s h =>
    s.moves_house h _ rfl (.inr rfl) rfl (fun _ _ => rfl)) allHouses s5
  refine .trans (((((h1.trans h2).trans h3).trans h4).trans h5).trans h6) (State.moves_eachOf (fun s h => ?_) allHouses s6)
  exact .single (.light h _ (fun _ hl => hl.restart _ _))

theorem State.restartBlocks_link (s : State) : s.restartBlocks.link = s.link := by
  have hkeep {α : Type} {f : State → α → State} (l : List α) (s : State) (hf : ∀ s a, (f s a).link = s.link) :
      (s.each f l).link = s.link := State.each_keeps State.link f hf l s
  unfold State.restartBlocks
  dsimp only
  rw [hkeep allHouses _ (by simp), hkeep allHouses _ (by simp), hkeep allProjs _ (by simp [State.restartJudge]),
    hkeep allProjs, hkeep allProjs _ (by simp), hkeep allProjs _ (by simp), hkeep allProjs _ (by simp)]
  intro s p
  unfold State.restartDouser
  split <;> simp

theorem Rule.moves_decideRestart (r : Rule) : r.Moves r.decideRestart.rule := by
  unfold Rule.decideRestart
  split
  · exact .refl
  · rename_i hidle
    have hoff : r.st.motorsOff := fun p hp => hidle (by
      simp only [State.busy, Bool.or_eq_true, List.any_eq_true]
      exact .inr ⟨p, mem_allProjs p, by simp [hp]⟩)
    have hlink : r.st.restartBlocks.Aside (r.st.restartBlocks.setLink r.st.link.restart) :=
      State.aside_relink _ (by rw [State.restartBlocks_link]; exact .restart)
    have hmoves := (r.st.moves_restartBlocks hoff).trans hlink.moves
    exact Rule.moves_upd (r := r) (f := fun s => s.restartBlocks.setLink s.link.restart) hmoves

theorem State.moves_readSwitches (s : State) (sw : Bank SwitchPair 8) : s.Moves (s.readSwitches sw) := by
  unfold State.readSwitches
  split
  · exact (State.moves_each (fun _ => True) (f := fun s p => s.setDs p { s.ds p with switches := some ⟨sw.cell p, s.now⟩ })
      (fun s p _ => ⟨s.moves_douser p _ rfl id rfl rfl, trivial⟩) allProjs s trivial).1
  · exact .refl

/-! ## The console link -/

theorem Rule.moves_ask (r : Rule) (q : Request) : r.Moves (r.ask q).rule := by
  cases q with
  | runMotor p => exact r.moves_decideRunMotor p
  | stopMotor p => exact r.moves_decideStopMotor p
  | setSpeed h speed => exact r.moves_decideSetSpeed ..
  | setCueSense p t y => exact r.moves_decideSetCueSense ..
  | cueClear p => exact r.moves_decideCueClear p
  | douserTrial p => exact r.moves_decideDouserTrial p
  | strike p => exact r.moves_decideStrike p
  | extinguish p => exact r.moves_decideExtinguish p
  | setArc p i v auto => exact r.moves_decideSetArc ..
  | loadCarbon p length => exact r.moves_decideLoadCarbon ..
  | clearProgram h => exact r.moves_decideClearProgram h
  | addReel h e => exact r.moves_decideAddReel ..
  | armReel p reel frame => exact r.moves_decideArmReel ..
  | unarm p => exact r.moves_decideUnarm p
  | start h => exact r.moves_decideStart h
  | hold h => exact r.moves_decideHold h
  | changeNow h => exact r.moves_decideChangeNow h
  | setHouseLevels h a b c d => exact r.moves_decideSetHouseLevels ..
  | lightsSet h target fade => exact r.moves_decideLightsSet ..
  | lightsRelease h fade => exact r.moves_decideLightsRelease ..
  | clearSafety h => exact r.moves_decideClearSafety h
  | armPort n => exact r.moves_decideArmPort n
  | dropTest form n => exact r.moves_decideDropTest ..
  | clearEmergency => exact r.moves_decideClearEmergency
  | status subject n first => exact r.moves_decideStatus ..
  | readLog seq => exact r.moves_decideReadLog seq
  | setClock time => exact r.moves_decideSetClock time
  | restart => exact r.moves_decideRestart

theorem Rule.moves_decideRecord (r : Rule) (d : Record) : r.Moves (r.decideRecord d).rule := by
  unfold Rule.decideRecord
  split
  · exact .refl
  · exact r.moves_ask _

/-- R162: a record is taken from the link, `r` being the rule with the record out of the buffer and the slot empty. -/
theorem Rule.acts_takeRecord {s : State} {r : Rule} {buffer : List Record} (d : Record)
    (hb : buffer.length ≤ s.link.buffer.length) (hr : r.st = s.setLink { s.link with slot := none, buffer := buffer }) :
    s.Acts (r.takeRecord d).st := by
  have hclaim : r.claim.st = s.setLink (s.link.deciding buffer) := by simp [Rule.claim, hr, Link.deciding]
  have hmoves : r.claim.st.Moves (r.claim.decideRecord d).rule.st := r.claim.moves_decideRecord d
  exact .single (.answer buffer _ hb (hclaim ▸ hmoves))

theorem State.acts_lineError (s : State) (reason : LineErrorReason) : s.Acts (s.lineError reason) := by
  unfold State.lineError
  split
  · exact s.acts_relink (.lineError _)
  · exact (s.aside_report ..).moves.acts

theorem Rule.acts_arrives (r : Rule) (d : Record) : r.Acts (r.arrives d) := by
  unfold Rule.arrives
  dsimp only
  split
  · rename_i hfree
    refine Rule.acts_takeRecord (s := r.st) (buffer := []) d (Nat.zero_le _) ?_
    rw [← hfree.1, ← hfree.2, State.setLink_self]
  · rename_i hbusy
    split
    · rename_i hroom
      exact r.st.acts_relink (.join d hbusy hroom)
    · exact r.st.acts_lineError _

theorem State.acts_setReceive (s : State) (x : ReceiveState) : s.Acts (s.setReceive x) := s.acts_relink (.receive x)

theorem Rule.acts_receive (r : Rule) (b : Byte) (ok : Bool) : r.Acts (r.receive b ok) := by
  have h1 (x : ReceiveState) : r.Acts (r.upd (fun s => s.setReceive x)) := r.st.acts_setReceive x
  have h2 (x : ReceiveState) (reason : LineErrorReason) : r.Acts (r.upd (fun s => (s.setReceive x).lineError reason)) :=
    Relation.ReflTransGen.trans (r.st.acts_setReceive x) (State.acts_lineError ..)
  unfold Rule.receive Rule.assembleByte Rule.checkByte
  dsimp only
  (repeat' split)
  · exact r.st.acts_setReceive _
  · exact h1 _
  · exact h1 _
  · exact h2 _ _
  · exact h1 _
  · exact h1 _
  · exact (h1 _).trans (Rule.acts_arrives ..)
  · exact (h1 _).upd (State.acts_lineError ..)
  · exact h2 _ _

theorem Rule.acts_transmitEnds (r : Rule) : r.Acts r.transmitEnds := by
  unfold Rule.transmitEnds
  split
  · exact .refl
  · unfold Rule.replySent
    dsimp only
    split
    · rename_i hempty
      have hmoves : State.Moves _ _ :=
        Rule.moves_settle settleBound (r.upd (fun s => s.setLink { s.link with slot := none }))
      exact Relation.ReflTransGen.single (.sent hempty hmoves)
    · rename_i d rest hbuffer
      refine .upd (.via (Rule.moves_settle ..).acts ?_) (State.acts_relink _ .choose)
      exact Rule.acts_takeRecord (s := r.st) (buffer := rest) d (by simp [hbuffer]) (by simp)
  · exact r.st.acts_relink .choose

theorem Rule.acts_breakTie (r : Rule) : r.Acts r.breakTie := by
  unfold Rule.breakTie
  split
  · rename_i htie
    refine Rule.Acts.upd .refl ?_
    split
    · exact (State.aside_draws ..).moves.acts
    · exact (State.acts_relink _ (.sendHead htie.2)).trans (State.aside_draws ..).moves.acts
  · exact .refl

theorem Link.tick_touch (l : Link) (now : Instant) : Relation.ReflTransGen Link.Touch l (l.tick now) := by
  unfold Link.tick
  split
  · exact .single (.clock ..)
  · exact .refl

theorem State.moves_tick (s : State) : s.Moves (s.setLink (s.link.tick s.now)) :=
  .single (.aside { State.Aside.refl s with link := s.link.tick_touch s.now })

/-! ## Commands -/

/-- A command whose rule is a chain of acts is one. -/
theorem State.Acts.finish {s t : State} {dt : Nat} {r : Rule} (hr : (Rule.begin s dt).Acts r) (ht : r.finish = .next t) :
    s.Acts t := by
  obtain rfl : (r.settle settleBound).breakTie.st = t := by simpa [Rule.finish] using ht
  have h1 : s.Acts (Rule.begin s dt).st := (s.aside_elapse dt).moves.acts
  have h2 : (Rule.begin s dt).Acts (r.settle settleBound).breakTie := (hr.trans (Rule.moves_settle ..).acts).trans (Rule.acts_breakTie _)
  exact h1.trans h2

theorem Rule.acts_request (r : Rule) (q : Request) : r.Acts (r.request q) := r.acts_arrives _

theorem Rule.acts_readInputs (r : Rule) (i : FieldInputs) : r.Acts (r.readInputs i) := by
  have heach (l : List Proj) (r : Rule) : r.Acts (r.each (fun r p => if i.gateHeat.cell p then r.gateHeats p else r) l) := by
    induction l generalizing r with
    | nil => exact .refl
    | cons p rest ih =>
      refine .trans ?_ (ih _)
      dsimp only
      split
      · exact r.acts_gateHeats p
      · exact .refl
  unfold Rule.readInputs
  extract_lets r1 r2 r3
  have h1 : r.Acts r1 := by
    unfold r1
    split
    · exact r.acts_fire ..
    · exact .refl
  have h2 : r1.Acts r2 := by
    unfold r2
    split
    · exact r1.acts_fire ..
    · exact .refl
  exact ((h1.trans h2).trans (heach _ _)).trans (Rule.acts_gradeReading ..)

/-- Every command is a chain of acts. -/
theorem exec_acts {c : Instr} {s t : State} (h : exec c s = .next t) : s.Acts t := by
  cases c with
  | powerOn dt i =>
    exact .finish (.via (Rule.acts_readInputs ..) (.upd .refl (.single (.powerOn i)))) h
  | receiveByte dt b ok => exact .finish (Rule.acts_receive ..) h
  | syncHalfTimeout dt =>
    refine .finish (.upd .refl ?_) h
    unfold State.halfExpires
    (repeat' split)
    · exact State.acts_setReceive ..
    · exact .refl
    · exact .refl
  | interByteGap dt =>
    refine .finish (.upd .refl ?_) h
    unfold State.gapExpires
    (repeat' split)
    · exact .refl
    · exact State.acts_setReceive ..
    · exact .refl
  | lineBreak dt => exact .finish (.upd .refl (State.acts_setReceive ..)) h
  | formatRefusal dt kind payload => exact .finish (Rule.acts_arrives ..) h
  | transmitEnd dt => exact .finish (Rule.acts_transmitEnds _) h
  | clockAdvance dt => exact .finish (.upd .refl (State.moves_tick _).acts) h
  | runMotor dt p => exact .finish (Rule.acts_request ..) h
  | stopMotor dt p => exact .finish (Rule.acts_request ..) h
  | setSpeed dt h' speed => exact .finish (Rule.acts_request ..) h
  | setCueSense dt p a b => exact .finish (Rule.acts_request ..) h
  | cueClear dt p => exact .finish (Rule.acts_request ..) h
  | douserTrial dt p => exact .finish (Rule.acts_request ..) h
  | strike dt p => exact .finish (Rule.acts_request ..) h
  | extinguish dt p => exact .finish (Rule.acts_request ..) h
  | setArc dt p i v auto => exact .finish (Rule.acts_request ..) h
  | loadCarbon dt p n => exact .finish (Rule.acts_request ..) h
  | clearProgram dt h' => exact .finish (Rule.acts_request ..) h
  | addReel dt h' e => exact .finish (Rule.acts_request ..) h
  | armReel dt p reel frame => exact .finish (Rule.acts_request ..) h
  | unarm dt p => exact .finish (Rule.acts_request ..) h
  | start dt h' => exact .finish (Rule.acts_request ..) h
  | hold dt h' => exact .finish (Rule.acts_request ..) h
  | changeNow dt h' => exact .finish (Rule.acts_request ..) h
  | setHouseLevels dt h' a b d e => exact .finish (Rule.acts_request ..) h
  | lightsSet dt h' a b => exact .finish (Rule.acts_request ..) h
  | lightsRelease dt h' a => exact .finish (Rule.acts_request ..) h
  | clearSafety dt h' => exact .finish (Rule.acts_request ..) h
  | armPort dt n => exact .finish (Rule.acts_request ..) h
  | dropTest dt form n => exact .finish (Rule.acts_request ..) h
  | clearEmergency dt => exact .finish (Rule.acts_request ..) h
  | status dt a b d => exact .finish (Rule.acts_request ..) h
  | readLog dt w => exact .finish (Rule.acts_request ..) h
  | setClock dt w => exact .finish (Rule.acts_request ..) h
  | restart dt sw => exact .finish (.via (Rule.acts_request ..) (.upd .refl (State.moves_readSwitches ..).acts)) h
  | tachPulse dt p reading => exact .finish (Rule.moves_pulse ..).acts h
  | runupLimit dt p => exact .finish (Rule.moves_runUpExpires ..).acts h
  | missingPulseDeadline dt p => exact .finish (Rule.moves_pulseMissing ..).acts h
  | breakDeadline dt p => exact .finish (Rule.moves_filmBreaks ..).acts h
  | runDownExpiry dt p => exact .finish (Rule.moves_runsDown ..).acts h
  | delayEnd dt h' => exact .finish (Rule.moves_delayEnds ..).acts h
  | crossingOpenInstant dt h' =>
    simp only [exec, execCrossingOpenInstant] at h
    split at h
    · exact .finish .refl h
    · exact .finish (Rule.moves_crossingInstant ..).acts h
  | crossingCloseInstant dt h' =>
    simp only [exec, execCrossingCloseInstant] at h
    split at h
    · exact .finish .refl h
    · split at h
      · exact .finish .refl h
      · exact .finish (Rule.moves_crossingInstant ..).acts h
  | soundInstant dt h' =>
    simp only [exec, execSoundInstant] at h
    split at h
    · exact .finish .refl h
    · exact .finish (Rule.moves_crossingInstant ..).acts h
  | holdButton dt h' => exact .finish (Rule.moves_holdPressed ..).acts h
  | changeButton dt h' => exact .finish (Rule.moves_changePressed ..).acts h
  | douserSwitchCloses dt p sw => exact .finish (Rule.moves_switchCloses ..).acts h
  | travelLimit dt p => exact .finish (Rule.moves_travelExpires ..).acts h
  | trialPauseEnd dt p => exact .finish (Rule.moves_pauseEnds ..).acts h
  | arcReading dt p volts amps =>
    exact .finish (.upd .refl (State.moves_modLp _ p _ (Lamp.read_goes _ volts amps _)).acts) h
  | supplyLimit dt p => exact .finish (Rule.moves_supplyExpires ..).acts h
  | feedPulseSend dt p => exact .finish (.upd .refl (State.moves_modLp _ p _ (Lamp.trySend_goes _ _)).acts) h
  | feedSensePulse dt p amps => exact .finish (Rule.moves_feedSense ..).acts h
  | feedStall dt p => exact .finish (Rule.moves_stall ..).acts h
  | settleEnd dt p => exact .finish (Rule.moves_settles ..).acts h
  | voltageSample dt p volts => exact .finish (.upd .refl (State.moves_sample ..).acts) h
  | blankOutEnd dt p => exact .finish (.upd .refl (State.moves_blankOutEnds ..).acts) h
  | arcOut dt p => exact .finish (Rule.moves_arcGoesOut ..).acts h
  | bandEpisodeExpiry dt p => exact .finish (.upd .refl (State.moves_bandExpires ..).acts) h
  | minuteEnd dt p => exact .finish (Rule.moves_minuteEnds ..).acts h
  | fadeStep dt h' => exact .finish (.upd .refl (.single (.touch (.light h' _ (fun _ hl => hl.stepFade _))))) h
  | upSwitchCloses dt n => exact .finish (Rule.moves_upCloses ..).acts h
  | upSwitchOpens dt n => exact .finish (Rule.moves_upOpens ..).acts h
  | downSwitchCloses dt n => exact .finish (.upd .refl (State.moves_downCloses ..).acts) h
  | downSwitchOpens dt n => exact .finish (.upd .refl (State.moves_port _ n _ (by rfl)).acts) h
  | armWindowEnd dt n => exact .finish (.upd .refl (State.moves_windowEnds ..).acts) h
  | confirmationLimit dt n => exact .finish (.upd .refl (State.moves_jams ..).acts) h
  | fusibleLinkOpens dt => exact .finish (Rule.acts_fusibleOpens _) h
  | fusibleLinkCloses dt => exact .finish (Rule.moves_fusibleCloses _).acts h
  | gateHeatAsserts dt p => exact .finish (Rule.acts_gateHeats ..) h
  | gateHeatDeasserts dt p => exact .finish (Rule.moves_gateCools ..).acts h
  | emergencyButtonPress dt => exact .finish (Rule.acts_emergencyPressed _) h
  | emergencyButtonRelease dt =>
    exact .finish (Rule.moves_setBooth _ (fun s => { s.booth with pressed := false }) rfl).acts h
  | temperatureReading dt t => exact .finish (Rule.acts_readTemperature ..) h

end Sys2Proof.Machine
end

section
/-! PROOFS. The laws of the booth, each kept touch by touch: the queue of commands, dousers and the sound gate, lamps, the records
of a show, light channels, ports. -/

namespace Sys2Proof.Machine

/-! ## What the commands to a douser do -/

/-- R39: what a close command leaves of every douser. -/
theorem State.closeCommand_ds_keeps (s : State) (p q : Proj) :
    ((s.closeCommand p).ds q).trial = (s.ds q).trial ∧ ((s.closeCommand p).ds q).openTime = (s.ds q).openTime ∧
      ((s.closeCommand p).ds q).closeTime = (s.ds q).closeTime := by
  unfold State.closeCommand
  dsimp only
  split <;> simp only [State.setDs_ds] <;> (try split) <;> simp_all

theorem State.closeCommand_ds_other (s : State) {p q : Proj} (h : q ≠ p) : (s.closeCommand p).ds q = s.ds q := by
  obtain ⟨x, hx | hx⟩ := s.closeCommand_cases p <;> simp [hx, h]

/-- R39: a douser given a close command is neither OPEN nor OPENING. -/
theorem State.closeCommand_shut (s : State) (p : Proj) : ¬ ((s.closeCommand p).ds p).agape := by
  unfold State.closeCommand Douser.agape
  dsimp only
  split <;> simp_all

theorem State.gatingWatch_cases (s : State) (p : Proj) :
    s.gatingWatch p = s.closeCommand p ∨ (s.gatingWatch p = s ∧ ((s.ds p).agape → s.gating p = true)) := by
  unfold State.gatingWatch
  split
  · exact .inl rfl
  · rename_i h
    exact .inr ⟨rfl, fun ha => by simpa [ha] using h⟩

theorem State.interlock_cases (s : State) (p : Proj) :
    s.interlock p = s.closeCommand (otherProj p) ∨ (s.interlock p = s ∧ (s.ds (otherProj p)).state ≠ .opened) := by
  unfold State.interlock
  split
  · exact .inl rfl
  · rename_i h
    exact .inr ⟨rfl, h⟩

theorem State.openCommand_cases (s : State) (p : Proj) :
    s.openCommand p = s ∨ (s.gating p = true ∧ ∃ x : Douser, s.openCommand p = s.setDs p x ∧ x.state = .opening ∧
      x.trial = (s.ds p).trial ∧ x.openTime = (s.ds p).openTime ∧ x.closeTime = (s.ds p).closeTime) := by
  unfold State.openCommand
  dsimp only
  split
  · rename_i h
    exact .inr ⟨h.1, _, rfl, rfl, rfl, rfl, rfl⟩
  · exact .inl rfl

/-- R46, R47: the end of a trial: nothing with none; otherwise its record is gone and R38 watches. -/
theorem State.endTrial_cases (s : State) (p : Proj) (o : TrialOutcome) :
    ((s.ds p).trial = none ∧ s.endTrial p o = s) ∨
      ∃ n b, s.endTrial p o = ((s.setDs p { s.ds p with trial := none }).report n b).gatingWatch p := by
  unfold State.endTrial
  split
  · rename_i h
    exact .inl ⟨h, rfl⟩
  · exact .inr ⟨_, _, rfl⟩

/-- What follows the end of RUNNING beside R38 changes the house alone: its gate, which leaves the projector, and its runout
count. -/
theorem State.leaveRunning_cases (s : State) (p : Proj) : ∃ x : House, s.leaveRunning p = (s.gatingWatch p).setHs (houseOf p) x ∧
    x.plan = (s.hs (houseOf p)).plan ∧ x.levels = (s.hs (houseOf p)).levels ∧ x.state = (s.hs (houseOf p)).state ∧
    x.change = (s.hs (houseOf p)).change ∧
    ((x.gate = (s.hs (houseOf p)).gate ∧ x.gate ≠ .side (sideOf p)) ∨ x.gate = .none) := by
  have hh : (s.gatingWatch p).hs (houseOf p) = s.hs (houseOf p) :=
    congrArg (fun b => b.cell (houseOf p)) (s.gatingWatch_keeps p).2.2.2.2.1
  unfold State.leaveRunning State.soundWatch State.dropRunoutCount State.selectNone
  dsimp only
  by_cases hg : ((s.gatingWatch p).hs (houseOf p)).gate = .side (sideOf p)
  · rw [if_pos hg]
    split
    · exact ⟨_, State.setHs_setHs .., by simp [hh], by simp [hh], by simp [hh], by simp [hh], .inr (by simp)⟩
    · exact ⟨_, rfl, by simp [hh], by simp [hh], by simp [hh], by simp [hh], .inr rfl⟩
  · rw [if_neg hg]
    split
    · exact ⟨_, rfl, by simp [hh], by simp [hh], by simp [hh], by simp [hh], .inl ⟨by simp [hh], hg⟩⟩
    · exact ⟨_, (State.setHs_self ..).symm, by simp [hh], by simp [hh], by simp [hh], by simp [hh], .inl ⟨by simp [hh], hg⟩⟩

/-! ## The gating law of the dousers (R36 to R38) -/

/-- R36: douser `q` is not OPEN or OPENING without its gating condition. -/
def State.gatedAt (s : State) (q : Proj) : Prop := (s.ds q).agape → s.gating q = true

theorem State.gating_iff (s : State) (q : Proj) : s.gating q = true ↔
    ((s.tr q).state = .running ∧ (s.lp q).state = .burning ∧ (s.pt (projPort q)).state = .held) ∨
      ((s.ds q).trial.isSome = true ∧ (s.lp q).state = .off ∧ (s.tr q).state = .stopped) := by
  simp [State.gating, State.trialCase]

/-- R37: what the gating condition of a douser rests on. -/
structure State.GatingStays (s t : State) (q : Proj) : Prop where
  running : (s.tr q).state = .running → (t.tr q).state = .running
  stopped : (s.tr q).state = .stopped → (t.tr q).state = .stopped
  burning : (s.lp q).state = .burning → (t.lp q).state = .burning
  off : (s.lp q).state = .off → (t.lp q).state = .off
  held : (s.pt (projPort q)).state = .held → (t.pt (projPort q)).state = .held
  trial : (s.ds q).trial.isSome → (t.ds q).trial.isSome

theorem State.GatingStays.gating {s t : State} {q : Proj} (h : s.GatingStays t q) (hg : s.gating q = true) :
    t.gating q = true := by
  rw [State.gating_iff] at hg ⊢
  exact hg.imp (fun ⟨h1, h2, h3⟩ => ⟨h.running h1, h.burning h2, h.held h3⟩)
    (fun ⟨h1, h2, h3⟩ => ⟨h.trial h1, h.off h2, h.stopped h3⟩)

theorem State.GatingStays.gatedAt {s t : State} {q : Proj} (h : s.GatingStays t q) (hd : (t.ds q).agape → (s.ds q).agape)
    (hs : s.gatedAt q) : t.gatedAt q := fun ha => h.gating (hs (hd ha))

/-- A change of dousers alone that leaves every trial leaves the gating conditions. -/
theorem State.gatingStays_of_dousers {s t : State} (ht : t.transports = s.transports) (hl : t.lamps = s.lamps)
    (hp : t.ports = s.ports) (q : Proj) (hd : (s.ds q).trial.isSome → (t.ds q).trial.isSome) : s.GatingStays t q where
  running h := (congrArg (fun b => (b.cell q).state) ht).trans h
  stopped h := (congrArg (fun b => (b.cell q).state) ht).trans h
  burning h := (congrArg (fun b => (b.cell q).state) hl).trans h
  off h := (congrArg (fun b => (b.cell q).state) hl).trans h
  held h := (congrArg (fun b => (b.cell (projPort q)).state) hp).trans h
  trial := hd

/-- R39: a close command makes the law hold at its douser, and keeps it at the others. -/
theorem State.closeCommand_gatedAt {s : State} {p : Proj} (hs : ∀ q, q ≠ p → s.gatedAt q) (q : Proj) :
    (s.closeCommand p).gatedAt q := by
  by_cases hq : q = p
  · subst hq
    exact fun ha => absurd ha (s.closeCommand_shut q)
  · obtain ⟨-, htr, -, hlp, -, -, hpt, -, -, -, -⟩ := s.closeCommand_keeps p
    refine (State.gatingStays_of_dousers htr hlp hpt q (fun h => ?_)).gatedAt (fun h => ?_) (hs q hq)
    · rwa [s.closeCommand_ds_other hq]
    · rwa [s.closeCommand_ds_other hq] at h

theorem State.gatingWatch_gatedAt {s : State} {p : Proj} (hs : ∀ q, q ≠ p → s.gatedAt q) (q : Proj) :
    (s.gatingWatch p).gatedAt q := by
  rcases s.gatingWatch_cases p with h | ⟨h, hp⟩
  · rw [h]
    exact State.closeCommand_gatedAt hs q
  · rw [h]
    by_cases hq : q = p
    · exact hq ▸ hp
    · exact hs q hq

theorem State.interlock_gatedAt {s : State} {p : Proj} (hs : ∀ q, s.gatedAt q) (q : Proj) : (s.interlock p).gatedAt q := by
  rcases s.interlock_cases p with h | ⟨h, -⟩
  · rw [h]
    exact State.closeCommand_gatedAt (fun x _ => hs x) q
  · rw [h]
    exact hs q

theorem State.Aside.gatingStays {s u : State} (h : s.Aside u) (q : Proj) : s.GatingStays u q where
  running hs := (congrArg (fun b => (b.cell q).state) h.transports).trans hs
  stopped hs := (congrArg (fun b => (b.cell q).state) h.transports).trans hs
  burning hs := (h.lamps q).1.trans hs
  off hs := (h.lamps q).1.trans hs
  held hs := (congrArg (fun b => (b.cell (projPort q)).state) h.ports).trans hs
  trial hs := by rwa [State.ds, h.dousers]

theorem State.Aside.ds {s u : State} (h : s.Aside u) (q : Proj) : u.ds q = s.ds q := congrArg (fun b => b.cell q) h.dousers

theorem State.Aside.gatedAt {s u : State} (h : s.Aside u) {q : Proj} (hs : s.gatedAt q) : u.gatedAt q :=
  (h.gatingStays q).gatedAt (fun ha => by rwa [h.ds] at ha) hs

/-- A record of projector `p` does not touch the gating of another. -/
theorem State.setTr_gatedAt {s : State} {p q : Proj} (x : Transport) (h : q ≠ p) (hs : s.gatedAt q) : (s.setTr p x).gatedAt q := by
  simpa [State.gatedAt, State.gating_iff, h] using hs

theorem State.setLp_gatedAt {s : State} {p q : Proj} (x : Lamp) (h : q ≠ p) (hs : s.gatedAt q) : (s.setLp p x).gatedAt q := by
  simpa [State.gatedAt, State.gating_iff, h] using hs

theorem State.setDs_gatedAt {s : State} {p q : Proj} (x : Douser) (h : q ≠ p) (hs : s.gatedAt q) : (s.setDs p x).gatedAt q := by
  simpa [State.gatedAt, State.gating_iff, h] using hs

theorem State.setPt_gatedAt {s : State} {n : PortId} {q : Proj} (x : Port) (h : projPort q ≠ n) (hs : s.gatedAt q) :
    (s.setPt n x).gatedAt q := by
  simpa [State.gatedAt, State.gating_iff, h] using hs

theorem State.endTrial_gatedAt {s : State} {p : Proj} (o : TrialOutcome) (hs : ∀ q, q ≠ p → s.gatedAt q)
    (hp : (s.ds p).trial = none → s.gatedAt p) (q : Proj) : (s.endTrial p o).gatedAt q := by
  rcases s.endTrial_cases p o with ⟨hn, h⟩ | ⟨n, b, h⟩
  · rw [h]
    by_cases hq : q = p
    · exact hq ▸ hp hn
    · exact hs q hq
  · rw [h]
    exact State.gatingWatch_gatedAt (fun q hq => (State.aside_report _ n b).gatedAt (State.setDs_gatedAt _ hq (hs q hq))) q

theorem portProj_projPort (p : Proj) : portProj (projPort p) = some p := by
  revert p
  decide

theorem portProj_eq_some (n : PortId) (p : Proj) (h : portProj n = some p) : n = projPort p := by
  revert n p
  decide

theorem State.Touch.gatedAt {s t : State} (h : s.Touch t) (hph : ∀ q, (s.lp q).phased) (hs : ∀ q, s.gatedAt q) (q : Proj) :
    t.gatedAt q := by
  cases h with
  | aside ha => exact ha.gatedAt (hs q)
  | transport p x _ hrun hstop =>
    by_cases hq : q = p
    · subst hq
      have hst : s.GatingStays (s.setTr q x) q := ⟨by simpa using hrun, by simpa using hstop, by simp, by simp, by simp, by simp⟩
      exact hst.gatedAt (by simp) (hs q)
    · exact State.setTr_gatedAt x hq (hs q)
  | motorStart p x hstop _ =>
    refine State.endTrial_gatedAt _ (fun q hq => State.setTr_gatedAt x hq (hs q)) (fun hn ha => ?_) q
    have hg := (s.gating_iff p).mp (hs p ha)
    simp_all
  | @leaveRunning p x u _ ha =>
    obtain ⟨y, hy, -⟩ := u.leaveRunning_cases p
    have hw : (u.gatingWatch p).gatedAt q :=
      State.gatingWatch_gatedAt (fun q hq => ha.gatedAt (State.setTr_gatedAt x hq (hs q))) q
    rw [hy]
    simpa [State.gatedAt, State.gating_iff] using hw
  | close p => exact State.closeCommand_gatedAt (fun q _ => hs q) q
  | opens p =>
    rcases s.openCommand_cases p with hn | ⟨hg, x, hx, -, ht, -⟩
    · rw [hn]
      exact hs q
    · rw [hx]
      by_cases hq : q = p
      · subst hq
        rw [State.gatedAt, State.gating_iff]
        simpa [ht, State.gating_iff] using fun _ => hg
      · exact State.setDs_gatedAt x hq (hs q)
  | douser p x hx _ =>
    by_cases hq : q = p
    · subst hq
      intro ha
      obtain ⟨hstate, htrial⟩ := hx (by simpa using ha)
      have hag : (s.ds q).agape := by simpa [Douser.agape, hstate] using ha
      have hst : s.GatingStays (s.setDs q x) q := ⟨by simp, by simp, by simp, by simp, by simp, by simpa using htrial⟩
      exact hst.gating (hs q hag)
    · exact State.setDs_gatedAt x hq (hs q)
  | endTrial p o => exact State.endTrial_gatedAt o (fun q _ => hs q) (fun _ => hs p) q
  | opened p x _ htrial _ hg =>
    refine State.interlock_gatedAt (fun q => ?_) q
    by_cases hq : q = p
    · subst hq
      intro _
      rcases hg with ho | hg
      · have hst : s.GatingStays (s.setDs q x) q := ⟨by simp, by simp, by simp, by simp, by simp, by simpa using htrial⟩
        exact hst.gating (hs q (.inr ho))
      · exact hg
    · exact State.setDs_gatedAt x hq (hs q)
  | lamp p x hx =>
    have hgo := hx (hph p)
    by_cases hq : q = p
    · subst hq
      have hst : s.GatingStays (s.setLp q x) q :=
        ⟨by simp, by simp, by simpa using hgo.burning, by simpa using hgo.off.mp, by simp, by simp⟩
      exact hst.gatedAt (by simp) (hs q)
    · exact State.setLp_gatedAt x hq (hs q)
  | @lampOff p y x u b hy ha hoff _ hb =>
    have hother (q : Proj) (hq : q ≠ p) : (u.setLp p x).gatedAt q :=
      State.setLp_gatedAt x hq (ha.gatedAt (State.setLp_gatedAt y hq (hs q)))
    cases b with
    | true => exact State.closeCommand_gatedAt hother q
    | false =>
      by_cases hq : q = p
      · subst hq
        intro hag
        have hnot : ¬ ((s.tr q).state = .running ∧ (s.lp q).state = .burning) := fun h => nomatch hb h.1 h.2
        have hds : u.ds q = s.ds q := (ha.ds q).trans (by simp)
        have htr : u.tr q = s.tr q := congrArg (fun b => b.cell q) ha.transports
        have hg := (s.gating_iff q).mp (hs q (by simpa [hds] using hag))
        rw [State.gating_iff]
        right
        simp only [Bool.false_eq_true, if_false, State.setLp_ds, State.setLp_tr, State.setLp_lp, if_true, hds, htr, hoff, true_and]
        rcases hg with ⟨h1, h2, -⟩ | ⟨h1, -, h3⟩
        · exact absurd ⟨h1, h2⟩ hnot
        · exact ⟨h1, h3⟩
      · exact hother q hq
  | strike p x _ _ => exact State.gatingWatch_gatedAt (fun q hq => State.setLp_gatedAt x hq (hs q)) q
  | house h x _ => simpa [State.gatedAt, State.gating_iff] using hs q
  | levels h l => simpa [State.gatedAt, State.gating_iff] using hs q
  | light h x _ => simpa [State.gatedAt, State.gating_iff] using hs q
  | port n x _ hheld =>
    by_cases hq : projPort q = n
    · subst hq
      rw [portProj_projPort] at hheld
      have hst : s.GatingStays (s.setPt (projPort q) x) q :=
        ⟨by simp, by simp, by simp, by simp, by simpa using hheld, by simp⟩
      exact hst.gatedAt (by simp) (hs q)
    · exact State.setPt_gatedAt x hq (hs q)
  | release n x p _ hn =>
    refine State.closeCommand_gatedAt (fun q hq => State.setPt_gatedAt x (fun hp => hq ?_) (hs q)) q
    rw [← hp, portProj_projPort] at hn
    exact Option.some.inj hn
  | links f hf =>
    have hst : s.GatingStays { s with ports := s.ports.map f } q := ⟨id, id, id, id, fun h => by
      simpa [State.pt, Bank.cell, hf] using h, id⟩
    exact hst.gatedAt id (hs q)
  | booth x _ => simpa [State.gatedAt, State.gating_iff] using hs q

/-! ## One OPEN douser (R44), and the learned times (R41) -/

/-- What the commands to a douser and the watches leave: no douser becomes OPEN, and the learned times stay. -/
structure State.DousersYield (s t : State) : Prop where
  opened : ∀ q, (t.ds q).state = .opened → (s.ds q).state = .opened
  times : ∀ q, (t.ds q).openTime = (s.ds q).openTime ∧ (t.ds q).closeTime = (s.ds q).closeTime

theorem State.DousersYield.of_eq {s t : State} (h : t.dousers = s.dousers) : s.DousersYield t where
  opened q hq := by rwa [State.ds, h] at hq
  times q := by simp [State.ds, h]

theorem State.DousersYield.trans {s t u : State} (h : s.DousersYield t) (k : t.DousersYield u) : s.DousersYield u where
  opened q hq := h.opened q (k.opened q hq)
  times q := ⟨(k.times q).1.trans (h.times q).1, (k.times q).2.trans (h.times q).2⟩

theorem State.DousersYield.on {s t u : State} (k : t.DousersYield u) (h : t.dousers = s.dousers) : s.DousersYield u :=
  .trans (.of_eq h) k

theorem State.closeCommand_yields (s : State) (p : Proj) : s.DousersYield (s.closeCommand p) where
  opened q hq := by
    by_cases h : q = p
    · subst h
      exact absurd (.inl hq) (s.closeCommand_shut q)
    · rwa [s.closeCommand_ds_other h] at hq
  times q := (s.closeCommand_ds_keeps p q).2

theorem State.gatingWatch_yields (s : State) (p : Proj) : s.DousersYield (s.gatingWatch p) := by
  rcases s.gatingWatch_cases p with h | ⟨h, -⟩ <;> rw [h]
  · exact s.closeCommand_yields p
  · exact .of_eq rfl

theorem State.openCommand_yields (s : State) (p : Proj) : s.DousersYield (s.openCommand p) := by
  rcases s.openCommand_cases p with h | ⟨-, x, h, hx, -, ho, hc⟩ <;> rw [h]
  · exact .of_eq rfl
  · refine ⟨fun q hq => ?_, fun q => ?_⟩
    · rw [State.setDs_ds] at hq
      split at hq
      · simp [hx] at hq
      · exact hq
    · rw [State.setDs_ds]
      split
      · rename_i hqp
        exact ⟨hqp ▸ ho, hqp ▸ hc⟩
      · exact ⟨rfl, rfl⟩

theorem State.endTrial_yields (s : State) (p : Proj) (o : TrialOutcome) : s.DousersYield (s.endTrial p o) := by
  rcases s.endTrial_cases p o with ⟨-, h⟩ | ⟨n, b, h⟩ <;> rw [h]
  · exact .of_eq rfl
  · refine .trans ?_ (State.gatingWatch_yields _ p)
    refine ⟨fun q hq => ?_, fun q => ?_⟩
    · simp only [State.report_eq, State.setLink_ds, State.setDs_ds] at hq
      split at hq
      · rename_i hqp
        exact hqp ▸ hq
      · exact hq
    · simp only [State.report_eq, State.setLink_ds, State.setDs_ds]
      split
      · rename_i hqp
        exact ⟨by rw [hqp], by rw [hqp]⟩
      · exact ⟨rfl, rfl⟩

theorem State.interlock_yields (s : State) (p : Proj) : s.DousersYield (s.interlock p) := by
  rcases s.interlock_cases p with h | ⟨h, -⟩ <;> rw [h]
  · exact s.closeCommand_yields _
  · exact .of_eq rfl

theorem State.leaveRunning_yields (s : State) (p : Proj) : s.DousersYield (s.leaveRunning p) := by
  obtain ⟨x, hx, -⟩ := s.leaveRunning_cases p
  rw [hx]
  exact (s.gatingWatch_yields p).trans (.of_eq rfl)

/-- A touch opens no douser and keeps the learned times, but where a douser's own record changes. -/
theorem State.Touch.yields {s t : State} (h : s.Touch t) : s.DousersYield t ∨
    ∃ p x, (s.ds p).TimesKept x ∧
      ((t = s.setDs p x ∧ (x.state = .opened → (s.ds p).state = .opened)) ∨ t = (s.setDs p x).interlock p) := by
  cases h with
  | aside ha => exact .inl (.of_eq ha.dousers)
  | transport p x => exact .inl (.of_eq rfl)
  | motorStart p x => exact .inl (State.DousersYield.on (State.endTrial_yields ..) rfl)
  | leaveRunning p x _ ha => exact .inl (State.DousersYield.on (State.leaveRunning_yields ..) ha.dousers)
  | close p => exact .inl (s.closeCommand_yields p)
  | opens p => exact .inl (s.openCommand_yields p)
  | douser p x hx ht => exact .inr ⟨p, x, ht, .inl ⟨rfl, fun h => (hx (.inl h)).1 ▸ h⟩⟩
  | endTrial p o => exact .inl (s.endTrial_yields p o)
  | opened p x _ _ ht => exact .inr ⟨p, x, ht, .inr rfl⟩
  | lamp p x => exact .inl (.of_eq rfl)
  | @lampOff p y x u b _ ha =>
    refine .inl ?_
    split
    · exact State.DousersYield.on (State.closeCommand_yields ..) ha.dousers
    · exact .of_eq ha.dousers
  | strike p x => exact .inl (State.DousersYield.on (State.gatingWatch_yields ..) rfl)
  | house h x => exact .inl (.of_eq rfl)
  | levels h l => exact .inl (.of_eq rfl)
  | light h x => exact .inl (.of_eq rfl)
  | port n x => exact .inl (.of_eq rfl)
  | release n x p => exact .inl (State.DousersYield.on (State.closeCommand_yields ..) rfl)
  | links f => exact .inl (.of_eq rfl)
  | booth x => exact .inl (.of_eq rfl)

/-- R44: the dousers of a house are not both OPEN. -/
def State.oneOpen (s : State) : Prop := ∀ p, ¬ ((s.ds p).state = .opened ∧ (s.ds (otherProj p)).state = .opened)

theorem State.oneOpen.of_opened {s t : State} (hs : s.oneOpen) (h : ∀ q, (t.ds q).state = .opened → (s.ds q).state = .opened) :
    t.oneOpen := fun p ht => hs p ⟨h _ ht.1, h _ ht.2⟩

theorem otherProj_otherProj (p : Proj) : otherProj (otherProj p) = p := by
  revert p
  decide

/-- R44: a douser has become OPEN, and the other of its house is closed. -/
theorem State.oneOpen.interlock {s : State} (hs : s.oneOpen) (p : Proj) (x : Douser) : ((s.setDs p x).interlock p).oneOpen := by
  have hshut : (((s.setDs p x).interlock p).ds (otherProj p)).state ≠ .opened := by
    rcases (s.setDs p x).interlock_cases p with h | ⟨h, hn⟩ <;> rw [h]
    · exact fun ho => (s.setDs p x).closeCommand_shut (otherProj p) (.inl ho)
    · exact hn
  have hold (q : Proj) (hq : q ≠ p) (ho : (((s.setDs p x).interlock p).ds q).state = .opened) : (s.ds q).state = .opened := by
    simpa [hq] using ((s.setDs p x).interlock_yields p).opened q ho
  intro q ⟨h1, h2⟩
  by_cases hq : q = p
  · exact hshut (hq ▸ h2)
  · by_cases hq' : otherProj q = p
    · have hqp : q = otherProj p := by rw [← hq', otherProj_otherProj]
      exact hshut (hqp ▸ h1)
    · exact hs q ⟨hold q hq h1, hold _ hq' h2⟩

theorem State.Touch.oneOpen {s t : State} (h : s.Touch t) (hs : s.oneOpen) : t.oneOpen := by
  rcases h.yields with hy | ⟨p, x, -, ⟨rfl, hx⟩ | rfl⟩
  · exact hs.of_opened hy.opened
  · refine hs.of_opened (fun q hq => ?_)
    rw [State.setDs_ds] at hq
    split at hq
    · rename_i hqp
      exact hqp ▸ hx hq
    · exact hq
  · exact hs.interlock p x

theorem State.Touch.timesLearned {s t : State} (h : s.Touch t) (hs : ∀ p, s.timesLearned p) (q : Proj) : t.timesLearned q := by
  have hset (p : Proj) (x : Douser) (hx : (s.ds p).TimesKept x) (q : Proj) : (s.setDs p x).timesLearned q := by
    rw [State.timesLearned, State.setDs_ds]
    split
    · exact ⟨hx.1 (hs p).1, hx.2 (hs p).2⟩
    · exact hs q
  rcases h.yields with hy | ⟨p, x, hx, ⟨rfl, -⟩ | rfl⟩
  · rw [State.timesLearned, (hy.times q).1, (hy.times q).2]
    exact hs q
  · exact hset p x hx q
  · rw [State.timesLearned, (((s.setDs p x).interlock_yields p).times q).1, (((s.setDs p x).interlock_yields p).times q).2]
    exact hset p x hx q

/-! ## Lamps (R54, R76) -/

/-- What a touch does to the lamps. -/
theorem State.Touch.lamps {s t : State} (h : s.Touch t) (q : Proj) :
    ((t.lp q).state = (s.lp q).state ∧ (t.lp q).phase = (s.lp q).phase ∧ (t.lp q).account = (s.lp q).account) ∨
      ((s.lp q).phased → (s.lp q).Goes (t.lp q)) ∨ ((t.lp q).state = .off ∧ (t.lp q).phase = none) ∨
      ((t.lp q).state = .striking ∧
        (((s.lp q).state ≠ .off → stubLimit < (s.lp q).account) → stubLimit < (t.lp q).account)) := by
  have hsame {t : State} (ht : t.lamps = s.lamps) : (t.lp q).state = (s.lp q).state ∧ (t.lp q).phase = (s.lp q).phase ∧
      (t.lp q).account = (s.lp q).account := by simp [State.lp, ht]
  cases h with
  | aside ha => exact .inl (ha.lamps q)
  | transport p x => exact .inl (hsame rfl)
  | motorStart p x => exact .inl (hsame (State.endTrial_keeps ..).2.2.1)
  | @leaveRunning p x u _ ha =>
    obtain ⟨y, hy, -⟩ := u.leaveRunning_cases p
    have hl : (u.leaveRunning p).lamps = u.lamps := by rw [hy]; exact (u.gatingWatch_keeps p).2.2.2.1
    have := ha.lamps q
    exact .inl (by simpa [State.lp, hl] using this)
  | close p => exact .inl (hsame (s.closeCommand_keeps p).2.2.2.1)
  | opens p => exact .inl (hsame (s.openCommand_keeps p).2.2.2.1)
  | douser p x => exact .inl (hsame rfl)
  | endTrial p o => exact .inl (hsame (s.endTrial_keeps p o).2.2.1)
  | opened p x => exact .inl (hsame ((s.setDs p x).interlock_keeps p).2.2.2.1)
  | lamp p x hx =>
    by_cases hq : q = p
    · subst hq
      exact .inr (.inl (by simpa using hx))
    · exact .inl (by simp [hq])
  | @lampOff p y x u b hy ha hoff hph =>
    have hl : (if b then (u.setLp p x).closeCommand p else u.setLp p x).lp q = if q = p then x else u.lp q := by
      split
      · exact (congrArg (fun b => b.cell q) ((u.setLp p x).closeCommand_keeps p).2.2.2.1).trans (State.setLp_lp ..)
      · exact State.setLp_lp ..
    rw [hl]
    by_cases hq : q = p
    · exact .inr (.inr (.inl (by simp [hq, hoff, hph])))
    · exact .inl (by simpa [hq] using ha.lamps q)
  | strike p x hx ha =>
    have hl : ((s.setLp p x).gatingWatch p).lp q = if q = p then x else s.lp q :=
      (congrArg (fun b => b.cell q) ((s.setLp p x).gatingWatch_keeps p).2.2.2.1).trans (State.setLp_lp ..)
    rw [hl]
    by_cases hq : q = p
    · subst hq
      exact .inr (.inr (.inr (by simpa [hx] using ha)))
    · exact .inl (by simp [hq])
  | house h x => exact .inl (hsame rfl)
  | levels h l => exact .inl (hsame rfl)
  | light h x => exact .inl (hsame rfl)
  | port n x => exact .inl (hsame rfl)
  | release n x p => exact .inl (hsame ((s.setPt n x).closeCommand_keeps p).2.2.2.1)
  | links f => exact .inl (hsame rfl)
  | booth x => exact .inl (hsame rfl)

theorem State.Touch.phased {s t : State} (h : s.Touch t) (q : Proj) (hs : (s.lp q).phased) : (t.lp q).phased := by
  rcases h.lamps q with ⟨h1, h2, -⟩ | hgo | ⟨-, h2⟩ | ⟨h1, -⟩
  · intro hp
    exact h1.trans (hs (h2 ▸ hp))
  · exact (hgo hs).phased
  · exact fun hp => absurd h2 hp
  · exact fun _ => h1

/-- R76: a lamp that is not OFF has an account above the stub limit. -/
def State.aboveStub (s : State) (q : Proj) : Prop := (s.lp q).state ≠ .off → stubLimit < (s.lp q).account

theorem State.Touch.aboveStub {s t : State} (h : s.Touch t) (q : Proj) (hp : (s.lp q).phased) (hs : s.aboveStub q) :
    t.aboveStub q := by
  intro hoff
  rcases h.lamps q with ⟨h1, -, h3⟩ | hgo | ⟨h1, -⟩ | ⟨-, h2⟩
  · rw [h3]
    exact hs (h1 ▸ hoff)
  · have hlit : (s.lp q).state ≠ .off := fun hn => hoff ((hgo hp).off.mp hn)
    rcases (hgo hp).account with ha | ha | ha
    · exact absurd ha hoff
    · rw [ha]
      exact hs hlit
    · exact ha
  · exact absurd h1 hoff
  · exact h2 hs

/-! ## Transports and houses (R50, R85, R88, R97) -/

/-- What a touch leaves of the transports and the houses. -/
structure State.HousesKeep (s t : State) : Prop where
  armed : ∀ q a, (t.tr q).armed = some a → (s.tr q).armed = some a ∨ a.house = houseOf q
  reels : ∀ h, s.distinctReels h → t.distinctReels h
  record : ∀ h, s.recordInShow h → t.recordInShow h
  gate : ∀ q, ((s.hs (houseOf q)).gate = .side (sideOf q) → (s.tr q).state = .running) →
    (t.hs (houseOf q)).gate = .side (sideOf q) → (t.tr q).state = .running

theorem State.HousesKeep.of_eq {s t : State} (ht : t.transports = s.transports) (hh : t.houses = s.houses) :
    s.HousesKeep t where
  armed q a h := .inl (by rwa [State.tr, ht] at h)
  reels h hs := by rwa [State.distinctReels, State.hs, hh]
  record h hs := by rwa [State.recordInShow, State.hs, hh]
  gate q hs := by rwa [State.hs, State.tr, ht, hh]

theorem projAt_of_house_side (q : Proj) (h : HouseId) (sd : Side) (hh : houseOf q = h) (hsd : sideOf q = sd) : projAt h sd = q := by
  subst hh hsd
  exact projAt_houseOf_sideOf q

theorem State.housesKeep_setTr (s : State) (p : Proj) (x : Transport)
    (ha : ∀ a, x.armed = some a → (s.tr p).armed = some a ∨ a.house = houseOf p)
    (hr : (s.tr p).state = .running → x.state = .running) : s.HousesKeep (s.setTr p x) where
  armed q a h := by
    rw [State.setTr_tr] at h
    split at h
    · rename_i hq
      exact hq ▸ ha a h
    · exact .inl h
  reels h hs := hs
  record h hs := hs
  gate q hs hg := by
    have hrun := hs hg
    rw [State.setTr_tr]
    split
    · rename_i hq
      exact hr (hq ▸ hrun)
    · exact hrun

theorem State.housesKeep_setHs (s : State) (g : HouseId) (x : House) (hreels : s.distinctReels g → (x.plan.map (fun e => e.reel)).Nodup)
    (hgate : x.gate = (s.hs g).gate ∨ x.gate = .none ∨ ∃ sd, x.gate = .side sd ∧ (s.tr (projAt g sd)).state = .running)
    (hrecord : s.recordInShow g → x.state ≠ .showing → x.change = none) : s.HousesKeep (s.setHs g x) where
  armed q a h := .inl h
  reels h hs := by
    rw [State.distinctReels, State.setHs_hs]
    split
    · rename_i hh
      exact hreels (hh ▸ hs)
    · exact hs
  record h hs := by
    rw [State.recordInShow, State.setHs_hs]
    split
    · rename_i hh
      exact hrecord (hh ▸ hs)
    · exact hs
  gate q hs hg := by
    rw [State.setHs_hs] at hg
    rw [State.setHs_tr]
    split at hg
    · rename_i hh
      rcases hgate with h1 | h1 | ⟨sd, h1, hrun⟩
      · exact hs (hh ▸ h1 ▸ hg)
      · simp [h1] at hg
      · rw [h1] at hg
        obtain rfl : sd = sideOf q := by simpa using hg
        rwa [projAt_of_house_side q g _ hh rfl] at hrun
    · exact hs hg

theorem State.HousesKeep.trans {s u t : State} (h : s.HousesKeep u) (k : u.HousesKeep t) : s.HousesKeep t where
  armed q a ha := (k.armed q a ha).elim (h.armed q a) .inr
  reels g hs := k.reels g (h.reels g hs)
  record g hs := k.record g (h.record g hs)
  gate q hs := k.gate q (h.gate q hs)

/-- R50: the gate leaves a projector whose transport leaves RUNNING. -/
theorem State.housesKeep_leaveRunning (s u : State) (p : Proj) (x : Transport) (hx : x.armed = (s.tr p).armed)
    (ha : (s.setTr p x).Aside u) : s.HousesKeep (u.leaveRunning p) := by
  obtain ⟨y, hy, hplan, -, hstate, hchange, hgate⟩ := u.leaveRunning_cases p
  have hhs (h : HouseId) : u.hs h = s.hs h := congrArg (fun b => b.cell h) ha.houses
  have htr (q : Proj) : (u.leaveRunning p).tr q = if q = p then x else s.tr q := by
    rw [hy, State.setHs_tr]
    exact (congrArg (fun b => b.cell q) (u.gatingWatch_keeps p).2.1).trans
      ((congrArg (fun b => b.cell q) ha.transports).trans (s.setTr_tr p x q))
  have hths (h : HouseId) : (u.leaveRunning p).hs h = if h = houseOf p then y else s.hs h := by
    rw [hy, State.setHs_hs]
    split
    · rfl
    · exact (congrArg (fun b => b.cell h) (u.gatingWatch_keeps p).2.2.2.2.1).trans (hhs h)
  rw [hhs] at hplan hstate hchange hgate
  refine ⟨fun q a h => ?_, fun h hs => ?_, fun h hs => ?_, fun q hs hg => ?_⟩
  · rw [htr] at h
    split at h
    · rename_i hq
      exact .inl (by rwa [hq, ← hx])
    · exact .inl h
  · rw [State.distinctReels, hths]
    split
    · rename_i hh
      rw [hplan, ← hh]
      exact hs
    · exact hs
  · rw [State.recordInShow, hths]
    split
    · rename_i hh
      rw [hstate, hchange, ← hh]
      exact hs
    · exact hs
  · rw [hths] at hg
    rw [htr]
    split at hg
    · rename_i hh
      rcases hgate with ⟨h1, h2⟩ | h1
      · have hq : q ≠ p := fun hqp => h2 (hqp ▸ hg)
        rw [if_neg hq]
        exact hs (by rw [hh, ← h1]; exact hg)
      · simp [h1] at hg
    · rename_i hh
      rw [if_neg (fun hqp => hh (by rw [hqp]))]
      exact hs hg

theorem State.HousesKeep.on {s u t : State} (k : u.HousesKeep t) (ht : u.transports = s.transports) (hh : u.houses = s.houses) :
    s.HousesKeep t where
  armed q a h := by simpa [State.tr, ht] using k.armed q a h
  reels h hs := k.reels h (by rwa [State.distinctReels, State.hs, hh])
  record h hs := k.record h (by rwa [State.recordInShow, State.hs, hh])
  gate q hs := k.gate q (by rwa [State.hs, State.tr, ht, hh])

theorem State.Touch.housesKeep {s t : State} (h : s.Touch t) : s.HousesKeep t := by
  cases h with
  | aside ha => exact .of_eq ha.transports ha.houses
  | transport p x ha hr _ => exact s.housesKeep_setTr p x ha hr
  | motorStart p x hs ha =>
    exact (s.housesKeep_setTr p x (fun a h => .inl (ha ▸ h)) (fun hr => by simp [hs] at hr)).trans
      (.of_eq (State.endTrial_keeps ..).1 (State.endTrial_keeps ..).2.2.2.1)
  | @leaveRunning p x u hx ha => exact s.housesKeep_leaveRunning u p x hx ha
  | close p => exact .of_eq (s.closeCommand_keeps p).2.1 (s.closeCommand_keeps p).2.2.2.2.1
  | opens p => exact .of_eq (s.openCommand_keeps p).2.1 (s.openCommand_keeps p).2.2.2.2.1
  | douser p x => exact .of_eq rfl rfl
  | endTrial p o => exact .of_eq (s.endTrial_keeps p o).1 (s.endTrial_keeps p o).2.2.2.1
  | opened p x => exact .of_eq ((s.setDs p x).interlock_keeps p).2.1 ((s.setDs p x).interlock_keeps p).2.2.2.2.1
  | lamp p x => exact .of_eq rfl rfl
  | @lampOff p y x u b _ ha =>
    split
    · exact .of_eq (((u.setLp p x).closeCommand_keeps p).2.1.trans ha.transports)
        (((u.setLp p x).closeCommand_keeps p).2.2.2.2.1.trans ha.houses)
    · exact .of_eq ha.transports ha.houses
  | strike p x => exact .of_eq ((s.setLp p x).gatingWatch_keeps p).2.1 ((s.setLp p x).gatingWatch_keeps p).2.2.2.2.1
  | house h x hx => exact s.housesKeep_setHs h x hx.reels hx.gate hx.record
  | levels h l =>
    exact (s.housesKeep_setHs h { s.hs h with levels := l } id (.inl rfl) id).trans (.of_eq rfl rfl)
  | light h x => exact .of_eq rfl rfl
  | port n x => exact .of_eq rfl rfl
  | release n x p => exact .of_eq ((s.setPt n x).closeCommand_keeps p).2.1 ((s.setPt n x).closeCommand_keeps p).2.2.2.2.1
  | links f => exact .of_eq rfl rfl
  | booth x => exact .of_eq rfl rfl

/-! ## Light channels (R127 to R133) -/

/-- R99, R133: a light channel is lawful at its house's emergency level. -/
def State.lightLawful (s : State) (h : HouseId) : Prop := (s.lt h).Lawful (s.hs h).levels.emergency

theorem State.lightLawful.of_eq {s t : State} {h : HouseId} (hs : s.lightLawful h) (hl : t.lt h = s.lt h)
    (hh : (t.hs h).levels.emergency = (s.hs h).levels.emergency) : t.lightLawful h := by
  rwa [State.lightLawful, hl, hh]

theorem State.Touch.lightLawful {s t : State} (k : s.Touch t) (h : HouseId) (hs : s.lightLawful h) : t.lightLawful h := by
  have hsame {t : State} (hl : t.lights = s.lights) (hh : t.houses = s.houses) : t.lightLawful h :=
    hs.of_eq (by rw [State.lt, hl, State.lt]) (by rw [State.hs, hh, State.hs])
  cases k with
  | aside ha => exact hsame ha.lights ha.houses
  | transport p x => exact hsame rfl rfl
  | motorStart p x => exact hsame (State.endTrial_keeps ..).2.2.2.2.1 (State.endTrial_keeps ..).2.2.2.1
  | @leaveRunning p x u _ ha =>
    obtain ⟨y, hy, -, hlev, -⟩ := u.leaveRunning_cases p
    refine hs.of_eq ?_ ?_
    · rw [hy, State.setHs_lt]
      exact congrArg (fun b => b.cell h) ((u.gatingWatch_keeps p).2.2.2.2.2.1.trans ha.lights)
    · have hu : u.hs h = s.hs h := congrArg (fun b => b.cell h) ha.houses
      rw [hy, State.setHs_hs]
      split
      · rename_i hh
        rw [hlev, ← hh, hu]
      · rw [← hu]
        exact congrArg (fun b => (b.cell h).levels.emergency) (u.gatingWatch_keeps p).2.2.2.2.1
  | close p => exact hsame (s.closeCommand_keeps p).2.2.2.2.2.1 (s.closeCommand_keeps p).2.2.2.2.1
  | opens p => exact hsame (s.openCommand_keeps p).2.2.2.2.2.1 (s.openCommand_keeps p).2.2.2.2.1
  | douser p x => exact hsame rfl rfl
  | endTrial p o => exact hsame (s.endTrial_keeps p o).2.2.2.2.1 (s.endTrial_keeps p o).2.2.2.1
  | opened p x => exact hsame ((s.setDs p x).interlock_keeps p).2.2.2.2.2.1 ((s.setDs p x).interlock_keeps p).2.2.2.2.1
  | lamp p x => exact hsame rfl rfl
  | @lampOff p y x u b _ ha =>
    split
    · exact hsame (((u.setLp p x).closeCommand_keeps p).2.2.2.2.2.1.trans ha.lights)
        (((u.setLp p x).closeCommand_keeps p).2.2.2.2.1.trans ha.houses)
    · exact hsame ha.lights ha.houses
  | strike p x => exact hsame ((s.setLp p x).gatingWatch_keeps p).2.2.2.2.2.1 ((s.setLp p x).gatingWatch_keeps p).2.2.2.2.1
  | house g x hx =>
    refine hs.of_eq rfl ?_
    rw [State.setHs_hs]
    split
    · rename_i hh
      rw [hx.levels, hh]
    · rfl
  | levels g l =>
    rw [State.lightLawful, State.setLt_lt, State.setLt_hs, State.setHs_hs]
    split
    · rename_i hh
      exact (hh ▸ hs : (s.lt g).Lawful _).giveEmergency ..
    · exact hs
  | light g x hx =>
    rw [State.lightLawful, State.setLt_lt, State.setLt_hs]
    split
    · rename_i hh
      exact hx _ (hh ▸ hs)
    · exact hs
  | port n x => exact hsame rfl rfl
  | release n x p => exact hsame ((s.setPt n x).closeCommand_keeps p).2.2.2.2.2.1 ((s.setPt n x).closeCommand_keeps p).2.2.2.2.1
  | links f => exact hsame rfl rfl
  | booth x => exact hsame rfl rfl

/-! ## Ports and fire causes (R148) -/

/-- What a touch does to the ports and the causes: no port becomes covered, and a port becomes raised only where none covers
it. -/
structure State.PortsKeep (s t : State) : Prop where
  covers : ∀ n, t.booth.covers n = true → s.booth.covers n = true
  raised : ∀ n, (t.pt n).raised → (s.pt n).raised ∨ s.booth.covers n = false

theorem State.PortsKeep.of_eq {s t : State} (hp : t.ports = s.ports) (hb : t.booth = s.booth) : s.PortsKeep t where
  covers n h := by rwa [hb] at h
  raised n h := .inl (by rwa [State.pt, hp] at h)

theorem State.portsKeep_setPt (s : State) (n : PortId) (x : Port) (hx : x.raised → (s.pt n).raised ∨ s.booth.covers n = false) :
    s.PortsKeep (s.setPt n x) where
  covers m h := h
  raised m h := by
    rw [State.setPt_pt] at h
    split at h
    · rename_i hm
      exact hm ▸ hx h
    · exact .inl h

theorem State.PortsKeep.then {s u t : State} (k : s.PortsKeep u) (hp : t.ports = u.ports) (hb : t.booth = u.booth) :
    s.PortsKeep t where
  covers n h := k.covers n (by rwa [hb] at h)
  raised n h := k.raised n (by rwa [State.pt, hp] at h)

theorem State.Touch.portsKeep {s t : State} (k : s.Touch t) : s.PortsKeep t := by
  cases k with
  | aside ha => exact .of_eq ha.ports ha.booth
  | transport p x => exact .of_eq rfl rfl
  | motorStart p x => exact .of_eq (State.endTrial_keeps ..).2.2.2.2.2.1 (State.endTrial_keeps ..).2.2.2.2.2.2.1
  | @leaveRunning p x u _ ha =>
    obtain ⟨y, hy, -⟩ := u.leaveRunning_cases p
    have hp : (u.leaveRunning p).ports = u.ports := by rw [hy]; exact (u.gatingWatch_keeps p).2.2.2.2.2.2.1
    have hb : (u.leaveRunning p).booth = u.booth := by rw [hy]; exact (u.gatingWatch_keeps p).2.2.2.2.2.2.2.1
    exact .of_eq (hp.trans ha.ports) (hb.trans ha.booth)
  | close p => exact .of_eq (s.closeCommand_keeps p).2.2.2.2.2.2.1 (s.closeCommand_keeps p).2.2.2.2.2.2.2.1
  | opens p => exact .of_eq (s.openCommand_keeps p).2.2.2.2.2.2.1 (s.openCommand_keeps p).2.2.2.2.2.2.2.1
  | douser p x => exact .of_eq rfl rfl
  | endTrial p o => exact .of_eq (s.endTrial_keeps p o).2.2.2.2.2.1 (s.endTrial_keeps p o).2.2.2.2.2.2.1
  | opened p x =>
    exact .of_eq ((s.setDs p x).interlock_keeps p).2.2.2.2.2.2.1 ((s.setDs p x).interlock_keeps p).2.2.2.2.2.2.2.1
  | lamp p x => exact .of_eq rfl rfl
  | @lampOff p y x u b _ ha =>
    split
    · exact .of_eq (((u.setLp p x).closeCommand_keeps p).2.2.2.2.2.2.1.trans ha.ports)
        (((u.setLp p x).closeCommand_keeps p).2.2.2.2.2.2.2.1.trans ha.booth)
    · exact .of_eq ha.ports ha.booth
  | strike p x =>
    exact .of_eq ((s.setLp p x).gatingWatch_keeps p).2.2.2.2.2.2.1 ((s.setLp p x).gatingWatch_keeps p).2.2.2.2.2.2.2.1
  | house g x => exact .of_eq rfl rfl
  | levels g l => exact .of_eq rfl rfl
  | light g x => exact .of_eq rfl rfl
  | port n x hx => exact s.portsKeep_setPt n x hx
  | release n x p hx =>
    exact (s.portsKeep_setPt n x (fun h => absurd h hx)).then ((s.setPt n x).closeCommand_keeps p).2.2.2.2.2.2.1
      ((s.setPt n x).closeCommand_keeps p).2.2.2.2.2.2.2.1
  | links f hf =>
    refine ⟨fun n h => h, fun n h => .inl ?_⟩
    have hpt : State.pt { s with ports := s.ports.map f } n = f (s.pt n) := by simp [State.pt, Bank.cell]
    rw [hpt, Port.raised, hf] at h
    exact h
  | booth x hx => exact ⟨hx, fun n h => .inl h⟩

/-- R148: every port that an active cause covers is lowered, but perhaps those of a list: the ones that the activation in progress
has still to release. -/
def State.coveredDown (s : State) (l : List PortId) : Prop := ∀ n, s.booth.covers n = true → n ∉ l → ¬ (s.pt n).raised

theorem State.PortsKeep.coveredDown {s t : State} (k : s.PortsKeep t) {l : List PortId} (hs : s.coveredDown l) :
    t.coveredDown l := fun n hc hn hr =>
  (k.raised n hr).elim (hs n (k.covers n hc) hn) (fun h => by simp [k.covers n hc] at h)

theorem State.Moves.coveredDown {s t : State} (h : s.Moves t) {l : List PortId} (hs : s.coveredDown l) : t.coveredDown l := by
  induction h with
  | refl => exact hs
  | tail _ hstep ih => exact hstep.portsKeep.coveredDown ih

/-- R142: a released port is lowered. -/
theorem Rule.release_lowers (r : Rule) (seq : Nat) (n : PortId) : ¬ ((r.release seq n).st.pt n).raised := by
  have hclose (s : State) (q : Proj) (hs : ¬ (s.pt n).raised) : ¬ ((s.closeCommand q).pt n).raised := by
    rwa [State.pt, (s.closeCommand_keeps q).2.2.2.2.2.2.1]
  unfold Rule.release
  extract_lets p linked r1
  split
  · have h1 : ¬ (r1.st.pt n).raised := by
      unfold r1
      split <;> simp [Port.raised]
    split
    · split
      · exact hclose _ _ h1
      · exact h1
    · exact h1
  · rename_i h
    exact h

theorem Rule.releaseAll_coveredDown (r : Rule) (seq : Nat) (l : List PortId) (hr : r.st.coveredDown l) :
    (r.releaseAll seq l).st.coveredDown [] := by
  induction l generalizing r with
  | nil => exact hr
  | cons n rest ih =>
    refine ih _ (fun m hm hn => ?_)
    by_cases hmn : m = n
    · exact hmn ▸ r.release_lowers seq n
    · exact (r.moves_release seq n).coveredDown hr m hm (by simp [hmn, hn])

theorem Booth.mem_active_of_active (b : Booth) (cause : DropCause) (p : Option Proj) {c : DropCause × Option Proj}
    (h : c ∈ (b.setActive cause p true).active) : c ∈ b.active ∨ coverage c.1 c.2 [] = coverage cause p [] := by
  rw [Booth.mem_active] at h
  rw [Booth.mem_active]
  cases cause <;> cases p <;> simp only [Booth.setActive] at h <;> grind [Bank.cell_put, coverage]

/-- R148: a cause that becomes active covers its ports. -/
theorem Booth.covers_of_active (b : Booth) (cause : DropCause) (p : Option Proj) (n : PortId)
    (h : (b.setActive cause p true).covers n = true) : b.covers n = true ∨ n ∈ coverage cause p [] := by
  rw [Booth.covers_iff] at h ⊢
  obtain ⟨c, hc, hn⟩ := h
  rcases b.mem_active_of_active cause p hc with h | h
  · exact .inl ⟨c, h, hn⟩
  · exact .inr (h ▸ hn)

/-- R148: an activation releases the ports that it lists. -/
theorem Rule.activation_coveredDown (r : Rule) (cause : DropCause) (p : Option Proj) (l : List PortId) (hr : r.st.coveredDown l) :
    (r.activation cause p l).st.coveredDown [] := by
  have h1 := (r.st.moves_writeRecord cause p l).coveredDown hr
  have h2 := Rule.releaseAll_coveredDown (r.upd (fun s => s.writeRecord cause p l)) r.st.booth.nextSeq l h1
  refine (State.moves_stopTrials _ _).coveredDown ((State.moves_judgeSettled _ _).coveredDown ?_)
  split
  · exact (State.aside_report _ _ _).moves.coveredDown h2
  · exact h2

theorem Rule.fire_coveredDown (r : Rule) (cause : DropCause) (p : Option Proj) (hr : r.st.coveredDown []) :
    ((r.upd (fun s => s.setBooth (s.booth.setActive cause p true))).activation cause p (coverage cause p [])).st.coveredDown [] :=
  Rule.activation_coveredDown _ cause p _ (fun n hn hl =>
    hr n ((r.st.booth.covers_of_active cause p n hn).resolve_right hl) (by simp))

/-! ## From touches to commands -/

/-- A law that touches and the link keep, that a change of the booth-level state does not touch, and that power-on meets is kept by
every command. -/
theorem exec_keeps {I : State → Prop} (touch : ∀ s t, s.Touch t → I s → I t) (link : ∀ s x, I s → I (s.setLink x))
    (booth : ∀ s x, I s → I (s.setBooth x)) (powerOn : ∀ s i, I s → I (s.powerOn i)) {c : Instr} {s t : State}
    (h : exec c s = .next t) (hs : I s) : I t := by
  have hmoves {s t : State} (h : s.Moves t) (hs : I s) : I t := by
    induction h with
    | refl => exact hs
    | tail _ hstep ih => exact touch _ _ hstep ih
  refine (exec_acts h).kept (fun s t ht hs => ?_) hs
  cases ht with
  | touch ht => exact touch _ _ ht hs
  | relink hx => exact link _ _ hs
  | answer b x _ hu => exact link _ _ (hmoves hu (link _ _ hs))
  | sent _ hu => exact link _ _ (hmoves hu (link _ _ hs))
  | fire r cause p hr =>
    subst hr
    exact hmoves (Rule.moves_activation _ cause p _) (booth _ _ hs)
  | powerOn i => exact powerOn _ i hs

theorem State.Act.coveredDown {s t : State} (h : s.Act t) (hs : s.coveredDown []) : t.coveredDown [] := by
  cases h with
  | touch ht => exact ht.portsKeep.coveredDown hs
  | relink x => exact hs
  | answer b x _ hu => exact hu.coveredDown hs
  | sent _ hu => exact hu.coveredDown hs
  | fire r cause p hr =>
    subst hr
    exact r.fire_coveredDown cause p hs
  | powerOn i =>
    intro n _ _
    simp [State.powerOn, State.pt, Bank.cell, Port.powerOn, Port.raised]

/-- Settles O50: touches cover no port and raise none that is covered, and an activation releases what it covers. -/
theorem coveredPortsStayDown : Obligations.CoveredPortsStayDown := by
  intro c s t hs h n hn
  have hdown : t.coveredDown [] := (exec_acts h).kept (fun _ _ => State.Act.coveredDown)
    (fun n hn _ hr => hr.elim (hs n hn).1 (hs n hn).2)
  exact not_or.mp (hdown n hn (by simp))

/-! ## Power-on -/

@[simp] theorem State.powerOn_tr (s : State) (i : FieldInputs) (p : Proj) : (s.powerOn i).tr p = Transport.powerOn := by
  simp [State.powerOn, State.tr, Bank.cell]

@[simp] theorem State.powerOn_ds (s : State) (i : FieldInputs) (p : Proj) :
    (s.powerOn i).ds p = Douser.powerOn (i.dousers.cell p) s.now := by
  simp [State.powerOn, State.ds, Bank.cell]

@[simp] theorem State.powerOn_lp (s : State) (i : FieldInputs) (p : Proj) : (s.powerOn i).lp p = Lamp.powerOn := by
  simp [State.powerOn, State.lp, Bank.cell]

@[simp] theorem State.powerOn_hs (s : State) (i : FieldInputs) (h : HouseId) : (s.powerOn i).hs h = House.powerOn := by
  simp [State.powerOn, State.hs, Bank.cell]

@[simp] theorem State.powerOn_lt (s : State) (i : FieldInputs) (h : HouseId) : (s.powerOn i).lt h = Light.powerOn := by
  simp [State.powerOn, State.lt, Bank.cell]

/-- R48: a douser that takes its state from its switches is CLOSED or CLOSING. -/
theorem Douser.fromSwitches_shut (d : Douser) (sw : SwitchPair) (now : Instant) : ¬ (d.fromSwitches sw now).agape := by
  simp only [Douser.agape, Douser.fromSwitches, douserFrom]
  (repeat' split) <;> simp

theorem Douser.powerOn_shut (sw : SwitchPair) (now : Instant) : ¬ (Douser.powerOn sw now).agape :=
  Douser.fromSwitches_shut _ sw now

/-! ## The obligations -/

/-- Settles O17, by the laws of one OPEN douser and of the sound gate, touch by touch. -/
theorem oneOpenDouserAndSoundLawsAreKept : Obligations.OneOpenDouserAndSoundLawsAreKept := by
  refine ⟨fun c s t hs h => ?_, fun c s t hs h => ?_⟩
  · exact exec_keeps (I := State.oneOpen) (fun _ _ => State.Touch.oneOpen) (fun _ _ => id) (fun _ _ => id)
      (fun s i _ p hp => Douser.powerOn_shut _ _ (.inl (by simpa using hp.1))) h hs
  · exact exec_keeps (I := fun s => ∀ p, (s.hs (houseOf p)).gate = .side (sideOf p) → (s.tr p).state = .running)
      (fun _ _ ht hs p => ht.housesKeep.gate p (hs p)) (fun _ _ => id) (fun _ _ => id)
      (fun s i _ p hp => by simp [House.powerOn] at hp) h hs

/-- Settles O27: a lamp's phase and account, touch by touch; the debit that takes an account to the stub limit stops the lamp in
the same rule. -/
theorem stubAndPhaseLawsAreKept : Obligations.StubAndPhaseLawsAreKept := by
  refine ⟨fun c s t hs h => ?_, fun c s t hp hs h => ?_⟩
  · exact exec_keeps (I := fun s => ∀ p, (s.lp p).phased) (fun _ _ ht hs p => ht.phased p (hs p)) (fun _ _ => id)
      (fun _ _ => id) (fun s i _ p => by simp [Lamp.powerOn]) h hs
  · exact fun p => (exec_keeps (I := fun s => ∀ p, (s.lp p).phased ∧ s.aboveStub p)
      (fun _ _ ht hs p => ⟨ht.phased p (hs p).1, ht.aboveStub p (hs p).1 (hs p).2⟩) (fun _ _ => id)
      (fun _ _ => id) (fun s i _ p => by simp [Lamp.powerOn, State.aboveStub]) h (fun p => ⟨hp p, hs p⟩) p).2

/-- Settles O16: the gating law and the laws of a show's records, touch by touch. -/
theorem gatingAndShowLawsAreKept : Obligations.GatingAndShowLawsAreKept := by
  refine ⟨fun c s t hp hs h => ?_, fun c s t hs h => ?_, fun c s t hs h => ?_, fun c s t hs h => ?_, fun c s t hs h => ?_⟩
  · exact fun p => (exec_keeps (I := fun s => ∀ p, (s.lp p).phased ∧ s.gatedAt p)
      (fun _ _ ht hs p => ⟨ht.phased p (hs p).1, ht.gatedAt (fun q => (hs q).1) (fun q => (hs q).2) p⟩) (fun _ _ => id)
      (fun _ _ => id) (fun s i _ p => ⟨by simp [Lamp.powerOn], fun ha => absurd (by simpa using ha)
        (Douser.powerOn_shut _ _)⟩) h (fun p => ⟨hp p, hs p⟩) p).2
  · exact exec_keeps (I := fun s => ∀ h, s.recordInShow h) (fun _ _ ht hs h => ht.housesKeep.record h (hs h)) (fun _ _ => id)
      (fun _ _ => id) (fun s i _ h => by simp [State.recordInShow, House.powerOn]) h hs
  · exact exec_keeps (I := fun s => ∀ h, s.distinctReels h) (fun _ _ ht hs h => ht.housesKeep.reels h (hs h)) (fun _ _ => id)
      (fun _ _ => id) (fun s i _ h => by simp [State.distinctReels, House.powerOn]) h hs
  · exact exec_keeps (I := fun s => ∀ p, s.armedAtHome p)
      (fun _ _ ht hs p a ha => (ht.housesKeep.armed p a ha).elim (hs p a) id) (fun _ _ => id)
      (fun _ _ => id) (fun s i _ p => by simp [State.armedAtHome, Transport.powerOn]) h hs
  · exact exec_keeps (I := fun s => ∀ p, s.timesLearned p) (fun _ _ ht hs => ht.timesLearned hs) (fun _ _ => id)
      (fun _ _ => id) (fun s i _ p => by simp [State.timesLearned, Douser.powerOn, Douser.fromSwitches]) h hs

/-- Settles O43: the laws of a light channel, touch by touch. -/
theorem lightLawsAreKept : Obligations.LightLawsAreKept := by
  intro c s t hs h g
  have hlaw := exec_keeps (I := fun s => ∀ h, s.lightLawful h) (fun _ _ ht hs h => ht.lightLawful h (hs h)) (fun _ _ => id)
    (fun _ _ => id) (fun s i _ h => by
      simp only [State.lightLawful, State.powerOn_lt, State.powerOn_hs]
      exact ⟨rfl, rfl, nofun, nofun⟩) h (fun h => ⟨(hs h).1, (hs h).2.1, (hs h).2.2.1, (hs h).2.2.2⟩) g
  exact ⟨hlaw.drive, hlaw.target, hlaw.fade, hlaw.safety⟩

/-! ## The link (R160 to R165) and the queue of commands -/

/-- What the rules of the blocks do to the link: reports join or are lost, the queue may be emptied, and an IDLE transmitter begins
to send. -/
structure Link.Fed (l m : Link) : Prop where
  queue : l.queue.length ≤ 24 → m.queue.length ≤ 24
  buffer : m.buffer = l.buffer
  slot : m.slot = l.slot
  idle : m.transmitter = .idle → l.transmitter = .idle ∧ (l.queue = [] → m.queue = [])
  reply : m.transmitter = .reply → l.transmitter = .reply

theorem Link.Fed.refl (l : Link) : l.Fed l := ⟨id, rfl, rfl, fun h => ⟨h, id⟩, id⟩

theorem Link.Fed.trans {l m n : Link} (h : l.Fed m) (k : m.Fed n) : l.Fed n where
  queue hl := k.queue (h.queue hl)
  buffer := k.buffer.trans h.buffer
  slot := k.slot.trans h.slot
  idle hi := ⟨(h.idle (k.idle hi).1).1, fun hq => (k.idle hi).2 ((h.idle (k.idle hi).1).2 hq)⟩
  reply hr := h.reply (k.reply hr)

/-- R165: a report that is sent leaves a transmitter that sends it. -/
theorem Link.sendHead_keeps (l : Link) (hl : l.queue ≠ []) : l.sendHead.queue.length ≤ l.queue.length ∧
    l.sendHead.buffer = l.buffer ∧ l.sendHead.slot = l.slot ∧ l.sendHead.transmitter ≠ .idle ∧ l.sendHead.transmitter ≠ .reply := by
  unfold Link.sendHead
  split
  · rename_i h
    exact absurd h hl
  · rename_i x rest h
    split <;> simp [h]

theorem Link.enqueue_fed (l : Link) (n : Nat) (b : ReportBody) : l.Fed (l.enqueue n b) := by
  unfold Link.enqueue
  split
  · rename_i hroom
    dsimp only
    split
    · obtain ⟨hq, hb, hs, hi, hr⟩ := Link.sendHead_keeps { l with queue := l.queue ++ [⟨n, l.clock, b⟩] } (by simp)
      refine ⟨fun _ => hq.trans ?_, hb, hs, fun h => absurd h hi, fun h => absurd h hr⟩
      simp [reportCapacity] at hroom ⊢
      omega
    · rename_i hni
      refine ⟨fun _ => ?_, rfl, rfl, fun h => absurd h hni, id⟩
      simp [reportCapacity] at hroom ⊢
      omega
  · exact ⟨id, rfl, rfl, fun h => ⟨h, id⟩, id⟩

theorem Link.Touch.fed {l m : Link} (h : l.Touch m) : l.Fed m := by
  cases h with
  | report n b => exact l.enqueue_fed n b
  | restart =>
    have hempty : l.Fed { l with queue := [], lost := none } :=
      ⟨fun _ => Nat.zero_le _, rfl, rfl, fun h => ⟨h, fun _ => rfl⟩, id⟩
    exact hempty.trans (Link.enqueue_fed _ 0 _)
  | clock c t => exact ⟨id, rfl, rfl, fun h => ⟨h, id⟩, id⟩

theorem State.Aside.fed {s u : State} (h : s.Aside u) : s.link.Fed u.link := by
  have hl := h.link
  generalize u.link = m at hl
  induction hl with
  | refl => exact .refl _
  | tail _ hstep ih => exact ih.trans hstep.fed

theorem State.report_fed (s : State) (n : Nat) (b : ReportBody) : s.link.Fed (s.report n b).link := s.link.enqueue_fed n b

theorem State.endTrial_fed (s : State) (p : Proj) (o : TrialOutcome) : s.link.Fed (s.endTrial p o).link := by
  rcases s.endTrial_cases p o with ⟨-, h⟩ | ⟨n, b, h⟩ <;> rw [h]
  · exact .refl _
  · rw [(State.gatingWatch_keeps _ p).1]
    exact s.link.enqueue_fed n b

theorem State.endTrial_pending (s : State) (p : Proj) (o : TrialOutcome) : (s.endTrial p o).pending = s.pending :=
  (s.endTrial_keeps p o).2.2.2.2.2.2.2.2.2

theorem State.leaveRunning_outside (s : State) (p : Proj) :
    (s.leaveRunning p).link = s.link ∧ (s.leaveRunning p).pending = s.pending := by
  obtain ⟨y, hy, -⟩ := s.leaveRunning_cases p
  obtain ⟨hl, -, -, -, -, -, -, -, -, -, hp⟩ := s.gatingWatch_keeps p
  rw [hy]
  exact ⟨hl, hp⟩

/-- Log entry 12: a touch feeds the link, and changes nothing of the queue of commands. -/
theorem State.Touch.outside {s t : State} (h : s.Touch t) : s.link.Fed t.link ∧ t.pending = s.pending := by
  have hsame {t : State} (hl : t.link = s.link) (hp : t.pending = s.pending) : s.link.Fed t.link ∧ t.pending = s.pending :=
    ⟨by rw [hl]; exact .refl _, hp⟩
  have hclose (u : State) (p : Proj) (hu : s.link.Fed u.link ∧ u.pending = s.pending) :
      s.link.Fed (u.closeCommand p).link ∧ (u.closeCommand p).pending = s.pending := by
    obtain ⟨hl, -, -, -, -, -, -, -, -, -, hp⟩ := u.closeCommand_keeps p
    rw [hl, hp]
    exact hu
  cases h with
  | aside ha => exact ⟨ha.fed, ha.pending⟩
  | transport p x => exact hsame rfl rfl
  | motorStart p x => exact ⟨(s.setTr p x).endTrial_fed p .motor, (s.setTr p x).endTrial_pending p .motor⟩
  | @leaveRunning p x u _ ha =>
    obtain ⟨hl, hp⟩ := u.leaveRunning_outside p
    rw [hl, hp]
    exact ⟨ha.fed, ha.pending⟩
  | close p => exact hclose s p (hsame rfl rfl)
  | opens p =>
    obtain ⟨hl, -, -, -, -, -, -, -, -, -, hp⟩ := s.openCommand_keeps p
    exact hsame hl hp
  | douser p x => exact hsame rfl rfl
  | endTrial p o => exact ⟨s.endTrial_fed p o, s.endTrial_pending p o⟩
  | opened p x =>
    obtain ⟨hl, -, -, -, -, -, -, -, -, -, hp⟩ := (s.setDs p x).interlock_keeps p
    exact hsame hl hp
  | lamp p x => exact hsame rfl rfl
  | @lampOff p y x u b _ ha =>
    split
    · exact hclose _ p ⟨ha.fed, ha.pending⟩
    · exact ⟨ha.fed, ha.pending⟩
  | strike p x =>
    obtain ⟨hl, -, -, -, -, -, -, -, -, -, hp⟩ := (s.setLp p x).gatingWatch_keeps p
    exact hsame hl hp
  | house g x => exact hsame rfl rfl
  | levels g l => exact hsame rfl rfl
  | light g x => exact hsame rfl rfl
  | port n x => exact hsame rfl rfl
  | release n x p => exact hclose _ p (hsame rfl rfl)
  | links f => exact hsame rfl rfl
  | booth x => exact hsame rfl rfl

/-- Settles O2: the queue stands aside from every touch. -/
theorem queueIsTakenFromTheFrontOnly : Obligations.QueueIsTakenFromTheFrontOnly := by
  refine ⟨fun s hs => by simp [step, hs], fun c s t h => ?_⟩
  exact exec_keeps (I := fun t => t.pending = s.pending) (fun _ _ ht hs => ht.outside.2.trans hs) (fun _ _ => id)
    (fun _ _ => id) (fun _ _ => id) h rfl

/-- R161 to R165: the laws of the link. -/
structure Link.Lawful (l : Link) : Prop where
  queue : l.queue.length ≤ 24
  buffer : l.buffer.length ≤ 2
  waits : l.slot = none → l.buffer = []
  idle : l.transmitter = .idle → l.slot = none ∧ l.queue = []
  reply : l.transmitter = .reply → l.slot ≠ none

theorem Link.Fed.lawful {l m : Link} (h : l.Fed m) (hl : l.Lawful) : m.Lawful where
  queue := h.queue hl.queue
  buffer := by rw [h.buffer]; exact hl.buffer
  waits := by rw [h.buffer, h.slot]; exact hl.waits
  idle hi := ⟨by rw [h.slot]; exact (hl.idle (h.idle hi).1).1, (h.idle hi).2 (hl.idle (h.idle hi).1).2⟩
  reply hr := by rw [h.slot]; exact hl.reply (h.reply hr)

theorem State.Moves.fed {s t : State} (h : s.Moves t) : s.link.Fed t.link := by
  induction h with
  | refl => exact .refl _
  | tail _ hstep ih => exact ih.trans hstep.outside.1

/-- R165: whatever the transmitter was at, its choice is lawful. -/
theorem Link.choose_lawful (l : Link) (hq : l.queue.length ≤ 24) (hb : l.buffer.length ≤ 2) (hw : l.slot = none → l.buffer = []) :
    l.choose.Lawful := by
  unfold Link.choose
  split
  · rename_i hs
    exact ⟨hq, hb, hw, nofun, fun _ hn => nomatch (hn ▸ hs : (none : Option Reply).isSome = true)⟩
  · rename_i hs
    have hslot : l.slot = none := by simpa using hs
    split
    · rename_i hempty
      exact ⟨hq, hb, hw, fun _ => ⟨hslot, hempty⟩, nofun⟩
    · rename_i hcons
      obtain ⟨h1, h2, h3, h4, h5⟩ := l.sendHead_keeps (by simp [hcons])
      exact ⟨h1.trans hq, by rwa [h2], by rwa [h2, h3], fun h => absurd h h4, fun h => absurd h h5⟩

theorem Link.Act.lawful {l m : Link} (h : l.Act m) (hl : l.Lawful) : m.Lawful := by
  cases h with
  | receive x => exact ⟨hl.queue, hl.buffer, hl.waits, hl.idle, hl.reply⟩
  | lineError f =>
    exact ⟨by simpa using hl.queue, hl.buffer, hl.waits, fun h => by simpa using hl.idle h, hl.reply⟩
  | join d hbusy hroom =>
    refine ⟨hl.queue, by simp [bufferCapacity] at hroom ⊢; omega, fun hs => ?_, hl.idle, hl.reply⟩
    exact absurd ⟨hl.waits hs, hs⟩ hbusy
  | choose => exact l.choose_lawful hl.queue hl.buffer hl.waits
  | sendHead hne =>
    obtain ⟨h1, h2, h3, h4, h5⟩ := l.sendHead_keeps hne
    exact ⟨h1.trans hl.queue, by rw [h2]; exact hl.buffer, by rw [h2, h3]; exact hl.waits, fun h => absurd h h4, fun h => absurd h h5⟩

theorem State.Act.linkLawful {s t : State} (h : s.Act t) (hs : s.link.Lawful) : t.link.Lawful := by
  cases h with
  | touch ht => exact ht.outside.1.lawful hs
  | relink hx => exact hx.lawful hs
  | @answer b x u hb hu =>
    have hfed := hu.fed
    have hlen : b.length ≤ 2 := hb.trans hs.buffer
    have hbuf : u.link.buffer = b := hfed.buffer
    refine ⟨hfed.queue hs.queue, by simpa [hbuf] using hlen, nofun, fun hi => ?_, fun _ => nofun⟩
    have hidle := (hfed.idle hi).1
    simp only [Link.deciding, State.setLink_link] at hidle
    split at hidle
    · cases hidle
    · rename_i hn
      exact absurd hidle hn
  | @sent u hb hu =>
    have hfed := hu.fed
    have hbuf : u.link.buffer = [] := hfed.buffer.trans hb
    exact u.link.choose_lawful (hfed.queue hs.queue) (by simp [hbuf]) (fun _ => hbuf)
  | fire r cause p hr =>
    subst hr
    exact (State.Moves.fed (Rule.moves_activation (r.upd (fun s => s.setBooth (s.booth.setActive cause p true))) cause p
      (coverage cause p []))).lawful hs
  | powerOn i => exact ⟨Nat.zero_le _, Nat.zero_le _, fun _ => rfl, nofun, nofun⟩

/-- Settles O57: what the rules feed to the link keeps its laws, and so does each act of the link itself. -/
theorem linkLawsAreKept : Obligations.LinkLawsAreKept := by
  intro c s t ⟨hq, hb, hw, hi, hr⟩ h
  have hlaw := (exec_acts h).kept (I := fun s => s.link.Lawful) (fun _ _ => State.Act.linkLawful) ⟨hq, hb, hw, hi, hr⟩
  exact ⟨hlaw.queue, hlaw.buffer, hlaw.waits, hlaw.idle, hlaw.reply⟩

end Sys2Proof.Machine
end

section
/-! PROOFS. The spelling of requests on the serial line: a request is read back from its record, and a record that is read is its
request's. -/

namespace Sys2Proof

/-! ## Words, flags and codes -/

/-- R170: the number of a high and a low part. -/
theorem toNat_wordOf (a b : Byte) : (wordOf a b).toNat = a.toNat * 256 + b.toNat := by
  rw [wordOf, BitVec.toNat_append, ← Nat.shiftLeft_add_eq_or_of_lt b.isLt, Nat.shiftLeft_eq]

theorem toNat_tripleOf (a b c : Byte) : (tripleOf a b c).toNat = (a.toNat * 256 + b.toNat) * 256 + c.toNat := by
  rw [tripleOf, BitVec.toNat_append, ← Nat.shiftLeft_add_eq_or_of_lt c.isLt, Nat.shiftLeft_eq]
  exact congrArg (fun n => n * 256 + c.toNat) (toNat_wordOf a b)

theorem toNat_extractByte {w : Nat} (x : BitVec w) (n : Nat) : (x.extractLsb' n 8).toNat = x.toNat / 2 ^ n % 256 := by
  rw [BitVec.extractLsb'_toNat, Nat.shiftRight_eq_div_pow]

theorem wordBytes_wordOf (a b : Byte) : wordBytes (wordOf a b) = [a, b] := by
  have ha := a.isLt
  have hb := b.isLt
  have hhi : (wordOf a b).extractLsb' 8 8 = a := by
    apply BitVec.eq_of_toNat_eq
    rw [toNat_extractByte, toNat_wordOf]
    omega
  have hlo : (wordOf a b).extractLsb' 0 8 = b := by
    apply BitVec.eq_of_toNat_eq
    rw [toNat_extractByte, toNat_wordOf]
    omega
  rw [wordBytes, hhi, hlo]

theorem tripleOf_bytes (w : BitVec 24) : tripleOf (w.extractLsb' 16 8) (w.extractLsb' 8 8) (w.extractLsb' 0 8) = w := by
  have hw := w.isLt
  apply BitVec.eq_of_toNat_eq
  rw [toNat_tripleOf, toNat_extractByte, toNat_extractByte, toNat_extractByte]
  omega

theorem tripleBytes_tripleOf (a b c : Byte) : tripleBytes (tripleOf a b c) = [a, b, c] := by
  have ha := a.isLt
  have hb := b.isLt
  have hc := c.isLt
  have hbyte (n : Nat) (x : Byte) (h : ((a.toNat * 256 + b.toNat) * 256 + c.toNat) / 2 ^ n % 256 = x.toNat) :
      (tripleOf a b c).extractLsb' n 8 = x := by
    apply BitVec.eq_of_toNat_eq
    rw [toNat_extractByte, toNat_tripleOf, h]
  rw [tripleBytes, hbyte 16 a (by omega), hbyte 8 b (by omega), hbyte 0 c (by omega)]

theorem flagOf_flagByte (b : Bool) : flagOf (flagByte b) = some b := by
  cases b <;> decide

theorem flagByte_of_flagOf {b : Byte} {x : Bool} (h : flagOf b = some x) : flagByte x = b := by
  unfold flagOf at h
  split_ifs at h <;> cases h <;> simp_all [flagByte]

theorem triggerOfCode_code (t : TriggerCode) : triggerOfCode (codeOfTrigger t) = some t := by
  cases t <;> decide

theorem code_of_triggerOfCode {b : Byte} {t : TriggerCode} (h : triggerOfCode b = some t) : codeOfTrigger t = b := by
  unfold triggerOfCode at h
  split_ifs at h <;> cases h <;> simp_all [codeOfTrigger]

theorem formOfCode_code (f : DropForm) : formOfCode (codeOfForm f) = some f := by
  cases f <;> decide

theorem code_of_formOfCode {b : Byte} {f : DropForm} (h : formOfCode b = some f) : codeOfForm f = b := by
  unfold formOfCode at h
  split_ifs at h <;> cases h <;> simp_all [codeOfForm]

theorem subjectOfCode_code (x : StatusSubject) : subjectOfCode (codeOfSubject x) = some x := by
  cases x <;> decide

theorem code_of_subjectOfCode {b : Byte} {x : StatusSubject} (h : subjectOfCode b = some x) : codeOfSubject x = b := by
  unfold subjectOfCode at h
  split_ifs at h <;> cases h <;> simp_all [codeOfSubject]

/-! ## The reel entry -/

theorem parseCues_bytes (cues : List CueSpec) : parseCues cues.length (cues.flatMap cueBytes) = some cues := by
  induction cues with
  | nil => rfl
  | cons c rest ih =>
    simp [cueBytes, wordBytes, parseCues, triggerOfCode_code, ih, Machine.wordOf_bytes]

theorem bytes_of_parseCues {n : Nat} {l : List Byte} {cues : List CueSpec} (h : parseCues n l = some cues) :
    cues.length = n ∧ cues.flatMap cueBytes = l := by
  induction n generalizing l cues with
  | zero =>
    cases l with
    | nil =>
      obtain rfl : [] = cues := by simpa [parseCues] using h
      exact ⟨rfl, rfl⟩
    | cons => simp [parseCues] at h
  | succ n ih =>
    unfold parseCues at h
    split at h
    case h_1 heq => omega
    case h_2 => cases h
    case h_3 m t f1 f0 g1 g0 d1 d0 rest heq =>
      obtain rfl : n = m := by omega
      split at h
      · rename_i htrigger hrest
        obtain rfl := Option.some.inj h
        obtain ⟨hlen, hbytes⟩ := ih hrest
        simp [hlen, cueBytes, code_of_triggerOfCode htrigger, wordBytes_wordOf, hbytes]
      · cases h
    case h_4 => cases h

theorem parseEntry_bytes (e : ReelSpec) (he : e.cues.length ≤ 4) : parseEntry (entryBytes e) = some e := by
  have hcount : (BitVec.ofNat 8 e.cues.length).toNat = e.cues.length := by
    rw [BitVec.toNat_ofNat]
    exact Nat.mod_eq_of_lt (by omega)
  simp [entryBytes, wordBytes, parseEntry, hcount, he, flagOf_flagByte, parseCues_bytes, Machine.wordOf_bytes]

theorem bytes_of_parseEntry {l : List Byte} {e : ReelSpec} (h : parseEntry l = some e) :
    entryBytes e = l ∧ e.cues.length ≤ 4 := by
  unfold parseEntry at h
  split at h
  · split at h
    · rename_i count _ hcount
      split at h
      · rename_i hflag hcues
        obtain rfl := Option.some.inj h
        obtain ⟨hlen, hbytes⟩ := bytes_of_parseCues hcues
        refine ⟨?_, hlen.trans_le hcount⟩
        simp [entryBytes, wordBytes_wordOf, flagByte_of_flagOf hflag, hlen, hbytes]
      · cases h
    · cases h
  · cases h

/-! ## Requests -/

theorem parseRequest_recordOf (q : Request) (hq : q.wf = true) : parseRequest (recordOf q) = some q := by
  cases q with
  | setArc p i v auto =>
    change parseSetArc ([p, i] ++ wordBytes v ++ [flagByte auto]) = _
    simp [parseSetArc, wordBytes, flagOf_flagByte, Machine.wordOf_bytes]
  | loadCarbon p length =>
    change byteWord .loadCarbon (p :: wordBytes length) = _
    simp [byteWord, wordBytes, Machine.wordOf_bytes]
  | addReel h e =>
    change parseAddReel (h :: entryBytes e) = _
    simp [parseAddReel, parseEntry_bytes e (by simpa [Request.wf] using hq)]
  | armReel p reel frame =>
    cases frame with
    | none => rfl
    | some w =>
      change parseArmReel ([p, reel] ++ wordBytes w) = _
      simp [parseArmReel, wordBytes, Machine.wordOf_bytes]
  | setHouseLevels h a b c d =>
    change parseLevels (h :: (wordBytes a ++ wordBytes b ++ wordBytes c ++ wordBytes d)) = _
    simp [parseLevels, wordBytes, Machine.wordOf_bytes]
  | lightsSet h target fade =>
    change parseLightsSet (h :: (wordBytes target ++ wordBytes fade)) = _
    simp [parseLightsSet, wordBytes, Machine.wordOf_bytes]
  | lightsRelease h fade =>
    change byteWord .lightsRelease (h :: wordBytes fade) = _
    simp [byteWord, wordBytes, Machine.wordOf_bytes]
  | dropTest form n =>
    change parseDropTest [codeOfForm form, n] = _
    simp [parseDropTest, formOfCode_code]
  | status subject n first =>
    change parseStatus [codeOfSubject subject, n, first] = _
    simp [parseStatus, subjectOfCode_code]
  | readLog seq =>
    change parseReadLog (wordBytes seq) = _
    simp [parseReadLog, wordBytes, Machine.wordOf_bytes]
  | setClock time =>
    change parseSetClock (tripleBytes time) = _
    simp [parseSetClock, tripleBytes, tripleOf_bytes]
  | runMotor | stopMotor | setSpeed | setCueSense | cueClear | douserTrial | strike | extinguish | clearProgram | unarm | start
  | hold | changeNow | clearSafety | armPort | clearEmergency | restart => rfl

/-- R162: what it is that request `q` is spelled by kind `k` and payload `l`. -/
structure Request.Spells (q : Request) (k : Nat) (l : List Byte) : Prop where
  kind : q.kind.toNat = k
  payload : q.payload = l
  wf : q.wf = true

theorem spells_of_one {f : Byte → Request} {k : Nat} {l : List Byte} {q : Request} (h : one f l = some q)
    (hf : ∀ a, (f a).Spells k [a]) : q.Spells k l := by
  unfold one at h
  split at h
  · exact Option.some.inj h ▸ hf _
  · cases h

theorem spells_of_byteWord {f : Byte → BitVec 16 → Request} {k : Nat} {l : List Byte} {q : Request}
    (h : byteWord f l = some q) (hf : ∀ a w, (f a w).Spells k (a :: wordBytes w)) : q.Spells k l := by
  unfold byteWord at h
  split at h
  · rename_i a w1 w0
    have := hf a (wordOf w1 w0)
    rw [wordBytes_wordOf] at this
    exact Option.some.inj h ▸ this
  · cases h

theorem spells_of_bare {p : Request} {k : Nat} (hp : p.Spells k []) {l : List Byte} {q : Request}
    (h : bare p l = some q) : q.Spells k l := by
  cases l with
  | nil => exact Option.some.inj h ▸ hp
  | cons => cases h

theorem spells_of_parseSetSpeed {l : List Byte} {q : Request} (h : parseSetSpeed l = some q) : q.Spells 18 l := by
  unfold parseSetSpeed at h
  split at h
  · exact Option.some.inj h ▸ ⟨rfl, rfl, rfl⟩
  · cases h

theorem spells_of_parseSetCueSense {l : List Byte} {q : Request} (h : parseSetCueSense l = some q) : q.Spells 19 l := by
  unfold parseSetCueSense at h
  split at h
  · exact Option.some.inj h ▸ ⟨rfl, rfl, rfl⟩
  · cases h

theorem spells_of_parseSetArc {l : List Byte} {q : Request} (h : parseSetArc l = some q) : q.Spells 24 l := by
  unfold parseSetArc at h
  split at h
  · obtain ⟨auto, hflag, rfl⟩ := Option.map_eq_some_iff.mp h
    exact ⟨rfl, by simp [Request.payload, wordBytes_wordOf, flagByte_of_flagOf hflag], rfl⟩
  · cases h

theorem spells_of_parseAddReel {l : List Byte} {q : Request} (h : parseAddReel l = some q) : q.Spells 27 l := by
  unfold parseAddReel at h
  split at h
  · obtain ⟨e, he, rfl⟩ := Option.map_eq_some_iff.mp h
    obtain ⟨hbytes, hcues⟩ := bytes_of_parseEntry he
    exact ⟨rfl, by simp [Request.payload, hbytes], by simpa [Request.wf] using hcues⟩
  · cases h

theorem spells_of_parseArmReel {l : List Byte} {q : Request} (h : parseArmReel l = some q) : q.Spells 28 l := by
  unfold parseArmReel at h
  split at h
  · exact Option.some.inj h ▸ ⟨rfl, rfl, rfl⟩
  · obtain rfl := Option.some.inj h
    exact ⟨rfl, by simp [Request.payload, wordBytes_wordOf], rfl⟩
  · cases h

theorem spells_of_parseLevels {l : List Byte} {q : Request} (h : parseLevels l = some q) : q.Spells 33 l := by
  unfold parseLevels at h
  split at h
  · obtain rfl := Option.some.inj h
    exact ⟨rfl, by simp [Request.payload, wordBytes_wordOf], rfl⟩
  · cases h

theorem spells_of_parseLightsSet {l : List Byte} {q : Request} (h : parseLightsSet l = some q) : q.Spells 34 l := by
  unfold parseLightsSet at h
  split at h
  · obtain rfl := Option.some.inj h
    exact ⟨rfl, by simp [Request.payload, wordBytes_wordOf], rfl⟩
  · cases h

theorem spells_of_parseDropTest {l : List Byte} {q : Request} (h : parseDropTest l = some q) : q.Spells 38 l := by
  unfold parseDropTest at h
  split at h
  · obtain ⟨f, hf, rfl⟩ := Option.map_eq_some_iff.mp h
    exact ⟨rfl, by simp [Request.payload, code_of_formOfCode hf], rfl⟩
  · cases h

theorem spells_of_parseStatus {l : List Byte} {q : Request} (h : parseStatus l = some q) : q.Spells 40 l := by
  unfold parseStatus at h
  split at h
  · obtain ⟨x, hx, rfl⟩ := Option.map_eq_some_iff.mp h
    exact ⟨rfl, by simp [Request.payload, code_of_subjectOfCode hx], rfl⟩
  · cases h

theorem spells_of_parseReadLog {l : List Byte} {q : Request} (h : parseReadLog l = some q) : q.Spells 41 l := by
  unfold parseReadLog at h
  split at h
  · obtain rfl := Option.some.inj h
    exact ⟨rfl, wordBytes_wordOf _ _, rfl⟩
  · cases h

theorem spells_of_parseSetClock {l : List Byte} {q : Request} (h : parseSetClock l = some q) : q.Spells 42 l := by
  unfold parseSetClock at h
  split at h
  · obtain rfl := Option.some.inj h
    exact ⟨rfl, tripleBytes_tripleOf _ _ _, rfl⟩
  · cases h

theorem spells_of_parseRequest {r : Record} {q : Request} (h : parseRequest r = some q) : q.Spells r.kind.toNat r.payload := by
  unfold parseRequest at h
  split at h
  all_goals rename_i hk
  case h_3 => exact hk ▸ spells_of_parseSetSpeed h
  case h_4 => exact hk ▸ spells_of_parseSetCueSense h
  case h_9 => exact hk ▸ spells_of_parseSetArc h
  case h_10 => exact hk ▸ spells_of_byteWord h (fun _ _ => ⟨rfl, rfl, rfl⟩)
  case h_12 => exact hk ▸ spells_of_parseAddReel h
  case h_13 => exact hk ▸ spells_of_parseArmReel h
  case h_18 => exact hk ▸ spells_of_parseLevels h
  case h_19 => exact hk ▸ spells_of_parseLightsSet h
  case h_20 => exact hk ▸ spells_of_byteWord h (fun _ _ => ⟨rfl, rfl, rfl⟩)
  case h_23 => exact hk ▸ spells_of_parseDropTest h
  case h_24 => exact hk ▸ spells_of_bare ⟨rfl, rfl, rfl⟩ h
  case h_25 => exact hk ▸ spells_of_parseStatus h
  case h_26 => exact hk ▸ spells_of_parseReadLog h
  case h_27 => exact hk ▸ spells_of_parseSetClock h
  case h_28 => exact hk ▸ spells_of_bare ⟨rfl, rfl, rfl⟩ h
  case h_29 => cases h
  all_goals exact hk ▸ spells_of_one h (fun _ => ⟨rfl, rfl, rfl⟩)

/-- Settles O51: each parser reads back its request's payload and accepts no other. -/
theorem requestsAndRecordsAgree : Obligations.RequestsAndRecordsAgree := by
  refine ⟨parseRequest_recordOf, fun r q h => ?_⟩
  obtain ⟨hkind, hpayload, hwf⟩ := spells_of_parseRequest h
  have hk : q.kind = r.kind := BitVec.eq_of_toNat_eq hkind
  exact ⟨by rw [recordOf, hk, hpayload], hwf⟩

end Sys2Proof
end

section
/-! PROOFS. A request that is decided at once: the decision of its owner, with the reply in the slot, ends its rule. -/

namespace Sys2Proof.Machine

/-! ## The rule of a request -/

/-- R162: the record of a request that a line can spell is handed to the request's owner. -/
theorem Rule.decideRecord_recordOf (r : Rule) (q : Request) (hq : q.wf = true) : r.decideRecord (recordOf q) = r.ask q := by
  rw [Rule.decideRecord, parseRequest_recordOf q hq]

/-- Log entry 11: but for RESTART, which brings the switches, a request's command is the arrival of its record. -/
theorem exec_commandOf (s : State) (q : Request) (dt : Nat) (sw : Bank SwitchPair 8) (hq : q ≠ .restart) :
    exec (commandOf q dt sw) s = (Rule.request ⟨s.elapse dt, [], false⟩ q).finish := by
  cases q
  case restart => exact absurd rfl hq
  all_goals rfl

/-- R165: a transmitter that is sending is not claimed. -/
theorem Link.claimed_sending (l : Link) (h : l.transmitter ≠ .idle) : l.claimed = l := by
  simp [Link.claimed, h]

/-- R163, R165: behind a sending transmitter the reply only stands in the slot. -/
theorem Link.replied_sending (l : Link) (x : Reply) (h : l.transmitter ≠ .idle) :
    l.replied x = { l with slot := some x } := by
  simp [Link.replied, h]

/-- R162, R163: a request decided in its own rule, whose decision leaves the link to its reply. -/
theorem Rule.request_decided (s u : State) (q : Request) (a : Answer) (l : List Signal) (hs : s.linkReady)
    (hq : q.wf = true) (hu : u.link = s.link) (hask : Rule.ask ⟨s.setLink s.link.claimed, [], false⟩ q =
      ⟨a, ⟨u.setLink s.link.claimed, l, false⟩⟩) :
    ∃ tie, (tie = true → s.link.queue = []) ∧
      Rule.request ⟨s, [], false⟩ q = ⟨u.replied (a.reply q.kind), l, tie⟩ := by
  obtain ⟨tie, htie, hr⟩ := Rule.request_ready s q hs
  refine ⟨tie, htie, ?_⟩
  rw [hr, Rule.decideRecord_recordOf _ q hq, hask, State.replied, hu, ← Link.claimed_replied]
  rfl

/-- R162: such a request whose decision concerns only what is at rest ends in the state that it leaves, with the reply. -/
theorem Rule.finish_decided (s u : State) (q : Request) (a : Answer) (l : List Signal) (hs : s.linkReady)
    (hq : q.wf = true) (hu : u.link = s.link) (hask : Rule.ask ⟨s.setLink s.link.claimed, [], false⟩ q =
      ⟨a, ⟨u.setLink s.link.claimed, l, false⟩⟩) (hl : l.length ≤ settleBound) (hquiet : ∀ x ∈ l, x.quiet u) :
    (Rule.request ⟨s, [], false⟩ q).finish = .next (u.replied (a.reply q.kind)) := by
  obtain ⟨tie, htie, hr⟩ := Rule.request_decided s u q a l hs hq hu hask
  rw [hr]
  refine Rule.finish_settled (Rule.settle_quiet _ _ _ _ hl hquiet) fun h => ?_
  rw [State.replied, hu]
  exact htie h

/-- R162, R164: behind a sending transmitter a decision may queue reports too. -/
theorem Rule.request_sending (s u : State) (q : Request) (a : Answer) (l : List Signal) (hs : s.linkReady)
    (ht : s.link.transmitter ≠ .idle) (hq : q.wf = true) (hu : u.link.transmitter ≠ .idle)
    (hask : Rule.ask ⟨s, [], false⟩ q = ⟨a, ⟨u, l, false⟩⟩) :
    Rule.request ⟨s, [], false⟩ q = ⟨u.replied (a.reply q.kind), l, false⟩ := by
  have hclaim : Rule.claim ⟨s, [], false⟩ = ⟨s, [], false⟩ := by
    rw [Rule.claim, Rule.upd]
    simp only [ht, if_false]
    rfl
  rw [Rule.request, Rule.arrives_taken _ _ hs.1 hs.2.1, Rule.takeRecord, hclaim, Rule.decideRecord_recordOf _ q hq, hask,
    State.replied, Link.replied_sending _ _ hu]
  simp [Rule.upd, ht, recordOf]

/-- R162, R164: such a request whose decision concerns only what is at rest ends in the state that it leaves. -/
theorem Rule.finish_sending (s u : State) (q : Request) (a : Answer) (l : List Signal) (hs : s.linkReady)
    (ht : s.link.transmitter ≠ .idle) (hq : q.wf = true) (hu : u.link.transmitter ≠ .idle)
    (hask : Rule.ask ⟨s, [], false⟩ q = ⟨a, ⟨u, l, false⟩⟩) (hl : l.length ≤ settleBound)
    (hquiet : ∀ x ∈ l, x.quiet u) :
    (Rule.request ⟨s, [], false⟩ q).finish = .next (u.replied (a.reply q.kind)) := by
  rw [Rule.request_sending s u q a l hs ht hq hu hask]
  exact Rule.finish_quiet _ _ hl hquiet

/-- R162: a request that shows something, or is turned away, leaves its reply and nothing else. -/
theorem Rule.finish_answered (s : State) (q : Request) (a : Answer) (hs : s.linkReady) (hq : q.wf = true)
    (hask : Rule.ask ⟨s.setLink s.link.claimed, [], false⟩ q = ⟨a, ⟨s.setLink s.link.claimed, [], false⟩⟩) :
    (Rule.request ⟨s, [], false⟩ q).finish = .next (s.replied (a.reply q.kind)) :=
  Rule.finish_decided s s q a [] hs hq rfl hask (by simp) (by simp)

/-! ## The numbers of requests -/

/-- A number from 1 to 8 names its projector. -/
theorem projOf_of_toNat {b : Byte} {p : Proj} (hb : b.toNat = p.val + 1) : projOf b = some p := by
  have hp := p.isLt
  have hin : 1 ≤ b.toNat ∧ b.toNat ≤ 8 := by omega
  simp [projOf, hb, hp]

/-- Any other number names no projector. -/
theorem projOf_outside {b : Byte} (hb : b.toNat = 0 ∨ 8 < b.toNat) : projOf b = none := by
  have hout : ¬ (1 ≤ b.toNat ∧ b.toNat ≤ 8) := by omega
  simp [projOf, hout]

/-- A number from 1 to 12 names its port. -/
theorem portOf_of_toNat {b : Byte} {n : PortId} (hb : b.toNat = n.val + 1) : portOf b = some n := by
  have hn := n.isLt
  have hin : 1 ≤ b.toNat ∧ b.toNat ≤ 12 := by omega
  simp [portOf, hb, hn]

/-- Any other number names no port. -/
theorem portOf_outside {b : Byte} (hb : b.toNat = 0 ∨ 12 < b.toNat) : portOf b = none := by
  have hout : ¬ (1 ≤ b.toNat ∧ b.toNat ≤ 12) := by omega
  simp [portOf, hout]

/-! ## Deadlines -/

/-- A deadline that has been reached. -/
theorem due_late {t now : Instant} (h : t ≤ now) : due (some t) now = true := decide_eq_true h

/-- A deadline that has not been reached. -/
theorem due_early {t now : Instant} (h : now < t) : due (some t) now = false := decide_eq_false (Nat.not_le.2 h)

/-! ## The step and the state after reset -/

/-- Settles O1: the step takes the front command. -/
theorem stepRunsTheFrontCommand : Obligations.StepRunsTheFrontCommand := by
  intro c rest s
  simp [step, State.withPending]

/-- Settles O3: the reset state's records, bank by bank. -/
theorem resetMeetsTheLaws : Obligations.ResetMeetsTheLaws := by
  unfold Obligations.ResetMeetsTheLaws
  decide

/-! ## The missing pulse -/

/-- Settles O10, by the branches of the deadline. -/
theorem missingPulseIsReportedOnce : Obligations.MissingPulseIsReportedOnce := by
  intro s dt p u hu
  have hsilent : (s.elapse dt).silent p overdue = true ↔ 15000 ≤ (s.now + dt - u) * s.speedOf p := by
    simp only [State.silent, State.elapse_tr, hu]
    exact decide_eq_true_iff
  have hrun : exec (.missingPulseDeadline dt p) s = (Rule.pulseMissing ⟨s.elapse dt, [], false⟩ p).finish := rfl
  refine ⟨fun hstate hmiss hlate => ?_, fun hnot => ?_⟩
  · rw [hrun, Rule.pulseMissing]
    simp only [State.elapse_tr, hstate, hmiss, hsilent.2 hlate, and_self, if_true]
    exact Rule.finish_plain _
  · have hfails : ¬ ((s.tr p).state = .running ∧ (s.tr p).miss = .normal ∧ (s.elapse dt).silent p overdue = true) := by
      rintro ⟨hstate, hmiss, hlate⟩
      rcases hnot with h | h | h
      · exact h hstate
      · simp [hmiss] at h
      · exact absurd (hsilent.1 hlate) (Nat.not_le.2 h)
    rw [hrun, Rule.pulseMissing]
    simp [hfails]

/-! ## The clock -/

/-- R168: SET CLOCK, up to the state of the clock it sets. -/
theorem exec_setClock (s : State) (dt : Nat) (w : BitVec 24) (hs : s.linkReady) (hw : w.toNat ≤ 86399) :
    exec (.setClock dt w) s = .next ((s.elapse dt).setLink { s.link.replied (.done 42 .nothing) with
      clock := some w.toNat, nextSecond := some (s.now + dt + 10000) }) := by
  obtain ⟨tie, htie, hr⟩ := Rule.request_ready (s.elapse dt) (.setClock w) hs
  have hin : ¬ 86399 < w.toNat := by omega
  have hrun : exec (.setClock dt w) s = (Rule.request ⟨s.elapse dt, [], false⟩ (.setClock w)).finish := rfl
  rw [hrun, hr, Rule.decideRecord_recordOf _ _ rfl, Rule.ask, Rule.decideSetClock, if_neg hin]
  exact Rule.finish_settled (Rule.settle_nil _ _ _) htie

/-- R168: an advance of the time of day leaves what `Link.tick` leaves. -/
theorem exec_clockAdvance (s : State) (dt : Nat) :
    exec (.clockAdvance dt) s = .next ((s.elapse dt).setLink (s.link.tick (s.now + dt))) :=
  Rule.finish_plain _

/-- Settles O59, by the decision of SET CLOCK and the instant of the advance. -/
theorem clockCountsTheSeconds : Obligations.ClockCountsTheSeconds := by
  intro s dt w n u
  refine ⟨fun hs hw => ?_, exec_setClock s dt w, fun hn hu hlate => ?_, fun hu hearly => ?_, fun hu => ?_⟩
  · refine Rule.finish_answered (s.elapse dt) (.setClock w) (.refused .range .nothing) hs rfl ?_
    simp [Rule.ask, Rule.decideSetClock, hw, Rule.refuse]
  · rw [exec_clockAdvance, Link.tick, hu, due_late hlate, hn]
    rfl
  · rw [exec_clockAdvance, Link.tick, hu, due_early hearly]
    rfl
  · rw [exec_clockAdvance, Link.tick, hu]
    rfl

/-! ## The lights -/

/-- R128: a step of a fade leaves what `Light.stepFade` leaves. -/
theorem exec_fadeStep (s : State) (dt : Nat) (h : HouseId) :
    exec (.fadeStep dt h) s = .next ((s.elapse dt).setLt h ((s.lt h).stepFade (s.now + dt))) :=
  Rule.finish_plain _

/-- R128: the steps of a fade are 50 ms apart. -/
theorem Fade.nextStep_eq (f : Fade) : f.nextStep = f.start + 500 * (f.step + 1) := by
  have hms : ms (50 * (f.step + 1)) = 500 * (f.step + 1) := by
    unfold ms
    omega
  rw [Fade.nextStep, hms]

/-- R128: a fade whose next step has not fallen stands. -/
theorem Light.stepFade_early (l : Light) (f : Fade) (now : Instant) (hf : l.fade = some f)
    (hnow : now < f.start + 500 * (f.step + 1)) : l.stepFade now = l := by
  simp [Light.stepFade, hf, f.nextStep_eq, due_early hnow]

/-- R128: the step that falls. -/
theorem Light.stepFade_due (l : Light) (f : Fade) (now : Instant) (hf : l.fade = some f)
    (hnow : f.start + 500 * (f.step + 1) ≤ now) :
    l.stepFade now = { l.setLevel (fadeLevel f.startLevel f.target f.steps (f.step + 1)) with
      fade := if f.step + 1 < f.steps then some { f with step := f.step + 1 } else none } := by
  simp [Light.stepFade, hf, f.nextStep_eq, due_late hnow]

/-- R128: the last step lands on the target. -/
theorem fadeLevel_last (a b n : Nat) (hn : 0 < n) : fadeLevel a b n n = b := by
  have hcancel : (((b : Int) - a) * (n : Int)).tdiv n = b - a := Int.mul_tdiv_cancel _ (by omega)
  rw [fadeLevel, hcancel]
  omega

/-- Settles O42, by whether the next step falls, and whether it is the last. -/
theorem fadeStepMovesTheLevel : Obligations.FadeStepMovesTheLevel := by
  intro s dt h f v
  simp only [exec_fadeStep]
  refine ⟨fun hnone => ?_, fun hf hearly => ?_, fun hf hlate hmore hv => ?_, fun hf hlate hlast => ?_⟩
  · have hstay : (s.lt h).stepFade (s.now + dt) = (s.elapse dt).lt h := by simp [Light.stepFade, hnone]
    rw [hstay, State.setLt_self]
  · rw [Light.stepFade_early _ f _ hf hearly, ← State.elapse_lt s dt, State.setLt_self]
  · have hlevel : fadeLevel f.startLevel f.target f.steps (f.step + 1) = v := by
      rw [fadeLevel, ← Int.toNat_natCast v, hv]
      rfl
    rw [Light.stepFade_due _ f _ hf hlate, if_pos hmore, hlevel]
    rfl
  · have hlevel : fadeLevel f.startLevel f.target f.steps (f.step + 1) = f.target := by
      rw [hlast]
      exact fadeLevel_last _ _ _ (by omega)
    rw [Light.stepFade_due _ f _ hf hlate, if_neg (by omega), hlevel]
    rfl

/-! ## Refusals and what is only shown -/

/-- R162: a request whose owner turns it away leaves the refusal and nothing else. -/
theorem exec_commandOf_refused (s : State) (q : Request) (dt : Nat) (sw : Bank SwitchPair 8) (reason : RefusalReason)
    (hs : s.linkReady) (hq : q.wf = true) (hr : q ≠ .restart) (hask : ∀ r : Rule, r.ask q = r.refuse reason) :
    exec (commandOf q dt sw) s = .next ((s.elapse dt).replied (.refused q.kind reason .nothing)) := by
  rw [exec_commandOf s q dt sw hr]
  exact Rule.finish_answered (s.elapse dt) q (.refused reason .nothing) hs hq (hask _)

/-- R162: a record that is no request's is refused with FORMAT. -/
theorem exec_formatRefusal_refused (s : State) (dt : Nat) (kind : Byte) (payload : List Byte) (hs : s.linkReady)
    (hp : parseRequest ⟨kind, payload⟩ = none) : exec (.formatRefusal dt kind payload) s =
      .next ((s.elapse dt).replied (.refused kind .format .nothing)) := by
  obtain ⟨hb, hslot, hidle⟩ := hs
  have hrun : exec (.formatRefusal dt kind payload) s =
      (Rule.arrives ⟨s.elapse dt, [], false⟩ ⟨kind, payload⟩).finish := rfl
  rw [hrun, Rule.arrives_taken _ _ hb hslot, Rule.takeRecord, Rule.decideRecord, hp]
  refine Rule.finish_settled (Rule.settle_nil _ _ _) fun ht => hidle ?_
  exact of_decide_eq_true (Bool.and_eq_true_iff.1 ht).1

/-- R162: the requests of a projector turn away a number that names none. -/
theorem Rule.ask_noProjector {b : Byte} (hb : projOf b = none) (x y : Byte) (u : BitVec 16) (auto : Bool)
    (start : Option (BitVec 16)) : ∀ q ∈ [Request.runMotor b, .stopMotor b, .setCueSense b x y, .cueClear b, .douserTrial b,
      .strike b, .extinguish b, .setArc b x u auto, .loadCarbon b u, .armReel b x start, .unarm b, .status .projector b x,
      .status .lamp b x], q.wf = true ∧ q ≠ .restart ∧ ∀ r : Rule, r.ask q = r.refuse .target := by
  simp [Request.wf, Rule.ask, hb, Rule.decideRunMotor, Rule.decideStopMotor, Rule.decideSetCueSense, Rule.decideCueClear,
    Rule.decideDouserTrial, Rule.decideStrike, Rule.decideExtinguish, Rule.decideSetArc, Rule.decideLoadCarbon,
    Rule.decideArmReel, Rule.decideUnarm, Rule.decideStatus]

/-- R162: the requests of a house turn away a number that names none. -/
theorem Rule.ask_noHouse {b : Byte} (hb : houseOfNumber b = none) (x : Byte) (u v w o : BitVec 16) (e : ReelSpec)
    (he : e.cues.length ≤ 4) : ∀ q ∈ [Request.setSpeed b x, .clearProgram b, .addReel b e, .start b, .hold b, .changeNow b,
      .setHouseLevels b u v w o, .lightsSet b u v, .lightsRelease b u, .clearSafety b, .dropTest .house b,
      .status .house b x], q.wf = true ∧ q ≠ .restart ∧ ∀ r : Rule, r.ask q = r.refuse .target := by
  simp [Request.wf, he, Rule.ask, hb, Rule.decideSetSpeed, Rule.decideClearProgram, Rule.decideAddReel, Rule.decideStart,
    Rule.decideHold, Rule.decideChangeNow, Rule.decideSetHouseLevels, Rule.decideLightsSet, Rule.decideLightsRelease,
    Rule.decideClearSafety, Rule.decideDropTest, namedPorts, Rule.decideStatus]

/-- R162: the requests of a port turn away a number that names none. -/
theorem Rule.ask_noPort {b : Byte} (hb : portOf b = none) : ∀ q ∈ [Request.armPort b, .dropTest .port b],
    q.wf = true ∧ q ≠ .restart ∧ ∀ r : Rule, r.ask q = r.refuse .target := by
  simp [Request.wf, Rule.ask, hb, Rule.decideArmPort, Rule.decideDropTest, namedPorts]

/-- Settles O54, by what the number of each request names. -/
theorem formatAndTargetAreRefused : Obligations.FormatAndTargetAreRefused := by
  intro s dt sw kind b x y payload u v w o auto e start hs he
  refine ⟨exec_formatRefusal_refused s dt kind payload hs, fun hb q hq => ?_, fun hb q hq => ?_, fun hb q hq => ?_⟩
  · obtain ⟨hwf, hne, hask⟩ := Rule.ask_noProjector (projOf_outside hb) x y u auto start q hq
    exact exec_commandOf_refused s q dt sw .target hs hwf hne hask
  · obtain ⟨hwf, hne, hask⟩ := Rule.ask_noHouse (houseOfNumber_outside hb) x u v w o e he q hq
    exact exec_commandOf_refused s q dt sw .target hs hwf hne hask
  · obtain ⟨hwf, hne, hask⟩ := Rule.ask_noPort (portOf_outside hb) q hq
    exact exec_commandOf_refused s q dt sw .target hs hwf hne hask

/-! ## STATUS and READ LOG -/

@[simp] theorem length_be1 (n : Nat) : (be1 n).length = 1 := rfl
@[simp] theorem length_be2 (n : Nat) : (be2 n).length = 2 := rfl
@[simp] theorem length_mark (b : Bool) : (mark b).length = 1 := by cases b <;> rfl

@[simp] theorem length_optCode {α : Type} (f : α → Nat) (x : Option α) : (optCode f x).length = 1 := by
  cases x <;> rfl

/-- R170: an optional field takes the same room present or absent. -/
theorem length_optField {α : Type} (n : Nat) (f : α → List Byte) (x : Option α) (hf : ∀ v, (f v).length = n) :
    (optField n f x).length = n + 1 := by
  cases x <;> simp [optField, hf]

@[simp] theorem House.length_bytes (x : House) : x.bytes.length = 16 := by
  simp [House.bytes, HouseLevels.bytes]

@[simp] theorem Changeover.length_bytes (c : Changeover) : c.bytes.length = 21 := by
  have hcrossing (x : Crossing) : x.bytes.length = 7 := by
    simp [Crossing.bytes, length_optField 2 be2 _ length_be2]
  simp [Changeover.bytes, length_optField 2 be2 _ length_be2, length_optField 7 Crossing.bytes _ hcrossing]

@[simp] theorem Origin.length_bytes (o : Origin) : o.bytes.length = 5 := by
  cases o with
  | cue reel t => cases t <;> simp [Origin.bytes, triggerBytes]
  | hold => rfl
  | runout => rfl
  | brk => rfl

@[simp] theorem Light.length_bytes (l : Light) : l.bytes.length = 32 := by
  have hpending : (optField 7 (fun x : PendingTarget => be2 x.target ++ x.origin.bytes) l.pending).length = 8 :=
    length_optField 7 _ _ (by simp)
  have hfade : (optField 8 (fun f : Fade => be2 f.startLevel ++ be2 f.target ++ be2 f.steps ++ be2 f.step) l.fade).length = 9 :=
    length_optField 8 _ _ (by simp)
  simp only [Light.bytes, List.length_append, hpending, hfade, length_be1, length_be2, length_mark]

/-- R166: the entries that fit take no more than the room left. -/
theorem length_fitEntries (l : List ReelEntry) (room : Nat) : (fitEntries room l).flatten.length ≤ room := by
  induction l generalizing room with
  | nil => simp [fitEntries]
  | cons e rest ih =>
    rw [fitEntries]
    split
    · have hrest := ih (room - e.bytes.length)
      simp only [List.flatten_cons, List.length_append]
      omega
    · simp

/-- R166: STATUS of a house fits a record. -/
theorem State.length_houseStatus (s : State) (h : HouseId) (first : Nat) : (s.houseStatus h first).length ≤ 250 := by
  unfold State.houseStatus
  extract_lets x head entries
  have hhead : head.length = 75 := by
    simp [head, State.readyBytes, length_optField 21 Changeover.bytes _ Changeover.length_bytes]
  have hentries : entries.flatten.length ≤ 249 - head.length := length_fitEntries _ _
  simp only [List.length_append, length_be1]
  omega

/-- Settles O58, by the decision of each form. -/
theorem statusAndReadLogOnlyShow : Obligations.StatusAndReadLogOnlyShow := by
  intro s dt b first h p w hs
  have hstatus (subject : StatusSubject) (payload : List Byte)
      (hd : ∀ r : Rule, r.st = (s.elapse dt).setLink s.link.claimed →
        r.decideStatus subject b first = ⟨.status payload, r⟩) :
      exec (.status dt subject b first) s = .next ((s.elapse dt).replied (.status payload)) :=
    Rule.finish_answered (s.elapse dt) (.status subject b first) (.status payload) hs rfl (hd _ rfl)
  refine ⟨fun hb => hstatus _ _ fun r hr => ?_, s.length_houseStatus h _, fun hb => ⟨?_, ?_⟩, ?_, fun hw => ?_, fun hw => ?_⟩
  · rw [Rule.decideStatus, houseOfNumber_of_toNat hb, hr]
    rfl
  · refine hstatus _ _ fun r hr => ?_
    rw [Rule.decideStatus, projOf_of_toNat hb, hr]
    rfl
  · refine hstatus _ _ fun r hr => ?_
    rw [Rule.decideStatus, projOf_of_toNat hb, hr]
    rfl
  · refine hstatus _ _ fun r hr => ?_
    rw [Rule.decideStatus, hr]
    rfl
  · refine Rule.finish_answered (s.elapse dt) (.readLog w) (.refused .range .nothing) hs rfl ?_
    simp [Rule.ask, Rule.decideReadLog, hw, Rule.refuse]
  · refine Rule.finish_answered (s.elapse dt) (.readLog w) (.log _ _ _) hs rfl ?_
    rw [Rule.ask, Rule.decideReadLog, if_neg hw]
    rfl

end Sys2Proof.Machine
end

section
/-! PROOFS. The light channel: LIGHTS SET, LIGHTS RELEASE and CLEAR SAFETY. -/

namespace Sys2Proof.Machine

/-- A value clamped from 0 has its upper bound only. -/
theorem clamp_zero (hi x : Nat) : clamp 0 hi x = min hi x := by
  simp [clamp]

/-- R127: a fade that begins, or the level that jumps where its time is 0. -/
theorem Light.fadeTo_eq (l : Light) (now : Instant) (f : Nat) : l.fadeTo now f = { l with
    level := if f = 0 then l.effective else l.level
    drive := if f = 0 then driveOf l.effective else l.drive
    fade := if f = 0 ∨ l.effective = l.level then none else some ⟨l.level, l.effective, 2 * f, 0, now⟩ } := by
  unfold Light.fadeTo
  by_cases hf : f = 0
  · simp [hf, Light.setLevel]
  · by_cases he : l.effective = l.level <;> simp [hf, he]

/-- R134: the causes that keep a house's SAFETY layer active are the booth's lasting causes and the FILM FIREs of its own
projectors. -/
theorem Booth.safetyCauses_eq_nil (b : Booth) (h : HouseId) : b.safetyCauses h = [] ↔
    b.fusible = false ∧ b.emergency = false ∧ b.critical = false ∧ ∀ p, houseOf p = h → b.filmFire.cell p = false := by
  rw [Booth.safetyCauses, List.filter_eq_nil_iff]
  refine ⟨fun hnone => ⟨?_, ?_, ?_, fun p hp => ?_⟩, fun ⟨hf, he, hc, hff⟩ c hcause => ?_⟩
  · exact Bool.eq_false_iff.2 fun hf => hnone (.fusible, none) ((b.mem_active _).2 (.inl ⟨hf, rfl⟩)) rfl
  · exact Bool.eq_false_iff.2 fun he => hnone (.emergency, none) ((b.mem_active _).2 (.inr (.inl ⟨he, rfl⟩))) rfl
  · exact Bool.eq_false_iff.2 fun hc => hnone (.critical, none) ((b.mem_active _).2 (.inr (.inr (.inl ⟨hc, rfl⟩)))) rfl
  · exact Bool.eq_false_iff.2 fun hff => hnone (.filmFire, some p) ((b.mem_active _).2 (.inr (.inr (.inr ⟨p, hff, rfl⟩))))
      (decide_eq_true hp)
  · rcases (b.mem_active c).1 hcause with ⟨h, -⟩ | ⟨h, -⟩ | ⟨h, -⟩ | ⟨p, hp, rfl⟩
    · simp [hf] at h
    · simp [he] at h
    · simp [hc] at h
    · intro hhouse
      simp [hff p (of_decide_eq_true hhouse)] at hp

/-! ## The decisions -/

/-- R135: LIGHTS SET of a house leaves the channel's record, and shows what then controls it. -/
theorem exec_lightsSet (s : State) (dt : Nat) (b : Byte) (target fade : BitVec 16) (h : HouseId) (hs : s.linkReady)
    (hb : b.toNat = h.val + 1) (l : Light)
    (hl : l = (s.lt h).setManual (s.now + dt) (min 1000 target.toNat) (min 600 fade.toNat)) :
    exec (.lightsSet dt b target fade) s = .next (((s.elapse dt).setLt h l).replied
      (.done 34 (.lights l.controlling l.effective))) := by
  subst hl
  refine Rule.finish_decided (s.elapse dt) _ (.lightsSet b target fade) (.done (.lights _ _)) [] hs rfl rfl ?_
    (by simp) (by simp)
  rw [Rule.ask, Rule.decideLightsSet, houseOfNumber_of_toNat hb, clamp_zero, clamp_zero]
  simp [Rule.upd, Rule.doneWith]
  rfl

/-- R136: LIGHTS RELEASE of an active MANUAL layer. -/
theorem exec_lightsRelease (s : State) (dt : Nat) (b : Byte) (fade : BitVec 16) (h : HouseId) (hs : s.linkReady)
    (hb : b.toNat = h.val + 1) (hm : (s.lt h).manualActive = true) : exec (.lightsRelease dt b fade) s =
      .next (((s.elapse dt).setLt h ((s.lt h).release (s.now + dt) (min 600 fade.toNat))).replied
        (.done 35 (.released (s.lt h).programTarget ((s.lt h).pending.map (fun x => x.origin))))) := by
  refine Rule.finish_decided (s.elapse dt) _ (.lightsRelease b fade) (.done (.released _ _)) [] hs rfl rfl ?_
    (by simp) (by simp)
  rw [Rule.ask, Rule.decideLightsRelease, houseOfNumber_of_toNat hb, clamp_zero]
  simp [Rule.upd, Rule.doneWith, hm]
  rfl

/-- R136: LIGHTS RELEASE of an inactive MANUAL layer. -/
theorem exec_lightsRelease_inactive (s : State) (dt : Nat) (b : Byte) (fade : BitVec 16) (h : HouseId) (hs : s.linkReady)
    (hb : b.toNat = h.val + 1) (hm : (s.lt h).manualActive = false) :
    exec (.lightsRelease dt b fade) s = .next ((s.elapse dt).replied (.done 35 .manualInactive)) := by
  refine Rule.finish_answered (s.elapse dt) (.lightsRelease b fade) (.done .manualInactive) hs rfl ?_
  rw [Rule.ask, Rule.decideLightsRelease, houseOfNumber_of_toNat hb]
  simp [hm, Rule.doneWith]

/-- R134: CLEAR SAFETY of a house that an active cause still covers. -/
theorem exec_clearSafety_refused (s : State) (dt : Nat) (b : Byte) (h : HouseId) (hs : s.linkReady)
    (hb : b.toNat = h.val + 1) (hc : s.booth.safetyCauses h ≠ []) : exec (.clearSafety dt b) s =
      .next ((s.elapse dt).replied (.refused 36 .fire (.causes (s.booth.safetyCauses h)))) := by
  refine Rule.finish_answered (s.elapse dt) (.clearSafety b) (.refused .fire (.causes (s.booth.safetyCauses h))) hs rfl ?_
  rw [Rule.ask, Rule.decideClearSafety, houseOfNumber_of_toNat hb]
  simp [hc, Rule.refuseWith]

/-- R134: CLEAR SAFETY of an inactive SAFETY layer, which no active cause holds. -/
theorem exec_clearSafety_inactive (s : State) (dt : Nat) (b : Byte) (h : HouseId) (hs : s.linkReady)
    (hb : b.toNat = h.val + 1) (hc : s.booth.safetyCauses h = []) (hsafe : (s.lt h).safetyActive = false) :
    exec (.clearSafety dt b) s = .next ((s.elapse dt).replied
      (.done 36 (.lights (s.lt h).controlling (s.lt h).effective))) := by
  refine Rule.finish_answered (s.elapse dt) (.clearSafety b) (.done (.lights _ _)) hs rfl ?_
  rw [Rule.ask, Rule.decideClearSafety, houseOfNumber_of_toNat hb]
  simp [hc, hsafe, Rule.doneWith]

/-- R134: CLEAR SAFETY of an active SAFETY layer, which no active cause holds. -/
theorem exec_clearSafety_active (s : State) (dt : Nat) (b : Byte) (h : HouseId) (hs : s.linkReady)
    (hb : b.toNat = h.val + 1) (hc : s.booth.safetyCauses h = []) (hsafe : (s.lt h).safetyActive = true) :
    exec (.clearSafety dt b) s = .next (((s.elapse dt).setLt h ((s.lt h).clearSafety (s.now + dt))).replied (.done 36
      (.lights ((s.lt h).clearSafety (s.now + dt)).controlling ((s.lt h).clearSafety (s.now + dt)).effective))) := by
  refine Rule.finish_decided (s.elapse dt) _ (.clearSafety b) (.done (.lights _ _)) [] hs rfl rfl ?_ (by simp) (by simp)
  rw [Rule.ask, Rule.decideClearSafety, houseOfNumber_of_toNat hb]
  simp [hc, hsafe, Rule.upd, Rule.doneWith]
  rfl

/-- R127: what controls a channel that SAFETY leaves, and its target. -/
theorem Light.clearSafety_controls (l : Light) (now : Instant) :
    (l.clearSafety now).controlling = (if l.manualActive then .manual else .program) ∧
      (l.clearSafety now).effective = if l.manualActive then l.manualTarget else l.programTarget := by
  simp [Light.clearSafety, Light.fadeTo_eq, Light.controlling, Light.effective]

/-- Settles O41, by the layers that are active. -/
theorem lightsAreTakenAndGivenBack : Obligations.LightsAreTakenAndGivenBack := by
  refine ⟨fun s dt b target fade h l v f hs hb hl hv hf => ?_, fun s dt b fade h l v f hs hb hl hv hf => ?_,
    fun s dt b h l v y hs hb hl hy => ?_⟩
  · subst hv hf
    refine ⟨fun hsafe => ?_, fun hsafe => ?_⟩
    · rw [exec_lightsSet s dt b target fade h hs hb _ rfl, ← hl]
      simp [Light.setManual, hsafe, Light.fadeTo_eq, Light.effective, Light.controlling, driveOf]
    · rw [exec_lightsSet s dt b target fade h hs hb _ rfl, ← hl]
      simp [Light.setManual, hsafe, Light.effective, Light.controlling]
  · subst hf
    refine ⟨fun hm => exec_lightsRelease_inactive s dt b fade h hs hb (hl ▸ hm), fun hm hsafe => ?_, fun hm hsafe => ?_⟩
    · rw [exec_lightsRelease s dt b fade h hs hb (hl ▸ hm), ← hl, hv]
      simp [Light.release, hsafe, Light.fadeTo_eq, Light.effective, driveOf]
    · rw [exec_lightsRelease s dt b fade h hs hb (hl ▸ hm), ← hl, hv]
      simp [Light.release, hsafe]
  · refine ⟨fun hcause => exec_clearSafety_refused s dt b h hs hb fun hnone => ?_, fun hfu he hcr hff => ?_⟩
    · obtain ⟨hfu, he, hcr, hff⟩ := (s.booth.safetyCauses_eq_nil h).1 hnone
      rcases hcause with hx | hx | hx | ⟨p, hp, hx⟩
      · simp [hfu] at hx
      · simp [he] at hx
      · simp [hcr] at hx
      · simp [hff p hp] at hx
    · have hnone := (s.booth.safetyCauses_eq_nil h).2 ⟨hfu, he, hcr, hff⟩
      have hlayer : y = (if l.manualActive then .manual else .program) ∧
          v = if l.manualActive then l.manualTarget else l.programTarget := by
        rcases hy with ⟨hm, rfl, rfl⟩ | ⟨hm, rfl, rfl⟩ <;> simp [hm]
      obtain ⟨hcontrol, htarget⟩ := hlayer
      refine ⟨fun hsafe => ?_, fun hsafe => ?_⟩
      · rw [exec_clearSafety_inactive s dt b h hs hb hnone (hl ▸ hsafe), ← hl, hcontrol, htarget]
        simp [Light.controlling, Light.effective, hsafe]
      · obtain ⟨hcontrols, heffective⟩ := l.clearSafety_controls (s.now + dt)
        rw [exec_clearSafety_active s dt b h hs hb hnone (hl ▸ hsafe), ← hl, hcontrols, heffective, hcontrol, htarget]
        simp [Light.clearSafety, Light.fadeTo_eq, Light.effective]

end Sys2Proof.Machine
end

section
/-! PROOFS. The receiver of the serial line, the records that wait, and the transmitter's choice of its next record. -/

namespace Sys2Proof.Machine

/-! ## One byte -/

/-- R160: a byte in HUNT, as the half, the byte and the stop bit have it. -/
theorem exec_receiveByte_hunt (s : State) (dt : Nat) (b : Byte) (ok : Bool) (half : Option Instant)
    (hr : s.link.receive = .hunt half) : exec (.receiveByte dt b ok) s = .next ((s.elapse dt).setLink { s.link with
      receive := if ok then huntByte half b (s.now + dt) else .hunt none }) := by
  have hrun : exec (.receiveByte dt b ok) s = (Rule.receive ⟨s.elapse dt, [], false⟩ b ok).finish := rfl
  have hrd : (s.elapse dt).link.receive = .hunt half := hr
  rw [hrun, Rule.receive, hrd]
  cases ok
  · exact Rule.finish_plain _
  · exact Rule.finish_plain _

/-- R160: a byte with a bad stop bit in ASSEMBLE. -/
theorem exec_receiveByte_framing (s : State) (dt : Nat) (b : Byte) (a : Assembly) (hr : s.link.receive = .assemble a) :
    exec (.receiveByte dt b false) s =
      .next (((s.elapse dt).setLink { s.link with receive := .hunt none }).lineError .framing) := by
  have hrun : exec (.receiveByte dt b false) s = (Rule.receive ⟨s.elapse dt, [], false⟩ b false).finish := rfl
  have hrd : (s.elapse dt).link.receive = .assemble a := hr
  rw [hrun, Rule.receive, hrd]
  exact Rule.finish_plain _

/-- R160: a good byte in ASSEMBLE is the assembly's next. -/
theorem exec_receiveByte_assemble (s : State) (dt : Nat) (b : Byte) (a : Assembly) (hr : s.link.receive = .assemble a) :
    exec (.receiveByte dt b true) s = (Rule.assembleByte ⟨s.elapse dt, [], false⟩ a b).finish := by
  have hrun : exec (.receiveByte dt b true) s = (Rule.receive ⟨s.elapse dt, [], false⟩ b true).finish := rfl
  have hrd : (s.elapse dt).link.receive = .assemble a := hr
  rw [hrun, Rule.receive, hrd]
  rfl

/-- R160: the kind. -/
theorem exec_receiveByte_kind (s : State) (dt : Nat) (b : Byte) (a : Assembly) (hr : s.link.receive = .assemble a)
    (hk : a.kind = none) : exec (.receiveByte dt b true) s = .next ((s.elapse dt).setLink { s.link with
      receive := .assemble { a with kind := some b, sum := a.sum + b, lastByte := s.now + dt } }) := by
  rw [exec_receiveByte_assemble s dt b a hr, Rule.assembleByte, hk]
  exact Rule.finish_plain _

/-- R160: the length. -/
theorem exec_receiveByte_length (s : State) (dt : Nat) (b kind : Byte) (a : Assembly) (hr : s.link.receive = .assemble a)
    (hk : a.kind = some kind) (hl : a.length = none) (hb : b.toNat ≤ 250) :
    exec (.receiveByte dt b true) s = .next ((s.elapse dt).setLink { s.link with
      receive := .assemble { a with length := some b, sum := a.sum + b, lastByte := s.now + dt } }) := by
  rw [exec_receiveByte_assemble s dt b a hr, Rule.assembleByte, hk, hl]
  simp only [Nat.not_lt.2 hb, if_false]
  exact Rule.finish_plain _

/-- R160, R161: a length above 250. -/
theorem exec_receiveByte_tooLong (s : State) (dt : Nat) (b kind : Byte) (a : Assembly) (hr : s.link.receive = .assemble a)
    (hk : a.kind = some kind) (hl : a.length = none) (hb : 250 < b.toNat) : exec (.receiveByte dt b true) s =
      .next (((s.elapse dt).setLink { s.link with receive := .hunt none }).lineError .length) := by
  rw [exec_receiveByte_assemble s dt b a hr, Rule.assembleByte, hk, hl]
  simp only [hb, if_true]
  exact Rule.finish_plain _

/-- R160: a byte of the payload. -/
theorem exec_receiveByte_payload (s : State) (dt : Nat) (b kind n : Byte) (a : Assembly)
    (hr : s.link.receive = .assemble a) (hk : a.kind = some kind) (hl : a.length = some n)
    (hn : a.payload.length < n.toNat) : exec (.receiveByte dt b true) s = .next ((s.elapse dt).setLink { s.link with
      receive := .assemble { a with payload := a.payload ++ [b], sum := a.sum + b, lastByte := s.now + dt } }) := by
  rw [exec_receiveByte_assemble s dt b a hr, Rule.assembleByte, hk, hl]
  simp only [hn, if_true]
  exact Rule.finish_plain _

/-- R160: the byte behind the payload is the check byte. -/
theorem exec_receiveByte_check (s : State) (dt : Nat) (b kind n : Byte) (a : Assembly)
    (hr : s.link.receive = .assemble a) (hk : a.kind = some kind) (hl : a.length = some n)
    (hn : n.toNat ≤ a.payload.length) : exec (.receiveByte dt b true) s =
      (Rule.checkByte ⟨s.elapse dt, [], false⟩ a kind b).finish := by
  rw [exec_receiveByte_assemble s dt b a hr, Rule.assembleByte, hk, hl]
  simp only [Nat.not_lt.2 hn, if_false]

/-- R160, R161: a wrong check byte. -/
theorem exec_receiveByte_badCheck (s : State) (dt : Nat) (b kind n : Byte) (a : Assembly)
    (hr : s.link.receive = .assemble a) (hk : a.kind = some kind) (hl : a.length = some n)
    (hn : n.toNat ≤ a.payload.length) (hb : a.sum + b ≠ 0) : exec (.receiveByte dt b true) s =
      .next (((s.elapse dt).setLink { s.link with receive := .hunt none }).lineError .check) := by
  rw [exec_receiveByte_check s dt b kind n a hr hk hl hn, Rule.checkByte, if_neg hb]
  exact Rule.finish_plain _

/-- R160: a right check byte completes the record, which arrives. -/
theorem exec_receiveByte_complete (s : State) (dt : Nat) (b kind n : Byte) (a : Assembly)
    (hr : s.link.receive = .assemble a) (hk : a.kind = some kind) (hl : a.length = some n)
    (hn : n.toNat ≤ a.payload.length) (hb : a.sum + b = 0) : exec (.receiveByte dt b true) s =
      (Rule.arrives ⟨(s.elapse dt).setLink { s.link with receive := .hunt none }, [], false⟩ ⟨kind, a.payload⟩).finish := by
  rw [exec_receiveByte_check s dt b kind n a hr hk hl hn, Rule.checkByte, if_pos hb]
  rfl

/-- R161: with no LINE ERROR waiting, a line error queues one. -/
theorem State.lineError_first (s : State) (reason : LineErrorReason)
    (hq : s.link.queue.any (fun y => y.body.isLineError) = false) :
    s.lineError reason = s.reportBooth (bumpError reason (.lineError 0 0 0 0)) := by
  rw [State.lineError, hq]
  rfl

/-! ## The time-outs -/

/-- R160: the end of the 20 ms after a 0xC3. -/
theorem exec_syncHalfTimeout (s : State) (dt : Nat) : exec (.syncHalfTimeout dt) s = .next (s.elapse dt).halfExpires :=
  Rule.finish_plain _

/-- R160: the end of the 20 ms after a byte of an assembly. -/
theorem exec_interByteGap (s : State) (dt : Nat) : exec (.interByteGap dt) s = .next (s.elapse dt).gapExpires :=
  Rule.finish_plain _

/-- Settles O53, by the state of the receiver and what the byte is to it. -/
theorem receiverFollowsTheBytes : Obligations.ReceiverFollowsTheBytes := by
  refine ⟨fun s dt b kind n ok half a x e => ⟨fun hr hx => ?_, fun hr hk hok => ?_, fun hr hk hl hok hb => ?_,
    fun hr hk hl hn hok => ?_, fun hr hq he => ?_⟩, fun s dt u a x hx => ⟨fun hr => ⟨fun hlate => ?_, fun hearly => ?_⟩,
    fun hr => ⟨fun hlate => ?_, fun hearly => ?_⟩, ?_⟩⟩
  · rw [exec_receiveByte_hunt s dt b ok half hr]
    rcases hx with ⟨rfl, rfl, rfl⟩ | ⟨rfl, rfl, hhalf, rfl⟩ | ⟨rfl, rfl, hhalf, rfl⟩ | ⟨rfl, hc3, h3c, rfl⟩ | ⟨rfl, rfl⟩
    · rfl
    · simp [huntByte, Option.isSome_iff_ne_none.2 hhalf]
    · simp [huntByte, hhalf]
    · rw [if_pos rfl, huntByte, if_neg hc3, if_neg fun h => h3c h.1]
    · rfl
  · rw [hok]
    exact exec_receiveByte_kind s dt b a hr hk
  · rw [hok]
    exact exec_receiveByte_length s dt b kind a hr hk hl hb
  · rw [hok]
    exact exec_receiveByte_payload s dt b kind n a hr hk hl hn
  · have hfirst (reason : LineErrorReason) := ((s.elapse dt).setLink { s.link with receive := .hunt none }).lineError_first
      reason hq
    rcases he with ⟨rfl, rfl⟩ | ⟨rfl, hk, hl, hb, rfl⟩ | ⟨rfl, hk, hl, hn, hb, rfl⟩
    · rw [exec_receiveByte_framing s dt b a hr, hfirst]
      rfl
    · rw [exec_receiveByte_tooLong s dt b kind a hr hk hl hb, hfirst]
      rfl
    · rw [exec_receiveByte_badCheck s dt b kind n a hr hk hl hn hb, hfirst]
      rfl
  · subst hx
    have hrd : (s.elapse dt).link.receive = .hunt (some u) := hr
    rw [exec_syncHalfTimeout, State.halfExpires, hrd]
    exact congrArg _ (if_pos (due_late hlate))
  · subst hx
    have hrd : (s.elapse dt).link.receive = .hunt (some u) := hr
    rw [exec_syncHalfTimeout, State.halfExpires, hrd]
    exact congrArg _ (if_neg (Bool.eq_false_iff.1 (due_early hearly)))
  · subst hx
    have hrd : (s.elapse dt).link.receive = .assemble a := hr
    rw [exec_interByteGap, State.gapExpires, hrd]
    exact congrArg _ (if_pos (due_late hlate))
  · subst hx
    have hrd : (s.elapse dt).link.receive = .assemble a := hr
    rw [exec_interByteGap, State.gapExpires, hrd]
    exact congrArg _ (if_neg (Bool.eq_false_iff.1 (due_early hearly)))
  · subst hx
    exact Rule.finish_plain _

/-! ## Frames -/

/-- Bytes received in turn. -/
theorem receiveAll_cons (b : Byte) (rest : List Byte) {s t : State} (h : exec (.receiveByte 0 b true) s = .next t) :
    receiveAll (b :: rest) s = receiveAll rest t := by
  rw [receiveAll, h]

/-- R160: the bytes of a payload, received in ASSEMBLE with room for them. -/
theorem receiveAll_payload (l rest : List Byte) (s : State) (a : Assembly) (kind n : Byte)
    (hr : s.link.receive = .assemble a) (hk : a.kind = some kind) (hl : a.length = some n)
    (hn : a.payload.length + l.length ≤ n.toNat) (hnow : a.lastByte = s.now) : receiveAll (l ++ rest) s =
      receiveAll rest (s.setReceive (.assemble { a with payload := a.payload ++ l, sum := a.sum + l.sum })) := by
  induction l generalizing s a with
  | nil =>
    have hsame : s.setReceive (.assemble a) = s := by rw [← hr]; rfl
    simp [hsame]
  | cons b l ih =>
    have hroom : a.payload.length < n.toNat := by
      simp only [List.length_cons] at hn
      omega
    have hbyte : exec (.receiveByte 0 b true) s =
        .next (s.setReceive (.assemble { a with payload := a.payload ++ [b], sum := a.sum + b })) := by
      rw [hnow]
      exact exec_receiveByte_payload s 0 b kind n a hr hk hl hroom
    have hrest : (a.payload ++ [b]).length + l.length ≤ n.toNat := by
      simp only [List.length_cons, List.length_append, List.length_nil] at hn ⊢
      omega
    have hlast : a.lastByte = (s.setReceive (.assemble { a with payload := a.payload ++ [b], sum := a.sum + b })).now := hnow
    rw [List.cons_append, receiveAll_cons b _ hbyte, ih (s.setReceive (.assemble { a with
      payload := a.payload ++ [b]
      sum := a.sum + b })) { a with payload := a.payload ++ [b], sum := a.sum + b } rfl hk hl hrest hlast]
    simp [State.setReceive, BitVec.add_assoc]

/-- R160: the check byte completes the sum. -/
theorem recordCheck_sum (r : Record) :
    (0 + r.kind + BitVec.ofNat 8 r.payload.length + r.payload.sum) + recordCheck r = 0 := by
  rw [recordCheck]
  ring

/-- R160: a frame received in HUNT is its record's arrival. -/
theorem receiveAll_recordFrame (s : State) (r : Record) (hlen : r.payload.length ≤ 250) (hr : s.link.receive = .hunt none) :
    receiveAll (recordFrame r) s = exec (.formatRefusal 0 r.kind r.payload) s := by
  have hn : (BitVec.ofNat 8 r.payload.length).toNat = r.payload.length := by
    rw [BitVec.toNat_ofNat]
    omega
  have hsync : exec (.receiveByte 0 0xC3 true) s = .next (s.setReceive (.hunt (some s.now))) :=
    exec_receiveByte_hunt s 0 _ true none hr
  have hbegins : exec (.receiveByte 0 0x3C true) (s.setReceive (.hunt (some s.now))) =
      .next (s.setReceive (.assemble ⟨none, none, [], 0, s.now⟩)) := exec_receiveByte_hunt (s.setReceive (.hunt (some s.now))) 0 _ true _ rfl
  have hkind : exec (.receiveByte 0 r.kind true) (s.setReceive (.assemble ⟨none, none, [], 0, s.now⟩)) =
      .next (s.setReceive (.assemble ⟨some r.kind, none, [], 0 + r.kind, s.now⟩)) :=
    exec_receiveByte_kind (s.setReceive (.assemble ⟨none, none, [], 0, s.now⟩)) 0 _ ⟨none, none, [], 0, s.now⟩ rfl rfl
  have hlength : exec (.receiveByte 0 (BitVec.ofNat 8 r.payload.length) true)
      (s.setReceive (.assemble ⟨some r.kind, none, [], 0 + r.kind, s.now⟩)) = .next (s.setReceive (.assemble
        ⟨some r.kind, some (BitVec.ofNat 8 r.payload.length), [], 0 + r.kind + BitVec.ofNat 8 r.payload.length, s.now⟩)) :=
    exec_receiveByte_length (s.setReceive (.assemble ⟨some r.kind, none, [], 0 + r.kind, s.now⟩)) 0 _ r.kind
      ⟨some r.kind, none, [], 0 + r.kind, s.now⟩ rfl rfl rfl (by omega)
  have hcheck : exec (.receiveByte 0 (recordCheck r) true) (s.setReceive (.assemble ⟨some r.kind,
      some (BitVec.ofNat 8 r.payload.length), r.payload, 0 + r.kind + BitVec.ofNat 8 r.payload.length + r.payload.sum,
      s.now⟩)) = exec (.formatRefusal 0 r.kind r.payload) (s.setReceive (.hunt none)) :=
    exec_receiveByte_complete _ 0 _ r.kind (BitVec.ofNat 8 r.payload.length) ⟨some r.kind, _, r.payload, _, s.now⟩ rfl rfl
      rfl (Nat.le_of_eq hn) (recordCheck_sum r)
  have hself : s.setReceive (.hunt none) = s := by rw [← hr]; rfl
  obtain ⟨t, ht⟩ := Rule.finish_next (Rule.arrives ⟨s.elapse 0, [], false⟩ ⟨r.kind, r.payload⟩)
  have harrival : exec (.formatRefusal 0 r.kind r.payload) s = .next t := ht
  rw [hself, harrival] at hcheck
  calc receiveAll (recordFrame r) s
      = receiveAll (r.payload ++ [recordCheck r]) (s.setReceive (.assemble ⟨some r.kind,
          some (BitVec.ofNat 8 r.payload.length), [], 0 + r.kind + BitVec.ofNat 8 r.payload.length, s.now⟩)) :=
        (receiveAll_cons _ _ hsync).trans ((receiveAll_cons _ _ hbegins).trans ((receiveAll_cons _ _ hkind).trans
          (receiveAll_cons _ _ hlength)))
    _ = receiveAll [recordCheck r] (s.setReceive (.assemble ⟨some r.kind, some (BitVec.ofNat 8 r.payload.length),
          r.payload, 0 + r.kind + BitVec.ofNat 8 r.payload.length + r.payload.sum, s.now⟩)) :=
        receiveAll_payload r.payload _ _ ⟨some r.kind, some (BitVec.ofNat 8 r.payload.length), [], _, s.now⟩ r.kind
          (BitVec.ofNat 8 r.payload.length) rfl rfl rfl (by simp [hn]) rfl
    _ = .next t := receiveAll_cons _ _ hcheck
    _ = exec (.formatRefusal 0 r.kind r.payload) s := harrival.symm

/-- Settles O52: the receiver follows the frame byte by byte, and a request's command is its record's arrival. -/
theorem framesBringTheirRecords : Obligations.FramesBringTheirRecords := by
  refine ⟨receiveAll_recordFrame, fun s q dt sw hq => ?_⟩
  rw [exec_commandOf s q dt sw hq]
  rfl

/-! ## Refused requests -/

/-- R162: a decision that is a refusal leaves its rule as it was. -/
def Decision.Spares (d : Decision) (r : Rule) : Prop := ∀ reason detail, d.answer = .refused reason detail → d.rule = r

@[simp] theorem Rule.spares_refuse (r : Rule) (reason : RefusalReason) : (r.refuse reason).Spares r := fun _ _ _ => rfl

@[simp] theorem Rule.spares_refuseWith (r : Rule) (reason : RefusalReason) (detail : RefusalDetail) :
    (r.refuseWith reason detail).Spares r := fun _ _ _ => rfl

@[simp] theorem Rule.spares_done (r u : Rule) : u.done.Spares r := nofun

@[simp] theorem Rule.spares_doneWith (r u : Rule) (payload : DonePayload) : (u.doneWith payload).Spares r := nofun

@[simp] theorem Decision.spares_status (r u : Rule) (payload : List Byte) : Decision.Spares ⟨.status payload, u⟩ r := nofun

@[simp] theorem Decision.spares_log (r u : Rule) (oldest newest : Nat) (records : List DropRecord) :
    Decision.Spares ⟨.log oldest newest records, u⟩ r := nofun

/-- R162: every owner that refuses a request changes nothing. -/
theorem Rule.ask_spares (r : Rule) (q : Request) : (r.ask q).Spares r := by
  cases q
  all_goals
    simp only [Rule.ask, Rule.decideRunMotor, Rule.decideStopMotor, Rule.decideSetSpeed, Rule.decideSetCueSense,
      Rule.decideCueClear, Rule.decideDouserTrial, Rule.decideStrike, Rule.decideExtinguish, Rule.decideSetArc,
      Rule.decideLoadCarbon, Rule.decideClearProgram, Rule.decideAddReel, Rule.decideArmReel, Rule.decideUnarm,
      Rule.decideStart, Rule.decideHold, Rule.decideChangeNow, Rule.decideSetHouseLevels, Rule.decideLightsSet,
      Rule.decideLightsRelease, Rule.decideClearSafety, Rule.decideArmPort, Rule.decideDropTest, Rule.decideClearEmergency,
      Rule.decideStatus, Rule.decideReadLog, Rule.decideSetClock, Rule.decideRestart]
    (repeat' split) <;> simp

/-- R162: so does the decision of any record. -/
theorem Rule.decideRecord_spares (r : Rule) (d : Record) : (r.decideRecord d).Spares r := by
  unfold Rule.decideRecord
  split
  · exact r.spares_refuse _
  · exact r.ask_spares _

/-- R165: what the blocks do after a decision leaves the reply in the slot. -/
theorem Rule.finish_slot {r : Rule} {t : State} (h : r.finish = .next t) : t.link.slot = r.st.link.slot := by
  have hsettle := (Rule.moves_settle settleBound r).fed.slot
  have hsend (l : Link) : l.sendHead.slot = l.slot := by
    unfold Link.sendHead
    (repeat' split) <;> rfl
  have htie (r : Rule) : r.breakTie.st.link.slot = r.st.link.slot := by
    unfold Rule.breakTie
    split
    · dsimp only [Rule.upd]
      split
      · rfl
      · exact hsend _
    · rfl
  cases h
  exact (htie _).trans hsettle

/-- R162: a record whose decision is a refusal leaves that refusal in the slot, and nothing else. -/
theorem Rule.finish_request_refused (s t : State) (q : Request) (reason : RefusalReason) (detail : RefusalDetail)
    (hs : s.linkReady) (ht : (Rule.request ⟨s, [], false⟩ q).finish = .next t)
    (hslot : t.link.slot = some (.refused q.kind reason detail)) : t = s.replied (.refused q.kind reason detail) := by
  obtain ⟨tie, htie, hr⟩ := Rule.request_ready s q hs
  have hreply := (Rule.finish_slot ht).symm.trans hslot
  rw [hr] at hreply ht
  obtain ⟨answer, rule, hd⟩ : ∃ answer rule, Rule.decideRecord ⟨s.setLink s.link.claimed, [], false⟩ (recordOf q) =
    ⟨answer, rule⟩ := ⟨_, _, rfl⟩
  have hspares := Rule.decideRecord_spares ⟨s.setLink s.link.claimed, [], false⟩ (recordOf q)
  rw [hd] at hspares hreply ht
  have hanswer : answer = .refused reason detail := by
    cases answer <;> simp_all [Answer.reply, Rule.upd, recordOf]
  subst hanswer
  obtain rfl := hspares reason detail rfl
  have hend : (Rule.finish ⟨s.replied (.refused q.kind reason detail), [], tie⟩) = .next (s.replied _) :=
    Rule.finish_settled (Rule.settle_nil _ _ _) htie
  exact (Host.Outcome.next.inj (hend.symm.trans ht)).symm

/-- R169: while a show or a motor runs RESTART is refused, and reads no switches. -/
theorem exec_restart_refused (s : State) (dt : Nat) (sw : Bank SwitchPair 8) (hs : s.linkReady) (hb : s.busy = true) :
    exec (.restart dt sw) s = .next ((s.elapse dt).replied (.refused 43 .active .nothing)) := by
  have hunread : (s.elapse dt).readSwitches sw = s.elapse dt := by
    refine State.readSwitches_refused _ sw (decide_eq_false fun h => h.2.2 ?_)
    exact hb
  have hrun : exec (.restart dt sw) s = (Rule.request ⟨(s.elapse dt).readSwitches sw, [], false⟩ .restart).finish := rfl
  rw [hrun, hunread]
  refine Rule.finish_answered (s.elapse dt) .restart (.refused .active .nothing) hs rfl ?_
  rw [Rule.ask, Rule.decideRestart]
  exact if_pos hb

/-- R169: whether a show or a motor runs is read off the houses and the transports. -/
theorem State.busy_congr {s t : State} (hh : t.houses = s.houses) (ht : t.transports = s.transports) : t.busy = s.busy := by
  have hhs : t.hs = s.hs := by
    unfold State.hs
    rw [hh]
  have htr : t.tr = s.tr := by
    unfold State.tr
    rw [ht]
  rw [State.busy, State.busy, hhs, htr]

/-- R48, R169: reading the switches leaves the shows and the motors as they are. -/
theorem State.readSwitches_busy (s : State) (sw : Bank SwitchPair 8) : (s.readSwitches sw).busy = s.busy := by
  refine State.busy_congr (s.readSwitches_keeps sw).2 ?_
  unfold State.readSwitches
  split
  · exact State.each_keeps State.transports _ (by simp) allProjs s
  · rfl

/-- R169: at rest RESTART is DONE. -/
theorem exec_restart_slot (s t : State) (dt : Nat) (sw : Bank SwitchPair 8) (hs : s.linkReady) (hb : s.busy = false)
    (ht : exec (.restart dt sw) s = .next t) : t.link.slot = some (.done 43 .nothing) := by
  obtain ⟨hlink, -⟩ := (s.elapse dt).readSwitches_keeps sw
  have hready : ((s.elapse dt).readSwitches sw).linkReady := by simpa [State.linkReady, hlink] using hs
  have hrun : exec (.restart dt sw) s = (Rule.request ⟨(s.elapse dt).readSwitches sw, [], false⟩ .restart).finish := rfl
  obtain ⟨tie, -, hr⟩ := Rule.request_ready _ .restart hready
  have hidle : (((s.elapse dt).readSwitches sw).setLink ((s.elapse dt).readSwitches sw).link.claimed).busy = false :=
    calc _ = ((s.elapse dt).readSwitches sw).busy := State.busy_congr rfl rfl
      _ = (s.elapse dt).busy := (s.elapse dt).readSwitches_busy sw
      _ = false := hb
  rw [hrun, hr, Rule.decideRecord_recordOf _ _ rfl, Rule.ask, Rule.decideRestart, hidle] at ht
  exact Rule.finish_slot ht

/-- Settles O55: a decision that refuses is the owner's refusal, which touches nothing; a RESTART that is refused has read no
switches. -/
theorem refusedRequestChangesNothing : Obligations.RefusedRequestChangesNothing := by
  intro s t q dt sw reason detail hs he hslot
  by_cases hq : q = .restart
  · subst hq
    cases hb : s.busy with
    | true =>
      obtain rfl := Host.Outcome.next.inj ((exec_restart_refused s dt sw hs hb).symm.trans he)
      obtain ⟨-, rfl, rfl⟩ := Reply.refused.inj (Option.some.inj hslot)
      rfl
    | false => simp [exec_restart_slot s t dt sw hs hb he] at hslot
  · rw [exec_commandOf s q dt sw hq] at he
    exact Rule.finish_request_refused (s.elapse dt) t q reason detail hs he hslot

/-! ## Records that wait -/

/-- R161: a record that can be neither taken nor kept waiting is lost. -/
theorem Rule.arrives_lost (r : Rule) (d : Record) (hb : 2 ≤ r.st.link.buffer.length) :
    r.arrives d = r.upd (fun s => s.lineError .overrun) := by
  have hne : r.st.link.buffer ≠ [] := fun h => by simp [h] at hb
  have hfull : ¬ r.st.link.buffer.length < bufferCapacity := Nat.not_lt.2 hb
  simp [Rule.arrives, hne, hfull]

/-- R161: a record that cannot be taken waits. -/
theorem Rule.arrives_waits (r : Rule) (d : Record) (hb : r.st.link.buffer.length < 2)
    (hbusy : r.st.link.buffer ≠ [] ∨ r.st.link.slot ≠ none) :
    r.arrives d = r.upd (fun s => s.setLink { s.link with buffer := s.link.buffer ++ [d] }) := by
  have hnot : ¬ (r.st.link.buffer = [] ∧ r.st.link.slot = none) := by tauto
  have hroom : r.st.link.buffer.length < bufferCapacity := hb
  simp [Rule.arrives, hnot, hroom]

/-- R161: the command of a request whose record cannot be taken brings that record alone: a RESTART reads no switches. -/
theorem exec_commandOf_untaken (s : State) (q : Request) (dt : Nat) (sw : Bank SwitchPair 8)
    (hbusy : s.link.buffer ≠ [] ∨ s.link.slot ≠ none) :
    exec (commandOf q dt sw) s = (Rule.request ⟨s.elapse dt, [], false⟩ q).finish := by
  by_cases hq : q = .restart
  · subst hq
    have hunread : (s.elapse dt).readSwitches sw = s.elapse dt := by
      refine State.readSwitches_refused _ sw (decide_eq_false fun h => ?_)
      rcases hbusy with hb | hslot
      · exact hb h.1
      · exact hslot h.2.1
    have hrun : exec (.restart dt sw) s = (Rule.request ⟨(s.elapse dt).readSwitches sw, [], false⟩ .restart).finish := rfl
    rw [commandOf, hrun, hunread]
  · exact exec_commandOf s q dt sw hq

/-! ## The transmitter -/

/-- R165: the end of a report's sending: the transmitter chooses. -/
theorem exec_transmitEnd_report (s : State) (dt : Nat) (r : Report) (ht : s.link.transmitter = .report r) :
    exec (.transmitEnd dt) s = .next ((s.elapse dt).setLink s.link.choose) := by
  have hrun : exec (.transmitEnd dt) s = (Rule.transmitEnds ⟨s.elapse dt, [], false⟩).finish := rfl
  have htr : (s.elapse dt).link.transmitter = .report r := ht
  rw [hrun, Rule.transmitEnds, htr]
  exact Rule.finish_plain _

/-- R162, R165: the end of a reply's sending with no record waiting: the slot empties and the transmitter chooses. -/
theorem exec_transmitEnd_reply (s : State) (dt : Nat) (ht : s.link.transmitter = .reply) (hb : s.link.buffer = []) :
    exec (.transmitEnd dt) s = .next ((s.elapse dt).setLink { s.link with slot := none }.choose) := by
  have hrun : exec (.transmitEnd dt) s = (Rule.transmitEnds ⟨s.elapse dt, [], false⟩).finish := rfl
  have htr : (s.elapse dt).link.transmitter = .reply := ht
  have hbuf : (s.elapse dt).link.buffer = [] := hb
  rw [hrun, Rule.transmitEnds, htr, Rule.replySent, hbuf]
  dsimp only
  rw [show Rule.settle settleBound (Rule.upd ⟨s.elapse dt, [], false⟩ fun s => s.setLink { s.link with slot := none }) =
    Rule.upd ⟨s.elapse dt, [], false⟩ (fun s => s.setLink { s.link with slot := none }) from Rule.settle_nil _ _ _]
  exact Rule.finish_plain _

/-- R162, R165: the end of a reply's sending with a record waiting that is no request's: its refusal is sent next. -/
theorem exec_transmitEnd_format (s : State) (dt : Nat) (d : Record) (more : List Record) (ht : s.link.transmitter = .reply)
    (hb : s.link.buffer = d :: more) (hd : parseRequest d = none) : exec (.transmitEnd dt) s =
      .next ((s.elapse dt).setLink { s.link with slot := some (.refused d.kind .format .nothing), buffer := more }) := by
  have hrun : exec (.transmitEnd dt) s = (Rule.transmitEnds ⟨s.elapse dt, [], false⟩).finish := rfl
  have htr : (s.elapse dt).link.transmitter = .reply := ht
  have hbuf : (s.elapse dt).link.buffer = d :: more := hb
  have hrest : Rule.replySent ⟨s.elapse dt, [], false⟩ = ⟨(s.elapse dt).setLink { s.link with
      slot := some (.refused d.kind .format .nothing), buffer := more }, [], false⟩ := by
    simp [Rule.replySent, hb, Rule.takeRecord, Rule.claim, Rule.upd, ht, Rule.decideRecord, hd, Rule.refuse, Answer.reply]
  rw [hrun, Rule.transmitEnds, htr]
  dsimp only
  rw [hrest, Rule.settle_nil]
  refine (Rule.finish_plain _).trans ?_
  simp [Link.choose, ht]

/-- R165: a reply in the slot is sent next. -/
theorem Link.choose_slot (l : Link) (y : Reply) (hs : l.slot = some y) : l.choose = { l with transmitter := .reply } := by
  simp [Link.choose, hs]

/-- R165: with nothing to send the transmitter is IDLE. -/
theorem Link.choose_nothing (l : Link) (hs : l.slot = none) (hq : l.queue = []) :
    l.choose = { l with transmitter := .idle } := by
  simp [Link.choose, hs, hq]

/-- R165: a transmitter that has nothing in the slot sends the report at the head of the queue. -/
theorem Link.choose_head (l : Link) (x : Report) (rest : List Report) (hs : l.slot = none) (hq : l.queue = x :: rest)
    (hl : l.lost = none) : l.choose = { l with transmitter := .report x, queue := rest } := by
  simp [Link.choose, Link.sendHead, hs, hq, hl]

/-- Settles O56, by what waits and what the transmitter has been sending. -/
theorem recordsWaitAndAreSentInTurn : Obligations.RecordsWaitAndAreSentInTurn := by
  refine ⟨fun s q dt sw => ⟨fun hb hbusy => ?_, fun hb hq => ?_⟩, fun s dt r x y rest d more n => ⟨fun ht => ?_,
    fun ht hslot => ?_, fun ht hslot hq => ?_, fun ht hslot hq hl => ?_, fun ht hslot hq hl => ?_, fun ht hb hq hl => ?_,
    fun ht hb hq => ?_, exec_transmitEnd_format s dt d more⟩⟩
  · rw [exec_commandOf_untaken s q dt sw hbusy, Rule.request, Rule.arrives_waits _ _ hb hbusy]
    exact Rule.finish_plain _
  · have hne : s.link.buffer ≠ [] := fun h => by simp [h] at hb
    rw [exec_commandOf_untaken s q dt sw (.inl hne), Rule.request, Rule.arrives_lost _ _ hb]
    refine (Rule.finish_plain _).trans (congrArg _ ?_)
    exact State.lineError_first (s.elapse dt) .overrun hq
  · have hrun : exec (.transmitEnd dt) s = (Rule.transmitEnds ⟨s.elapse dt, [], false⟩).finish := rfl
    have htr : (s.elapse dt).link.transmitter = .idle := ht
    rw [hrun, Rule.transmitEnds, htr]
    exact Rule.finish_plain _
  · rw [exec_transmitEnd_report s dt r ht, Link.choose_slot _ y hslot]
  · rw [exec_transmitEnd_report s dt r ht, Link.choose_nothing _ hslot hq]
  · rw [exec_transmitEnd_report s dt r ht, Link.choose_head _ x rest hslot hq hl]
  · simp [exec_transmitEnd_report s dt r ht, Link.choose, Link.sendHead, hslot, hq, hl]
  · rw [exec_transmitEnd_reply s dt ht hb, Link.choose_head { s.link with slot := none } x rest rfl hq hl]
  · rw [exec_transmitEnd_reply s dt ht hb, Link.choose_nothing { s.link with slot := none } rfl hq]

end Sys2Proof.Machine
end

section
/-! PROOFS. Tach pulses outside a show: what the reader and the lamp do with a counted pulse, and what becomes of the transport. -/

namespace Sys2Proof.Machine

/-! ## What the reader of a projector touches -/

/-- From `s` to `t` only the reader and the lamp of projector `p` and the link have changed, the lamp not in what its judgement
rests on. -/
structure State.ByReader (s t : State) (p : Proj) : Prop where
  transports : t.transports = s.transports
  dousers : t.dousers = s.dousers
  houses : t.houses = s.houses
  lights : t.lights = s.lights
  ports : t.ports = s.ports
  booth : t.booth = s.booth
  now : t.now = s.now
  draws : t.draws = s.draws
  readers : ∀ q, q ≠ p → t.rd q = s.rd q
  lamps : ∀ q, q ≠ p → t.lp q = s.lp q

theorem State.ByReader.refl (s : State) (p : Proj) : s.ByReader s p :=
  ⟨rfl, rfl, rfl, rfl, rfl, rfl, rfl, rfl, fun _ _ => rfl, fun _ _ => rfl⟩

theorem State.ByReader.trans {s t u : State} {p : Proj} (h : s.ByReader t p) (k : t.ByReader u p) : s.ByReader u p where
  transports := k.transports.trans h.transports
  dousers := k.dousers.trans h.dousers
  houses := k.houses.trans h.houses
  lights := k.lights.trans h.lights
  ports := k.ports.trans h.ports
  booth := k.booth.trans h.booth
  now := k.now.trans h.now
  draws := k.draws.trans h.draws
  readers q hq := (k.readers q hq).trans (h.readers q hq)
  lamps q hq := (k.lamps q hq).trans (h.lamps q hq)

theorem State.ByReader.tr {s t : State} {p : Proj} (h : s.ByReader t p) (q : Proj) : t.tr q = s.tr q := by
  simp [State.tr, h.transports]

theorem State.ByReader.ds {s t : State} {p : Proj} (h : s.ByReader t p) (q : Proj) : t.ds q = s.ds q := by
  simp [State.ds, h.dousers]

theorem State.ByReader.hs {s t : State} {p : Proj} (h : s.ByReader t p) (g : HouseId) : t.hs g = s.hs g := by
  simp [State.hs, h.houses]

/-- The reader's own record replaced. -/
theorem State.byReader_setRd (s : State) (p : Proj) (x : Reader) : s.ByReader (s.setRd p x) p :=
  ⟨rfl, rfl, rfl, rfl, rfl, rfl, rfl, rfl, fun q hq => by simp [hq], fun _ _ => rfl⟩

/-- A report queued. -/
theorem State.byReader_report (s : State) (p : Proj) (n : Nat) (b : ReportBody) : s.ByReader (s.report n b) p :=
  ⟨rfl, rfl, rfl, rfl, rfl, rfl, rfl, rfl, fun _ _ => rfl, fun _ _ => rfl⟩

/-- The lamp's record replaced. -/
theorem State.byReader_setLp (s : State) (p : Proj) (x : Lamp) : s.ByReader (s.setLp p x) p :=
  ⟨rfl, rfl, rfl, rfl, rfl, rfl, rfl, rfl, fun _ _ => rfl, fun q hq => by simp [hq]⟩

/-- The link replaced. -/
theorem State.byReader_setLink (s : State) (p : Proj) (x : Link) : s.ByReader (s.setLink x) p :=
  ⟨rfl, rfl, rfl, rfl, rfl, rfl, rfl, rfl, fun _ _ => rfl, fun _ _ => rfl⟩

/-- From `r` to `r'` the reader of `p` has worked: `n` entries at most have joined its queue. -/
structure Rule.Reads (r r' : Rule) (p : Proj) (n : Nat) : Prop where
  state : r.st.ByReader r'.st p
  agenda : ∃ l, r'.agenda = r.agenda ++ l ∧ l.length ≤ n ∧ ∀ y ∈ l, y = .cues p
  tie : r'.tie = r.tie

theorem Rule.Reads.refl (r : Rule) (p : Proj) : r.Reads r p 0 := ⟨.refl _ _, ⟨[], by simp⟩, rfl⟩

theorem Rule.Reads.trans {r r' r'' : Rule} {p : Proj} {m n : Nat} (h : r.Reads r' p m) (k : r'.Reads r'' p n) :
    r.Reads r'' p (m + n) := by
  obtain ⟨l, hl, hlen, hcues⟩ := h.agenda
  obtain ⟨l', hl', hlen', hcues'⟩ := k.agenda
  refine ⟨h.state.trans k.state, ⟨l ++ l', by simp [hl, hl'], by simpa using Nat.add_le_add hlen hlen', fun y hy => ?_⟩,
    k.tie.trans h.tie⟩
  rcases List.mem_append.1 hy with hy | hy
  · exact hcues y hy
  · exact hcues' y hy

theorem Rule.Reads.mono {r r' : Rule} {p : Proj} {m n : Nat} (h : r.Reads r' p m) (hmn : m ≤ n) : r.Reads r' p n := by
  obtain ⟨l, hl, hlen, hcues⟩ := h.agenda
  exact ⟨h.state, ⟨l, hl, hlen.trans hmn, hcues⟩, h.tie⟩

/-- A change of the reader, the lamp and the link alone tells the blocks of nothing. -/
theorem Rule.reads_upd (r : Rule) (p : Proj) (f : State → State) (hf : r.st.ByReader (f r.st) p) : r.Reads (r.upd f) p 0 :=
  ⟨hf, ⟨[], by simp [Rule.upd]⟩, rfl⟩

/-- R30: a joining entry. -/
theorem Rule.reads_joinCue (r : Rule) (p : Proj) (e : CueEntry) : r.Reads (r.joinCue p e) p 1 := by
  unfold Rule.joinCue
  dsimp only
  split
  · exact ⟨(State.byReader_setRd ..).trans (State.byReader_report ..), ⟨[.cues p], by simp [Rule.emit, Rule.upd]⟩, rfl⟩
  · exact (r.reads_upd p _ (State.byReader_report ..)).mono (by omega)

/-- R28, R31: joining entries, of which the queue takes eight at most. -/
theorem Rule.reads_joinCues (r : Rule) (p : Proj) (es : List CueEntry) : r.Reads (r.joinCues p es) p 8 := by
  have hrest : r.st.ByReader (r.joinCues p es).st p ∧ (r.joinCues p es).tie = r.tie := by
    induction es generalizing r with
    | nil => exact ⟨.refl _ _, rfl⟩
    | cons e es ih =>
      have hfirst := r.reads_joinCue p e
      obtain ⟨hst, htie⟩ := ih (r.joinCue p e)
      exact ⟨hfirst.state.trans hst, htie.trans hfirst.tie⟩
  obtain ⟨l, hl, hlen, hcues⟩ := r.joinCues_agenda p es
  exact ⟨hrest.1, ⟨l, hl, by omega, hcues⟩, hrest.2⟩

/-- R28: a closing group. -/
theorem Rule.reads_closeGroup (r : Rule) (p : Proj) (g : TabGroup) : r.Reads (r.closeGroup p g) p 9 :=
  ((r.reads_joinCue p g.entry).trans ((Rule.reads_upd _ p _ ((State.byReader_setRd ..).trans (State.byReader_setLp ..))).trans
    (Rule.reads_joinCues _ p _))).mono (by omega)

/-- R23 to R28: an examined frame. -/
theorem Rule.reads_examine (r : Rule) (p : Proj) (reading : Nat) : r.Reads (r.examine p reading) p 9 := by
  have hnone (r : Rule) : r.Reads r p 9 := (Rule.Reads.refl r p).mono (by omega)
  have hset (r : Rule) (x : Reader) : r.Reads (r.upd (fun s => s.setRd p x)) p 9 :=
    (r.reads_upd p _ (State.byReader_setRd ..)).mono (by omega)
  have hgap (g : TabGroup) : r.Reads (r.gapFrame p g reading) p 9 := by
    unfold Rule.gapFrame
    dsimp only
    split_ifs
    · exact hset _ _
    · exact r.reads_closeGroup p g
    · exact hset _ _
  unfold Rule.examine
  dsimp only
  split
  · split
    · exact hnone r
    · split
      · exact hnone r
      · exact hset _ _
    · exact hset _ _
    · exact hset _ _
    · exact hgap _
    · exact hnone r
    · exact hnone r
  · exact hnone r

/-- R22: a reader that stops. -/
theorem Rule.reads_readerStops (r : Rule) (p : Proj) : r.Reads (r.readerStops p) p 8 := by
  unfold Rule.readerStops
  dsimp only
  split
  · exact ((r.reads_upd p _ ((State.byReader_setRd ..).trans (State.byReader_setLp ..))).trans
      (Rule.reads_joinCues _ p _)).mono (by omega)
  · exact (r.reads_upd p _ (State.byReader_setRd ..)).mono (by omega)

/-! ## A pulse passed on outside a show -/

theorem State.houseAtRest_congr {s t : State} (hh : t.houses = s.houses) (h : HouseId) :
    t.houseAtRest h ↔ s.houseAtRest h := by
  simp only [State.houseAtRest, State.hs, hh]

theorem State.atRest_congr {s t : State} (hh : t.houses = s.houses) (hd : t.dousers = s.dousers) (p : Proj) :
    t.atRest p ↔ s.atRest p := by
  simp only [State.atRest, State.houseAtRest_congr hh, State.ds, hd]

/-- What is quiet is read off the houses and the dousers. -/
theorem Signal.quiet_congr {s t : State} (hh : t.houses = s.houses) (hd : t.dousers = s.dousers) (x : Signal) :
    x.quiet t ↔ x.quiet s := by
  cases x <;> simp only [Signal.quiet, State.atRest_congr hh hd, State.houseAtRest_congr hh]

/-- R5: a house at rest has nothing to do with a pulse. -/
theorem Rule.housePulse_atRest (r : Rule) (p : Proj) (hr : r.st.houseAtRest (houseOf p)) : r.housePulse p = r := by
  obtain ⟨hshow, hchange, hretiring, -, hcount⟩ := hr
  obtain ⟨-, hshowing, hending⟩ := HouseState.inShow_false hshow
  have hlive : r.countLivePulse (houseOf p) p = r := by
    unfold Rule.countLivePulse
    rw [hcount]
    split
    · split <;> simp_all
    · rfl
  have hretire : r.countRetirePulse (houseOf p) p = r := by simp [Rule.countRetirePulse, hretiring]
  have hshown : r.showPulse (houseOf p) p = r := by simp [Rule.showPulse, hshowing]
  have hcross : r.crossingTest (houseOf p) = r := by simp [Rule.crossingTest, hchange]
  unfold Rule.housePulse
  dsimp only
  rw [hlive, hretire, hshown, Rule.pictureTest_atRest r _ hshow, hcross]

/-- R5, R80: a counted pulse in a house at rest: what the reader makes of it, and then the judgement. -/
theorem Rule.finish_passPulse (s : State) (l : List Signal) (p : Proj) (reading : Nat) (hr : s.atRest p)
    (hl : l.length ≤ 1) (hq : ∀ x ∈ l, x.quiet s) : ∃ u, s.ByReader u p ∧
      u = (Rule.examine ⟨s, l, false⟩ p reading).st ∧
      (Rule.passPulse ⟨s, l, false⟩ p reading).finish = .next (u.judged p) := by
  obtain ⟨hstate, ⟨l', hl', hlen', hcues'⟩, htie⟩ := Rule.reads_examine ⟨s, l, false⟩ p reading
  refine ⟨_, hstate, rfl, ?_⟩
  rw [Rule.passPulse]
  generalize Rule.examine ⟨s, l, false⟩ p reading = r at *
  obtain ⟨u, l₁, tie⟩ := r
  dsimp only at hstate hl' htie
  subst hl' htie
  obtain ⟨l'', hl'', hjudged⟩ := Rule.evalSufficiency_cases u (l ++ l') false p
  have hhouses : (u.judged p).houses = s.houses := hstate.houses
  have hdousers : (u.judged p).dousers = s.dousers := hstate.dousers
  have hrest : (u.judged p).atRest p := (State.atRest_congr hhouses hdousers p).2 hr
  rw [hjudged, Rule.housePulse_atRest ⟨u.judged p, _, _⟩ p hrest.1]
  refine Rule.finish_quiet _ _ ?_ fun x hx => ?_
  · have hlast : l''.length ≤ 1 := by rcases hl'' with rfl | rfl <;> simp
    simp only [List.length_append, settleBound]
    omega
  · simp only [List.mem_append] at hx
    rcases hx with (hx | hx) | hx
    · exact (Signal.quiet_congr hhouses hdousers x).2 (hq x hx)
    · rw [hcues' x hx]
      exact hrest
    · obtain rfl : x = .readiness (houseOf p) := by
        rcases hl'' with rfl | rfl
        · simp at hx
        · simpa using hx
      exact hrest.1

/-- R5: such a pulse, seen in the banks: the transport's record is the one counted, the lamp of `p` is judged afresh, and of the
rest only the reader and the lamp of `p` and the link are touched. -/
theorem Rule.finish_passPulse_keeps (s : State) (l : List Signal) (p : Proj) (reading : Nat) (hr : s.atRest p)
    (hl : l.length ≤ 1) (hq : ∀ x ∈ l, x.quiet s) : ∃ t, (Rule.passPulse ⟨s, l, false⟩ p reading).finish = .next t ∧
      s.ByReader t p ∧ (t.lp p).sufficiency = t.sufficiencyOf p := by
  obtain ⟨u, hu, -, hend⟩ := Rule.finish_passPulse s l p reading hr hl hq
  refine ⟨_, hend, hu.trans (State.byReader_setLp ..), ?_⟩
  rw [State.sufficiencyOf_judged]
  simp

/-! ## Pulses while STARTING and while RUNNING -/

/-- What the statements of a counted pulse say is left alone, from where the transport's record alone was replaced. -/
theorem State.ByReader.of_setTr {s t : State} {dt : Nat} {p : Proj} {x : Transport}
    (h : ((s.elapse dt).setTr p x).ByReader t p) : t.tr p = x ∧
      (∀ q, q ≠ p → t.tr q = s.tr q ∧ t.rd q = s.rd q ∧ t.lp q = s.lp q) ∧ t.dousers = s.dousers ∧ t.houses = s.houses ∧
      t.lights = s.lights ∧ t.ports = s.ports ∧ t.booth = s.booth := by
  refine ⟨by simp [h.tr], fun q hq => ⟨by simp [h.tr, hq], ?_, ?_⟩, h.dousers, h.houses, h.lights, h.ports, h.booth⟩
  · exact h.readers q hq
  · exact h.lamps q hq

/-- R5 to R7: the transport after a counted pulse while STARTING. -/
def Transport.pulsedStarting (t : Transport) (now : Instant) (speed : Nat) : Transport :=
  match t.lastPulse with
  | none => t.count now
  | some prev =>
    let t1 := (t.lockStep prev now speed).count now
    if t1.lockCount = 8 then t1.lock else t1

/-- R5 to R7: a counted pulse while STARTING leaves that record, and tells of the lock. -/
theorem Rule.pulseStarting_counts (s : State) (p : Proj) : ∃ u l, Rule.pulseStarting ⟨s, [], false⟩ p = ⟨u, l, false⟩ ∧
    (s.setTr p ((s.tr p).pulsedStarting s.now (s.speedOf p))).ByReader u p ∧ l.length ≤ 1 ∧
    ∀ y ∈ l, y = .transport p .running := by
  unfold Rule.pulseStarting Transport.pulsedStarting
  dsimp only
  cases (s.tr p).lastPulse with
  | none => exact ⟨_, [], rfl, .refl _ _, by simp, by simp⟩
  | some prev =>
    dsimp only
    split
    · exact ⟨_, [.transport p .running], rfl, State.byReader_report .., by simp, by simp⟩
    · exact ⟨_, [], rfl, .refl _ _, by simp, by simp⟩

/-- R5: the pulse of a STARTING transport of a house at rest. -/
theorem exec_tachPulse_starting (s : State) (dt : Nat) (p : Proj) (reading : Byte) (hr : s.atRest p)
    (hst : (s.tr p).state = .starting) : ∃ t, exec (.tachPulse dt p reading) s = .next t ∧
      (t.lp p).sufficiency = t.sufficiencyOf p ∧
      ((s.elapse dt).setTr p ((s.tr p).pulsedStarting (s.now + dt) (s.speedOf p))).ByReader t p := by
  obtain ⟨u, l, hpulse, hu, hlen, hl⟩ := Rule.pulseStarting_counts (s.elapse dt) p
  have hrest : u.atRest p := (State.atRest_congr hu.houses hu.dousers p).2 hr
  obtain ⟨t, ht, hut, hjudged⟩ := Rule.finish_passPulse_keeps u l p reading.toNat hrest hlen fun x hx => by
    rw [hl x hx]
    exact hrest
  refine ⟨t, ?_, hjudged, hu.trans hut⟩
  have hrun : exec (.tachPulse dt p reading) s = (Rule.pulse ⟨s.elapse dt, [], false⟩ p reading.toNat).finish := rfl
  have hstate : ((s.elapse dt).tr p).state = .starting := hst
  rw [hrun, Rule.pulse, hstate]
  dsimp only
  rw [hpulse]
  exact ht

/-- R2: whether an interval is in tolerance. -/
theorem inTolerance_iff (u speed : Nat) : inTolerance u speed = true ↔ 9800 ≤ u * speed ∧ u * speed ≤ 10200 := by
  simp [inTolerance]

/-- R6: an interval out of tolerance ends the run of those in tolerance. -/
theorem Transport.pulsedStarting_out (t : Transport) (now u : Instant) (speed : Nat) (hu : t.lastPulse = some u)
    (hm : ¬ inTolerance (now - u) speed = true) : t.pulsedStarting now speed = { t with
      counter := countFrame t.counter
      lastPulse := some now
      lockCount := 0
      lockRunStart := none } := by
  simp [Transport.pulsedStarting, hu, Transport.lockStep, hm, Transport.count]

/-- R6: an interval in tolerance, short of the lock. -/
theorem Transport.pulsedStarting_in (t : Transport) (now u : Instant) (speed : Nat) (hu : t.lastPulse = some u)
    (hm : inTolerance (now - u) speed = true) (hn : t.lockCount < 7) : t.pulsedStarting now speed = { t with
      counter := countFrame t.counter
      lastPulse := some now
      lockCount := t.lockCount + 1
      lockRunStart := if t.lockCount = 0 then some u else t.lockRunStart } := by
  have hshort : t.lockCount ≠ 7 := by omega
  simp [Transport.pulsedStarting, hu, Transport.lockStep, hm, Transport.count, hshort]

/-- R7: the eighth interval in tolerance locks the speed. -/
theorem Transport.pulsedStarting_lock (t : Transport) (now u on start : Instant) (speed : Nat) (hu : t.lastPulse = some u)
    (hm : inTolerance (now - u) speed = true) (hn : t.lockCount = 7) (hon : t.motorOn = some on)
    (hstart : t.lockRunStart = some start) : t.pulsedStarting now speed = { t with
      counter := countFrame t.counter
      lastPulse := some now
      lockCount := 8
      state := .running
      runUp := learnRunUp t.runUp (elapsedMs on start)
      motorOn := none
      lockRunStart := none
      miss := .normal
      outCount := 0
      speedFault := false
      recovery := 0 } := by
  simp [Transport.pulsedStarting, hu, Transport.lockStep, hm, Transport.count, hn, Transport.lock, Transport.measuredRunUp,
    hon, hstart]

/-- Settles O7, by the interval that the pulse ends. -/
theorem pulseWhileStarting : Obligations.PulseWhileStarting := by
  intro s dt p reading u on start m hr hst hm
  obtain ⟨t, ht, hjudged, hby⟩ := exec_tachPulse_starting s dt p reading hr hst
  obtain ⟨htr, hothers, hds, hhs, hlt, hpt, hbooth⟩ := hby.of_setTr
  have htol := inTolerance_iff (s.now + dt - u) (s.speedOf p)
  refine ⟨t, ht, hothers, hjudged, hds, hhs, hlt, hpt, hbooth, fun hu => ?_, fun hu hout => ?_, fun hu hlo hhi hn => ?_,
    fun hu hlo hhi hn hon hstart => ?_⟩
  · rw [htr, Transport.pulsedStarting, hu]
    rfl
  · rw [htr, Transport.pulsedStarting_out _ _ u _ hu fun h => ?_]
    · rfl
    · obtain ⟨hlo, hhi⟩ := htol.1 h
      rw [← hm] at hlo hhi
      omega
  · rw [htr, Transport.pulsedStarting_in _ _ u _ hu (htol.2 (hm ▸ ⟨hlo, hhi⟩)) hn]
    rfl
  · rw [htr, Transport.pulsedStarting_lock _ _ u on start _ hu (htol.2 (hm ▸ ⟨hlo, hhi⟩)) hn hon hstart]
    rfl

/-- R9, R10: the transport after a counted pulse while RUNNING that ends an interval. -/
def Transport.pulsedRunning (t : Transport) (prev now : Instant) (speed : Nat) : Transport :=
  ({ t with miss := .normal }.speedStep (inTolerance (now - prev) speed)).count now

/-- R9, R10: a counted pulse while RUNNING leaves that record, and tells the blocks of nothing. -/
theorem Rule.pulseRunning_leaves (s : State) (p : Proj) (u : Instant) (hu : (s.tr p).lastPulse = some u) :
    ∃ v, Rule.pulseRunning ⟨s, [], false⟩ p = ⟨v, [], false⟩ ∧
      (s.setTr p ((s.tr p).pulsedRunning u s.now (s.speedOf p))).ByReader v p := by
  unfold Rule.pulseRunning
  dsimp only
  split
  next hnone => simp [hu] at hnone
  next prev hprev =>
    obtain rfl : u = prev := Option.some.inj (hu.symm.trans hprev)
    split
    · exact ⟨_, rfl, State.byReader_report ..⟩
    · exact ⟨_, rfl, .refl _ _⟩

/-- R5: the pulse of a RUNNING transport of a house at rest. -/
theorem exec_tachPulse_running (s : State) (dt : Nat) (p : Proj) (reading : Byte) (u : Instant) (hr : s.atRest p)
    (hst : (s.tr p).state = .running) (hu : (s.tr p).lastPulse = some u) :
    ∃ t, exec (.tachPulse dt p reading) s = .next t ∧ (t.lp p).sufficiency = t.sufficiencyOf p ∧
      ((s.elapse dt).setTr p ((s.tr p).pulsedRunning u (s.now + dt) (s.speedOf p))).ByReader t p := by
  obtain ⟨v, hpulse, hv⟩ := Rule.pulseRunning_leaves (s.elapse dt) p u hu
  have hrest : v.atRest p := (State.atRest_congr hv.houses hv.dousers p).2 hr
  obtain ⟨t, ht, hvt, hjudged⟩ := Rule.finish_passPulse_keeps v [] p reading.toNat hrest (by simp) (by simp)
  refine ⟨t, ?_, hjudged, hv.trans hvt⟩
  have hrun : exec (.tachPulse dt p reading) s = (Rule.pulse ⟨s.elapse dt, [], false⟩ p reading.toNat).finish := rfl
  have hstate : ((s.elapse dt).tr p).state = .running := hst
  rw [hrun, Rule.pulse, hstate]
  dsimp only
  rw [hpulse]
  exact ht

/-- R10: what the bookkeeping of an interval leaves alone. -/
theorem Transport.speedStep_leaves (t : Transport) (good : Bool) :
    (t.speedStep good).state = t.state ∧ (t.speedStep good).counter = t.counter ∧ (t.speedStep good).miss = t.miss ∧
      (t.speedStep good).runUp = t.runUp ∧ (t.speedStep good).lockCount = t.lockCount ∧
      (t.speedStep good).armed = t.armed := by
  unfold Transport.speedStep
  split_ifs <;> exact ⟨rfl, rfl, rfl, rfl, rfl, rfl⟩

/-- Settles O8, by the speed-fault mark and the interval that the pulse ends. -/
theorem pulseWhileRunning : Obligations.PulseWhileRunning := by
  intro s dt p reading u m hr hst hu hm
  obtain ⟨t, ht, hjudged, hby⟩ := exec_tachPulse_running s dt p reading u hr hst hu
  obtain ⟨htr, hothers, hds, hhs, hlt, hpt, hbooth⟩ := hby.of_setTr
  obtain ⟨hstate, hcounter, hmiss, hrunUp, hlock, harmed⟩ := { s.tr p with miss := .normal }.speedStep_leaves
    (inTolerance (s.now + dt - u) (s.speedOf p))
  have htol := inTolerance_iff (s.now + dt - u) (s.speedOf p)
  rw [← hm] at htol
  refine ⟨t, ht, hothers, hjudged, hds, hhs, hlt, hpt, hbooth, ?_⟩
  rw [htr]
  refine ⟨hstate.trans hst, congrArg countFrame hcounter, rfl, hmiss, hrunUp, hlock, harmed, ?_⟩
  unfold Transport.pulsedRunning Transport.count Transport.speedStep
  by_cases hgood : 9800 ≤ m ∧ m ≤ 10200
  · rw [htol.2 hgood]
    refine ⟨fun hf _ => ?_, fun hf hout => absurd hgood (by omega), fun hf hout => absurd hgood (by omega),
      fun hf hout => absurd hgood (by omega), fun hf _ hn => ?_, fun hf _ hn => ?_⟩
    · simp [hf]
    · have hmore : (s.tr p).recovery ≠ 7 := by omega
      simp [hf, hmore]
    · simp [hf, hn]
  · have hbad : inTolerance (s.now + dt - u) (s.speedOf p) = false := Bool.eq_false_iff.2 (mt htol.1 hgood)
    rw [hbad]
    refine ⟨fun hf hin => absurd hin hgood, fun hf _ hn => ?_, fun hf _ hn => ?_, fun hf _ => ?_,
      fun hf hin => absurd hin hgood, fun hf hin => absurd hin hgood⟩
    · have hmore : (s.tr p).outCount ≠ 23 := by omega
      simp [hf, hmore]
    · simp [hf, hn]
    · simp [hf]

/-! ## The run-down -/

/-- R13: the run-down ends 500 ms after the later of its two instants. -/
theorem Transport.runDownEnd_eq (t : Transport) (a b : Instant) (ha : t.stoppingSince = some a) (hb : t.lastPulse = some b) :
    t.runDownEnd = some (max a b + 5000) := by
  rw [Transport.runDownEnd, ha, hb]
  rfl

/-- R5, R13: the pulse of a STOPPING transport of a house at rest. -/
theorem exec_tachPulse_stopping (s : State) (dt : Nat) (p : Proj) (reading : Byte) (hr : s.houseAtRest (houseOf p))
    (hst : (s.tr p).state = .stopping) : exec (.tachPulse dt p reading) s =
      .next (((s.elapse dt).setTr p ((s.tr p).count (s.now + dt))).judged p) := by
  have hrun : exec (.tachPulse dt p reading) s = (Rule.pulse ⟨s.elapse dt, [], false⟩ p reading.toNat).finish := rfl
  have hstate : ((s.elapse dt).tr p).state = .stopping := hst
  have hexamine : Rule.examine ⟨(s.elapse dt).setTr p ((s.tr p).count (s.now + dt)), [], false⟩ p reading.toNat =
      ⟨(s.elapse dt).setTr p ((s.tr p).count (s.now + dt)), [], false⟩ := by
    simp [Rule.examine, Transport.count, hst]
  obtain ⟨l, hl, hjudged⟩ := Rule.evalSufficiency_cases ((s.elapse dt).setTr p ((s.tr p).count (s.now + dt))) [] false p
  rw [hrun, Rule.pulse, hstate]
  change (Rule.passPulse ⟨(s.elapse dt).setTr p ((s.tr p).count (s.now + dt)), [], false⟩ p reading.toNat).finish = _
  rw [Rule.passPulse, hexamine, hjudged,
    Rule.housePulse_atRest ⟨((s.elapse dt).setTr p ((s.tr p).count (s.now + dt))).judged p, _, _⟩ p hr]
  refine Rule.finish_quiet _ _ ?_ fun x hx => ?_
  · rcases hl with rfl | rfl <;> simp [settleBound]
  · obtain rfl : x = .readiness (houseOf p) := by
      rcases hl with rfl | rfl
      · simp at hx
      · simpa using hx
    exact hr

/-- Settles O9, by the state of the transport and the end of the run-down. -/
theorem runDownIsWatched : Obligations.RunDownIsWatched := by
  refine ⟨fun s dt p reading => ⟨fun hst => ?_, fun hst hr => ?_⟩, fun s dt p a b hr hst ha hb => ⟨fun hlate => ?_,
    fun hearly => ?_⟩⟩
  · have hrun : exec (.tachPulse dt p reading) s = (Rule.pulse ⟨s.elapse dt, [], false⟩ p reading.toNat).finish := rfl
    have hsame : Rule.pulse ⟨s.elapse dt, [], false⟩ p reading.toNat = ⟨s.elapse dt, [], false⟩ := by
      rcases hst with hst | hst <;> simp [Rule.pulse, hst]
    rw [hrun, hsame]
    exact Rule.finish_plain _
  · refine ⟨_, exec_tachPulse_stopping s dt p reading hr hst, ?_, ?_, fun q hq => ⟨?_, ?_⟩, rfl, rfl, rfl, rfl, rfl, rfl, rfl⟩
    · simp [State.judged, Transport.count, countFrame]
    · rw [State.sufficiencyOf_judged]
      simp
    · simp [State.judged, hq]
    · simp [State.judged, hq]
  · have hend : ((s.elapse dt).tr p).runDownEnd = some (max a b + 5000) := Transport.runDownEnd_eq _ a b ha hb
    have hdue : due ((s.elapse dt).tr p).runDownEnd (s.elapse dt).now = true := by
      rw [hend]
      exact due_late hlate
    have hrun : exec (.runDownExpiry dt p) s = (Rule.runsDown ⟨s.elapse dt, [], false⟩ p).finish := rfl
    rw [hrun, Rule.runsDown]
    dsimp only
    rw [if_pos ⟨hst, hdue⟩]
    exact Rule.finish_quiet _ [.transport p .stopped] (by simp [settleBound]) fun x hx => by
      obtain rfl := List.mem_singleton.1 hx
      exact hr
  · have hend : ((s.elapse dt).tr p).runDownEnd = some (max a b + 5000) := Transport.runDownEnd_eq _ a b ha hb
    have hnot : due ((s.elapse dt).tr p).runDownEnd (s.elapse dt).now = false := by
      rw [hend]
      exact due_early hearly
    have hrun : exec (.runDownExpiry dt p) s = (Rule.runsDown ⟨s.elapse dt, [], false⟩ p).finish := rfl
    rw [hrun, Rule.runsDown]
    dsimp only
    rw [if_neg fun h => Bool.false_ne_true (hnot.symm.trans h.2)]
    exact Rule.finish_plain _

end Sys2Proof.Machine
end

section
/-! PROOFS. The motor of a projector outside a show: RUN MOTOR, STOP MOTOR, the break deadline and the run-up limit. -/

namespace Sys2Proof.Machine

/-! ## A request that leaves the link to its reply -/

/-- R162: a request decided in its own rule ends in the state that its decision leaves, with the reply, where the blocks heed
nothing of what is on the agenda. -/
theorem Rule.finish_asked (s v : State) (q : Request) (a : Answer) (l : List Signal) (hs : s.linkReady) (hq : q.wf = true)
    (hv : v.link = s.link.claimed) (hask : Rule.ask ⟨s.setLink s.link.claimed, [], false⟩ q = ⟨a, ⟨v, l, false⟩⟩)
    (hl : l.length ≤ settleBound)
    (hsees : ∀ y ∈ l, ∀ u l' t, u.houses = v.houses → u.dousers = v.dousers → Rule.sees ⟨u, l', t⟩ y = ⟨u, l', t⟩) :
    (Rule.request ⟨s, [], false⟩ q).finish = .next (v.setLink (s.link.replied (a.reply q.kind))) := by
  have hclaimed : v = (v.setLink s.link).setLink s.link.claimed := by rw [← hv]; rfl
  rw [hclaimed] at hask
  obtain ⟨tie, htie, hr⟩ := Rule.request_decided s (v.setLink s.link) q a l hs hq rfl hask
  rw [hr]
  exact Rule.finish_settled (Rule.settle_unheeded _ _ _ _ hl fun y hy l' => hsees y hy _ l' tie rfl rfl) htie

/-- R162: such a request where what is on the agenda is quiet. -/
theorem Rule.finish_asked_quiet (s v : State) (q : Request) (a : Answer) (l : List Signal) (hs : s.linkReady)
    (hq : q.wf = true) (hv : v.link = s.link.claimed)
    (hask : Rule.ask ⟨s.setLink s.link.claimed, [], false⟩ q = ⟨a, ⟨v, l, false⟩⟩) (hl : l.length ≤ settleBound)
    (hquiet : ∀ y ∈ l, y.quiet v) :
    (Rule.request ⟨s, [], false⟩ q).finish = .next (v.setLink (s.link.replied (a.reply q.kind))) :=
  Rule.finish_asked s v q a l hs hq hv hask hl fun y hy u l' t hh hd =>
    Rule.sees_quiet ⟨u, l', t⟩ y ((Signal.quiet_congr hh hd y).2 (hquiet y hy))

/-! ## A transport that leaves RUNNING -/

/-- R50: the sound watch, written out. -/
theorem State.soundWatch_eq (s : State) (p : Proj) : s.soundWatch p = s.setHs (houseOf p) { s.hs (houseOf p) with
    gate := if (s.hs (houseOf p)).gate = .side (sideOf p) then .none else (s.hs (houseOf p)).gate } := by
  unfold State.soundWatch State.selectNone
  split
  · rfl
  · exact (s.setHs_self _).symm

/-- R122: the runout count, written out. -/
theorem State.dropRunoutCount_eq (s : State) (p : Proj) : s.dropRunoutCount p = s.setHs (houseOf p) { s.hs (houseOf p) with
    runoutCount := if s.liveProj (houseOf p) = some p then none else (s.hs (houseOf p)).runoutCount } := by
  unfold State.dropRunoutCount
  dsimp only
  split
  · rfl
  · exact (s.setHs_self _).symm

/-- R38, R50, R122: what follows when a transport leaves RUNNING, written out: the gating watch, and the house's record. -/
theorem State.leaveRunning_eq (s : State) (p : Proj) : s.leaveRunning p = (s.gatingWatch p).setHs (houseOf p)
    { s.hs (houseOf p) with
      gate := if (s.hs (houseOf p)).gate = .side (sideOf p) then .none else (s.hs (houseOf p)).gate
      runoutCount := if s.liveProj (houseOf p) = some p then none else (s.hs (houseOf p)).runoutCount } := by
  have hh : (s.gatingWatch p).hs (houseOf p) = s.hs (houseOf p) :=
    congrArg (fun b => b.cell (houseOf p)) (s.gatingWatch_keeps p).2.2.2.2.1
  simp only [State.leaveRunning, State.soundWatch_eq, State.dropRunoutCount_eq, State.liveProj, hh, State.setHs_hs, if_true,
    State.setHs_setHs]
  rfl

/-- R38, R50, R122: what leaving RUNNING does not touch. -/
theorem State.leaveRunning_keeps (s : State) (p : Proj) :
    (s.leaveRunning p).link = s.link ∧ (s.leaveRunning p).transports = s.transports ∧
      (s.leaveRunning p).readers = s.readers ∧ (s.leaveRunning p).lamps = s.lamps ∧
      (s.leaveRunning p).lights = s.lights ∧ (s.leaveRunning p).ports = s.ports ∧
      (s.leaveRunning p).booth = s.booth ∧ (s.leaveRunning p).now = s.now ∧ (s.leaveRunning p).draws = s.draws := by
  obtain ⟨hl, ht, hr, hp, -, hlt, hpt, hb, hn, hd, -⟩ := s.gatingWatch_keeps p
  rw [State.leaveRunning_eq]
  exact ⟨hl, ht, hr, hp, hlt, hpt, hb, hn, hd⟩

@[simp] theorem State.leaveRunning_tr (s : State) (p q : Proj) : (s.leaveRunning p).tr q = s.tr q :=
  congrArg (fun b => b.cell q) (s.leaveRunning_keeps p).2.1

/-- R50: the sound gate leaves a projector that leaves RUNNING; no other house is touched. -/
theorem State.leaveRunning_hs (s : State) (p : Proj) (g : HouseId) : (s.leaveRunning p).hs g = if g = houseOf p then
    { s.hs (houseOf p) with
      gate := if (s.hs (houseOf p)).gate = .side (sideOf p) then .none else (s.hs (houseOf p)).gate
      runoutCount := if s.liveProj (houseOf p) = some p then none else (s.hs (houseOf p)).runoutCount } else s.hs g := by
  rw [State.leaveRunning_eq, State.setHs_hs]
  split
  · rfl
  · exact congrArg (fun b => b.cell g) (s.gatingWatch_keeps p).2.2.2.2.1

/-- R50: the sound gate selects that projector no more. -/
theorem State.leaveRunning_gate (s : State) (p : Proj) : ((s.leaveRunning p).hs (houseOf p)).gate ≠ .side (sideOf p) := by
  rw [State.leaveRunning_hs, if_pos rfl]
  dsimp only
  split
  · simp
  · assumption

/-- R38: the watch moves no other douser. -/
theorem State.leaveRunning_ds_other (s : State) {p q : Proj} (h : q ≠ p) : (s.leaveRunning p).ds q = s.ds q := by
  rw [State.leaveRunning_eq, State.setHs_ds]
  rcases s.gatingWatch_cases p with hw | ⟨hw, -⟩
  · rw [hw, s.closeCommand_ds_other h]
  · rw [hw]

/-- R38: with its transport neither RUNNING nor STOPPED a douser has no gating condition left. -/
theorem State.gating_moved (s : State) (p : Proj) (hr : (s.tr p).state ≠ .running) (hs : (s.tr p).state ≠ .stopped) :
    s.gating p = false := by
  rw [Bool.eq_false_iff, ne_eq, State.gating_iff]
  tauto

/-- R38: the douser of a projector that leaves RUNNING is closed. -/
theorem State.leaveRunning_shut (s : State) (p : Proj) (hg : s.gating p = false) : ¬ ((s.leaveRunning p).ds p).agape := by
  rw [State.leaveRunning_eq, State.setHs_ds]
  rcases s.gatingWatch_cases p with hw | ⟨hw, hn⟩
  · rw [hw]
    exact s.closeCommand_shut p
  · rw [hw]
    intro ha
    simp [hn ha] at hg

/-- R39: a close command sticks no douser. -/
theorem State.closeCommand_unstuck (s : State) (p : Proj) (h : (s.ds p).state ≠ .stuck) :
    ((s.closeCommand p).ds p).state ≠ .stuck := by
  unfold State.closeCommand
  dsimp only
  split <;> simp_all

/-- A house at rest, with a douser that is not STUCK, is so when the projector has left RUNNING. -/
theorem State.leaveRunning_atRest (s : State) (p : Proj) (h : s.atRest p) : (s.leaveRunning p).atRest p := by
  obtain ⟨⟨hshow, hchange, hretiring, hdark, hcount⟩, hd⟩ := h
  refine ⟨⟨?_, ?_, ?_, ?_, ?_⟩, ?_⟩
  · simpa [State.leaveRunning_hs] using hshow
  · simpa [State.leaveRunning_hs] using hchange
  · simpa [State.leaveRunning_hs] using hretiring
  · simpa [State.leaveRunning_hs] using hdark
  · simp [State.leaveRunning_hs, hcount]
  · rw [State.leaveRunning_eq, State.setHs_ds]
    rcases s.gatingWatch_cases p with hw | ⟨hw, -⟩
    · rw [hw]
      exact s.closeCommand_unstuck p hd
    · rwa [hw]

/-! ## RUN MOTOR and STOP MOTOR -/

/-- The other projector of a house is the one it has besides. -/
theorem eq_or_eq_otherProj {p q : Proj} (h : houseOf q = houseOf p) : q = p ∨ q = otherProj p := by
  revert p q
  decide

/-- R16: no active cause stops the motors of a house whose causes are all inactive. -/
theorem Booth.stopsMotors_of_inactive (b : Booth) (p : Proj) (hf : b.fusible = false) (he : b.emergency = false)
    (hc : b.critical = false) (hp : b.filmFire.cell p = false) (ho : b.filmFire.cell (otherProj p) = false) :
    b.stopsMotors (houseOf p) = false := by
  have hnone : b.safetyCauses (houseOf p) = [] := by
    refine (b.safetyCauses_eq_nil _).2 ⟨hf, he, hc, fun q hq => ?_⟩
    rcases eq_or_eq_otherProj hq with rfl | rfl
    · exact hp
    · exact ho
  simp [Booth.stopsMotors, hnone]

/-- R3: the transport of a motor start. -/
def Transport.started (t : Transport) (now : Instant) : Transport :=
  { t with
    state := .starting
    motorOn := some now
    lastPulse := none
    lockRunStart := none
    lockCount := 0
    outCount := 0
    miss := .normal
    speedFault := false
    recovery := 0 }

/-- R3: the motor start of an EMPTY projector whose douser is not on trial. -/
theorem Rule.motorStart_empty (s : State) (l : List Signal) (t : Bool) (p : Proj) (hs : (s.tr p).state = .stopped)
    (ha : (s.tr p).armed = none) (hd : (s.ds p).trial = none) : Rule.motorStart ⟨s, l, t⟩ p =
      ⟨s.setTr p ((s.tr p).started s.now), l ++ [.transport p .starting], t⟩ := by
  have hend : (s.setTr p ((s.tr p).started s.now)).endTrial p .motor = s.setTr p ((s.tr p).started s.now) := by
    simp [State.endTrial, hd]
  have hreader : (s.setTr p ((s.tr p).started s.now)).readerStarts p = s.setTr p ((s.tr p).started s.now) := by
    simp [State.readerStarts, Transport.started, ha]
  unfold Rule.motorStart
  dsimp only
  rw [if_pos hs]
  exact congrArg (fun x => (⟨x, l ++ [.transport p .starting], t⟩ : Rule)) ((congrArg (·.readerStarts p) hend).trans hreader)

/-- R4: the transport of a motor stop. -/
def Transport.stoppedAt (t : Transport) (now : Instant) : Transport :=
  { t with
    state := .stopping
    lockCount := 0
    lockRunStart := none
    motorOn := none
    miss := .normal
    stoppingSince := some now }

/-- R22: a reader that is OFF already stops with no change. -/
theorem Rule.readerStops_off (r : Rule) (p : Proj) (h : (r.st.rd p).state = .off) : r.readerStops p = r := by
  have hself : { r.st.rd p with state := .off } = r.st.rd p := by rw [← h]
  simp [Rule.readerStops, Reader.assembling, h, hself, Rule.upd]

/-- R4: the motor stop of a STARTING projector whose reader is OFF. -/
theorem Rule.motorStop_starting (s : State) (l : List Signal) (t : Bool) (p : Proj) (hs : (s.tr p).state = .starting)
    (hr : (s.rd p).state = .off) : Rule.motorStop ⟨s, l, t⟩ p =
      ⟨s.setTr p ((s.tr p).stoppedAt s.now), l ++ [.transport p .stopping], t⟩ := by
  unfold Rule.motorStop
  dsimp only
  rw [hs]
  dsimp only
  rw [Rule.readerStops_off _ p hr]
  rfl

/-- R4: the motor stop of a RUNNING projector whose reader is OFF. -/
theorem Rule.motorStop_running (s : State) (l : List Signal) (t : Bool) (p : Proj) (hs : (s.tr p).state = .running)
    (hr : (s.rd p).state = .off) : Rule.motorStop ⟨s, l, t⟩ p =
      ⟨(s.setTr p ((s.tr p).stoppedAt s.now)).leaveRunning p, l ++ [.transport p .stopping], t⟩ := by
  unfold Rule.motorStop
  dsimp only
  rw [hs]
  dsimp only
  rw [Rule.readerStops_off _ p hr]
  rfl

/-- R16: an accepted RUN MOTOR. -/
theorem Rule.decideRunMotor_done (r : Rule) (b : Byte) (p : Proj) (hb : b.toNat = p.val + 1)
    (ha : (r.st.tr p).armed = none) (hst : (r.st.tr p).state = .stopped) (hshow : (r.st.hs (houseOf p)).state.inShow = false)
    (hfree : r.st.booth.stopsMotors (houseOf p) = false) : r.decideRunMotor b = (r.motorStart p).done := by
  simp [Rule.decideRunMotor, projOf_of_toNat hb, ha, hst, hshow, hfree]

/-- R17: STOP MOTOR of an EMPTY projector. -/
theorem Rule.decideStopMotor_done (r : Rule) (b : Byte) (p : Proj) (hb : b.toNat = p.val + 1)
    (ha : (r.st.tr p).armed = none) : r.decideStopMotor b = (r.motorStop p).done := by
  simp [Rule.decideStopMotor, projOf_of_toNat hb, ha]

/-- R4: a transport that is not driven has no motor to stop. -/
theorem Rule.motorStop_undriven (r : Rule) (p : Proj)
    (h : (r.st.tr p).state = .stopped ∨ (r.st.tr p).state = .stopping ∨ (r.st.tr p).state = .broken) :
    r.motorStop p = r := by
  unfold Rule.motorStop
  dsimp only
  rcases h with h | h | h <;> rw [h]

/-- R17: STOP MOTOR of a driven transport of a house at rest, up to the state that the motor stop leaves. -/
theorem exec_stopMotor (s v : State) (dt : Nat) (b : Byte) (p : Proj) (hs : s.linkReady) (hb : b.toNat = p.val + 1)
    (ha : (s.tr p).armed = none) (hv : v.link = s.link.claimed) (hr : v.atRest p)
    (hstop : Rule.motorStop ⟨(s.elapse dt).setLink s.link.claimed, [], false⟩ p = ⟨v, [.transport p .stopping], false⟩) :
    exec (.stopMotor dt b) s = .next (v.setLink (s.link.replied (.done 17 .nothing))) := by
  refine Rule.finish_asked_quiet (s.elapse dt) v (.stopMotor b) (.done .nothing) [.transport p .stopping] hs rfl hv ?_
    (by simp [settleBound]) fun y hy => ?_
  · exact (Rule.decideStopMotor_done _ b p hb ha).trans (congrArg Rule.done hstop)
  · obtain rfl := List.mem_singleton.1 hy
    exact hr

/-- Settles O5, by the state of the transport. -/
theorem motorsAreStartedAndStopped : Obligations.MotorsAreStartedAndStopped := by
  refine ⟨fun s dt b p hs hb ha hst hshow hf he hc hp ho hd => ?_, fun s dt b p hs hb ha => ⟨fun hst => ?_, fun hst hr hoff => ?_⟩⟩
  · refine Rule.finish_asked (s.elapse dt) (((s.elapse dt).setLink s.link.claimed).setTr p
      ((s.tr p).started (s.now + dt))) (.runMotor b) (.done .nothing) [.transport p .starting] hs rfl rfl ?_
      (by simp [settleBound]) fun y hy u l' t _ _ => ?_
    · exact (Rule.decideRunMotor_done _ b p hb ha hst hshow (s.booth.stopsMotors_of_inactive p hf he hc hp ho)).trans
        (congrArg Rule.done (Rule.motorStart_empty _ _ _ p hst ha hd))
    · obtain rfl := List.mem_singleton.1 hy
      rfl
  · refine Rule.finish_answered (s.elapse dt) (.stopMotor b) (.done .nothing) hs rfl ?_
    exact (Rule.decideStopMotor_done _ b p hb ha).trans (congrArg Rule.done (Rule.motorStop_undriven _ p hst))
  · let w := ((s.elapse dt).setLink s.link.claimed).setTr p ((s.tr p).stoppedAt (s.now + dt))
    have htr (q : Proj) : w.tr q = if q = p then (s.tr p).stoppedAt (s.now + dt) else s.tr q := State.setTr_tr ..
    rcases hst with hst | hst
    · refine ⟨_, exec_stopMotor s w dt b p hs hb ha rfl hr (Rule.motorStop_starting _ [] false p hst hoff),
        (htr p).trans (if_pos rfl), fun q hq => (htr q).trans (if_neg hq), fun q hq => rfl, rfl, rfl, rfl, rfl, rfl,
        fun h hh => rfl, fun _ => ⟨rfl, rfl⟩, fun hrun => ?_, rfl⟩
      simp [hst] at hrun
    · have hmoved : (w.tr p).state = .stopping := by rw [htr, if_pos rfl]; rfl
      have hshut := w.leaveRunning_shut p (w.gating_moved p (by simp [hmoved]) (by simp [hmoved]))
      obtain ⟨hl, -, hrd, hp, hlt, hpt, hbooth, -⟩ := w.leaveRunning_keeps p
      have hrest : (w.leaveRunning p).atRest p := w.leaveRunning_atRest p hr
      have hstop := Rule.motorStop_running ((s.elapse dt).setLink s.link.claimed) [] false p hst hoff
      have hleft (q : Proj) : (w.leaveRunning p).tr q = w.tr q := w.leaveRunning_tr p q
      have hgate := w.leaveRunning_gate p
      have hhouses (h : HouseId) (hh : h ≠ houseOf p) : (w.leaveRunning p).hs h = s.hs h :=
        (w.leaveRunning_hs p h).trans (if_neg hh)
      have hds (q : Proj) (hq : q ≠ p) : (w.leaveRunning p).ds q = s.ds q := w.leaveRunning_ds_other hq
      change Rule.motorStop _ p = ⟨w.leaveRunning p, _, false⟩ at hstop
      generalize w.leaveRunning p = v at *
      refine ⟨_, exec_stopMotor s v dt b p hs hb ha hl hrest hstop, (hleft p).trans ((htr p).trans (if_pos rfl)),
        fun q hq => (hleft q).trans ((htr q).trans (if_neg hq)), hds, hrd, hp, hlt, hpt, hbooth, hhouses,
        fun hstart => ?_, fun _ => ⟨hgate, not_or.1 hshut⟩, rfl⟩
      simp [hst] at hstart

end Sys2Proof.Machine
end

section
/-! PROOFS. The break deadline and the run-up limit outside a show, and the group in assembly that they abandon. -/

namespace Sys2Proof.Machine

/-! ## A reader that stops -/

/-- R30: an entry that joins: at the tail of the queue, as far as it has room. -/
theorem Rule.joinCue_rd (r : Rule) (p : Proj) (e : CueEntry) (h : (r.st.rd p).queue.length ≤ 8) :
    (r.joinCue p e).st.rd p = { r.st.rd p with queue := ((r.st.rd p).queue ++ [e]).take 8 } := by
  unfold Rule.joinCue
  dsimp only
  split
  next hroom =>
    have hfit : ((r.st.rd p).queue ++ [e]).length ≤ 8 := by
      simp only [List.length_append, List.length_singleton]
      exact hroom
    simp [Rule.emit, Rule.upd, State.reportProj, State.report, List.take_of_length_le hfit]
  next hfull =>
    have hlen : (r.st.rd p).queue.length = 8 := le_antisymm h (Nat.not_lt.1 hfull)
    have htake : ((r.st.rd p).queue ++ [e]).take 8 = (r.st.rd p).queue := by rw [← hlen, List.take_left]
    simp [Rule.upd, State.reportProj, State.report, htake]

/-- R30: entries that join, in their order, as far as the queue has room. -/
theorem Rule.joinCues_rd (r : Rule) (p : Proj) (es : List CueEntry) (h : (r.st.rd p).queue.length ≤ 8) :
    (r.joinCues p es).st.rd p = { r.st.rd p with queue := ((r.st.rd p).queue ++ es).take 8 } := by
  induction es generalizing r with
  | nil => simp [Rule.joinCues, List.take_of_length_le h]
  | cons e rest ih =>
    have hfirst := r.joinCue_rd p e h
    have hlen : ((r.joinCue p e).st.rd p).queue.length ≤ 8 := by
      rw [hfirst]
      simp
    rw [Rule.joinCues, ih _ hlen, hfirst]
    dsimp only
    congr 1
    rcases Nat.lt_or_ge (r.st.rd p).queue.length 8 with hroom | hfull
    · have hfit : ((r.st.rd p).queue ++ [e]).length ≤ 8 := by
        simp only [List.length_append, List.length_singleton]
        exact hroom
      rw [List.take_of_length_le hfit, List.append_assoc, List.singleton_append]
    · have heq : (r.st.rd p).queue.length = 8 := le_antisymm h hfull
      have htake (l : List CueEntry) : ((r.st.rd p).queue ++ l).take 8 = (r.st.rd p).queue := by rw [← heq, List.take_left]
      rw [htake, htake, htake]

/-- R22: a reader that assembles no group stops. -/
theorem Rule.readerStops_idle (r : Rule) (p : Proj) (h : (r.st.rd p).assembling = false) :
    r.readerStops p = r.upd (fun s => s.setRd p { r.st.rd p with state := .off }) := by
  simp [Rule.readerStops, h]

/-- R22, R30: a reader that assembles a group abandons it, and its held entries join the queue. -/
theorem Rule.readerStops_rd (r : Rule) (p : Proj) (h : (r.st.rd p).assembling = true) (hq : (r.st.rd p).queue.length ≤ 8) :
    (r.readerStops p).st.rd p = { r.st.rd p with
      state := .off
      group := none
      held := []
      queue := ((r.st.rd p).queue ++ (r.st.rd p).held).take 8 } := by
  unfold Rule.readerStops
  dsimp only
  rw [if_pos h, Rule.joinCues_rd _ p _ (by simpa [Rule.upd, State.evalBurst] using hq)]
  simp [Rule.upd, State.evalBurst]

/-- R22: with no held entry, nothing is reported. -/
theorem Rule.readerStops_link (r : Rule) (p : Proj) (h : (r.st.rd p).held = []) : (r.readerStops p).st.link = r.st.link := by
  unfold Rule.readerStops
  dsimp only
  split
  · rw [h]
    rfl
  · rfl

/-! ## The break deadline and the run-up limit -/

/-- R12: a break deadline that falls. -/
theorem Rule.filmBreaks_eq (s : State) (p : Proj) (u : Instant) (hst : (s.tr p).state = .running)
    (hu : (s.tr p).lastPulse = some u) (ht : 25000 ≤ (s.now - u) * s.speedOf p) : Rule.filmBreaks ⟨s, [], false⟩ p =
      ((Rule.readerStops ⟨(s.setTr p { s.tr p with state := .broken, miss := .normal, lockCount := 0 }).reportProj p
        (.filmBreak (s.tr p).counter), [], false⟩ p).upd (fun s => s.leaveRunning p)).emit (.transport p .broken) := by
  have hsilent : s.silent p brokenAfter = true := by simp [State.silent, hu, brokenAfter, ht]
  unfold Rule.filmBreaks
  dsimp only
  rw [if_pos ⟨hst, hsilent⟩]
  rfl

/-- R8: the transport at the run-up limit. -/
def Transport.ranUp (t : Transport) (now : Instant) : Transport :=
  { t with
    state := .stopping
    lockCount := 0
    lockRunStart := none
    motorOn := none
    stoppingSince := some now }

/-- R8: a run-up limit that expires. -/
theorem Rule.runUpExpires_eq (s : State) (p : Proj) (on : Instant) (hst : (s.tr p).state = .starting)
    (hon : (s.tr p).motorOn = some on) (ht : on + 60000 ≤ s.now) : Rule.runUpExpires ⟨s, [], false⟩ p =
      ((Rule.readerStops ⟨(s.setTr p ((s.tr p).ranUp s.now)).reportProj p
        (.runupFail (s.tr p).lockCount (s.tr p).counter), [], false⟩ p).emit (.runupFailed p)).emit (.transport p .stopping) := by
  have hdue : due (after (s.tr p).motorOn runUpLimit) s.now = true := by
    rw [hon]
    exact due_late ht
  unfold Rule.runUpExpires
  dsimp only
  rw [if_pos ⟨hst, hdue⟩]
  rfl

/-- R22, R38, R50: a rule in which the reader of a house at rest stops, and then the blocks see what is quiet. -/
theorem Rule.finish_stopped (u : State) (p : Proj) (l sigs : List Signal) (hu : u.atRest p) (hl : l.length ≤ 8)
    (hcues : ∀ y ∈ l, y = .cues p) (hs : sigs.length ≤ 2) (hq : ∀ y ∈ sigs, y.quiet u) :
    Rule.finish ⟨u, l ++ sigs, false⟩ = .next u := by
  refine Rule.finish_quiet _ _ ?_ fun y hy => ?_
  · simp only [List.length_append, settleBound]
    omega
  · rcases List.mem_append.1 hy with hy | hy
    · rw [hcues y hy]
      exact hu
    · exact hq y hy

/-- R12, R22, R38, R50: a break in a house at rest, from where the reader has stopped. -/
theorem exec_breakDeadline_atRest (s : State) (dt : Nat) (p : Proj) (u : Instant) (hr : s.atRest p)
    (hst : (s.tr p).state = .running) (hu : (s.tr p).lastPulse = some u) (ht : 25000 ≤ (s.now + dt - u) * s.speedOf p) :
    exec (.breakDeadline dt p) s = .next ((Rule.readerStops ⟨((s.elapse dt).setTr p
      { s.tr p with state := .broken, miss := .normal, lockCount := 0 }).reportProj p (.filmBreak (s.tr p).counter),
        [], false⟩ p).st.leaveRunning p) := by
  have hrun : exec (.breakDeadline dt p) s = (Rule.filmBreaks ⟨s.elapse dt, [], false⟩ p).finish := rfl
  rw [hrun, Rule.filmBreaks_eq (s.elapse dt) p u hst hu ht]
  have hreads := Rule.reads_readerStops ⟨((s.elapse dt).setTr p
    { s.tr p with state := .broken, miss := .normal, lockCount := 0 }).reportProj p (.filmBreak (s.tr p).counter), [], false⟩ p
  obtain ⟨hstate, ⟨l, hl, hlen, hcues⟩, htie⟩ := hreads
  change Rule.finish (Rule.emit (Rule.upd (Rule.readerStops ⟨((s.elapse dt).setTr p
    { s.tr p with state := .broken, miss := .normal, lockCount := 0 }).reportProj p (.filmBreak (s.tr p).counter),
    [], false⟩ p) _) _) = _
  generalize Rule.readerStops _ p = r at *
  obtain ⟨v, l', tie⟩ := r
  dsimp only at hstate hl htie
  subst hl htie
  have hrest : (v.leaveRunning p).atRest p := v.leaveRunning_atRest p ((State.atRest_congr hstate.houses hstate.dousers p).2 hr)
  exact Rule.finish_stopped _ p l' [.transport p .broken] hrest hlen hcues (by simp) fun y hy => by
    obtain rfl := List.mem_singleton.1 hy
    exact hrest

/-- R8, R22: a run-up limit in a house at rest, from where the reader has stopped. -/
theorem exec_runupLimit_atRest (s : State) (dt : Nat) (p : Proj) (on : Instant) (hr : s.atRest p)
    (hst : (s.tr p).state = .starting) (hon : (s.tr p).motorOn = some on) (ht : on + 60000 ≤ s.now + dt) :
    exec (.runupLimit dt p) s = .next (Rule.readerStops ⟨((s.elapse dt).setTr p ((s.tr p).ranUp (s.now + dt))).reportProj p
      (.runupFail (s.tr p).lockCount (s.tr p).counter), [], false⟩ p).st := by
  have hrun : exec (.runupLimit dt p) s = (Rule.runUpExpires ⟨s.elapse dt, [], false⟩ p).finish := rfl
  rw [hrun, Rule.runUpExpires_eq (s.elapse dt) p on hst hon ht]
  have hreads := Rule.reads_readerStops ⟨((s.elapse dt).setTr p ((s.tr p).ranUp (s.now + dt))).reportProj p
    (.runupFail (s.tr p).lockCount (s.tr p).counter), [], false⟩ p
  obtain ⟨hstate, ⟨l, hl, hlen, hcues⟩, htie⟩ := hreads
  change Rule.finish (Rule.emit (Rule.emit (Rule.readerStops ⟨((s.elapse dt).setTr p
    ((s.tr p).ranUp (s.now + dt))).reportProj p (.runupFail (s.tr p).lockCount (s.tr p).counter), [], false⟩ p) _) _) = _
  generalize Rule.readerStops _ p = r at *
  obtain ⟨v, l', tie⟩ := r
  dsimp only at hstate hl htie
  subst hl htie
  have hrest : v.atRest p := (State.atRest_congr hstate.houses hstate.dousers p).2 hr
  have hend := Rule.finish_stopped _ p l' [.runupFailed p, .transport p .stopping] hrest hlen hcues (by simp) fun y hy => by
    rcases List.mem_pair.1 hy with rfl | rfl <;> exact hrest
  simpa [Rule.emit] using hend

/-- R38, R50, R122: from `s` to `t` the transport of `p` has left RUNNING: its douser is shut, the sound gate is not on its side,
and nothing else changes but its house's runout count. -/
structure State.Left (s t : State) (p : Proj) : Prop where
  link : t.link = s.link
  transports : t.transports = s.transports
  readers : t.readers = s.readers
  lamps : t.lamps = s.lamps
  lights : t.lights = s.lights
  ports : t.ports = s.ports
  booth : t.booth = s.booth
  dousers : ∀ q, q ≠ p → t.ds q = s.ds q
  shut : ¬ (t.ds p).agape
  houses : ∀ h, h ≠ houseOf p → t.hs h = s.hs h
  gate : (t.hs (houseOf p)).gate ≠ .side (sideOf p)

/-- R38, R50, R122: a transport that is neither RUNNING nor STOPPED has left RUNNING. -/
theorem State.leaveRunning_left (s : State) (p : Proj) (hr : (s.tr p).state ≠ .running) (hs : (s.tr p).state ≠ .stopped) :
    s.Left (s.leaveRunning p) p := by
  obtain ⟨hl, ht, hrd, hp, hlt, hpt, hb, -⟩ := s.leaveRunning_keeps p
  exact ⟨hl, ht, hrd, hp, hlt, hpt, hb, fun q hq => s.leaveRunning_ds_other hq,
    s.leaveRunning_shut p (s.gating_moved p hr hs), fun h hh => (s.leaveRunning_hs p h).trans (if_neg hh),
    s.leaveRunning_gate p⟩

theorem State.Left.tr {s t : State} {p : Proj} (h : s.Left t p) (q : Proj) : t.tr q = s.tr q := by
  simp [State.tr, h.transports]

theorem State.Left.rd {s t : State} {p : Proj} (h : s.Left t p) (q : Proj) : t.rd q = s.rd q := by
  simp [State.rd, h.readers]

theorem State.Left.lp {s t : State} {p : Proj} (h : s.Left t p) (q : Proj) : t.lp q = s.lp q := by
  simp [State.lp, h.lamps]

/-- Settles O11, by the deadline that falls and by whether the reader assembles a group. -/
theorem transportFailuresStopTheMotor : Obligations.TransportFailuresStopTheMotor := by
  refine ⟨fun s dt p u hr ha hst hu ht => ?_, fun s dt p on hr ha hst hon ht => ?_,
    fun c s dt p on u t1 x hr ha hq hc => ?_⟩
  · have hend := exec_breakDeadline_atRest s dt p u hr hst hu ht
    rw [Rule.readerStops_idle _ p ha] at hend
    let w := (((s.elapse dt).setTr p { s.tr p with state := .broken, miss := .normal, lockCount := 0 }).reportProj p
      (.filmBreak (s.tr p).counter)).setRd p { s.rd p with state := .off }
    have htr (q : Proj) : w.tr q = if q = p then { s.tr p with state := .broken, miss := .normal, lockCount := 0 } else s.tr q :=
      State.setTr_tr ..
    have hrd (q : Proj) : w.rd q = if q = p then { s.rd p with state := .off } else s.rd q := State.setRd_rd ..
    have hleft : w.Left (w.leaveRunning p) p := w.leaveRunning_left p (by simp [htr]) (by simp [htr])
    change exec (.breakDeadline dt p) s = .next (w.leaveRunning p) at hend
    generalize w.leaveRunning p = t at *
    refine ⟨t, hend, ?_, ?_, hleft.link, hleft.gate, (not_or.1 hleft.shut).1, (not_or.1 hleft.shut).2,
      fun q hq => ⟨?_, ?_, hleft.dousers q hq⟩, hleft.houses, hleft.lamps, hleft.lights, hleft.ports, hleft.booth⟩
    · rw [hleft.tr, htr, if_pos rfl]
    · rw [hleft.rd, hrd, if_pos rfl]
    · rw [hleft.tr, htr, if_neg hq]
    · rw [hleft.rd, hrd, if_neg hq]
  · rw [exec_runupLimit_atRest s dt p on hr hst hon ht, Rule.readerStops_idle _ p ha]
    rfl
  · have hby := (Rule.reads_readerStops ⟨((s.elapse dt).setTr p t1).reportProj p x, [], false⟩ p).state
    have hrd := Rule.readerStops_rd ⟨((s.elapse dt).setTr p t1).reportProj p x, [], false⟩ p ha hq
    have hlink := Rule.readerStops_link ⟨((s.elapse dt).setTr p t1).reportProj p x, [], false⟩ p
    rcases hc with ⟨rfl, hst, hu, ht, rfl, rfl⟩ | ⟨rfl, hst, hon, ht, rfl, rfl⟩
    · have hend := exec_breakDeadline_atRest s dt p u hr hst hu ht
      generalize (Rule.readerStops _ p).st = v at *
      have htr (q : Proj) : v.tr q = if q = p then { s.tr p with state := .broken, miss := .normal, lockCount := 0 } else s.tr q :=
        (hby.tr q).trans (State.setTr_tr ..)
      have hleft : v.Left (v.leaveRunning p) p := v.leaveRunning_left p (by simp [htr]) (by simp [htr])
      generalize v.leaveRunning p = t at *
      refine ⟨t, hend, ?_, (hleft.rd p).trans hrd, fun hheld => hleft.link.trans (hlink hheld), fun q hq => ⟨?_, ?_, ?_, ?_⟩,
        fun h hh => ?_, hleft.lights.trans hby.lights, hleft.ports.trans hby.ports, hleft.booth.trans hby.booth⟩
      · rw [hleft.tr, htr, if_pos rfl]
      · rw [hleft.tr, htr, if_neg hq]
      · exact (hleft.rd q).trans (hby.readers q hq)
      · exact (hleft.dousers q hq).trans (hby.ds q)
      · exact (hleft.lp q).trans (hby.lamps q hq)
      · exact (hleft.houses h hh).trans (hby.hs h)
    · have hend := exec_runupLimit_atRest s dt p on hr hst hon ht
      change exec (.runupLimit dt p) s = .next (Rule.readerStops ⟨((s.elapse dt).setTr p
        ((s.tr p).ranUp (s.now + dt))).reportProj p (.runupFail (s.tr p).lockCount (s.tr p).counter), [], false⟩ p).st at hend
      refine ⟨_, hend, ?_, hrd, hlink, fun q hq => ⟨?_, hby.readers q hq, hby.ds q, hby.lamps q hq⟩, fun h hh => hby.hs h,
        hby.lights, hby.ports, hby.booth⟩
      · exact (hby.tr p).trans ((State.setTr_tr ..).trans (if_pos rfl))
      · exact (hby.tr q).trans ((State.setTr_tr ..).trans (if_neg hq))

end Sys2Proof.Machine
end

section
/-! PROOFS. The carbon arc: STRIKE and its supply phase, EXTINGUISH, and how a lamp becomes OFF. -/

namespace Sys2Proof.Machine

/-! ## The end of a request whose decision queues reports -/

/-- From `s` to `t` nothing has changed but the link and the counter of choices. -/
structure State.ByLink (s t : State) : Prop where
  transports : t.transports = s.transports
  readers : t.readers = s.readers
  dousers : t.dousers = s.dousers
  lamps : t.lamps = s.lamps
  houses : t.houses = s.houses
  lights : t.lights = s.lights
  ports : t.ports = s.ports
  booth : t.booth = s.booth
  now : t.now = s.now

theorem State.ByLink.refl (s : State) : s.ByLink s := ⟨rfl, rfl, rfl, rfl, rfl, rfl, rfl, rfl, rfl⟩

/-- R165: a tie between a reply and a report concerns the link alone. -/
theorem Rule.breakTie_byLink (r : Rule) : r.st.ByLink r.breakTie.st := by
  unfold Rule.breakTie
  split
  · dsimp only [Rule.upd]
    split <;> exact ⟨rfl, rfl, rfl, rfl, rfl, rfl, rfl, rfl, rfl⟩
  · exact .refl _

/-- R162: a request decided in its own rule, whose agenda is not heeded whatever the link. -/
theorem Rule.finish_asked_unheeded (s v : State) (q : Request) (a : Answer) (l : List Signal) (hs : s.linkReady)
    (hq : q.wf = true) (hv : v.link = s.link.claimed)
    (hask : Rule.ask ⟨s.setLink s.link.claimed, [], false⟩ q = ⟨a, ⟨v, l, false⟩⟩) (hl : l.length ≤ settleBound)
    (hsees : ∀ y ∈ l, ∀ k l' t, Rule.sees ⟨v.setLink k, l', t⟩ y = ⟨v.setLink k, l', t⟩) :
    (Rule.request ⟨s, [], false⟩ q).finish = .next (v.setLink (s.link.replied (a.reply q.kind))) := by
  have hclaimed : v = (v.setLink s.link).setLink s.link.claimed := by rw [← hv]; rfl
  rw [hclaimed] at hask
  obtain ⟨tie, htie, hr⟩ := Rule.request_decided s (v.setLink s.link) q a l hs hq rfl hask
  rw [hr]
  exact Rule.finish_settled (Rule.settle_unheeded _ _ _ _ hl fun y hy l' => hsees y hy _ l' tie) htie

/-- R162, R164, R165: a request decided in its own rule, whose agenda is not heeded. It ends in the state of the decision, with
the reply in the slot; behind a sending transmitter, or with nothing queued, nothing else is sent. -/
theorem Rule.finish_request_unheeded (s v : State) (q : Request) (a : Answer) (l : List Signal) (hs : s.linkReady)
    (hq : q.wf = true) (hbusy : v.link.transmitter ≠ .idle)
    (hask : Rule.ask ⟨s.setLink s.link.claimed, [], false⟩ q = ⟨a, ⟨v, l, false⟩⟩) (hl : l.length ≤ settleBound)
    (hsees : ∀ y ∈ l, ∀ k l' t, Rule.sees ⟨v.setLink k, l', t⟩ y = ⟨v.setLink k, l', t⟩) :
    ∃ t, (Rule.request ⟨s, [], false⟩ q).finish = .next t ∧ v.ByLink t ∧
      t.link.slot = some (a.reply q.kind) ∧ (v.link = s.link.claimed → t.link = s.link.replied (a.reply q.kind)) ∧
      (s.link.transmitter ≠ .idle → t.link = { v.link with slot := some (a.reply q.kind) }) := by
  obtain ⟨tie, htie, hr⟩ := Rule.request_ready s q hs
  obtain ⟨t, ht⟩ := Rule.finish_next (Rule.request ⟨s, [], false⟩ q)
  have hslot := Rule.finish_slot ht
  refine ⟨t, ht, ?_, ?_, fun hv => ?_, fun hsending => ?_⟩
  · rw [hr, Rule.decideRecord_recordOf _ q hq, hask] at ht
    have hend : (Rule.settle settleBound ⟨v.setLink { v.link with slot := some (a.reply q.kind) }, l, tie⟩).breakTie.st = t :=
      Host.Outcome.next.inj ht
    rw [Rule.settle_unheeded _ (v.setLink { v.link with slot := some (a.reply q.kind) }) _ _ hl
      fun y hy l' => hsees y hy _ l' tie] at hend
    subst hend
    obtain ⟨h1, h2, h3, h4, h5, h6, h7, h8, h9⟩ :=
      Rule.breakTie_byLink ⟨v.setLink { v.link with slot := some (a.reply q.kind) }, [], tie⟩
    exact ⟨h1, h2, h3, h4, h5, h6, h7, h8, h9⟩
  · rw [hslot, hr, Rule.decideRecord_recordOf _ q hq, hask]
    rfl
  · have hend := Rule.finish_asked_unheeded s v q a l hs hq hv hask hl hsees
    rw [Host.Outcome.next.inj (ht.symm.trans hend)]
    rfl
  · rw [s.link.claimed_sending hsending] at hask
    rw [Rule.request_sending s v q a l hs hsending hq hbusy hask, Rule.finish_settled (Rule.settle_unheeded _
      (v.replied (a.reply q.kind)) _ _ hl fun y hy l' => hsees y hy _ l' false) (by simp)] at ht
    rw [← Host.Outcome.next.inj ht, ← v.link.replied_sending _ hbusy]
    rfl

/-- R162, R164, R165: such a request whose decision concerns only what is at rest. -/
theorem Rule.finish_request (s v : State) (q : Request) (a : Answer) (l : List Signal) (hs : s.linkReady) (hq : q.wf = true)
    (hbusy : v.link.transmitter ≠ .idle)
    (hask : Rule.ask ⟨s.setLink s.link.claimed, [], false⟩ q = ⟨a, ⟨v, l, false⟩⟩) (hl : l.length ≤ settleBound)
    (hquiet : ∀ y ∈ l, y.quiet v) : ∃ t, (Rule.request ⟨s, [], false⟩ q).finish = .next t ∧ v.ByLink t ∧
      t.link.slot = some (a.reply q.kind) ∧ (v.link = s.link.claimed → t.link = s.link.replied (a.reply q.kind)) ∧
      (s.link.transmitter ≠ .idle → t.link = { v.link with slot := some (a.reply q.kind) }) :=
  Rule.finish_request_unheeded s v q a l hs hq hbusy hask hl fun y hy k l' t =>
    Rule.sees_quiet ⟨v.setLink k, l', t⟩ y ((Signal.quiet_congr rfl rfl y).2 (hquiet y hy))

/-- R165: a transmitter that is claimed is not IDLE, and a report queued behind it leaves it so. -/
theorem Link.claimed_awake (l : Link) : l.claimed.transmitter ≠ .idle := by
  unfold Link.claimed
  dsimp only
  split <;> simp_all

/-! ## What changes about one lamp and its douser -/

/-- From `s` to `t` nothing has changed but lamp `p`, its douser and the link. -/
structure State.ByLamp (s t : State) (p : Proj) : Prop where
  transports : t.transports = s.transports
  readers : t.readers = s.readers
  houses : t.houses = s.houses
  lights : t.lights = s.lights
  ports : t.ports = s.ports
  booth : t.booth = s.booth
  now : t.now = s.now
  others : ∀ q, q ≠ p → t.lp q = s.lp q ∧ t.ds q = s.ds q
  unstuck : (s.ds p).state ≠ .stuck → (t.ds p).state ≠ .stuck

theorem State.ByLamp.refl (s : State) (p : Proj) : s.ByLamp s p :=
  ⟨rfl, rfl, rfl, rfl, rfl, rfl, rfl, fun _ _ => ⟨rfl, rfl⟩, id⟩

theorem State.ByLamp.trans {s t u : State} {p : Proj} (h : s.ByLamp t p) (k : t.ByLamp u p) : s.ByLamp u p where
  transports := k.transports.trans h.transports
  readers := k.readers.trans h.readers
  houses := k.houses.trans h.houses
  lights := k.lights.trans h.lights
  ports := k.ports.trans h.ports
  booth := k.booth.trans h.booth
  now := k.now.trans h.now
  others q hq := ⟨(k.others q hq).1.trans (h.others q hq).1, (k.others q hq).2.trans (h.others q hq).2⟩
  unstuck hd := k.unstuck (h.unstuck hd)

theorem State.byLamp_setLp (s : State) (p : Proj) (l : Lamp) : s.ByLamp (s.setLp p l) p :=
  ⟨rfl, rfl, rfl, rfl, rfl, rfl, rfl, fun q hq => ⟨by simp [hq], rfl⟩, id⟩

theorem State.byLamp_setLink (s : State) (p : Proj) (l : Link) : s.ByLamp (s.setLink l) p :=
  ⟨rfl, rfl, rfl, rfl, rfl, rfl, rfl, fun _ _ => ⟨rfl, rfl⟩, id⟩

theorem State.byLamp_closeCommand (s : State) (p : Proj) : s.ByLamp (s.closeCommand p) p := by
  obtain ⟨-, ht, hr, hp, hh, hlt, hpt, hb, hn, -⟩ := s.closeCommand_keeps p
  exact ⟨ht, hr, hh, hlt, hpt, hb, hn, fun q hq => ⟨congrArg (fun b => b.cell q) hp, s.closeCommand_ds_other hq⟩,
    s.closeCommand_unstuck p⟩

theorem State.byLamp_gatingWatch (s : State) (p : Proj) : s.ByLamp (s.gatingWatch p) p := by
  rcases s.gatingWatch_cases p with h | ⟨h, -⟩ <;> rw [h]
  · exact s.byLamp_closeCommand p
  · exact .refl s p

/-- A house at rest, with a douser that is not STUCK, is so after such a change. -/
theorem State.ByLamp.atRest {s t : State} {p : Proj} (h : s.ByLamp t p) (hr : s.atRest p) : t.atRest p :=
  ⟨(State.houseAtRest_congr h.houses (houseOf p)).2 hr.1, h.unstuck hr.2⟩

/-! ## A lamp that becomes OFF -/

/-- R64: the end of a burst changes the link alone. -/
theorem State.endBurstFor_eq (s : State) (p : Proj) (reason : StopReason) :
    s.endBurstFor p reason = s.setLink (s.endBurstFor p reason).link := by
  unfold State.endBurstFor State.endBurst
  split
  · split
    · rfl
    · split <;> rfl
  · rfl

/-- R64: with no burst short of its pulses nothing is queued. -/
theorem State.endBurstFor_complete (s : State) (p : Proj) (reason : StopReason)
    (h : ∀ z, (s.lp p).burst = some z → z.asked ≤ z.confirmed) : s.endBurstFor p reason = s := by
  unfold State.endBurstFor State.endBurst
  split
  · split
    · rfl
    next z hz => rw [if_neg (Nat.not_lt.2 (h z hz))]
  · rfl

/-- R64: a burst that ends short. -/
theorem State.endBurstFor_short (s : State) (p : Proj) (reason : StopReason) (c : ShortCause) (z : Burst)
    (hc : reason.shortCause = some c) (hz : (s.lp p).burst = some z) (hshort : z.confirmed < z.asked) :
    s.endBurstFor p reason = s.reportProj p (.shortFeed z.asked z.confirmed c) := by
  simp [State.endBurstFor, State.endBurst, hc, hz, hshort]

/-- R68: the state in which lamp `p` has become OFF. -/
def State.lampStopped (s : State) (p : Proj) (reason : StopReason) : State :=
  if (s.lp p).lit = true then ((s.endBurstFor p reason).setLp p ((s.lp p).stopped reason)).closeCommand p
  else (s.endBurstFor p reason).setLp p ((s.lp p).stopped reason)

/-- R68: the changes that a lamp that becomes OFF puts on the agenda. -/
def Lamp.offSignals (l : Lamp) (p : Proj) : List Signal :=
  (if l.state = .burning then [.lampLeft p false] else []) ++ [.lampOff p]

/-- R68: a lamp's stopping, written out. -/
theorem Rule.lampStops_eq (s : State) (l : List Signal) (t : Bool) (p : Proj) (reason : StopReason) :
    Rule.lampStops ⟨s, l, t⟩ p reason = ⟨s.lampStopped p reason, l ++ (s.lp p).offSignals p, t⟩ := by
  have hlp : (s.endBurstFor p reason).lp p = s.lp p := by rw [s.endBurstFor_eq]; rfl
  unfold Rule.lampStops State.lampStopped Lamp.offSignals Rule.emitLampLeft
  simp only [Rule.upd, hlp]
  split <;> split <;> simp [Rule.emit] <;> rfl

theorem State.lampStopped_lp (s : State) (p : Proj) (reason : StopReason) :
    (s.lampStopped p reason).lp p = (s.lp p).stopped reason := by
  unfold State.lampStopped
  split
  · have hlamps := (((s.endBurstFor p reason).setLp p ((s.lp p).stopped reason)).closeCommand_keeps p).2.2.2.1
    exact (congrArg (fun b => b.cell p) hlamps).trans ((State.setLp_lp ..).trans (if_pos rfl))
  · simp

theorem State.lampStopped_link (s : State) (p : Proj) (reason : StopReason) :
    (s.lampStopped p reason).link = (s.endBurstFor p reason).link := by
  unfold State.lampStopped
  split
  · exact (((s.endBurstFor p reason).setLp p ((s.lp p).stopped reason)).closeCommand_keeps p).1
  · rfl

theorem State.byLamp_lampStopped (s : State) (p : Proj) (reason : StopReason) : s.ByLamp (s.lampStopped p reason) p := by
  have hoff : s.ByLamp ((s.endBurstFor p reason).setLp p ((s.lp p).stopped reason)) p := by
    rw [s.endBurstFor_eq]
    exact (s.byLamp_setLink p _).trans (State.byLamp_setLp ..)
  unfold State.lampStopped
  split
  · exact hoff.trans (State.byLamp_closeCommand ..)
  · exact hoff

/-- R68: the douser of a lit lamp is closed. -/
theorem State.lampStopped_shut (s : State) (p : Proj) (reason : StopReason) (h : (s.lp p).lit = true) :
    ¬ ((s.lampStopped p reason).ds p).agape := by
  rw [State.lampStopped, if_pos h]
  exact State.closeCommand_shut _ p

/-- R68: the douser of another lamp is left alone. -/
theorem State.lampStopped_unlit (s : State) (p : Proj) (reason : StopReason) (h : (s.lp p).lit = false) :
    s.lampStopped p reason = (s.endBurstFor p reason).setLp p ((s.lp p).stopped reason) := by
  rw [State.lampStopped, if_neg (by simp [h])]

theorem State.lampStopped_unlit_ds (s : State) (p : Proj) (reason : StopReason) (h : (s.lp p).lit = false) :
    (s.lampStopped p reason).ds p = s.ds p := by
  rw [s.lampStopped_unlit p reason h, s.endBurstFor_eq]
  rfl

/-- What a stopping lamp of a house at rest tells is quiet. -/
theorem Lamp.offSignals_quiet (l : Lamp) (p : Proj) {s : State} (h : s.atRest p) : ∀ y ∈ l.offSignals p, y.quiet s := by
  intro y hy
  unfold Lamp.offSignals at hy
  split at hy
  · rcases List.mem_pair.1 hy with rfl | rfl <;> exact h
  · rcases List.mem_singleton.1 hy with rfl
    exact h

theorem Lamp.offSignals_length (l : Lamp) (p : Proj) : (l.offSignals p).length ≤ 2 := by
  unfold Lamp.offSignals
  split <;> simp

/-! ## EXTINGUISH -/

/-- R69: EXTINGUISH of a lamp. -/
theorem Rule.decideExtinguish_done (r : Rule) (b : Byte) (p : Proj) (hb : b.toNat = p.val + 1) :
    r.decideExtinguish b = (r.extinguish p .host).done := by
  simp [Rule.decideExtinguish, projOf_of_toNat hb]

theorem Rule.extinguish_off (r : Rule) (p : Proj) (reason : StopReason) (h : (r.st.lp p).state = .off) :
    r.extinguish p reason = r := by
  simp [Rule.extinguish, h]

theorem Rule.extinguish_on (r : Rule) (p : Proj) (reason : StopReason) (h : (r.st.lp p).state ≠ .off) :
    r.extinguish p reason = r.lampStops p reason := by
  simp [Rule.extinguish, h]

/-- R68: only a SETTLING and a BURNING lamp are lit. -/
theorem Lamp.lit_iff (l : Lamp) : l.lit = true ↔ l.state = .settling ∨ l.state = .burning := by
  simp [Lamp.lit]

theorem Lamp.unlit_of_striking {l : Lamp} (h : l.state = .striking) : l.lit = false := by
  simp [Lamp.lit, h]

theorem Lamp.lit_of_on {l : Lamp} (hoff : l.state ≠ .off) (hst : l.state ≠ .striking) : l.lit = true := by
  rw [Lamp.lit_iff]
  cases h : l.state <;> simp_all

/-- R165: a report wakes no transmitter that is sending. -/
theorem State.endBurstFor_awake (s : State) (p : Proj) (reason : StopReason) (h : s.link.transmitter ≠ .idle) :
    (s.endBurstFor p reason).link.transmitter ≠ .idle := by
  unfold State.endBurstFor State.endBurst
  split
  · split
    · exact h
    · split
      · exact fun hi => h ((s.link.enqueue_fed _ _).idle hi).1
      · exact h
  · exact h

/-- Settles O19, by the state of the lamp and what is left of its burst. -/
theorem extinguishStopsTheLamp : Obligations.ExtinguishStopsTheLamp := by
  intro s dt b p y hs hb
  refine ⟨fun hoff => ?_, fun hon hr => ?_⟩
  · exact Rule.finish_answered (s.elapse dt) (.extinguish b) (.done .nothing) hs rfl
      ((Rule.decideExtinguish_done _ b p hb).trans (congrArg Rule.done (Rule.extinguish_off _ p .host hoff)))
  · let w := (s.elapse dt).setLink s.link.claimed
    have hby : w.ByLamp (w.lampStopped p .host) p := w.byLamp_lampStopped p .host
    have hask : Rule.ask ⟨w, [], false⟩ (.extinguish b) =
        ⟨.done .nothing, ⟨w.lampStopped p .host, (w.lp p).offSignals p, false⟩⟩ :=
      (Rule.decideExtinguish_done _ b p hb).trans (congrArg Rule.done ((Rule.extinguish_on _ p .host hon).trans
        (Rule.lampStops_eq w [] false p .host)))
    have hlink := w.lampStopped_link p .host
    have hbusy : (w.lampStopped p .host).link.transmitter ≠ .idle := by
      rw [hlink]
      exact w.endBurstFor_awake p .host s.link.claimed_awake
    obtain ⟨t, ht, hend, hslot, hreplied, hsent⟩ := Rule.finish_request (s.elapse dt) (w.lampStopped p .host) (.extinguish b)
      (.done .nothing) ((w.lp p).offSignals p) hs rfl hbusy hask
      (((w.lp p).offSignals_length p).trans (by decide)) (Lamp.offSignals_quiet _ p (hby.atRest hr))
    have hlp (q : Proj) : t.lp q = (w.lampStopped p .host).lp q := congrArg (fun b => b.cell q) hend.lamps
    have hds (q : Proj) : t.ds q = (w.lampStopped p .host).ds q := congrArg (fun b => b.cell q) hend.dousers
    refine ⟨t, ht, (hlp p).trans (w.lampStopped_lp p .host), fun q hq => ⟨(hlp q).trans (hby.others q hq).1,
      (hds q).trans (hby.others q hq).2⟩, fun hst => (hds p).trans (w.lampStopped_unlit_ds p .host (Lamp.unlit_of_striking hst)),
      fun hst => ?_, hend.transports.trans hby.transports, hend.readers.trans hby.readers, hend.houses.trans hby.houses,
      hend.lights.trans hby.lights, hend.ports.trans hby.ports, hend.booth.trans hby.booth, hslot, fun hy hshort hsending => ?_,
      fun hdone => hreplied (hlink.trans (congrArg State.link (w.endBurstFor_complete p .host hdone)))⟩
    · have hlit : (w.lp p).lit = true := Lamp.lit_of_on hon hst
      rw [hds]
      exact not_or.1 (w.lampStopped_shut p .host hlit)
    · have hclaimed : w = s.elapse dt := by
        change (s.elapse dt).setLink s.link.claimed = _
        rw [s.link.claimed_sending hsending]
        rfl
      rw [hsent hsending, hlink, w.endBurstFor_short p .host .host y rfl hy hshort, hclaimed]
      rfl

end Sys2Proof.Machine
end

section
/-! PROOFS. A strike: STRIKE, the supply phase, the sending of feed pulses and their stall. -/

namespace Sys2Proof.Machine

/-! ## Sending a feed pulse -/

/-- R55: a wanted pulse is sent. -/
theorem Lamp.trySend_sent {l : Lamp} {now : Instant} {dir : FeedDir} (hw : l.wanted = some dir) (ho : l.outstanding = none)
    (hs : ∀ u, l.lastSend = some u → u + 500 ≤ now) :
    l.trySend now = { l.countSend with outstanding := some ⟨dir, now⟩, lastSend := some now } := by
  have hspaced : l.spaced now = true := by
    unfold Lamp.spaced
    split
    · rfl
    next u hu => exact decide_eq_true (hs u hu)
  simp [Lamp.trySend, hw, ho, hspaced]

/-- R55: with a pulse outstanding none is sent. -/
theorem Lamp.trySend_outstanding {l : Lamp} (now : Instant) (ho : l.outstanding ≠ none) : l.trySend now = l := by
  unfold Lamp.trySend
  split <;> simp [ho]

/-- R55: within 50 ms of the last send none is sent. -/
theorem Lamp.trySend_unspaced {l : Lamp} {now u : Instant} (hu : l.lastSend = some u) (hs : now < u + 500) :
    l.trySend now = l := by
  have hspaced : l.spaced now = false := by
    simp only [Lamp.spaced, hu]
    exact decide_eq_false (Nat.not_le.2 hs)
  unfold Lamp.trySend
  split <;> simp [hspaced]

/-- R55: where none is wanted none is sent. -/
theorem Lamp.trySend_unwanted {l : Lamp} (now : Instant) (hw : l.wanted = none) : l.trySend now = l := by
  simp [Lamp.trySend, hw]

/-- R62: where there is no burst none is counted. -/
theorem Lamp.countSend_noBurst {l : Lamp} (h : l.burst = none) : l.countSend = l := by
  have hself : { l with burst := none } = l := by rw [← h]
  simp [Lamp.countSend, h, hself]

/-! ## STRIKE -/

/-- R38: a watch leaves a shut douser alone. -/
theorem State.gatingWatch_shut (s : State) (p : Proj) (h : ¬ (s.ds p).agape) : s.gatingWatch p = s := by
  rw [Douser.agape] at h
  simp [State.gatingWatch, h]

/-- R38: a douser whose gating condition does not hold is shut by the watch. -/
theorem State.gatingWatch_closes (s : State) (p : Proj) (h : s.gating p = false) : ¬ ((s.gatingWatch p).ds p).agape := by
  rcases s.gatingWatch_cases p with hw | ⟨hw, hn⟩
  · rw [hw]
    exact State.closeCommand_shut _ p
  · rw [hw]
    intro ha
    simp [hn ha] at h

/-- R37: no gating condition holds while the lamp is STRIKING. -/
theorem State.gating_striking (s : State) (p : Proj) (h : (s.lp p).state = .striking) : s.gating p = false := by
  rw [Bool.eq_false_iff, ne_eq, State.gating_iff]
  simp [h]

/-- R54: the state in which a strike sequence of lamp `p` has begun. -/
def State.struck (s : State) (p : Proj) : State := (s.setLp p ((s.lp p).struckAt s.now)).gatingWatch p

theorem State.byLamp_struck (s : State) (p : Proj) : s.ByLamp (s.struck p) p :=
  (s.byLamp_setLp p _).trans (State.byLamp_gatingWatch _ p)

theorem State.struck_lp (s : State) (p : Proj) : (s.struck p).lp p = (s.lp p).struckAt s.now :=
  (congrArg (fun b => b.cell p) ((s.setLp p ((s.lp p).struckAt s.now)).gatingWatch_keeps p).2.2.2.1).trans
    ((State.setLp_lp ..).trans (if_pos rfl))

theorem State.struck_link (s : State) (p : Proj) : (s.struck p).link = s.link :=
  ((s.setLp p ((s.lp p).struckAt s.now)).gatingWatch_keeps p).1

theorem State.struck_shut (s : State) (p : Proj) : ¬ ((s.struck p).ds p).agape :=
  State.gatingWatch_closes _ p (State.gating_striking _ p (by simp [Lamp.struckAt]))

/-- R38: a shut douser is left alone. -/
theorem State.struck_shut_ds (s : State) (p : Proj) (h : ¬ (s.ds p).agape) : (s.struck p).ds p = s.ds p := by
  rw [State.struck, State.gatingWatch_shut (s.setLp p _) p h, State.setLp_ds]

/-- R54: the beginning of a strike sequence, written out. -/
theorem Rule.strikeBegins_eq (s : State) (l : List Signal) (t : Bool) (p : Proj) : Rule.strikeBegins ⟨s, l, t⟩ p =
    ⟨s.struck p, l ++ (if (s.lp p).state = .off then [.lampStruck p] else []), t⟩ := by
  unfold Rule.strikeBegins
  dsimp only
  split <;> simp [Rule.emit, Rule.upd] <;> rfl

/-- R53: the decision of STRIKE, for a lamp that is OFF with no trial on its douser. -/
theorem Rule.decideStrike_idle (r : Rule) (b : Byte) (p : Proj) (hb : b.toNat = p.val + 1) (hoff : (r.st.lp p).state = .off)
    (htrial : (r.st.ds p).trial = none) : r.decideStrike b =
      if (r.st.lp p).account < 400 then r.refuse .carbon
      else if ¬ r.st.booth.coolEnough then r.refuse .heat
      else if r.st.booth.covers (projPort p) then r.refuse .fire
      else ((r.upd (fun s => s.modLp p (fun l => { l with restrikeUsed := false }))).strikeBegins p).done := by
  simp [Rule.decideStrike, projOf_of_toNat hb, hoff, htrial, strikeAccount]

/-- R53: HOT and CRITICAL are no grades to strike in. -/
theorem Booth.coolEnough_iff (b : Booth) : b.coolEnough = true ↔ b.grade = .normal ∨ b.grade = .warm := by
  simp [Booth.coolEnough]

/-! ## The supply phase -/

/-- R52: a reading changes its lamp alone. -/
theorem exec_arcReading {s : State} {dt : Nat} {p : Proj} {volts amps : Nat} {l : Lamp}
    (h : (s.lp p).read volts amps (s.now + dt) = l) : exec (.arcReading dt p volts amps) s = .next ((s.elapse dt).setLp p l) := by
  rw [← h]
  exact Rule.finish_plain ((s.elapse dt).setLp p ((s.lp p).read volts amps (s.now + dt)))

/-- R54: a reading in the supply phase, before the rectifier is up. -/
theorem Lamp.read_supply_low {l : Lamp} (volts amps : Nat) (now : Instant) (hst : l.state = .striking)
    (hph : l.phase = some .supply) (hv : volts < 600) (ha : amps < 20) :
    l.read volts amps now = { l with highSupply := max l.highSupply volts, amps := amps } := by
  have hdown : rectifierUp volts amps = false :=
    decide_eq_false (not_or.2 ⟨Nat.not_le.2 hv, Nat.not_le.2 ha⟩)
  simp only [Lamp.read, hst, hph, hdown]
  rfl

/-- R54: a reading in the supply phase with the rectifier up. -/
theorem Lamp.read_supply_up {l : Lamp} (volts amps : Nat) (now : Instant) (hst : l.state = .striking)
    (hph : l.phase = some .supply) (hup : 600 ≤ volts ∨ 20 ≤ amps) :
    l.read volts amps now = { l with highSupply := max l.highSupply volts, amps := amps }.sweepBegins amps now := by
  have hrect : rectifierUp volts amps = true := decide_eq_true hup
  simp only [Lamp.read, hst, hph, hrect]
  rfl

/-- R56: without contact the sweep begins. -/
theorem Lamp.sweepBegins_open {l : Lamp} {amps : Nat} (now : Instant) (ha : amps < 20) :
    l.sweepBegins amps now = { l with phase := some .sweep, phaseStart := none, sweepPulses := 0 }.trySend now := by
  simp [Lamp.sweepBegins, contactAmps, Nat.not_le.2 ha]

/-- R56, R57: with contact the draw begins. -/
theorem Lamp.sweepBegins_contact {l : Lamp} {amps : Nat} (now : Instant) (ha : 20 ≤ amps) : l.sweepBegins amps now =
    { l with phase := some .draw, phaseStart := none, sweepPulses := 0, drawPulses := 0 }.trySend now := by
  simp [Lamp.sweepBegins, contactAmps, ha, Lamp.drawBegins]

/-- R56: a sweep that sends its first pulse at once. -/
theorem Lamp.sweepBegins_open_sent {l : Lamp} {amps : Nat} {now : Instant} (ha : amps < 20) (ho : l.outstanding = none)
    (hb : l.burst = none) (hs : ∀ u, l.lastSend = some u → u + 500 ≤ now) : l.sweepBegins amps now =
      { l with
        phase := some .sweep
        phaseStart := none
        sweepPulses := 0
        outstanding := some ⟨.forward, now⟩
        lastSend := some now } := by
  rw [Lamp.sweepBegins_open now ha, Lamp.trySend_sent (dir := .forward) rfl (by exact ho) (by exact hs),
    Lamp.countSend_noBurst (by exact hb)]

/-- R57: a draw that sends its first pulse at once. -/
theorem Lamp.sweepBegins_contact_sent {l : Lamp} {amps : Nat} {now : Instant} (ha : 20 ≤ amps) (ho : l.outstanding = none)
    (hb : l.burst = none) (hs : ∀ u, l.lastSend = some u → u + 500 ≤ now) : l.sweepBegins amps now =
      { l with
        phase := some .draw
        phaseStart := none
        sweepPulses := 0
        drawPulses := 0
        outstanding := some ⟨.reverse, now⟩
        lastSend := some now } := by
  rw [Lamp.sweepBegins_contact now ha, Lamp.trySend_sent (dir := .reverse) rfl (by exact ho) (by exact hs),
    Lamp.countSend_noBurst (by exact hb)]

/-- R55: within 50 ms of the lamp's last send the sweep, or the draw, begins without a pulse. -/
theorem Lamp.sweepBegins_unspaced {l : Lamp} {amps : Nat} {now u : Instant} (hu : l.lastSend = some u)
    (hs : now < u + 500) : l.sweepBegins amps now =
      { l with
        phase := some (if amps < 20 then .sweep else .draw)
        phaseStart := none
        sweepPulses := 0
        drawPulses := if amps < 20 then l.drawPulses else 0 } := by
  rcases Nat.lt_or_ge amps 20 with ha | ha
  · rw [Lamp.sweepBegins_open _ ha, Lamp.trySend_unspaced (by exact hu) hs]
    simp [ha]
  · rw [Lamp.sweepBegins_contact _ ha, Lamp.trySend_unspaced (by exact hu) hs]
    simp [Nat.not_lt.2 ha]

/-- R54: the limit of the supply phase. -/
theorem Rule.supplyExpires_due (s : State) (p : Proj) (t0 : Instant) (hph : (s.lp p).phase = some .supply)
    (h0 : (s.lp p).phaseStart = some t0) (ht : t0 + 20000 ≤ s.now) : Rule.supplyExpires ⟨s, [], false⟩ p =
      (Rule.lampStops ⟨s, [], false⟩ p .strikeSupply).upd
        (fun x => x.reportProj p (.strikeFail .strikeSupply (s.lp p).highSupply 0)) := by
  have hdue : due (after (s.lp p).phaseStart 2000) s.now = true := by
    rw [h0]
    exact due_late ht
  unfold Rule.supplyExpires
  dsimp only
  rw [if_pos ⟨hph, hdue⟩]

/-- R54: before its instant the limit does nothing. -/
theorem Rule.supplyExpires_early (s : State) (p : Proj) (t0 : Instant) (h0 : (s.lp p).phaseStart = some t0)
    (ht : s.now < t0 + 20000) : Rule.supplyExpires ⟨s, [], false⟩ p = ⟨s, [], false⟩ := by
  have hearly : due (after (s.lp p).phaseStart 2000) s.now = false := by
    rw [h0]
    exact due_early ht
  unfold Rule.supplyExpires
  dsimp only
  rw [if_neg (by simp [hearly])]

/-- R68: a striking lamp whose stop reason ends no burst is stopped, and nothing else changes. -/
theorem Rule.lampStops_striking (s : State) (l : List Signal) (t : Bool) (p : Proj) (reason : StopReason)
    (hst : (s.lp p).state = .striking) (hc : reason.shortCause = none) : Rule.lampStops ⟨s, l, t⟩ p reason =
      ⟨s.setLp p ((s.lp p).stopped reason), l ++ [.lampOff p], t⟩ := by
  have hburst : s.endBurstFor p reason = s := by simp [State.endBurstFor, hc]
  rw [Rule.lampStops_eq, s.lampStopped_unlit p reason (Lamp.unlit_of_striking hst), hburst]
  simp [Lamp.offSignals, hst]

/-- R53, R54: an accepted STRIKE. -/
theorem exec_strike_accepted (s : State) (dt : Nat) (b : Byte) (p : Proj) (hs : s.linkReady) (hb : b.toNat = p.val + 1)
    (hoff : (s.lp p).state = .off) (htrial : (s.ds p).trial = none) (hacc : 400 ≤ (s.lp p).account)
    (hcool : s.booth.coolEnough = true) (hcov : s.booth.covers (projPort p) = false) (hd : (s.ds p).state ≠ .stuck) :
    exec (.strike dt b) s = .next (((((s.elapse dt).setLink s.link.claimed).modLp p
      (fun l => { l with restrikeUsed := false })).struck p).setLink (s.link.replied (.done 22 .nothing))) := by
  let w := ((s.elapse dt).setLink s.link.claimed).modLp p (fun l => { l with restrikeUsed := false })
  have hw : (w.lp p).state = .off := by
    simpa [w, State.modLp] using hoff
  have hby : w.ByLamp (w.struck p) p := w.byLamp_struck p
  have hask : Rule.ask ⟨(s.elapse dt).setLink s.link.claimed, [], false⟩ (.strike b) =
      ⟨.done .nothing, ⟨w.struck p, [.lampStruck p], false⟩⟩ := by
    have hheat : ¬ ¬ s.booth.coolEnough = true := not_not.2 hcool
    have hfree : ¬ s.booth.covers (projPort p) = true := by simp [hcov]
    refine (Rule.decideStrike_idle _ b p hb hoff htrial).trans ((if_neg (Nat.not_lt.2 hacc)).trans ((if_neg hheat).trans
      ((if_neg hfree).trans (congrArg Rule.done ((Rule.strikeBegins_eq w [] false p).trans ?_)))))
    rw [if_pos hw, List.nil_append]
  refine Rule.finish_asked (s.elapse dt) (w.struck p) (.strike b) (.done .nothing) [.lampStruck p] hs rfl
    (w.struck_link p) hask (by simp [settleBound]) fun y hy u l' t _ hds => ?_
  obtain rfl := List.mem_singleton.1 hy
  refine Rule.douserCause_unstuck _ p ?_
  have hu : u.ds p = (w.struck p).ds p := congrArg (fun b => b.cell p) hds
  rw [hu]
  exact hby.unstuck hd

/-- Settles O18, by the checks of STRIKE in order, and by what a reading finds in the supply phase. -/
theorem strikeBeginsAndWaitsForTheSupply : Obligations.StrikeBeginsAndWaitsForTheSupply := by
  refine ⟨fun s dt b p hs hb => ⟨fun hbusy => ?_, fun hoff htrial hacc => ?_, fun hoff htrial hacc hhot => ?_,
    fun hoff htrial hacc hcool hcov => ?_, fun hoff htrial hacc hcool hcov hd => ?_⟩,
    fun s dt p volts amps t0 u hst hph h0 ho hburst => ⟨fun hv ha => ?_, fun hs hv ha => ?_, fun hs ha => ?_,
      fun hu hearly hup => ?_, fun ht hr => ?_, fun ht => ?_⟩⟩
  · refine Rule.finish_answered (s.elapse dt) (.strike b) (.refused .state .nothing) hs rfl ?_
    have hbusy' : (s.lp p).state ≠ .off ∨ (s.ds p).trial.isSome = true := by
      simpa [Option.isSome_iff_ne_none] using hbusy
    exact (show Rule.decideStrike _ b = _ by
      simp only [Rule.decideStrike, projOf_of_toNat hb]
      exact if_pos hbusy')
  · refine Rule.finish_answered (s.elapse dt) (.strike b) (.refused .carbon .nothing) hs rfl ?_
    exact (Rule.decideStrike_idle _ b p hb hoff htrial).trans (if_pos hacc)
  · refine Rule.finish_answered (s.elapse dt) (.strike b) (.refused .heat .nothing) hs rfl ?_
    have hheat : ¬ s.booth.coolEnough = true := by
      rw [Booth.coolEnough_iff]
      rcases hhot with h | h <;> simp [h]
    exact (Rule.decideStrike_idle _ b p hb hoff htrial).trans ((if_neg (Nat.not_lt.2 hacc)).trans (if_pos hheat))
  · refine Rule.finish_answered (s.elapse dt) (.strike b) (.refused .fire .nothing) hs rfl ?_
    have hheat : ¬ ¬ s.booth.coolEnough = true := not_not.2 (s.booth.coolEnough_iff.2 hcool)
    exact (Rule.decideStrike_idle _ b p hb hoff htrial).trans ((if_neg (Nat.not_lt.2 hacc)).trans
      ((if_neg hheat).trans (if_pos hcov)))
  · let w := ((s.elapse dt).setLink s.link.claimed).modLp p (fun l => { l with restrikeUsed := false })
    have hend := exec_strike_accepted s dt b p hs hb hoff htrial hacc (s.booth.coolEnough_iff.2 hcool) hcov hd
    have hmod : ((s.elapse dt).setLink s.link.claimed).ByLamp w p := State.byLamp_setLp ..
    have hby : ((s.elapse dt).setLink s.link.claimed).ByLamp (w.struck p) p := hmod.trans (w.byLamp_struck p)
    have hwlp : w.lp p = { s.lp p with restrikeUsed := false } := (State.setLp_lp ..).trans (if_pos rfl)
    refine ⟨_, hend, (w.struck_lp p).trans (congrArg (Lamp.struckAt · (s.now + dt)) hwlp), hby.others,
      fun hshut => w.struck_shut_ds p ?_, (not_or.1 (w.struck_shut p)).1,
      (not_or.1 (w.struck_shut p)).2, hby.transports, hby.readers, hby.houses, hby.lights, hby.ports, hby.booth, rfl⟩
    change ¬ (s.ds p).agape
    rcases hshut with h | h <;> simp [Douser.agape, h]
  · exact exec_arcReading (Lamp.read_supply_low volts amps _ hst hph hv ha)
  · refine exec_arcReading ((Lamp.read_supply_up volts amps _ hst hph (.inl hv)).trans
      (Lamp.sweepBegins_open_sent ha ho hburst fun v hv => ?_))
    rcases hs with hs | ⟨hs, hlate⟩ <;> simp_all
  · refine exec_arcReading ((Lamp.read_supply_up volts amps _ hst hph (.inr ha)).trans
      (Lamp.sweepBegins_contact_sent ha ho hburst fun v hv => ?_))
    rcases hs with hs | ⟨hs, hlate⟩ <;> simp_all
  · exact exec_arcReading ((Lamp.read_supply_up volts amps _ hst hph hup).trans (Lamp.sweepBegins_unspaced hu hearly))
  · have hrun : exec (.supplyLimit dt p) s = (Rule.supplyExpires ⟨s.elapse dt, [], false⟩ p).finish := rfl
    rw [hrun, Rule.supplyExpires_due (s.elapse dt) p t0 hph h0 ht, Rule.lampStops_striking (s.elapse dt) _ _ p .strikeSupply hst rfl]
    exact Rule.finish_quiet _ [.lampOff p] (by simp [settleBound]) fun y hy => by
      obtain rfl := List.mem_singleton.1 hy
      exact hr
  · have hrun : exec (.supplyLimit dt p) s = (Rule.supplyExpires ⟨s.elapse dt, [], false⟩ p).finish := rfl
    rw [hrun, Rule.supplyExpires_early (s.elapse dt) p t0 h0 ht, Rule.finish_plain]

/-! ## The sending of feed pulses and their stall -/

/-- R55: a send changes its lamp alone. -/
theorem exec_feedPulseSend {s : State} {dt : Nat} {p : Proj} {l : Lamp} (h : (s.lp p).trySend (s.now + dt) = l) :
    exec (.feedPulseSend dt p) s = .next ((s.elapse dt).setLp p l) := by
  rw [← h]
  exact Rule.finish_plain ((s.elapse dt).setLp p ((s.lp p).trySend (s.now + dt)))

/-- R55: a send that sends nothing changes nothing. -/
theorem exec_feedPulseSend_idle {s : State} {dt : Nat} {p : Proj} (h : (s.lp p).trySend (s.now + dt) = s.lp p) :
    exec (.feedPulseSend dt p) s = .next (s.elapse dt) :=
  (exec_feedPulseSend h).trans (congrArg _ ((s.elapse dt).setLp_self p))

/-- R63, R66, R76: a lamp's failure, written out. -/
theorem Rule.lampFails_eq (s : State) (l : List Signal) (t : Bool) (p : Proj) (reason : StopReason) :
    Rule.lampFails ⟨s, l, t⟩ p reason = ⟨(s.lampStopped p reason).setLink
      ((s.lampStopped p reason).link.restrikeFails p (s.lp p) reason), l ++ (s.lp p).offSignals p, t⟩ := by
  rcases Rule.lampFails_cases ⟨s, l, t⟩ p reason with ⟨hin, he⟩ | ⟨hout, he⟩
  · rw [he, Rule.lampStops_eq, Link.restrikeFails, if_pos ((Lamp.inRestrike_iff _).1 hin)]
    rfl
  · have hn := mt (Lamp.inRestrike_iff (s.lp p)).2 (by simp [hout])
    rw [he, Rule.lampStops_eq, Link.restrikeFails, if_neg hn]
    rfl

/-- R55: before the 150 ms have passed no pulse stalls. -/
theorem Rule.stall_early (s : State) (p : Proj) (x : FeedPulse) (hx : (s.lp p).outstanding = some x)
    (ht : s.now < x.sent + 1500) : Rule.stall ⟨s, [], false⟩ p = ⟨s, [], false⟩ := by
  have hearly : due (after ((s.lp p).outstanding.map (fun f => f.sent)) stallLimit) s.now = false := by
    rw [hx]
    exact due_early ht
  simp [Rule.stall, hearly]

/-- R55: a pulse that stalls is outstanding no more; what follows depends on the phase and the burst. -/
theorem Rule.stall_due (s : State) (p : Proj) (x : FeedPulse) (hx : (s.lp p).outstanding = some x)
    (ht : x.sent + 1500 ≤ s.now) : Rule.stall ⟨s, [], false⟩ p =
      match (s.lp p).phase, (s.lp p).burst with
      | some .sweep, _ => Rule.strikeStalls ⟨s.setLp p { s.lp p with outstanding := none }, [], false⟩ p .sweep
      | some .draw, _ => Rule.strikeStalls ⟨s.setLp p { s.lp p with outstanding := none }, [], false⟩ p .draw
      | none, some b => Rule.burstStalls ⟨s.setLp p { s.lp p with outstanding := none }, [], false⟩ p b
      | some .supply, _ | none, none => ⟨s.setLp p { s.lp p with outstanding := none }, [], false⟩ := by
  have hdue : due (after ((s.lp p).outstanding.map (fun f => f.sent)) stallLimit) s.now = true := by
    rw [hx]
    exact due_late ht
  simp only [Rule.stall, hdue, if_true]
  rfl

/-- R56, R57: a stall in the sweep or the draw ends the strike. -/
theorem Rule.strikeStalls_eq (s : State) (p : Proj) (phase : StallPhase) (hst : (s.lp p).state = .striking) :
    Rule.strikeStalls ⟨s.setLp p { s.lp p with outstanding := none }, [], false⟩ p phase =
      ⟨((s.reportProj p (.feedStall phase 0 0 0)).setLp p ((s.lp p).stopped .feed)).reportProj p (.strikeFail .feed 0 0),
        [.lampOff p], false⟩ := by
  let v := (s.setLp p { s.lp p with outstanding := none }).reportProj p (.feedStall phase 0 0 0)
  have hlp : v.lp p = { s.lp p with outstanding := none } := (State.setLp_lp ..).trans (if_pos rfl)
  have hstop := Rule.lampStops_striking v [] false p .feed (by rw [hlp]; exact hst) rfl
  rw [hlp] at hstop
  refine (congrArg (fun r : Rule => r.upd fun s => s.reportProj p (.strikeFail .feed 0 0)) hstop).trans ?_
  have hset : v.setLp p ((s.lp p).stopped .feed) =
      (s.reportProj p (.feedStall phase 0 0 0)).setLp p ((s.lp p).stopped .feed) :=
    congrArg (fun u : State => u.reportProj p (.feedStall phase 0 0 0))
      (s.setLp_setLp p { s.lp p with outstanding := none } ((s.lp p).stopped .feed))
  exact congrArg (fun u : State => (⟨u.reportProj p (.strikeFail .feed 0 0), [.lampOff p], false⟩ : Rule)) hset

/-- The link and the lamps are changed in either order. -/
theorem State.setLink_setLp (s : State) (l : Link) (p : Proj) (x : Lamp) :
    (s.setLink l).setLp p x = (s.setLp p x).setLink l := rfl

/-- R63: what a stall in a burst queues. -/
def State.burstStalled (s : State) (p : Proj) (b : Burst) (n : Nat) : State :=
  (s.reportProj p (.feedStall .burst b.asked b.confirmed n)).reportProj p (.shortFeed b.asked b.confirmed .stall)

/-- R63: the first and the second stall in a row end the burst. -/
theorem Rule.burstStalls_few (s : State) (p : Proj) (b : Burst) (hn : (s.lp p).stalls < 2) :
    Rule.burstStalls ⟨s.setLp p { s.lp p with outstanding := none }, [], false⟩ p b = ⟨(s.setLp p { s.lp p with
      outstanding := none
      burst := none
      stalls := (s.lp p).stalls + 1
      blankEnd := some (s.now + 20000) }).burstStalled p b ((s.lp p).stalls + 1), [], false⟩ := by
  have hfew : (s.lp p).stalls + 1 < 3 := by omega
  simp [Rule.burstStalls, Rule.upd, State.modLp, hfew, State.reportProj, State.report, State.burstStalled, ms,
    State.setLink_setLp]

/-- R63: the third stall in a row stops the lamp. -/
theorem Rule.burstStalls_third (s : State) (p : Proj) (b : Burst) (hn : (s.lp p).stalls = 2) :
    Rule.burstStalls ⟨s.setLp p { s.lp p with outstanding := none }, [], false⟩ p b = Rule.lampFails ⟨(s.setLp p { s.lp p with
      outstanding := none
      burst := none
      stalls := 3 }).burstStalled p b 3, [], false⟩ p .feed := by
  simp [Rule.burstStalls, Rule.upd, State.modLp, hn, State.reportProj, State.report, State.burstStalled]

/-- Settles O20, by what the lamp has to send, and by the phase or the burst of the pulse that stalls. -/
theorem feedPulsesAreSpacedAndStall : Obligations.FeedPulsesAreSpacedAndStall := by
  refine ⟨fun s dt p u x => ⟨fun hph ho hb hs => ?_, fun hph ho hb hs => ?_, fun hph ho hb hx hs => ?_, fun h => ?_,
    fun h => ?_⟩, fun s dt p x y hr hx => ⟨fun ht => ?_, fun ht hst hph => ?_, fun ht hst hph => ?_,
      fun ht hph hy hn => ?_, fun ht hph hy hn => ?_⟩⟩
  · have hw : (s.lp p).wanted = some .forward := by simp [Lamp.wanted, hph]
    refine exec_feedPulseSend ?_
    rw [Lamp.trySend_sent hw ho hs, Lamp.countSend_noBurst hb]
  · have hw : (s.lp p).wanted = some .reverse := by simp [Lamp.wanted, hph]
    refine exec_feedPulseSend ?_
    rw [Lamp.trySend_sent hw ho hs, Lamp.countSend_noBurst hb]
  · have hw : (s.lp p).wanted = some .forward := by simp [Lamp.wanted, hph, hb, hx]
    refine exec_feedPulseSend ?_
    rw [Lamp.trySend_sent hw ho hs]
    simp [Lamp.countSend, hb]
  · refine exec_feedPulseSend_idle ?_
    rcases h with ho | ⟨hu, hearly⟩
    · exact Lamp.trySend_outstanding _ ho
    · exact Lamp.trySend_unspaced hu hearly
  · refine exec_feedPulseSend_idle (Lamp.trySend_unwanted _ ?_)
    rcases h with hph | ⟨hph, hb | ⟨hb, hx⟩⟩
    · simp [Lamp.wanted, hph]
    · simp [Lamp.wanted, hph, hb]
    · simp [Lamp.wanted, hph, hb, Nat.not_lt.2 hx]
  · have hrun : exec (.feedStall dt p) s = (Rule.stall ⟨s.elapse dt, [], false⟩ p).finish := rfl
    rw [hrun, Rule.stall_early (s.elapse dt) p x hx ht, Rule.finish_plain]
  · have hstall := Rule.stall_due (s.elapse dt) p x hx ht
    rw [show ((s.elapse dt).lp p).phase = _ from hph] at hstall
    refine (congrArg Rule.finish (hstall.trans (Rule.strikeStalls_eq (s.elapse dt) p .sweep hst))).trans ?_
    exact Rule.finish_quiet _ [.lampOff p] (by simp [settleBound]) fun y hy => by
      obtain rfl := List.mem_singleton.1 hy
      exact hr
  · have hstall := Rule.stall_due (s.elapse dt) p x hx ht
    rw [show ((s.elapse dt).lp p).phase = _ from hph] at hstall
    refine (congrArg Rule.finish (hstall.trans (Rule.strikeStalls_eq (s.elapse dt) p .draw hst))).trans ?_
    exact Rule.finish_quiet _ [.lampOff p] (by simp [settleBound]) fun y hy => by
      obtain rfl := List.mem_singleton.1 hy
      exact hr
  · have hstall := Rule.stall_due (s.elapse dt) p x hx ht
    rw [show ((s.elapse dt).lp p).phase = _ from hph, show ((s.elapse dt).lp p).burst = _ from hy] at hstall
    refine (congrArg Rule.finish (hstall.trans (Rule.burstStalls_few (s.elapse dt) p y hn))).trans ?_
    exact Rule.finish_plain _
  · have hstall := Rule.stall_due (s.elapse dt) p x hx ht
    rw [show ((s.elapse dt).lp p).phase = _ from hph, show ((s.elapse dt).lp p).burst = _ from hy] at hstall
    let v := ((s.elapse dt).setLp p { s.lp p with outstanding := none, burst := none, stalls := 3 }).burstStalled p y 3
    have hvlp : v.lp p = { s.lp p with outstanding := none, burst := none, stalls := 3 } := (State.setLp_lp ..).trans (if_pos rfl)
    have hv : (s.elapse dt).ByLamp v p := ((s.elapse dt).byLamp_setLp p _).trans
      ⟨rfl, rfl, rfl, rfl, rfl, rfl, rfl, fun _ _ => ⟨rfl, rfl⟩, id⟩
    have hby : (s.elapse dt).ByLamp (v.lampStopped p .feed) p := hv.trans (v.byLamp_lampStopped p .feed)
    have hburst : v.endBurstFor p .feed = v := rfl
    have hrule := hstall.trans ((Rule.burstStalls_third (s.elapse dt) p y hn).trans (Rule.lampFails_eq v [] false p .feed))
    have hstopped := v.lampStopped_lp p .feed
    have hds : (v.lp p).lit = false → (v.lampStopped p .feed).ds p = s.ds p := v.lampStopped_unlit_ds p .feed
    have hshut := v.lampStopped_shut p .feed
    have hlink := v.lampStopped_link p .feed
    rw [hburst] at hlink
    rw [hvlp] at hstopped hds hshut
    refine ⟨_, (congrArg Rule.finish hrule).trans (Rule.finish_quiet _ _ (((v.lp p).offSignals_length p).trans (by decide))
      (Lamp.offSignals_quiet _ p (hby.atRest hr))), hstopped, fun hlit => not_or.1 (hshut ((Lamp.lit_iff _).2 hlit)),
      fun hdark => hds ?_, ?_, hby.others, hby.transports, hby.readers, hby.houses, hby.lights, hby.ports, hby.booth⟩
    · rw [Bool.eq_false_iff, ne_eq, Lamp.lit_iff]
      rcases hdark with h | h <;> simp [h]
    · rw [State.setLink_link, hlink, hvlp]
      rfl

end Sys2Proof.Machine
end

section
/-! PROOFS. The lit lamp: the end of settling, the watch on the current, the bursts, and an arc out. -/

namespace Sys2Proof.Machine

/-! ## The end of settling and the current watch -/

/-- R58: the end of settling. -/
theorem Rule.settles_due (s : State) (p : Proj) (u : Instant) (hst : (s.lp p).state = .settling)
    (hu : (s.lp p).settleStart = some u) (ht : u + 100000 ≤ s.now) : Rule.settles ⟨s, [], false⟩ p =
      ⟨(s.setLp p { s.lp p with state := .burning, settleStart := none, minute := some ⟨s.now, 0⟩ }).reportProj p
        (.struck (s.lp p).current (s.lp p).voltage (s.lp p).sweepPulses (s.lp p).account (s.lp p).restrikeUsed),
        [.lampBurning p], false⟩ := by
  have hdue : due (after (s.lp p).settleStart 10000) s.now = true := by
    rw [hu]
    exact due_late ht
  unfold Rule.settles
  dsimp only
  rw [if_pos ⟨hst, hdue⟩]
  rfl

/-- R58: before the 10 s have passed the lamp is SETTLING still. -/
theorem Rule.settles_early (s : State) (p : Proj) (u : Instant) (hu : (s.lp p).settleStart = some u)
    (ht : s.now < u + 100000) : Rule.settles ⟨s, [], false⟩ p = ⟨s, [], false⟩ := by
  have hearly : due (after (s.lp p).settleStart 10000) s.now = false := by
    rw [hu]
    exact due_early ht
  simp [Rule.settles, hearly]

/-- R65, R67: a reading of a BURNING lamp. -/
theorem Lamp.read_burning {l : Lamp} (volts amps : Nat) (now : Instant) (hst : l.state = .burning) :
    l.read volts amps now = { l with
      amps := amps
      lowStart := if amps < 10 then some (l.lowStart.getD now) else none
      band := if 85 * l.current ≤ 100 * amps ∧ 100 * amps ≤ 115 * l.current then none
        else some (l.band.getD ⟨now, false⟩) } := by
  simp only [Lamp.read, hst, Lamp.watchLow, Lamp.watchBand, inBand, decide_eq_true_eq]
  split <;> split <;> rfl

/-- R67: a band episode that has lasted 5 s unreported is reported. -/
theorem State.bandExpires_due (s : State) (p : Proj) (x : BandEpisode) (hst : (s.lp p).state = .burning)
    (hx : (s.lp p).band = some x) (hr : x.reported = false) (ht : x.start + 50000 ≤ s.now) : s.bandExpires p =
      (s.setLp p { s.lp p with band := some ⟨x.start, true⟩ }).reportProj p (.current (s.lp p).amps (s.lp p).current
        (if 100 * (s.lp p).amps < 85 * (s.lp p).current then .low else .high)) := by
  have hdue : due (some (x.start + ms 5000)) s.now = true := due_late ht
  simp [State.bandExpires, hx, hst, hr, hdue, bandSide]

/-- R67: with no episode, or one reported or not yet 5 s old, nothing is reported. -/
theorem State.bandExpires_not (s : State) (p : Proj) (x : BandEpisode) (h : (s.lp p).band = none ∨
    ((s.lp p).band = some x ∧ (x.reported = true ∨ s.now < x.start + 50000))) : s.bandExpires p = s := by
  rcases h with hb | ⟨hb, hr | hearly⟩
  · simp [State.bandExpires, hb]
  · simp [State.bandExpires, hb, hr]
  · have hdue : due (some (x.start + ms 5000)) s.now = false := due_early hearly
    simp [State.bandExpires, hb, hdue]

/-- Settles O22, by the deadline or the reading. -/
theorem burningLampIsWatched : Obligations.BurningLampIsWatched := by
  refine ⟨fun s dt p u hr hst hu => ⟨fun ht => ?_, fun ht => ?_⟩, fun s dt p volts amps x hst => ⟨?_, fun hx hn ht => ?_,
    fun h => ?_⟩⟩
  · refine (congrArg Rule.finish (Rule.settles_due (s.elapse dt) p u hst hu ht)).trans ?_
    exact Rule.finish_quiet _ [.lampBurning p] (by simp [settleBound]) fun y hy => by
      obtain rfl := List.mem_singleton.1 hy
      exact hr
  · exact (congrArg Rule.finish (Rule.settles_early (s.elapse dt) p u hu ht)).trans (Rule.finish_plain _)
  · exact exec_arcReading (Lamp.read_burning volts amps _ hst)
  · exact (Rule.finish_plain ((s.elapse dt).bandExpires p)).trans
      (congrArg _ ((s.elapse dt).bandExpires_due p x hst hx hn ht))
  · exact (Rule.finish_plain ((s.elapse dt).bandExpires p)).trans (congrArg _ ((s.elapse dt).bandExpires_not p x h))

/-! ## Bursts -/

/-- R60: no burst is due before there are five samples, where their mean is low, or in a blank-out. -/
theorem Lamp.burstDue_none {l : Lamp} (h : l.samples.length ≠ 5 ∨ (l.samples.sum + 2) / 5 < l.voltage + 10 ∨ l.blankEnd ≠ none) :
    l.burstDue = none := by
  unfold Lamp.burstDue sampleMean
  split
  · rfl
  next m hm =>
    split at hm
    · obtain rfl := Option.some.inj hm
      rcases h with h | h | h
      · contradiction
      · rw [if_neg fun hd => absurd hd.2.1 (Nat.not_le.2 h)]
      · rw [if_neg fun hd => h hd.2.2.2]
    · cases hm

/-- R60, R62: the burst that is due at five samples of a mean of Vs + 10 or more. -/
theorem Lamp.burstDue_some {l : Lamp} (hlit : l.lit = true) (h5 : l.samples.length = 5)
    (hm : l.voltage + 10 ≤ (l.samples.sum + 2) / 5) (hb : l.burst = none) (he : l.blankEnd = none) :
    l.burstDue = some (min 16 (((l.samples.sum + 2) / 5 - l.voltage + 1) / 2)) := by
  have hsize : clamp 1 16 (((l.samples.sum + 2) / 5 - l.voltage + 1) / 2) =
      min 16 (((l.samples.sum + 2) / 5 - l.voltage + 1) / 2) := by
    simp only [clamp]
    omega
  simp [Lamp.burstDue, sampleMean, h5, hlit, hm, hb, he, burstSize, hsize]

/-- R60: where none is due, none is deferred. -/
theorem Lamp.evaluate_none {l : Lamp} (assembling : Bool) (now : Instant) (h : l.burstDue = none) :
    l.evaluate assembling now = { l with deferred := false } := by
  simp [Lamp.evaluate, h]

/-- R61: while a group is in assembly the burst is deferred. -/
theorem Lamp.evaluate_deferred {l : Lamp} {n : Nat} (now : Instant) (h : l.burstDue = some n) :
    l.evaluate true now = { l with deferred := true } := by
  simp [Lamp.evaluate, h]

/-- R62: a burst that begins, with its first pulse sent at once. -/
theorem Lamp.evaluate_burst {l : Lamp} {n : Nat} {now : Instant} (h : l.burstDue = some n) (hn : 0 < n)
    (hph : l.phase = none) (ho : l.outstanding = none) (hs : ∀ u, l.lastSend = some u → u + 500 ≤ now) :
    l.evaluate false now = { l with
      deferred := false
      burst := some ⟨n, 1, 0⟩
      outstanding := some ⟨.forward, now⟩
      lastSend := some now } := by
  have hw : ({ l with burst := some ⟨n, 0, 0⟩, deferred := false } : Lamp).wanted = some .forward := by
    simp [Lamp.wanted, hph, hn]
  simp only [Lamp.evaluate, h]
  exact Lamp.trySend_sent hw ho hs

/-- R59: a voltage reading at its instant. -/
theorem exec_voltageSample {s : State} {dt : Nat} {p : Proj} {volts : Nat} {e : Instant} {l : Lamp} (hlit : (s.lp p).lit = true)
    (he : (s.lp p).nextSample = some e) (ht : e ≤ s.now + dt)
    (h : ({ s.lp p with
      samples := joinSample (s.lp p).samples volts
      nextSample := some (e + 1000) }).evaluate (s.rd p).assembling (s.now + dt) = l) :
    exec (.voltageSample dt p volts) s = .next ((s.elapse dt).setLp p l) := by
  have hdue : due (s.lp p).nextSample (s.now + dt) = true := by
    rw [he]
    exact due_late ht
  have hsample : (s.elapse dt).sample p volts = (s.elapse dt).setLp p l := by
    rw [← h]
    refine (if_pos ⟨hlit, hdue⟩).trans ?_
    simp only [State.evalBurst, State.setLp_lp, if_true, State.setLp_setLp]
    simp only [State.elapse, State.lp, State.rd] at he ⊢
    simp only [he]
    rfl
  exact (Rule.finish_plain ((s.elapse dt).sample p volts)).trans (congrArg _ hsample)

/-- R62: a blank-out that ends. -/
theorem exec_blankOutEnd {s : State} {dt : Nat} {p : Proj} {e : Instant} {l : Lamp} (he : (s.lp p).blankEnd = some e)
    (ht : e ≤ s.now + dt) (h : ({ s.lp p with blankEnd := none }).evaluate (s.rd p).assembling (s.now + dt) = l) :
    exec (.blankOutEnd dt p) s = .next ((s.elapse dt).setLp p l) := by
  have hdue : due (s.lp p).blankEnd (s.now + dt) = true := by
    rw [he]
    exact due_late ht
  have hend : (s.elapse dt).blankOutEnds p = (s.elapse dt).setLp p l := by
    rw [← h]
    refine (if_pos hdue).trans ?_
    simp only [State.evalBurst, State.modLp, State.setLp_lp, if_true, State.setLp_setLp]
    rfl
  exact (Rule.finish_plain ((s.elapse dt).blankOutEnds p)).trans (congrArg _ hend)

/-- R59: five samples are kept. -/
theorem joinSample_full {samples : List Nat} (volts : Nat) (h : samples.length = 5 ∨ samples.length = 4) :
    joinSample samples volts = (if samples.length = 5 then samples.drop 1 else samples) ++ [volts] ∧
      (joinSample samples volts).length = 5 := by
  rcases h with h | h <;> simp [joinSample, h]

/-- Settles O23, by the samples, their mean and the reader. -/
theorem burstFollowsTheMeanVoltage : Obligations.BurstFollowsTheMeanVoltage := by
  intro s dt p volts m l e u hst hph ho hsend hb hm
  have hlit : (s.lp p).lit = true := (Lamp.lit_iff _).2 hst
  have hspaced : ∀ v, (s.lp p).lastSend = some v → v + 500 ≤ s.now + dt := by
    intro v hv
    rcases hsend with h | ⟨h, hlate⟩ <;> simp_all
  refine ⟨fun he ht => ?_, fun he ht hlen => ?_, fun he hlen hl => ?_, fun he ht hl => ⟨fun hlow => ?_, fun h5 hhigh ha => ?_,
    fun h5 hhigh ha => ?_⟩, fun he ht => ?_⟩
  · have hearly : due (s.lp p).nextSample (s.now + dt) = false := by
      rw [he]
      exact due_early ht
    have hn : ¬ ((s.lp p).lit = true ∧ due (s.lp p).nextSample (s.now + dt) = true) := by simp [hearly]
    exact (Rule.finish_plain ((s.elapse dt).sample p volts)).trans (congrArg _ (if_neg hn))
  · have hjoin : joinSample (s.lp p).samples volts = (s.lp p).samples ++ [volts] := by
      have hroom : (s.lp p).samples.length < 5 := by omega
      simp [joinSample, hroom]
    refine exec_voltageSample hlit he ht ?_
    rw [hjoin]
    refine Lamp.evaluate_none _ _ (Lamp.burstDue_none (.inl ?_))
    simp only [List.length_append, List.length_singleton]
    omega
  · obtain ⟨hjoin, hfive⟩ := joinSample_full volts hlen
    rw [← hl] at hjoin
    rw [hjoin] at hfive
    refine ⟨fun ht hlow => ?_, fun ht hhigh hblank ha => ?_, fun ht hhigh hblank ha => ?_⟩
    · refine exec_voltageSample hlit he ht ?_
      rw [hjoin]
      refine Lamp.evaluate_none _ _ (Lamp.burstDue_none (.inr ?_))
      rw [hm] at hlow
      exact hlow
    · refine exec_voltageSample hlit he ht ?_
      rw [hjoin, ha]
      rw [hm] at hhigh
      exact Lamp.evaluate_deferred _ (Lamp.burstDue_some hlit hfive hhigh hb hblank)
    · refine exec_voltageSample hlit he ht ?_
      rw [hjoin, ha, hm]
      rw [hm] at hhigh
      refine Lamp.evaluate_burst (Lamp.burstDue_some hlit hfive hhigh hb hblank) ?_ hph ho hspaced
      omega
  · refine exec_blankOutEnd he ht (Lamp.evaluate_none _ _ (Lamp.burstDue_none ?_))
    rw [hm] at hlow
    rw [hl]
    rcases hlow with h | h
    · exact .inl (Nat.ne_of_lt h)
    · exact .inr (.inl h)
  · refine exec_blankOutEnd he ht ?_
    rw [ha]
    rw [hm, ← hl] at hhigh
    rw [← hl] at h5
    exact Lamp.evaluate_deferred _ (Lamp.burstDue_some hlit h5 hhigh hb rfl)
  · refine exec_blankOutEnd he ht ?_
    rw [ha, hm, ← hl]
    rw [hm, ← hl] at hhigh
    rw [← hl] at h5
    refine Lamp.evaluate_burst (Lamp.burstDue_some hlit h5 hhigh hb rfl) ?_ hph ho hspaced
    omega
  · have hearly : due (s.lp p).blankEnd (s.now + dt) = false := by
      rw [he]
      exact due_early ht
    have hn : ¬ due (s.lp p).blankEnd (s.now + dt) = true := by simp [hearly]
    exact (Rule.finish_plain ((s.elapse dt).blankOutEnds p)).trans (congrArg _ (if_neg hn))

/-! ## An arc out -/

/-- R64: the end of a burst changes the link alone. -/
theorem State.endBurst_eq (s : State) (p : Proj) (c : ShortCause) : s.endBurst p c = s.setLink (s.endBurst p c).link := by
  unfold State.endBurst
  split
  · rfl
  · split <;> rfl

/-- R66: what an automatic restrike of lamp `p` does before the strike sequence begins. -/
def State.restriking (s : State) (p : Proj) : State :=
  ((s.modLp p (fun l => { l with restrikeUsed := true })).endBurst p .restrike).reportProj p (.arcOut true (s.lp p).state)

theorem State.restriking_lp (s : State) (p : Proj) : (s.restriking p).lp p = { s.lp p with restrikeUsed := true } := by
  unfold State.restriking
  rw [State.endBurst_eq]
  exact (State.setLp_lp ..).trans (if_pos rfl)

theorem State.byLamp_restriking (s : State) (p : Proj) : s.ByLamp (s.restriking p) p := by
  unfold State.restriking
  rw [State.endBurst_eq]
  exact (s.byLamp_setLp p _).trans ((State.byLamp_setLink _ p _).trans (State.byLamp_setLink _ p _))

/-- R66, R68: an automatic restrike of a lit lamp, written out. -/
theorem Rule.restrike_eq (s : State) (p : Proj) (hon : (s.lp p).state ≠ .off) : Rule.restrike ⟨s, [], false⟩ p =
    ⟨((s.restriking p).struck p).closeCommand p, if (s.lp p).state = .burning then [.lampLeft p true] else [], false⟩ := by
  have hstate : ((s.restriking p).lp p).state ≠ .off := by rw [s.restriking_lp]; exact hon
  have hstrike := Rule.strikeBegins_eq (s.restriking p) [] false p
  rw [if_neg hstate] at hstrike
  refine (congrArg (fun r : Rule => (r.upd fun s => s.closeCommand p).emitLampLeft p (s.lp p).state true) hstrike).trans ?_
  unfold Rule.emitLampLeft
  split <;> rfl

/-- R65: an arc out whose 200 ms have passed. -/
theorem Rule.arcGoesOut_due (s : State) (p : Proj) (u : Instant) (hlit : (s.lp p).lit = true)
    (hu : (s.lp p).lowStart = some u) (ht : u + 2000 ≤ s.now) : Rule.arcGoesOut ⟨s, [], false⟩ p =
      if s.restrikePermitted p = true then Rule.restrike ⟨s, [], false⟩ p
      else if (s.lp p).state = .settling then
        (Rule.lampStops ⟨s, [], false⟩ p .noArc).upd (fun s => s.reportProj p (.strikeFail .noArc 0 0))
      else (Rule.lampStops ⟨s, [], false⟩ p .arcOut).upd (fun s => s.reportProj p (.arcOut false .burning)) := by
  have hdue : due (after (s.lp p).lowStart 200) s.now = true := by
    rw [hu]
    exact due_late ht
  unfold Rule.arcGoesOut
  dsimp only
  rw [if_pos ⟨hlit, hdue⟩]

/-- R65: before the 200 ms the arc is not out. -/
theorem Rule.arcGoesOut_early (s : State) (p : Proj) (u : Instant) (hu : (s.lp p).lowStart = some u) (ht : s.now < u + 2000) :
    Rule.arcGoesOut ⟨s, [], false⟩ p = ⟨s, [], false⟩ := by
  have hearly : due (after (s.lp p).lowStart 200) s.now = false := by
    rw [hu]
    exact due_early ht
  simp [Rule.arcGoesOut, hearly]

/-- R66: when a restrike is permitted. -/
theorem State.restrikePermitted_iff (s : State) (p : Proj) : s.restrikePermitted p = true ↔ (s.lp p).autostrike = true ∧
    (s.lp p).restrikeUsed = false ∧ 400 ≤ (s.lp p).account ∧ s.booth.coolEnough = true ∧
      s.booth.covers (projPort p) = false := by
  simp [State.restrikePermitted, strikeAccount]

/-- R66: when it is not, each of its conditions being looked at. -/
theorem State.restrikePermitted_not {s : State} {p : Proj} (h : (s.lp p).autostrike = false ∨ (s.lp p).restrikeUsed = true ∨
    (s.lp p).account < 400 ∨ s.booth.grade = .hot ∨ s.booth.grade = .critical ∨ s.booth.covers (projPort p) = true) :
    ¬ s.restrikePermitted p = true := by
  rw [State.restrikePermitted_iff, Booth.coolEnough_iff]
  rintro ⟨ha, hu, hacc, hcool, hcov⟩
  rcases h with h | h | h | h | h | h
  · simp [h] at ha
  · simp [h] at hu
  · exact absurd hacc (Nat.not_le.2 h)
  · simp [h] at hcool
  · simp [h] at hcool
  · simp [h] at hcov

/-- R68: a lit lamp of a house at rest that is stopped, with one report behind that. -/
theorem Rule.finish_lampStops (s : State) (p : Proj) (reason : StopReason) (x : ReportBody) (hr : s.atRest p) :
    ((Rule.lampStops ⟨s, [], false⟩ p reason).upd (fun s => s.reportProj p x)).finish =
      .next ((s.lampStopped p reason).reportProj p x) := by
  rw [Rule.lampStops_eq]
  exact Rule.finish_quiet ((s.lampStopped p reason).reportProj p x) ((s.lp p).offSignals p)
    (((s.lp p).offSignals_length p).trans (by decide))
    (Lamp.offSignals_quiet _ p (((s.byLamp_lampStopped p reason).trans (State.byLamp_setLink _ p _)).atRest hr))

/-- Settles O24, by whether a restrike is permitted. -/
theorem arcOutRestrikesOrStops : Obligations.ArcOutRestrikesOrStops := by
  intro s dt p u hr hst hu
  have hlit : (s.lp p).lit = true := (Lamp.lit_iff _).2 hst
  have hon : (s.lp p).state ≠ .off := by rcases hst with h | h <;> simp [h]
  refine ⟨fun ht => ?_, fun ht => ?_⟩
  · exact (congrArg Rule.finish (Rule.arcGoesOut_early (s.elapse dt) p u hu ht)).trans (Rule.finish_plain _)
  · have hdue := Rule.arcGoesOut_due (s.elapse dt) p u hlit hu ht
    by_cases hp : (s.elapse dt).restrikePermitted p = true
    · let w := ((s.elapse dt).restriking p).struck p
      have hby : (s.elapse dt).ByLamp (w.closeCommand p) p :=
        (((s.elapse dt).byLamp_restriking p).trans (State.byLamp_struck _ p)).trans (w.byLamp_closeCommand p)
      have hend := hdue.trans ((if_pos hp).trans (Rule.restrike_eq (s.elapse dt) p hon))
      have hwlp : w.lp p = ({ s.lp p with restrikeUsed := true }).struckAt (s.now + dt) := by
        refine (State.struck_lp _ p).trans ?_
        rw [State.restriking_lp, ((s.elapse dt).byLamp_restriking p).now]
        rfl
      have hlp : (w.closeCommand p).lp p = w.lp p := congrArg (fun b => b.cell p) (w.closeCommand_keeps p).2.2.2.1
      refine ⟨w.closeCommand p, (congrArg Rule.finish hend).trans (Rule.finish_quiet _ _ ?_ fun y hy => ?_),
        (not_or.1 (w.closeCommand_shut p)).1, (not_or.1 (w.closeCommand_shut p)).2, fun _ _ _ _ _ => hlp.trans hwlp,
        fun hn => absurd hp (State.restrikePermitted_not hn), hby.others, hby.transports, hby.readers, hby.houses,
        hby.lights, hby.ports, hby.booth⟩
      · split <;> simp [settleBound]
      · split at hy
        · obtain rfl := List.mem_singleton.1 hy
          exact hby.atRest hr
        · simp at hy
    · have hdue := hdue.trans (if_neg hp)
      have hstop (reason : StopReason) (x : ReportBody) :
          (s.elapse dt).ByLamp (((s.elapse dt).lampStopped p reason).reportProj p x) p :=
        ((s.elapse dt).byLamp_lampStopped p reason).trans (State.byLamp_setLink _ p _)
      have hlp (reason : StopReason) := (s.elapse dt).lampStopped_lp p reason
      have hshut (reason : StopReason) := not_or.1 ((s.elapse dt).lampStopped_shut p reason hlit)
      have hnot : (s.lp p).autostrike = true → (s.lp p).restrikeUsed = false → 400 ≤ (s.lp p).account →
          (s.booth.grade = .normal ∨ s.booth.grade = .warm) → s.booth.covers (projPort p) = false → False :=
        fun h1 h2 h3 h4 h5 => hp ((State.restrikePermitted_iff ..).2 ⟨h1, h2, h3, (Booth.coolEnough_iff _).2 h4, h5⟩)
      rcases hst with hst | hst
      · have hby := hstop .noArc (.strikeFail .noArc 0 0)
        refine ⟨_, (congrArg Rule.finish (hdue.trans (if_pos hst))).trans (Rule.finish_lampStops _ p _ _ hr),
          (hshut .noArc).1, (hshut .noArc).2, fun h1 h2 h3 h4 h5 => (hnot h1 h2 h3 h4 h5).elim, fun _ => ?_, hby.others,
          hby.transports, hby.readers, hby.houses, hby.lights, hby.ports, hby.booth⟩
        rw [if_pos hst]
        exact hlp .noArc
      · have hnosettle : (s.lp p).state ≠ .settling := by simp [hst]
        have hby := hstop .arcOut (.arcOut false .burning)
        refine ⟨_, (congrArg Rule.finish (hdue.trans (if_neg hnosettle))).trans (Rule.finish_lampStops _ p _ _ hr),
          (hshut .arcOut).1, (hshut .arcOut).2, fun h1 h2 h3 h4 h5 => (hnot h1 h2 h3 h4 h5).elim, fun _ => ?_, hby.others,
          hby.transports, hby.readers, hby.houses, hby.lights, hby.ports, hby.booth⟩
        rw [if_neg hnosettle]
        exact hlp .arcOut

end Sys2Proof.Machine
end

section
/-! PROOFS. The burn account: what a feed-sense pulse confirms, the settings of a lamp, and the minute of burning. -/

namespace Sys2Proof.Machine

/-! ## A rule about one lamp -/

/-- From `s`, the rule has changed lamp `p`, its douser and the link alone, and its agenda concerns them. -/
structure State.LampRule (s : State) (r : Rule) (p : Proj) : Prop where
  byLamp : s.ByLamp r.st p
  length : r.agenda.length ≤ 2
  quiet : ∀ y ∈ r.agenda, ∀ u : State, u.atRest p → y.quiet u
  tie : r.tie = false

theorem State.LampRule.of_byLamp {s t : State} {p : Proj} (h : s.ByLamp t p) : s.LampRule ⟨t, [], false⟩ p :=
  ⟨h, by simp, by simp, rfl⟩

theorem State.lampRule_lampStops (s : State) (p : Proj) (reason : StopReason) :
    s.LampRule (Rule.lampStops ⟨s, [], false⟩ p reason) p := by
  rw [Rule.lampStops_eq]
  exact ⟨s.byLamp_lampStopped p reason, (s.lp p).offSignals_length p,
    fun y hy u hu => (s.lp p).offSignals_quiet p hu y hy, rfl⟩

theorem State.LampRule.report {s : State} {r : Rule} {p : Proj} (h : s.LampRule r p) (x : ReportBody) :
    s.LampRule (r.upd (fun s => s.reportProj p x)) p :=
  ⟨h.byLamp.trans (State.byLamp_setLink _ p _), h.length, h.quiet, h.tie⟩

theorem State.LampRule.after {s t : State} {r : Rule} {p : Proj} (h : s.ByLamp t p) (k : t.LampRule r p) : s.LampRule r p :=
  ⟨h.trans k.byLamp, k.length, k.quiet, k.tie⟩

/-- Such a rule ends where it stands, of a house at rest. -/
theorem State.LampRule.finish {s : State} {r : Rule} {p : Proj} (h : s.LampRule r p) (hr : s.atRest p) :
    r.finish = .next r.st := by
  obtain ⟨u, l, t⟩ := r
  obtain rfl : t = false := h.tie
  exact Rule.finish_quiet u l (h.length.trans (by decide)) fun y hy => h.quiet y hy u (h.byLamp.atRest hr)

theorem State.byLamp_judged (s : State) (p : Proj) : s.ByLamp (s.judged p) p := State.byLamp_setLp ..

/-- R80: and where sufficiency is evaluated after it. -/
theorem State.LampRule.finish_evalSufficiency {s : State} {r : Rule} {p : Proj} (h : s.LampRule r p) (hr : s.atRest p) :
    (r.evalSufficiency p).finish = .next (r.st.judged p) := by
  obtain ⟨u, l, t⟩ := r
  obtain rfl : t = false := h.tie
  obtain ⟨l', hl', he⟩ := Rule.evalSufficiency_cases u l false p
  have hrest : (u.judged p).atRest p := (u.byLamp_judged p).atRest (h.byLamp.atRest hr)
  have hlen : l.length ≤ 2 := h.length
  rw [he]
  refine Rule.finish_quiet (u.judged p) (l ++ l') ?_ fun y hy => ?_
  · rcases hl' with rfl | rfl <;> simp [settleBound] <;> omega
  · rcases List.mem_append.1 hy with hy | hy
    · exact h.quiet y hy _ hrest
    · rcases hl' with rfl | rfl
      · simp at hy
      · obtain rfl := List.mem_singleton.1 hy
        exact hrest.1

/-! ## A confirmed pulse -/

/-- R55: what a send leaves of the counts. -/
theorem Lamp.trySend_counts (l : Lamp) (now : Instant) : (l.trySend now).sweepPulses = l.sweepPulses ∧
    (l.trySend now).drawPulses = l.drawPulses ∧ (l.trySend now).blankEnd = l.blankEnd ∧
      (l.trySend now).burst.map (fun z => (z.asked, z.confirmed)) = l.burst.map (fun z => (z.asked, z.confirmed)) := by
  rcases l.trySend_cases now with h | ⟨dir, -, -, -, h⟩ <;> rw [h] <;> simp [Lamp.countSend, Function.comp_def]

/-- R55, R75: what counting a confirmed pulse leaves of the lamp. -/
theorem Lamp.countConfirmed_leaves (l : Lamp) (now : Instant) : (l.countConfirmed now).account = l.account ∧
    (l.countConfirmed now).phase = l.phase ∧ (l.countConfirmed now).state = l.state ∧
      (l.countConfirmed now).restrikeUsed = l.restrikeUsed := by
  unfold Lamp.countConfirmed
  repeat' split
  all_goals exact ⟨rfl, rfl, rfl, rfl⟩

theorem Lamp.countConfirmed_sweep {l : Lamp} (now : Instant) (h : l.phase = some .sweep) :
    l.countConfirmed now = { l with sweepPulses := l.sweepPulses + 1 } := by
  simp [Lamp.countConfirmed, h]

theorem Lamp.countConfirmed_draw {l : Lamp} (now : Instant) (h : l.phase = some .draw) :
    l.countConfirmed now = { l with drawPulses := l.drawPulses + 1 } := by
  simp [Lamp.countConfirmed, h]

theorem Lamp.countConfirmed_more {l : Lamp} {y : Burst} (now : Instant) (h : l.phase = none) (hy : l.burst = some y)
    (hn : y.confirmed + 1 < y.asked) :
    l.countConfirmed now = { l with burst := some { y with confirmed := y.confirmed + 1 } } := by
  simp [Lamp.countConfirmed, h, hy, hn]

theorem Lamp.countConfirmed_last {l : Lamp} {y : Burst} (now : Instant) (h : l.phase = none) (hy : l.burst = some y)
    (hn : y.asked ≤ y.confirmed + 1) :
    l.countConfirmed now = { l with burst := none, stalls := 0, blankEnd := some (now + 20000) } := by
  simp [Lamp.countConfirmed, h, hy, Nat.not_lt.2 hn, ms]

/-- R62: where there is no burst none comes about. -/
theorem Lamp.countConfirmed_noBurst {l : Lamp} (now : Instant) (h : l.burst = none) : (l.countConfirmed now).burst = none := by
  unfold Lamp.countConfirmed
  repeat' split
  all_goals simp_all

/-- R55, R75: the lamp whose outstanding pulse is confirmed, before what follows. -/
def Lamp.confirmed (l : Lamp) (dir : FeedDir) (now : Instant) : Lamp :=
  match dir with
  | .forward => ({ l with outstanding := none }).debit.countConfirmed now
  | .reverse => ({ l with outstanding := none }).countConfirmed now

/-- R75: what a confirmation leaves of the lamp: a forward pulse is debited. -/
theorem Lamp.confirmed_keeps (l : Lamp) (dir : FeedDir) (now : Instant) :
    (l.confirmed dir now).account = (match dir with | .forward => l.account - 1 | .reverse => l.account) ∧
      (l.confirmed dir now).phase = l.phase ∧ (l.confirmed dir now).state = l.state ∧
      (l.confirmed dir now).restrikeUsed = l.restrikeUsed := by
  cases dir
  · exact Lamp.countConfirmed_leaves ({ l with outstanding := none }).debit now
  · exact Lamp.countConfirmed_leaves { l with outstanding := none } now

/-! ## What follows a confirmed pulse -/

/-- R56: what follows a sweep pulse. -/
theorem Rule.goOn_sweeping (r : Rule) (p : Proj) (amps : Nat) (h : (r.st.lp p).phase = some .sweep) : r.goOn p amps =
    if 20 ≤ amps then r.upd (fun s => s.modLp p (fun l => { l with amps := amps }.drawBegins s.now))
    else if (r.st.lp p).sweepPulses < 40 then r.upd (fun s => s.modLp p (fun l => { l with amps := amps }.trySend s.now))
    else (r.lampStops p .strikeContact).upd
      (fun s => s.reportProj p (.strikeFail .strikeContact 0 (r.st.lp p).sweepPulses)) := by
  unfold Rule.goOn
  dsimp only
  rw [h]
  rfl

theorem Rule.goOn_contact (s : State) (p : Proj) (amps : Nat) (h : (s.lp p).phase = some .sweep) (ha : 20 ≤ amps) :
    Rule.goOn ⟨s, [], false⟩ p amps = ⟨s.setLp p ({ s.lp p with amps := amps }.drawBegins s.now), [], false⟩ := by
  exact (Rule.goOn_sweeping _ p amps h).trans (if_pos ha)

theorem Rule.goOn_sweep (s : State) (p : Proj) (amps : Nat) (h : (s.lp p).phase = some .sweep) (ha : amps < 20)
    (hn : (s.lp p).sweepPulses < 40) :
    Rule.goOn ⟨s, [], false⟩ p amps = ⟨s.setLp p ({ s.lp p with amps := amps }.trySend s.now), [], false⟩ := by
  exact ((Rule.goOn_sweeping _ p amps h).trans (if_neg (Nat.not_le.2 ha))).trans (if_pos hn)

/-- R56: the fortieth pulse without contact ends the sweep. -/
theorem Rule.goOn_spent (s : State) (p : Proj) (amps : Nat) (h : (s.lp p).phase = some .sweep) (ha : amps < 20)
    (hn : 40 ≤ (s.lp p).sweepPulses) : Rule.goOn ⟨s, [], false⟩ p amps =
      (Rule.lampStops ⟨s, [], false⟩ p .strikeContact).upd
        (fun x => x.reportProj p (.strikeFail .strikeContact 0 (s.lp p).sweepPulses)) := by
  exact ((Rule.goOn_sweeping _ p amps h).trans (if_neg (Nat.not_le.2 ha))).trans (if_neg (Nat.not_lt.2 hn))

theorem Rule.goOn_draw (s : State) (p : Proj) (amps : Nat) (h : (s.lp p).phase = some .draw)
    (hn : (s.lp p).drawPulses < 12) :
    Rule.goOn ⟨s, [], false⟩ p amps = ⟨s.setLp p ((s.lp p).trySend s.now), [], false⟩ := by
  unfold Rule.goOn
  dsimp only
  rw [h]
  exact if_pos hn

/-- R57, R58: the twelfth reverse pulse ends the draw. -/
theorem Rule.goOn_settle (s : State) (p : Proj) (amps : Nat) (h : (s.lp p).phase = some .draw)
    (hn : 12 ≤ (s.lp p).drawPulses) :
    Rule.goOn ⟨s, [], false⟩ p amps = ⟨s.setLp p ((s.lp p).settleBegins amps s.now), [], false⟩ := by
  unfold Rule.goOn
  dsimp only
  rw [h]
  exact if_neg (Nat.not_lt.2 hn)

theorem Rule.goOn_none (s : State) (p : Proj) (amps : Nat) (h : (s.lp p).phase = none) :
    Rule.goOn ⟨s, [], false⟩ p amps = ⟨s.setLp p ((s.lp p).trySend s.now), [], false⟩ := by
  unfold Rule.goOn
  dsimp only
  rw [h]
  rfl

/-- R57: the draw begins with its first pulse, or waits for its spacing. -/
theorem Lamp.drawBegins_keeps (l : Lamp) (now : Instant) : (l.drawBegins now).phase = some .draw ∧
    (l.drawBegins now).sweepPulses = l.sweepPulses ∧ (l.drawBegins now).drawPulses = 0 ∧
      (l.drawBegins now).state = l.state ∧ (l.drawBegins now).account = l.account := by
  obtain ⟨ha, hs, hp, -⟩ := Lamp.trySend_keeps { l with phase := some .draw, drawPulses := 0 } now
  obtain ⟨hsweep, hdraw, -⟩ := Lamp.trySend_counts { l with phase := some .draw, drawPulses := 0 } now
  exact ⟨hp, hsweep, hdraw, hs, ha⟩

/-- R56 to R58, R62: what can follow a counted pulse: the lamp goes on with its account and nothing but it is touched, or a
sweep that is spent stops it. -/
theorem Rule.goOn_cases (s : State) (p : Proj) (amps : Nat) :
    (∃ l : Lamp, l.account = (s.lp p).account ∧ Rule.goOn ⟨s, [], false⟩ p amps = ⟨s.setLp p l, [], false⟩) ∨
    ((s.lp p).phase = some .sweep ∧ Rule.goOn ⟨s, [], false⟩ p amps =
      (Rule.lampStops ⟨s, [], false⟩ p .strikeContact).upd
        (fun x => x.reportProj p (.strikeFail .strikeContact 0 (s.lp p).sweepPulses))) := by
  cases hph : (s.lp p).phase with
  | none => exact .inl ⟨_, (Lamp.trySend_keeps ..).1, Rule.goOn_none s p amps hph⟩
  | some ph =>
    cases ph with
    | supply =>
      refine .inl ⟨s.lp p, rfl, ?_⟩
      rw [State.setLp_self]
      simp [Rule.goOn, hph]
    | sweep =>
      rcases Nat.lt_or_ge amps 20 with ha | ha
      · rcases Nat.lt_or_ge (s.lp p).sweepPulses 40 with hn | hn
        · exact .inl ⟨{ s.lp p with amps := amps }.trySend s.now, (Lamp.trySend_keeps ..).1, Rule.goOn_sweep s p amps hph ha hn⟩
        · exact .inr ⟨rfl, Rule.goOn_spent s p amps hph ha hn⟩
      · exact .inl ⟨{ s.lp p with amps := amps }.drawBegins s.now, (Lamp.drawBegins_keeps ..).2.2.2.2,
          Rule.goOn_contact s p amps hph ha⟩
    | draw =>
      rcases Nat.lt_or_ge (s.lp p).drawPulses 12 with hn | hn
      · exact .inl ⟨_, (Lamp.trySend_keeps ..).1, Rule.goOn_draw s p amps hph hn⟩
      · exact .inl ⟨(s.lp p).settleBegins amps s.now, rfl, Rule.goOn_settle s p amps hph hn⟩

/-- R55: what goes on is a rule about the one lamp, whose account is kept; the link is touched by a spent sweep alone. -/
theorem Rule.lampRule_goOn (s : State) (p : Proj) (amps : Nat) : s.LampRule (Rule.goOn ⟨s, [], false⟩ p amps) p ∧
    ((Rule.goOn ⟨s, [], false⟩ p amps).st.lp p).account = (s.lp p).account ∧
      ((s.lp p).phase ≠ some .sweep → (Rule.goOn ⟨s, [], false⟩ p amps).st.link = s.link) := by
  rcases Rule.goOn_cases s p amps with ⟨l, hl, he⟩ | ⟨hph, he⟩ <;> rw [he]
  · exact ⟨.of_byLamp (s.byLamp_setLp p l), (congrArg Lamp.account ((State.setLp_lp ..).trans (if_pos rfl))).trans hl,
      fun _ => rfl⟩
  · refine ⟨(s.lampRule_lampStops p .strikeContact).report _, ?_, fun hn => absurd hph hn⟩
    rw [Rule.lampStops_eq]
    have hstopped := congrArg Lamp.account (s.lampStopped_lp p .strikeContact)
    exact hstopped

/-- R76, R66: the state of a lamp stopped at its stub. -/
def State.burntOut (s : State) (p : Proj) : State :=
  ((s.reportProj p (.burnout (s.lp p).account (s.armedFrame p))).lampStopped p .stub).setLink
    (((s.reportProj p (.burnout (s.lp p).account (s.armedFrame p))).lampStopped p .stub).link.restrikeFails p (s.lp p) .stub)

theorem Rule.burnout_eq (s : State) (p : Proj) : Rule.burnout ⟨s, [], false⟩ p =
    ⟨s.burntOut p, (s.lp p).offSignals p, false⟩ :=
  Rule.lampFails_eq (s.reportProj p (.burnout (s.lp p).account (s.armedFrame p))) [] false p .stub

theorem State.lampRule_burnout (s : State) (p : Proj) : s.LampRule (Rule.burnout ⟨s, [], false⟩ p) p := by
  rw [Rule.burnout_eq]
  exact ⟨((s.byLamp_setLink p _).trans (State.byLamp_lampStopped _ p .stub)).trans (State.byLamp_setLink _ p _),
    (s.lp p).offSignals_length p, fun y hy u hu => (s.lp p).offSignals_quiet p hu y hy, rfl⟩

theorem State.burntOut_lp (s : State) (p : Proj) : (s.burntOut p).lp p = (s.lp p).stopped .stub :=
  State.lampStopped_lp (s.reportProj p _) p .stub

/-- R76: BURNOUT alone, of a lamp with no burst. -/
theorem State.burntOut_link (s : State) (p : Proj) (h : (s.lp p).burst = none) : (s.burntOut p).link =
    (s.link.enqueue (projNumber p) (.burnout (s.lp p).account (s.armedFrame p))).restrikeFails p (s.lp p) .stub := by
  have hend : (s.reportProj p (.burnout (s.lp p).account (s.armedFrame p))).endBurstFor p .stub =
      s.reportProj p (.burnout (s.lp p).account (s.armedFrame p)) :=
    State.endBurstFor_complete _ p .stub fun z hz => by
      rw [show (s.reportProj p (.burnout (s.lp p).account (s.armedFrame p))).lp p = s.lp p from rfl, h] at hz
      cases hz
  exact congrArg (Link.restrikeFails · p (s.lp p) .stub) ((State.lampStopped_link ..).trans (congrArg State.link hend))

/-- R64, R76: BURNOUT and SHORT FEED, of a lamp whose burst ends short. -/
theorem State.burntOut_link_short (s : State) (p : Proj) (z : Burst) (hz : (s.lp p).burst = some z)
    (h : z.confirmed < z.asked) : (s.burntOut p).link =
    ((s.link.enqueue (projNumber p) (.burnout (s.lp p).account (s.armedFrame p))).enqueue (projNumber p)
      (.shortFeed z.asked z.confirmed .stub)).restrikeFails p (s.lp p) .stub := by
  have hend := State.endBurstFor_short (s.reportProj p (.burnout (s.lp p).account (s.armedFrame p))) p .stub .stub z rfl hz h
  exact congrArg (Link.restrikeFails · p (s.lp p) .stub) ((State.lampStopped_link ..).trans (congrArg State.link hend))

/-! ## The feed-sense pulse -/

/-- R55: the state in which the pulse outstanding has been confirmed and counted. -/
def State.confirmed (s : State) (p : Proj) (dir : FeedDir) : State := s.setLp p ((s.lp p).confirmed dir s.now)

theorem State.confirmed_lp (s : State) (p : Proj) (dir : FeedDir) :
    (s.confirmed p dir).lp p = (s.lp p).confirmed dir s.now :=
  (State.setLp_lp ..).trans (if_pos rfl)

/-- R55, R75, R76: a confirmation within the 150 ms. -/
theorem Rule.feedSense_confirms (s : State) (p : Proj) (amps : Nat) (x : FeedPulse) (hx : (s.lp p).outstanding = some x)
    (ht : s.now ≤ x.sent + 1500) : Rule.feedSense ⟨s, [], false⟩ p amps =
      match x.dir with
      | .forward => (if (s.lp p).account - 1 ≤ 300 then Rule.burnout ⟨s.confirmed p .forward, [], false⟩ p
          else Rule.goOn ⟨s.confirmed p .forward, [], false⟩ p amps).evalSufficiency p
      | .reverse => Rule.goOn ⟨s.confirmed p .reverse, [], false⟩ p amps := by
  have hle : s.now ≤ x.sent + ms stallLimit := ht
  unfold Rule.feedSense
  dsimp only
  rw [hx]
  refine (if_pos hle).trans ?_
  have hst (dir : FeedDir) : (s.setLp p { s.lp p with outstanding := none }).setLp p ((s.lp p).confirmed dir s.now) =
      s.confirmed p dir := State.setLp_setLp ..
  have hlp : (s.setLp p { s.lp p with outstanding := none }).lp p = { s.lp p with outstanding := none } :=
    (State.setLp_lp ..).trans (if_pos rfl)
  cases hdir : x.dir with
  | forward =>
    have hacc : ((s.confirmed p .forward).lp p).account = (s.lp p).account - 1 := by
      rw [s.confirmed_lp]
      exact ((s.lp p).confirmed_keeps .forward s.now).1
    have hconf : (s.setLp p { s.lp p with outstanding := none }).modLp p (fun l => l.debit.countConfirmed s.now) =
        s.confirmed p .forward := by
      rw [← hst, State.modLp, hlp]
      rfl
    rw [← hacc]
    change Rule.confirmForward ⟨s.setLp p { s.lp p with outstanding := none }, [], false⟩ p amps = _
    unfold Rule.confirmForward
    dsimp only [Rule.upd]
    rw [show (s.setLp p { s.lp p with outstanding := none }).now = s.now from rfl, hconf]
    rfl
  | reverse =>
    have hconf : (s.setLp p { s.lp p with outstanding := none }).modLp p (fun l => l.countConfirmed s.now) =
        s.confirmed p .reverse := by
      rw [← hst, State.modLp, hlp]
      rfl
    change Rule.confirmReverse ⟨s.setLp p { s.lp p with outstanding := none }, [], false⟩ p amps = _
    unfold Rule.confirmReverse
    dsimp only [Rule.upd]
    rw [show (s.setLp p { s.lp p with outstanding := none }).now = s.now from rfl, hconf]

/-- R55: no pulse is confirmed where none is outstanding. -/
theorem Rule.feedSense_none (s : State) (p : Proj) (amps : Nat) (hx : (s.lp p).outstanding = none) :
    Rule.feedSense ⟨s, [], false⟩ p amps = ⟨s, [], false⟩ := by
  simp [Rule.feedSense, hx]

/-- R55: nor after its 150 ms. -/
theorem Rule.feedSense_late (s : State) (p : Proj) (amps : Nat) (x : FeedPulse) (hx : (s.lp p).outstanding = some x)
    (ht : x.sent + 1500 < s.now) : Rule.feedSense ⟨s, [], false⟩ p amps = ⟨s, [], false⟩ := by
  have hlate : ¬ s.now ≤ x.sent + ms stallLimit := Nat.not_le.2 ht
  simp [Rule.feedSense, hx, hlate]

theorem Rule.goOn_st_lp {s : State} {p : Proj} {amps : Nat} {l : Lamp}
    (h : Rule.goOn ⟨s, [], false⟩ p amps = ⟨s.setLp p l, [], false⟩) : (Rule.goOn ⟨s, [], false⟩ p amps).st.lp p = l := by
  rw [h]
  exact (State.setLp_lp ..).trans (if_pos rfl)

/-- R75: the burst and the counts of a lamp whose forward pulse has been confirmed. -/
theorem Lamp.confirmed_forward_sweep {l : Lamp} (now : Instant) (h : l.phase = some .sweep) :
    (l.confirmed .forward now).sweepPulses = l.sweepPulses + 1 := by
  have h := Lamp.countConfirmed_sweep (l := ({ l with outstanding := none }).debit) now h
  exact congrArg Lamp.sweepPulses h

theorem Lamp.confirmed_reverse_draw {l : Lamp} (now : Instant) (h : l.phase = some .draw) :
    (l.confirmed .reverse now).drawPulses = l.drawPulses + 1 :=
  congrArg Lamp.drawPulses (Lamp.countConfirmed_draw (l := { l with outstanding := none }) now h)

theorem Lamp.confirmed_forward_more {l : Lamp} {y : Burst} (now : Instant) (h : l.phase = none) (hy : l.burst = some y)
    (hn : y.confirmed + 1 < y.asked) :
    (l.confirmed .forward now).burst = some { y with confirmed := y.confirmed + 1 } := by
  have h := Lamp.countConfirmed_more (l := ({ l with outstanding := none }).debit) now h hy hn
  exact congrArg Lamp.burst h

theorem Lamp.confirmed_forward_last {l : Lamp} {y : Burst} (now : Instant) (h : l.phase = none) (hy : l.burst = some y)
    (hn : y.asked ≤ y.confirmed + 1) : (l.confirmed .forward now).burst = none ∧ (l.confirmed .forward now).stalls = 0 ∧
      (l.confirmed .forward now).blankEnd = some (now + 20000) := by
  have h := Lamp.countConfirmed_last (l := ({ l with outstanding := none }).debit) now h hy hn
  exact ⟨congrArg Lamp.burst h, congrArg Lamp.stalls h, congrArg Lamp.blankEnd h⟩

/-- R75, R76: a forward pulse that brings a lamp to its stub. -/
structure State.BurntOut (s t : State) (p : Proj) : Prop where
  byLamp : s.ByLamp t p
  state : (t.lp p).state = .off
  stop : (t.lp p).stop = some .stub
  account : (t.lp p).account = (s.lp p).account - 1
  sufficiency : (t.lp p).sufficiency = t.sufficiencyOf p
  alone : ∀ y, (s.lp p).burst = none ∨
    ((s.lp p).phase = none ∧ (s.lp p).burst = some y ∧ y.asked ≤ y.confirmed + 1) →
    t.link = (s.link.enqueue (projNumber p) (.burnout ((s.lp p).account - 1) (s.armedFrame p))).restrikeFails p
      (s.lp p) .stub
  short : ∀ y, (s.lp p).phase = none → (s.lp p).burst = some y → y.confirmed + 1 < y.asked →
    t.link = ((s.link.enqueue (projNumber p) (.burnout ((s.lp p).account - 1) (s.armedFrame p))).enqueue
      (projNumber p) (.shortFeed y.asked (y.confirmed + 1) .stub)).restrikeFails p (s.lp p) .stub

/-- R80: the judgement is that of the state it leaves. -/
theorem State.judged_sufficiency (s : State) (p : Proj) : ((s.judged p).lp p).sufficiency = (s.judged p).sufficiencyOf p := by
  simp

/-- R66: what a failure reports of a restrike depends on the lamp's state and the flag alone. -/
theorem Link.restrikeFails_congr (l : Link) (p : Proj) {x y : Lamp} (reason : StopReason) (hs : x.state = y.state)
    (hu : x.restrikeUsed = y.restrikeUsed) : l.restrikeFails p x reason = l.restrikeFails p y reason := by
  simp [Link.restrikeFails, hs, hu]

theorem State.burntOut_judged (s : State) (p : Proj) : s.BurntOut (((s.confirmed p .forward).burntOut p).judged p) p := by
  obtain ⟨hacc, hphase, hstate, hused⟩ := (s.lp p).confirmed_keeps .forward s.now
  have hlp := s.confirmed_lp p .forward
  have hstopped := (s.confirmed p .forward).burntOut_lp p
  rw [hlp] at hstopped
  have hj : (((s.confirmed p .forward).burntOut p).judged p).lp p = { ((s.lp p).confirmed .forward s.now).stopped .stub with
      sufficiency := ((s.confirmed p .forward).burntOut p).sufficiencyOf p } := by
    rw [State.judged_lp, if_pos rfl, hstopped]
  have hby : s.ByLamp ((s.confirmed p .forward).burntOut p) p := by
    have h := (s.confirmed p .forward).lampRule_burnout p
    rw [Rule.burnout_eq] at h
    exact (s.byLamp_setLp p _).trans h.byLamp
  refine ⟨hby.trans (State.byLamp_judged _ p), congrArg Lamp.state hj, congrArg Lamp.stop hj,
    (congrArg Lamp.account hj).trans hacc, State.judged_sufficiency _ p, fun y h => ?_, fun y hp hy hn => ?_⟩
  · have hb : ((s.confirmed p .forward).lp p).burst = none := by
      rw [hlp]
      rcases h with h | ⟨hp, hy, hn⟩
      · exact Lamp.countConfirmed_noBurst _ h
      · exact (Lamp.confirmed_forward_last s.now hp hy hn).1
    refine (State.burntOut_link _ p hb).trans ?_
    rw [hlp, hacc, Link.restrikeFails_congr _ p .stub hstate hused]
    rfl
  · have hb : ((s.confirmed p .forward).lp p).burst = some { y with confirmed := y.confirmed + 1 } := by
      rw [hlp]
      exact Lamp.confirmed_forward_more s.now hp hy hn
    refine (State.burntOut_link_short _ p _ hb hn).trans ?_
    rw [hlp, hacc, Link.restrikeFails_congr _ p .stub hstate hused]
    rfl

/-- Settles O21, by the direction of the pulse, the account it leaves, and the phase. -/
theorem feedSenseConfirmsThePulse : Obligations.FeedSenseConfirmsThePulse := by
  intro s dt p amps x y hr
  refine ⟨fun hx => ?_, fun hx ht => ?_, fun hx ht => ?_⟩
  · exact (congrArg Rule.finish (Rule.feedSense_none (s.elapse dt) p amps hx)).trans (Rule.finish_plain _)
  · exact (congrArg Rule.finish (Rule.feedSense_late (s.elapse dt) p amps x hx ht)).trans (Rule.finish_plain _)
  have hconf := Rule.feedSense_confirms (s.elapse dt) p amps x hx ht
  have hmid (dir : FeedDir) : (s.elapse dt).ByLamp ((s.elapse dt).confirmed p dir) p := State.byLamp_setLp ..
  have hlp (dir : FeedDir) := (s.elapse dt).confirmed_lp p dir
  have hnow : (s.elapse dt).now = s.now + dt := rfl
  have hself : (s.elapse dt).lp p = s.lp p := rfl
  rw [hself, hnow] at hlp
  cases hdir : x.dir with
  | reverse =>
    rw [hdir] at hconf
    have hgo := Rule.lampRule_goOn ((s.elapse dt).confirmed p .reverse) p amps
    obtain ⟨hrule, hacc, hlink⟩ := hgo
    have hby := hrule.after (hmid .reverse)
    obtain ⟨hkacc, hkphase, hkstate, -⟩ := (s.lp p).confirmed_keeps .reverse (s.now + dt)
    rw [hlp .reverse, hkacc] at hacc
    rw [hlp .reverse, hkphase] at hlink
    refine ⟨_, (congrArg Rule.finish hconf).trans (hby.finish hr), hby.byLamp.others, hby.byLamp.transports,
      hby.byLamp.readers, hby.byLamp.houses, hby.byLamp.lights, hby.byLamp.ports, hby.byLamp.booth, by simp, hacc, by simp,
      by simp, by simp, fun _ hn => hlink hn, by simp, by simp, by simp, fun _ hph hn => ?_, fun _ hph hn => ?_, by simp,
      by simp⟩
    · have hcount := Lamp.confirmed_reverse_draw (s.now + dt) hph
      have hgo := Rule.goOn_draw ((s.elapse dt).confirmed p .reverse) p amps (by rw [hlp, hkphase, hph])
        (by rw [hlp, hcount]; omega)
      rw [Rule.goOn_st_lp hgo, hlp]
      obtain ⟨-, hs, hp, -⟩ := Lamp.trySend_keeps ((s.lp p).confirmed .reverse (s.now + dt)) (s.now + dt)
      obtain ⟨-, hdraw, -⟩ := Lamp.trySend_counts ((s.lp p).confirmed .reverse (s.now + dt)) (s.now + dt)
      exact ⟨hp.trans (hkphase.trans hph), hdraw.trans hcount, hs.trans hkstate⟩
    · have hcount := Lamp.confirmed_reverse_draw (s.now + dt) hph
      have hgo := Rule.goOn_settle ((s.elapse dt).confirmed p .reverse) p amps (by rw [hlp, hkphase, hph])
        (by rw [hlp, hcount]; omega)
      rw [Rule.goOn_st_lp hgo]
      exact ⟨rfl, rfl, rfl, rfl, rfl⟩
  | forward =>
    rw [hdir] at hconf
    obtain ⟨hkacc, hkphase, hkstate, -⟩ := (s.lp p).confirmed_keeps .forward (s.now + dt)
    rcases Nat.lt_or_ge 301 (s.lp p).account with hfull | hstub
    · have hn : ¬ ((s.elapse dt).lp p).account - 1 ≤ 300 := by rw [hself]; omega
      have hconf := hconf.trans (congrArg (Rule.evalSufficiency · p) (if_neg hn))
      have hgo := Rule.lampRule_goOn ((s.elapse dt).confirmed p .forward) p amps
      obtain ⟨hrule, hacc, hlink⟩ := hgo
      have hrule := hrule.after (hmid .forward)
      have hby := hrule.byLamp.trans (State.byLamp_judged _ p)
      rw [hlp .forward, hkacc] at hacc
      rw [hlp .forward, hkphase] at hlink
      have hj : ((Rule.goOn ⟨(s.elapse dt).confirmed p .forward, [], false⟩ p amps).st.judged p).lp p = _ :=
        (State.judged_lp _ p p).trans (if_pos rfl)
      refine ⟨_, (congrArg Rule.finish hconf).trans (hrule.finish_evalSufficiency hr), hby.others, hby.transports,
        hby.readers, hby.houses, hby.lights, hby.ports, hby.booth, fun _ => State.judged_sufficiency _ p,
        (congrArg Lamp.account hj).trans hacc, fun _ h => absurd h (Nat.not_le.2 hfull),
        fun _ h => absurd h (Nat.not_le.2 hfull), fun _ h => absurd h (Nat.not_le.2 hfull), fun _ hn => hlink hn,
        fun _ _ hph ha => ?_, fun _ _ hph ha hn => ?_, fun _ _ hph ha hn => ?_, by simp, by simp,
        fun _ _ hph hy hn => ?_, fun _ _ hph hy hn => ?_⟩
      · have hgo := Rule.goOn_contact ((s.elapse dt).confirmed p .forward) p amps (by rw [hlp, hkphase, hph]) ha
        have hcount := Lamp.confirmed_forward_sweep (s.now + dt) hph
        rw [Rule.goOn_st_lp hgo, hlp] at hj
        obtain ⟨hp, hs, hd, hst, -⟩ :=
          Lamp.drawBegins_keeps { (s.lp p).confirmed .forward (s.now + dt) with amps := amps } (s.now + dt)
        rw [hj]
        exact ⟨hp, hs.trans hcount, hd, hst.trans hkstate⟩
      · have hcount := Lamp.confirmed_forward_sweep (s.now + dt) hph
        have hgo := Rule.goOn_sweep ((s.elapse dt).confirmed p .forward) p amps (by rw [hlp, hkphase, hph]) ha
          (by rw [hlp, hcount]; omega)
        rw [Rule.goOn_st_lp hgo, hlp] at hj
        obtain ⟨-, hst, hp, -⟩ :=
          Lamp.trySend_keeps { (s.lp p).confirmed .forward (s.now + dt) with amps := amps } (s.now + dt)
        obtain ⟨hs, -⟩ := Lamp.trySend_counts { (s.lp p).confirmed .forward (s.now + dt) with amps := amps } (s.now + dt)
        rw [hj]
        exact ⟨hp.trans (hkphase.trans hph), hs.trans hcount, hst.trans hkstate⟩
      · have hcount := Lamp.confirmed_forward_sweep (s.now + dt) hph
        have hgo := Rule.goOn_spent ((s.elapse dt).confirmed p .forward) p amps (by rw [hlp, hkphase, hph]) ha
          (by rw [hlp, hcount]; omega)
        have hstopped := ((s.elapse dt).confirmed p .forward).lampStopped_lp p .strikeContact
        have hst : (Rule.goOn ⟨(s.elapse dt).confirmed p .forward, [], false⟩ p amps).st.lp p =
            ((s.lp p).confirmed .forward (s.now + dt)).stopped .strikeContact := by
          rw [hgo, Rule.lampStops_eq, ← hlp]
          exact hstopped
        rw [hst] at hj
        rw [hj]
        exact ⟨rfl, rfl, hcount.trans (congrArg (· + 1) hn)⟩
      · have hgo := Rule.goOn_none ((s.elapse dt).confirmed p .forward) p amps (by rw [hlp, hkphase, hph])
        have hburst := Lamp.confirmed_forward_more (s.now + dt) hph hy hn
        rw [Rule.goOn_st_lp hgo, hlp] at hj
        obtain ⟨-, -, -, hb⟩ := Lamp.trySend_counts ((s.lp p).confirmed .forward (s.now + dt)) (s.now + dt)
        rw [hburst] at hb
        rw [hj]
        exact hb
      · have hgo := Rule.goOn_none ((s.elapse dt).confirmed p .forward) p amps (by rw [hlp, hkphase, hph])
        obtain ⟨hburst, hstalls, hblank⟩ := Lamp.confirmed_forward_last (s.now + dt) hph hy hn
        rw [Rule.goOn_st_lp hgo, hlp] at hj
        obtain ⟨-, -, hkblank, hb⟩ := Lamp.trySend_counts ((s.lp p).confirmed .forward (s.now + dt)) (s.now + dt)
        obtain ⟨-, -, -, hkstalls, -⟩ := Lamp.trySend_keeps ((s.lp p).confirmed .forward (s.now + dt)) (s.now + dt)
        rw [hburst] at hb
        rw [hj]
        exact ⟨Option.map_eq_none_iff.1 hb, hkstalls.trans hstalls, hkblank.trans hblank⟩
    · have hn : ((s.elapse dt).lp p).account - 1 ≤ 300 := by rw [hself]; omega
      have hconf := hconf.trans (congrArg (Rule.evalSufficiency · p) (if_pos hn))
      have hrule := (State.lampRule_burnout ((s.elapse dt).confirmed p .forward) p).after (hmid .forward)
      have hend := (congrArg Rule.finish hconf).trans (hrule.finish_evalSufficiency hr)
      rw [Rule.burnout_eq] at hend
      obtain ⟨hby, hstate, hstop, hacc, hsuff, halone, hshort⟩ := (s.elapse dt).burntOut_judged p
      exact ⟨_, hend, hby.others, hby.transports, hby.readers, hby.houses, hby.lights, hby.ports, hby.booth,
        fun _ => hsuff, hacc, fun _ _ => ⟨hstate, hstop⟩, fun _ _ => halone y, fun _ _ => hshort y,
        fun h => absurd hstub (Nat.not_le.2 h), fun _ h => absurd hstub (Nat.not_le.2 h),
        fun _ h => absurd hstub (Nat.not_le.2 h), fun _ h => absurd hstub (Nat.not_le.2 h), by simp, by simp,
        fun _ h => absurd hstub (Nat.not_le.2 h), fun _ h => absurd hstub (Nat.not_le.2 h)⟩

end Sys2Proof.Machine
end

section
/-! PROOFS. SET ARC, LOAD CARBON and the minute of burning: how sufficiency is judged afresh, and what a house makes of it. -/

namespace Sys2Proof.Machine

/-! ## A house that waits for nothing of a judgement -/

/-- R105: a projector is ready to follow by its own records and those of the house. -/
theorem State.ByLamp.readyToFollow {s t : State} {p q : Proj} (h : s.ByLamp t p) (g : HouseId) (hq : q ≠ p) :
    t.readyToFollow g q = s.readyToFollow g q := by
  obtain ⟨hlp, hds⟩ := h.others q hq
  have htr (x : Proj) : t.tr x = s.tr x := congrArg (fun b => b.cell x) h.transports
  have hhs (x : HouseId) : t.hs x = s.hs x := congrArg (fun b => b.cell x) h.houses
  have hpt (x : PortId) : t.pt x = s.pt x := congrArg (fun b => b.cell x) h.ports
  have hheld : t.heldEntry = s.heldEntry := funext fun x => by simp only [State.heldEntry, htr, hhs]
  simp only [State.readyToFollow, State.ready, State.readyFailures, State.holdsArmed, State.isSufficient,
    State.followingEntry, State.liveEntry, State.liveProj, hheld, hlp, hds, htr, hhs, hpt]
  rfl

/-- R92, R105: with its lamp not BURNING a projector is not READY. -/
theorem State.readyToFollow_unlit (s : State) (g : HouseId) (q : Proj) (h : (s.lp q).state ≠ .burning) :
    s.readyToFollow g q = false := by
  have hready : s.ready q = false := by
    simp [State.ready, State.readyFailures, ReadyFailures.none, h]
  simp [State.readyToFollow, hready]

/-- R92, R105, R112: house `h` has no start in progress, and its changeover record, if any, waits for no readiness. -/
def State.unmoved (s : State) (h : HouseId) : Prop :=
  (s.hs h).state ≠ .starting ∧ ((s.hs h).change = none ∨ ∃ y, (s.hs h).change = some y ∧ (y.phase = .runup ∨ y.phase = .locked ∨
    ((y.phase = .waitReady ∨ y.phase = .delay) ∧ s.readyToFollow h y.incoming = false)))

/-- R95, R112, R114, R117: such a house makes nothing of a readiness. -/
theorem Rule.look_unmoved (r : Rule) (h : HouseId) (hu : r.st.unmoved h) : r.look h = r := by
  obtain ⟨hstart, hc⟩ := hu
  have hpicture : r.pictureTest h = r := by
    unfold Rule.pictureTest
    split
    · contradiction
    · rfl
  rcases hc with hc | ⟨y, hc, hph⟩
  · simp [Rule.look, hpicture, Rule.readinessTest, Rule.crossingTest, Rule.completionTest, hc]
  · have hready : r.readinessTest h = r := by
      rcases hph with hph | hph | ⟨-, hn⟩
      · simp [Rule.readinessTest, hc, hph]
      · simp [Rule.readinessTest, hc, hph]
      · simp [Rule.readinessTest, hc, hn]
    have hdue : y.phase ≠ .due ∧ y.phase ≠ .crossing := by
      rcases hph with hph | hph | ⟨hph | hph, -⟩ <;> simp [hph]
    have hcross : r.crossingTest h = r := by simp [Rule.crossingTest, hc, hdue.1]
    have hdone : r.st.crossingDone y = false := by
      unfold State.crossingDone
      split
      · simp_all
      · rfl
    have hcomplete : r.completionTest h = r := by
      unfold Rule.completionTest
      rw [hc]
      dsimp only
      split
      · rfl
      · simp [hdone]
    simp [Rule.look, hpicture, hready, hcross, hcomplete]

theorem Rule.finish_unmoved (s : State) (l : List Signal) (h : HouseId) (hl : l.length ≤ 1) (hs : ∀ y ∈ l, y = .readiness h)
    (hu : s.unmoved h) : Rule.finish ⟨s, l, false⟩ = .next s := by
  refine Rule.finish_settled (Rule.settle_unheeded _ s l false (hl.trans (by decide)) fun y hy l' => ?_) (by simp)
  rw [hs y hy]
  exact Rule.look_unmoved _ h hu

/-! ## SET ARC -/

/-- R71: SET ARC keeps the current of a lamp. -/
theorem Lamp.setArc_same {l : Lamp} {i : Nat} (v : Nat) (auto : Bool) (h : i = l.current) :
    l.setArc i v auto = { l with voltage := v, autostrike := auto } := by
  simp [Lamp.setArc, h]

/-- R67, R71, R77: SET ARC with a new current. -/
theorem Lamp.setArc_new {l : Lamp} {i : Nat} (v : Nat) (auto : Bool) (h : i ≠ l.current) : l.setArc i v auto = { l with
    current := i
    voltage := v
    autostrike := auto
    rate := 6 * i / 5
    band := if 85 * i ≤ 100 * l.amps ∧ 100 * l.amps ≤ 115 * i then none else l.band } := by
  simp only [Lamp.setArc, h, if_false, Lamp.reband, inBand, decide_eq_true_eq, startingRate]
  split <;> rfl

/-- R71: the decision of SET ARC. -/
theorem Rule.decideSetArc_same (r : Rule) (b current : Byte) (voltage : BitVec 16) (auto : Bool) (p : Proj) (i v : Nat)
    (hb : b.toNat = p.val + 1) (hi : i = clamp 40 90 current.toNat) (hv : v = clamp 450 700 voltage.toNat)
    (hsame : i = (r.st.lp p).current) : r.decideSetArc b current voltage auto =
      (r.upd (fun s => s.modLp p (fun l => l.setArc i v auto))).doneWith (.arc i v auto) := by
  subst hi hv
  simp [Rule.decideSetArc, projOf_of_toNat hb, hsame]

theorem Rule.decideSetArc_new (r : Rule) (b current : Byte) (voltage : BitVec 16) (auto : Bool) (p : Proj) (i v : Nat)
    (hb : b.toNat = p.val + 1) (hi : i = clamp 40 90 current.toNat) (hv : v = clamp 450 700 voltage.toNat)
    (hnew : i ≠ (r.st.lp p).current) : r.decideSetArc b current voltage auto =
      ((r.upd (fun s => s.modLp p (fun l => l.setArc i v auto))).evalSufficiency p).doneWith (.arc i v auto) := by
  subst hi hv
  simp [Rule.decideSetArc, projOf_of_toNat hb, hnew]

/-! ## LOAD CARBON -/

theorem Rule.decideLoadCarbon_refused (r : Rule) (b : Byte) (length : BitVec 16) (p : Proj) (hb : b.toNat = p.val + 1)
    (h : (r.st.lp p).state ≠ .off) : r.decideLoadCarbon b length = r.refuse .state := by
  simp [Rule.decideLoadCarbon, projOf_of_toNat hb, h]

theorem Rule.decideLoadCarbon_done (r : Rule) (b : Byte) (length : BitVec 16) (p : Proj) (hb : b.toNat = p.val + 1)
    (h : (r.st.lp p).state = .off) : r.decideLoadCarbon b length =
      ((r.upd (fun s => s.modLp p (fun l => { l with account := loadedPulses length.toNat }))).evalSufficiency p).doneWith
        (.account (loadedPulses length.toNat)) := by
  simp [Rule.decideLoadCarbon, projOf_of_toNat hb, h]

/-- R80: a request that changes lamp `p` alone and has sufficiency judged afresh, in a house that makes nothing of it. -/
theorem Rule.finish_judged (s : State) (q : Request) (x : DonePayload) (p : Proj) (l : Lamp) (hs : s.linkReady)
    (hq : q.wf = true) (hask : Rule.ask ⟨s.setLink s.link.claimed, [], false⟩ q =
      (Rule.evalSufficiency ⟨(s.setLink s.link.claimed).setLp p l, [], false⟩ p).doneWith x)
    (hu : ∀ k, (((s.setLp p l).judged p).setLink k).unmoved (houseOf p)) : (Rule.request ⟨s, [], false⟩ q).finish =
      .next (((s.setLp p l).judged p).setLink (s.link.replied (.done q.kind x))) := by
  obtain ⟨l', hl', he⟩ := Rule.evalSufficiency_cases ((s.setLink s.link.claimed).setLp p l) [] false p
  rw [he] at hask
  refine (Rule.finish_asked_unheeded s (((s.setLink s.link.claimed).setLp p l).judged p) q (.done x) l' hs hq rfl hask ?_
    fun y hy k m t => ?_)
  · rcases hl' with rfl | rfl <;> simp [settleBound]
  · rcases hl' with rfl | rfl
    · simp at hy
    · obtain rfl := List.mem_singleton.1 hy
      exact Rule.look_unmoved _ _ (hu k)

/-- Settles O25, by whether the current changes and by the state of the lamp. -/
theorem lampSettingsTakeEffect : Obligations.LampSettingsTakeEffect := by
  refine ⟨fun s dt b current voltage auto p i v hs hb hi hv => ⟨fun hsame => ?_, fun hnew hr => ?_⟩,
    fun s dt b length p n y hs hb hn => ⟨fun hst => ?_, fun hoff hstart hc => ?_⟩⟩
  · refine Rule.finish_decided (s.elapse dt) ((s.elapse dt).setLp p { s.lp p with voltage := v, autostrike := auto })
      (.setArc b current voltage auto) (.done (.arc i v auto)) [] hs rfl rfl ?_ (by simp) (by simp)
    refine (Rule.decideSetArc_same _ b current voltage auto p i v hb hi hv hsame).trans ?_
    exact congrArg (fun l => Rule.doneWith ⟨((s.elapse dt).setLink s.link.claimed).setLp p l, [], false⟩ (.arc i v auto))
      (Lamp.setArc_same v auto hsame)
  · have hend := Rule.finish_judged (s.elapse dt) (.setArc b current voltage auto) (.arc i v auto) p
      ((s.lp p).setArc i v auto) hs rfl (Rule.decideSetArc_new _ b current voltage auto p i v hb hi hv hnew)
      fun k => ⟨(HouseState.inShow_false hr.1).1, .inl hr.2.1⟩
    have hby := ((s.elapse dt).byLamp_setLp p ((s.lp p).setArc i v auto)).trans (State.byLamp_judged _ p)
    have hlp : ((((s.elapse dt).setLp p ((s.lp p).setArc i v auto)).judged p).setLink
        (s.link.replied (.done 24 (.arc i v auto)))).lp p = { (s.lp p).setArc i v auto with
          sufficiency := ((s.elapse dt).setLp p ((s.lp p).setArc i v auto)).sufficiencyOf p } := by
      rw [State.setLink_lp, State.judged_lp, if_pos rfl, State.setLp_lp, if_pos rfl]
    obtain ⟨hcurrent, hvoltage, hauto, hrate, hstate, haccount, hband⟩ :
        ((s.lp p).setArc i v auto).current = i ∧ ((s.lp p).setArc i v auto).voltage = v ∧
        ((s.lp p).setArc i v auto).autostrike = auto ∧ ((s.lp p).setArc i v auto).rate = 6 * i / 5 ∧
        ((s.lp p).setArc i v auto).state = (s.lp p).state ∧ ((s.lp p).setArc i v auto).account = (s.lp p).account ∧
        ((s.lp p).setArc i v auto).band = if 85 * i ≤ 100 * (s.lp p).amps ∧ 100 * (s.lp p).amps ≤ 115 * i then none
          else (s.lp p).band := by
      rw [Lamp.setArc_new v auto hnew]
      exact ⟨rfl, rfl, rfl, rfl, rfl, rfl, rfl⟩
    have hband := (congrArg Lamp.band hlp).trans hband
    refine ⟨_, hend, (congrArg Lamp.current hlp).trans hcurrent, (congrArg Lamp.voltage hlp).trans hvoltage,
      (congrArg Lamp.autostrike hlp).trans hauto, (congrArg Lamp.rate hlp).trans hrate,
      State.judged_sufficiency ((s.elapse dt).setLp p ((s.lp p).setArc i v auto)) p,
      (congrArg Lamp.state hlp).trans hstate, (congrArg Lamp.account hlp).trans haccount,
      fun hin => hband.trans (if_pos hin), fun hout => hband.trans (if_neg ?_),
      fun q hq => (hby.others q hq).1, rfl, rfl, rfl, rfl, rfl, rfl, rfl, rfl⟩
    omega
  · exact Rule.finish_answered (s.elapse dt) (.loadCarbon b length) (.refused .state .nothing) hs rfl
      (Rule.decideLoadCarbon_refused _ b length p hb hst)
  · have hpulses : loadedPulses length.toNat = n := hn.symm
    have hby := ((s.elapse dt).byLamp_setLp p { s.lp p with account := n }).trans (State.byLamp_judged _ p)
    have hlp : (((s.elapse dt).setLp p { s.lp p with account := n }).judged p).lp p = { s.lp p with
        account := n
        sufficiency := ((s.elapse dt).setLp p { s.lp p with account := n }).sufficiencyOf p } := by
      rw [State.judged_lp, if_pos rfl, State.setLp_lp, if_pos rfl]
    have hask := Rule.decideLoadCarbon_done ⟨(s.elapse dt).setLink s.link.claimed, [], false⟩ b length p hb hoff
    rw [hpulses] at hask
    have hend := Rule.finish_judged (s.elapse dt) (.loadCarbon b length) (.account n) p { s.lp p with account := n } hs rfl
      hask fun k => ⟨hstart, ?_⟩
    · refine ⟨_, hend, ?_, fun q hq => (hby.others q hq).1, rfl, rfl, rfl, rfl, rfl, rfl, rfl, rfl⟩
      rw [State.setLink_lp, hlp]
      refine congrArg (fun x => { s.lp p with account := n, sufficiency := x }) ?_
      exact (State.sufficiencyOf_judged ((s.elapse dt).setLp p { s.lp p with account := n }) p p).symm
    · rcases hc with hc | ⟨hc, hph | hph | ⟨hph, hn⟩⟩
      · exact .inl hc
      · exact .inr ⟨y, hc, .inl hph⟩
      · exact .inr ⟨y, hc, .inr (.inl hph)⟩
      · refine .inr ⟨y, hc, .inr (.inr ⟨hph, ?_⟩)⟩
        have hby := hby.trans (State.byLamp_setLink _ p k)
        by_cases hin : y.incoming = p
        · refine State.readyToFollow_unlit _ _ _ ?_
          rw [hin, State.setLink_lp, hlp]
          simp [hoff]
        · exact (hby.readyToFollow _ hin).trans (hn.resolve_left hin)

end Sys2Proof.Machine
end

section
/-! PROOFS. The minute of burning: the burn rate and CARBON LOW. -/

namespace Sys2Proof.Machine

/-- R82: when the carbon-low test applies. -/
theorem State.carbonTestApplies_iff (s : State) (p : Proj) : s.carbonTestApplies p = true ↔
    ∃ e, s.heldEntry p = some e ∧ e.status = .showing ∧ (s.lp p).carbonLow = false := by
  unfold State.carbonTestApplies
  cases s.heldEntry p <;> simp

/-- R82: what the carbon-low test can do: it sets the mark, with CARBON LOW, of a short lamp whose entry is SHOWING; or nothing. -/
theorem State.carbonLowTest_cases (s : State) (p : Proj) :
    (∃ x, (s.lp p).sufficiency = some x ∧ x.sufficient = false ∧ s.carbonTestApplies p = true ∧
      s.carbonLowTest p = (s.setLp p { s.lp p with carbonLow := true }).reportProj p
        (.carbonLow (s.lp p).account x.need x.frames (s.lp p).rate (s.tr p).counter)) ∨
    (s.carbonLowTest p = s ∧ ∀ x, (s.lp p).sufficiency = some x → s.carbonTestApplies p = true → x.sufficient = true) := by
  unfold State.carbonLowTest
  dsimp only
  split
  next hnone => exact .inr ⟨rfl, by simp [hnone]⟩
  next x hx =>
    split
    next hfires => exact .inl ⟨x, hx, hfires.2, hfires.1, rfl⟩
    next hnot =>
      refine .inr ⟨rfl, fun x' hx' happ => ?_⟩
      obtain rfl := Option.some.inj (hx.symm.trans hx')
      simpa [happ] using hnot

/-- R78: a minute that ends. -/
theorem Rule.minuteEnds_due (s : State) (p : Proj) (m : Minute) (r : Nat) (hst : (s.lp p).state = .burning)
    (hm : (s.lp p).minute = some m) (hr : r = filterRate (s.lp p).rate m.pulses) (ht : m.start + 600000 ≤ s.now) :
    Rule.minuteEnds ⟨s, [], false⟩ p =
      (if r = (s.lp p).rate then ⟨s.setLp p { s.lp p with rate := r, minute := some ⟨s.now, 0⟩ }, [], false⟩
        else Rule.evalSufficiency ⟨s.setLp p { s.lp p with rate := r, minute := some ⟨s.now, 0⟩ }, [], false⟩ p).upd
          (fun s => s.carbonLowTest p) := by
  subst hr
  have hdue : due (some (m.start + ms 60000)) s.now = true := due_late ht
  unfold Rule.minuteEnds
  dsimp only
  rw [hm]
  exact if_pos ⟨hst, hdue⟩

/-- R78: before the 60 s the minute goes on. -/
theorem Rule.minuteEnds_early (s : State) (p : Proj) (m : Minute) (hm : (s.lp p).minute = some m)
    (ht : s.now < m.start + 600000) : Rule.minuteEnds ⟨s, [], false⟩ p = ⟨s, [], false⟩ := by
  have hearly : due (some (m.start + ms 60000)) s.now = false := due_early ht
  simp [Rule.minuteEnds, hm, hearly]

/-- R82: the mark plays no part in a judgement. -/
theorem State.sufficiencyOf_carbonLow (s : State) (p : Proj) (b : Bool) (k : Link) :
    ((s.setLp p { s.lp p with carbonLow := b }).setLink k).sufficiencyOf p = s.sufficiencyOf p := by
  have hlp : ((s.setLp p { s.lp p with carbonLow := b }).setLink k).lp p = { s.lp p with carbonLow := b } :=
    (State.setLp_lp ..).trans (if_pos rfl)
  unfold State.sufficiencyOf
  rw [hlp]
  rfl

/-- R82: what the carbon-low test leaves of the lamp, and what it queues. -/
structure State.TestedLow (s t : State) (p : Proj) : Prop where
  byLamp : s.ByLamp t p
  rate : (t.lp p).rate = (s.lp p).rate
  minute : (t.lp p).minute = (s.lp p).minute
  state : (t.lp p).state = (s.lp p).state
  account : (t.lp p).account = (s.lp p).account
  sufficiency : (t.lp p).sufficiency = (s.lp p).sufficiency
  judgement : t.sufficiencyOf p = s.sufficiencyOf p
  dousers : t.dousers = s.dousers
  short : ∀ y, s.carbonTestApplies p = true → (s.lp p).sufficiency = some y → y.sufficient = false →
    (t.lp p).carbonLow = true ∧ t.link = s.link.enqueue (projNumber p)
      (.carbonLow (s.lp p).account y.need y.frames (s.lp p).rate (s.tr p).counter)
  enough : ∀ y, s.carbonTestApplies p = false ∨ ((s.lp p).sufficiency = some y ∧ y.sufficient = true) →
    (t.lp p).carbonLow = (s.lp p).carbonLow ∧ t.link = s.link

theorem State.carbonLowTest_tested (s : State) (p : Proj) : s.TestedLow (s.carbonLowTest p) p := by
  rcases s.carbonLowTest_cases p with ⟨x, hx, hshort, happ, he⟩ | ⟨he, hn⟩ <;> rw [he]
  · have hlp : ((s.setLp p { s.lp p with carbonLow := true }).reportProj p
        (.carbonLow (s.lp p).account x.need x.frames (s.lp p).rate (s.tr p).counter)).lp p =
          { s.lp p with carbonLow := true } := (State.setLp_lp ..).trans (if_pos rfl)
    refine ⟨(s.byLamp_setLp p _).trans (State.byLamp_setLink _ p _), by rw [hlp], by rw [hlp], by rw [hlp], by rw [hlp],
      by rw [hlp], s.sufficiencyOf_carbonLow p true _, rfl, fun y _ hy _ => ?_, fun y h => ?_⟩
    · obtain rfl := Option.some.inj (hx.symm.trans hy)
      exact ⟨by rw [hlp], rfl⟩
    · rcases h with h | ⟨hy, hsuff⟩
      · simp [happ] at h
      · obtain rfl := Option.some.inj (hx.symm.trans hy)
        simp [hshort] at hsuff
  · refine ⟨.refl s p, rfl, rfl, rfl, rfl, rfl, rfl, rfl, fun y happ hy hs => ?_, fun y _ => ⟨rfl, rfl⟩⟩
    simp [hn y hy happ] at hs

/-- R92, R112: a house that waits for nothing of lamp `p` goes on so when only that lamp has changed. -/
theorem State.ByLamp.unmoved {s t : State} {p : Proj} (h : s.ByLamp t p) (g : HouseId) (hs : (s.hs g).state ≠ .starting)
    (z : Changeover) (hc : (s.hs g).change = none ∨ ((s.hs g).change = some z ∧ z.incoming ≠ p ∧
      (z.phase = .runup ∨ z.phase = .locked ∨
        ((z.phase = .waitReady ∨ z.phase = .delay) ∧ s.readyToFollow g z.incoming = false)))) : t.unmoved g := by
  have hhs : t.hs g = s.hs g := congrArg (fun b => b.cell g) h.houses
  rw [State.unmoved, hhs]
  refine ⟨hs, ?_⟩
  rcases hc with hc | ⟨hc, hin, hph | hph | ⟨hph, hn⟩⟩
  · exact .inl hc
  · exact .inr ⟨z, hc, .inl hph⟩
  · exact .inr ⟨z, hc, .inr (.inl hph)⟩
  · exact .inr ⟨z, hc, .inr (.inr ⟨hph, (h.readyToFollow g hin).trans hn⟩)⟩

/-- R82: the test applies by the entry held and the mark. -/
theorem State.ByLamp.carbonTestApplies {s t : State} {p : Proj} (h : s.ByLamp t p)
    (hc : (t.lp p).carbonLow = (s.lp p).carbonLow) : t.carbonTestApplies p = s.carbonTestApplies p := by
  have hheld : t.heldEntry p = s.heldEntry p := by
    simp only [State.heldEntry, State.tr, State.hs, h.transports, h.houses]
  simp only [State.carbonTestApplies, hheld, hc]

/-- Settles O26, by whether the rate changes. -/
theorem minuteFiltersTheBurnRate : Obligations.MinuteFiltersTheBurnRate := by
  intro s dt p m r e y h z hh hstart hc hst hm hr
  subst hh
  refine ⟨fun ht => ?_, fun ht => ?_⟩
  · exact (congrArg Rule.finish (Rule.minuteEnds_early (s.elapse dt) p m hm ht)).trans (Rule.finish_plain _)
  have hdue := Rule.minuteEnds_due (s.elapse dt) p m r hst hm hr ht
  let v := (s.elapse dt).setLp p { s.lp p with rate := r, minute := some ⟨s.now + dt, 0⟩ }
  have hvlp : v.lp p = { s.lp p with rate := r, minute := some ⟨s.now + dt, 0⟩ } := (State.setLp_lp ..).trans (if_pos rfl)
  have hv : (s.elapse dt).ByLamp v p := State.byLamp_setLp ..
  -- The state before the carbon-low test, the lamp judged afresh or not.
  obtain ⟨w, l, hrule, hl, hw, hwlp, hwj, hws, hwd, hlink⟩ : ∃ w l, Rule.minuteEnds ⟨s.elapse dt, [], false⟩ p =
      ⟨w.carbonLowTest p, l, false⟩ ∧ (l = [] ∨ l = [.readiness (houseOf p)]) ∧ (s.elapse dt).ByLamp w p ∧
      w.lp p = { v.lp p with sufficiency := (w.lp p).sufficiency } ∧
      (r ≠ (s.lp p).rate → (w.lp p).sufficiency = w.sufficiencyOf p) ∧
      (r = (s.lp p).rate → (w.lp p).sufficiency = (s.lp p).sufficiency) ∧ w.dousers = s.dousers ∧ w.link = s.link := by
    by_cases hsame : r = (s.lp p).rate
    · refine ⟨v, [], hdue.trans (congrArg (Rule.upd · _) (if_pos hsame)), .inl rfl, hv, rfl, fun hn => absurd hsame hn,
        fun _ => by rw [hvlp], rfl, rfl⟩
    · obtain ⟨l', hl', he⟩ := Rule.evalSufficiency_cases v [] false p
      have hjlp : (v.judged p).lp p = { v.lp p with sufficiency := v.sufficiencyOf p } := by
        rw [State.judged_lp, if_pos rfl]
      refine ⟨v.judged p, l', hdue.trans (congrArg (Rule.upd · _) ((if_neg hsame).trans he)), hl',
        hv.trans (v.byLamp_judged p), by rw [hjlp], fun _ => v.judged_sufficiency p, fun hs => absurd hs hsame, rfl, rfl⟩
  obtain ⟨hby, hrate, hmin, hstate, hacc, hsuff, hj, hds, hshort, henough⟩ := w.carbonLowTest_tested p
  have hall := hw.trans hby
  have hwrate : (w.lp p).rate = r := by rw [hwlp, hvlp]
  have hwmin : (w.lp p).minute = some ⟨s.now + dt, 0⟩ := by rw [hwlp, hvlp]
  have hwstate : (w.lp p).state = .burning := by rw [hwlp, hvlp]; exact hst
  have hwacc : (w.lp p).account = (s.lp p).account := by rw [hwlp, hvlp]
  have hwlow : (w.lp p).carbonLow = (s.lp p).carbonLow := by rw [hwlp, hvlp]
  have happ : w.carbonTestApplies p = s.carbonTestApplies p := hw.carbonTestApplies hwlow
  have htr : (w.tr p).counter = (s.tr p).counter := congrArg (fun b => (b.cell p).counter) hw.transports
  refine ⟨_, (congrArg Rule.finish hrule).trans (Rule.finish_unmoved _ l (houseOf p) ?_ ?_
    (hall.unmoved _ hstart z hc)), hrate.trans hwrate, hmin.trans hwmin, hstate.trans hwstate, hacc.trans hwacc,
    fun hn => ?_, fun hs => hsuff.trans (hws hs), fun he hshow hlow hy hn => ?_, fun hcase => ?_,
    fun q hq => (hall.others q hq).1, hall.transports, hall.readers, hds.trans hwd, hall.houses, hall.lights, hall.ports,
    hall.booth⟩
  · rcases hl with rfl | rfl <;> simp
  · rcases hl with rfl | rfl <;> simp
  · rw [hsuff, hwj hn, hj]
  · have hfires := hshort y (happ.trans ((State.carbonTestApplies_iff ..).2 ⟨e, he, hshow, hlow⟩)) (hsuff.symm.trans hy) hn
    rw [hwacc, hwrate, htr, hlink] at hfires
    exact hfires
  · have hquiet := henough y ?_
    · rw [hwlow, hlink] at hquiet
      exact hquiet
    · rw [happ, ← hsuff, Bool.eq_false_iff, ne_eq, State.carbonTestApplies_iff]
      rcases hcase with hcase | ⟨hcase, hns⟩ | hcase | hcase
      · exact .inl (by simp [hcase])
      · exact .inl (by simp [hcase, hns])
      · exact .inl (by simp [hcase])
      · exact .inr hcase

end Sys2Proof.Machine
end

section
/-! PROOFS. ARM PORT and the arm window, the ends of the fire causes, and the booth temperature. -/

namespace Sys2Proof.Machine

/-! ## ARM PORT -/

/-- R139: a port is covered where the list of causes that cover it is not empty. -/
theorem Booth.covering_eq_nil (b : Booth) (n : PortId) : b.covering n = [] ↔ b.covers n = false := by
  simp [Booth.covers]

/-- R140: the decision of ARM PORT for a port that is DOWN. -/
theorem Rule.decideArmPort_moving (r : Rule) (b : Byte) (n : PortId) (hb : b.toNat = n.val + 1)
    (h : (r.st.pt n).state ≠ .down) : r.decideArmPort b = r.refuse .state := by
  simp [Rule.decideArmPort, portOf_of_toNat hb, h]

theorem Rule.decideArmPort_down (r : Rule) (b : Byte) (n : PortId) (hb : b.toNat = n.val + 1)
    (h : (r.st.pt n).state = .down) : r.decideArmPort b =
      if r.st.booth.covering n ≠ [] then r.refuseWith .fire (.causes (r.st.booth.covering n))
      else if (r.st.pt n).upSwitch then (r.becomesHeld n).doneWith (.portState .held)
      else (r.upd (fun s => s.setPt n { r.st.pt n with state := .arming, windowEnd := some (s.now + 300000) })).doneWith
        (.portState .arming) := by
  simp only [Rule.decideArmPort, portOf_of_toNat hb, h, ne_eq, not_true_eq_false, if_false]
  rfl

/-- R140, R141: the state in which port `n` has become HELD. -/
def State.held (s : State) (n : PortId) : State :=
  (s.setPt n { s.pt n with state := .held, windowEnd := none }).reportPort n .portHeld

/-- R112: the change that a port that has become HELD puts on the agenda. -/
def heldSignals (n : PortId) : List Signal :=
  match portProj n with
  | some p => [.portHeld p]
  | none => []

theorem heldSignals_length (n : PortId) : (heldSignals n).length ≤ 1 := by
  unfold heldSignals
  split <;> simp

/-- A projection port serves the house of its projector. -/
theorem portHouse_projPort (p : Proj) : portHouse (projPort p) = houseOf p := by
  revert p
  decide

theorem heldSignals_house {n : PortId} {y : Signal} (h : y ∈ heldSignals n) : ∃ p, y = .portHeld p ∧ houseOf p = portHouse n := by
  unfold heldSignals at h
  split at h
  next p hp =>
    obtain rfl := portProj_eq_some n p hp
    exact ⟨p, List.mem_singleton.1 h, (portHouse_projPort p).symm⟩
  next => simp at h

theorem Rule.becomesHeld_eq (s : State) (l : List Signal) (t : Bool) (n : PortId) :
    Rule.becomesHeld ⟨s, l, t⟩ n = ⟨s.held n, l ++ heldSignals n, t⟩ := by
  unfold Rule.becomesHeld heldSignals
  cases portProj n with
  | some p => rfl
  | none => exact congrArg (fun x => (⟨s.held n, x, t⟩ : Rule)) l.append_nil.symm

/-- R112: a house at rest makes nothing of a port that has become HELD. -/
theorem Rule.sees_portHeld_atRest (r : Rule) (p : Proj) (h : r.st.houseAtRest (houseOf p)) : r.sees (.portHeld p) = r :=
  Rule.look_atRest r _ h

/-- R141: the arm window that ends. -/
theorem State.windowEnds_due (s : State) (n : PortId) (e : Instant) (hst : (s.pt n).state = .arming)
    (he : (s.pt n).windowEnd = some e) (ht : e ≤ s.now) :
    s.windowEnds n = (s.setPt n { s.pt n with state := .down, windowEnd := none }).reportPort n .armLapsed := by
  have hdue : due (s.pt n).windowEnd s.now = true := by
    rw [he]
    exact due_late ht
  simp [State.windowEnds, hst, hdue]

theorem State.windowEnds_early (s : State) (n : PortId) (e : Instant) (he : (s.pt n).windowEnd = some e) (ht : s.now < e) :
    s.windowEnds n = s := by
  have hearly : due (s.pt n).windowEnd s.now = false := by
    rw [he]
    exact due_early ht
  simp [State.windowEnds, hearly]

/-- Settles O44, by the state of the port, its cover and its up switch. -/
theorem armPortRaisesTheShutter : Obligations.ArmPortRaisesTheShutter := by
  intro s dt b n e hb
  refine ⟨fun hs hst => ?_, fun hs hst hcov => ?_, fun hs hst hcov hup => ?_, fun hs hst hcov hup hr => ?_,
    fun hst he => ⟨fun ht => ?_, fun ht => ?_⟩⟩
  · exact Rule.finish_answered (s.elapse dt) (.armPort b) (.refused .state .nothing) hs rfl
      (Rule.decideArmPort_moving _ b n hb hst)
  · have hcause : s.booth.covering n ≠ [] := fun h => by simp [(s.booth.covering_eq_nil n).1 h] at hcov
    exact Rule.finish_answered (s.elapse dt) (.armPort b) (.refused .fire (.causes (s.booth.covering n))) hs rfl
      ((Rule.decideArmPort_down _ b n hb hst).trans (if_pos hcause))
  · have hfree : ¬ s.booth.covering n ≠ [] := not_not.2 ((s.booth.covering_eq_nil n).2 hcov)
    have hnup : ¬ (s.pt n).upSwitch = true := by simp [hup]
    exact Rule.finish_decided (s.elapse dt) ((s.elapse dt).setPt n { s.pt n with
        state := .arming, windowEnd := some (s.now + dt + 300000) }) (.armPort b) (.done (.portState .arming)) [] hs rfl rfl
      (((Rule.decideArmPort_down _ b n hb hst).trans (if_neg hfree)).trans (if_neg hnup)) (by simp) (by simp)
  · have hfree : ¬ s.booth.covering n ≠ [] := not_not.2 ((s.booth.covering_eq_nil n).2 hcov)
    let w := (s.elapse dt).setLink s.link.claimed
    have hask : Rule.ask ⟨w, [], false⟩ (.armPort b) =
        ⟨.done (.portState .held), ⟨w.held n, heldSignals n, false⟩⟩ :=
      (((Rule.decideArmPort_down _ b n hb hst).trans (if_neg hfree)).trans (if_pos hup)).trans
        (congrArg (Rule.doneWith · (.portState .held)) (Rule.becomesHeld_eq w [] false n))
    have hbusy : (w.held n).link.transmitter ≠ .idle :=
      fun hi => s.link.claimed_awake ((s.link.claimed.enqueue_fed _ _).idle hi).1
    obtain ⟨t, ht, hend, hslot, -, hsent⟩ := Rule.finish_request_unheeded (s.elapse dt) (w.held n) (.armPort b)
      (.done (.portState .held)) (heldSignals n) hs rfl hbusy hask ((heldSignals_length n).trans (by decide))
      fun y hy k l' t => by
        obtain ⟨p, rfl, hp⟩ := heldSignals_house hy
        refine Rule.sees_portHeld_atRest _ p ?_
        rw [hp]
        exact hr
    have hpt (m : PortId) : t.pt m = (w.held n).pt m := congrArg (fun b => b.cell m) hend.ports
    refine ⟨t, ht, (hpt n).trans ((State.setPt_pt ..).trans (if_pos rfl)),
      fun m hm => (hpt m).trans ((State.setPt_pt ..).trans (if_neg hm)), hslot, fun hsending => ?_, hend.booth,
      hend.transports, hend.readers, hend.dousers, hend.lamps, hend.houses, hend.lights⟩
    rw [hsent hsending]
    have hlink : (w.held n).link = s.link.claimed.enqueue (portNumber n) .portHeld := rfl
    rw [hlink, s.link.claimed_sending hsending]
    rfl
  · exact (Rule.finish_plain ((s.elapse dt).windowEnds n)).trans (congrArg _ ((s.elapse dt).windowEnds_early n e he ht))
  · exact (Rule.finish_plain ((s.elapse dt).windowEnds n)).trans (congrArg _ ((s.elapse dt).windowEnds_due n e hst he ht))

/-! ## The ends of the causes -/

/-- R155: the rank of the grade that a reading enters. -/
theorem gradeEntered_rank (t : Nat) :
    (gradeEntered t).rank = if 55 ≤ t then 3 else if 45 ≤ t then 2 else if 35 ≤ t then 1 else 0 := by
  unfold gradeEntered
  repeat' split
  all_goals rfl

/-- R155: the grade after a reading, by the entry values first and then by the leaving values of the grade in force. -/
theorem gradeAfter_eq (g : Grade) (t : Nat) : gradeAfter g t =
    if 55 ≤ t then .critical
    else if g = .critical ∧ 52 < t then .critical
    else if 45 ≤ t then .hot
    else if (g = .hot ∨ g = .critical) ∧ 42 < t then .hot
    else if 35 ≤ t then .warm
    else if g ≠ .normal ∧ 32 < t then .warm
    else .normal := by
  rw [gradeAfter, gradeEntered_rank]
  cases g <;>
    simp only [Grade.rank, gradeEntered, gradeLeft, reduceCtorEq, false_and, true_and, ne_eq, not_true_eq_false,
      not_false_eq_true, or_false, or_true, or_self, if_false] <;>
    split_ifs <;> (try rfl) <;> omega

/-- R155: a reading at its second. -/
theorem exec_temperatureReading_due {s : State} {dt degrees : Nat} (h : s.booth.nextReading ≤ s.now + dt) :
    exec (.temperatureReading dt degrees) s = (Rule.gradeReading ⟨(s.elapse dt).setBooth { s.booth with
      nextReading := s.booth.nextReading + 10000 }, [], false⟩ degrees).finish := by
  have hdue : due (some s.booth.nextReading) (s.now + dt) = true := due_late h
  exact congrArg Rule.finish (if_pos hdue)

/-- R155: a reading that leaves the grade. -/
theorem Rule.gradeReading_same (r : Rule) (degrees : Nat) (h : gradeAfter r.st.booth.grade degrees = r.st.booth.grade) :
    r.gradeReading degrees = r.upd (fun s => s.setBooth { s.booth with temperature := degrees, grade := r.st.booth.grade }) := by
  unfold Rule.gradeReading
  dsimp only
  rw [h, if_pos rfl]

/-- R155: a reading that changes the grade, with CRITICAL neither entered nor left. -/
theorem Rule.gradeReading_changed (r : Rule) (degrees : Nat) (h : gradeAfter r.st.booth.grade degrees ≠ r.st.booth.grade)
    (hold : r.st.booth.grade ≠ .critical) (hnew : gradeAfter r.st.booth.grade degrees ≠ .critical) :
    r.gradeReading degrees = (r.upd (fun s => s.setBooth { s.booth with
      temperature := degrees, grade := gradeAfter r.st.booth.grade degrees })).upd
        (fun s => s.reportBooth (.tempGrade r.st.booth.grade (gradeAfter r.st.booth.grade degrees) degrees)) := by
  unfold Rule.gradeReading
  dsimp only
  rw [if_neg h, if_neg hnew, if_neg hold]

/-- R152, R155: a reading that leaves CRITICAL ends its cause. -/
theorem Rule.gradeReading_cooled (r : Rule) (degrees : Nat) (hold : r.st.booth.grade = .critical)
    (hnew : gradeAfter .critical degrees ≠ .critical) (hon : r.st.booth.critical = true) :
    r.gradeReading degrees = ((r.upd (fun s => s.setBooth { s.booth with
      temperature := degrees, grade := gradeAfter .critical degrees })).upd
        (fun s => s.reportBooth (.tempGrade .critical (gradeAfter .critical degrees) degrees))).endCause .critical none := by
  unfold Rule.gradeReading
  dsimp only
  rw [hold, if_neg hnew, if_neg hnew, if_pos rfl]
  exact if_pos hon

/-- Settles O48, by the event and the cause, and by the grade in force and the grade read. -/
theorem causesEndAndReadingsAreGraded : Obligations.CausesEndAndReadingsAreGraded := by
  refine ⟨fun s dt p => ⟨fun hon => ?_, fun hoff => ?_, fun hon => ?_, fun hoff => ?_, ?_⟩,
    fun s dt t0 g g' hg hg' => ?_⟩
  · exact (congrArg Rule.finish (if_pos hon)).trans (Rule.finish_plain _)
  · have hn : ¬ s.booth.fusible = true := by simp [hoff]
    exact (congrArg Rule.finish (if_neg hn)).trans (Rule.finish_plain _)
  · exact (congrArg Rule.finish (if_pos hon)).trans (Rule.finish_plain _)
  · have hn : ¬ s.booth.filmFire.cell p = true := by simp [hoff]
    exact (congrArg Rule.finish (if_neg hn)).trans (Rule.finish_plain _)
  · exact Rule.finish_plain _
  · have hgrade : g' = gradeAfter s.booth.grade t0 := by rw [hg', ← hg, gradeAfter_eq]
    subst hg
    rw [hgrade]
    refine ⟨fun ht => ?_, fun ht hsame => ?_, fun ht hchg hold hnew => ?_, fun ht hold hnew hon => ?_⟩
    · have hn : ¬ due (some s.booth.nextReading) (s.now + dt) = true := by simp [due_early ht]
      exact (congrArg Rule.finish (if_neg hn)).trans (Rule.finish_plain _)
    · refine (exec_temperatureReading_due ht).trans
        ((congrArg Rule.finish (Rule.gradeReading_same _ t0 hsame)).trans (Rule.finish_plain _))
    · refine (exec_temperatureReading_due ht).trans
        ((congrArg Rule.finish (Rule.gradeReading_changed _ t0 hchg hold hnew)).trans (Rule.finish_plain _))
    · rw [hold] at hnew ⊢
      exact (exec_temperatureReading_due ht).trans
        ((congrArg Rule.finish (Rule.gradeReading_cooled _ t0 hold hnew hon)).trans (Rule.finish_plain _))

end Sys2Proof.Machine
end

section
/-! PROOFS. The switches of a port and the confirmation limit of its fall. -/

namespace Sys2Proof.Machine

/-! ## The settlement of a record -/

/-- R146: a record is settled where no port that falls carries the link to it. -/
theorem State.settled_iff (s : State) (l : DropLink) :
    s.settled l = true ↔ ∀ k, (s.pt k).state = .dropping → (s.pt k).link ≠ some l := by
  have hall (k : PortId) : k ∈ allPorts := by
    revert k
    decide
  simp only [State.settled, List.all_eq_true, Bool.not_eq_true', decide_eq_false_iff_not, not_and]
  exact ⟨fun h k => h k (hall k), fun h k _ => h k⟩

/-- R146: the booth with the outcome of port `n` written into record `seq`. -/
def Booth.written (b : Booth) (seq : Nat) (n : PortId) (o : DropOutcome) : Booth :=
  { b with log := b.log.map (fun x => if x.seq = seq then
    { x with ports := x.ports.map (fun y => if y.port = n then { y with outcome := o } else y) } else x) }

theorem State.writeOutcome_kept {s : State} {n : PortId} {l : DropLink} (o : DropOutcome) (hl : (s.pt n).link = some l)
    (hd : l.discarded = false) : s.writeOutcome n o = s.setBooth (s.booth.written l.seq n o) := by
  simp only [State.writeOutcome, hl, hd]
  rfl

theorem State.writeOutcome_discarded {s : State} {n : PortId} {l : DropLink} (o : DropOutcome) (hl : (s.pt n).link = some l)
    (hd : l.discarded = true) : s.writeOutcome n o = s := by
  simp [State.writeOutcome, hl, hd]

/-- R146: a written outcome changes no record's number, cause or projector. -/
theorem Booth.written_find {b : Booth} {seq : Nat} {d : DropRecord} (n : PortId) (o : DropOutcome)
    (h : b.log.find? (fun x => x.seq = seq) = some d) :
    ∃ d', (b.written seq n o).log.find? (fun x => x.seq = seq) = some d' ∧ d'.cause = d.cause ∧ d'.projector = d.projector := by
  have hseq : (fun x : DropRecord => decide (x.seq = seq)) ∘ (fun x : DropRecord => if x.seq = seq then
      { x with ports := x.ports.map (fun y => if y.port = n then { y with outcome := o } else y) } else x) =
      fun x => decide (x.seq = seq) := by
    funext x
    simp only [Function.comp]
    split <;> rfl
  rw [Booth.written, List.find?_map, hseq, h]
  refine ⟨_, rfl, ?_, ?_⟩ <;> dsimp only <;> split <;> rfl

/-- R146: PORT DROPPED of a record that is settled. -/
theorem State.judgeSettled_settled {s : State} {l : DropLink} {d : DropRecord} (hd : l.discarded = false)
    (hs : s.settled l = true) (hf : s.booth.log.find? (fun x => x.seq = l.seq) = some d) :
    s.judgeSettled l = s.reportBooth (.portDropped l.seq (some d.cause) d.projector) := by
  simp [State.judgeSettled, hd, hs, hf]

theorem State.judgeSettled_open {s : State} {l : DropLink} (hd : l.discarded = false) (hs : s.settled l = false) :
    s.judgeSettled l = s := by
  simp [State.judgeSettled, hd, hs]

theorem State.judgeSettled_discarded {s : State} {l : DropLink} (hd : l.discarded = true) :
    s.judgeSettled l = s.judgeDiscarded l := by
  simp [State.judgeSettled, hd]

/-- A bank whose records are all changed. -/
theorem Bank.cell_map {α β : Type} {n : Nat} (b : Bank α n) (f : α → β) (i : Fin n) :
    Bank.cell (Vector.map f b) i = f (b.cell i) := by
  simp [Bank.cell, Vector.get]

/-- R146: what a judgement of a discarded record makes of the ports, the booth and the link. -/
theorem State.judgeDiscarded_pt (s : State) (l : DropLink) (k : PortId) :
    (s.judgeDiscarded l).pt k = if l.reported = true then s.pt k else (s.pt k).noteReported l.seq := by
  unfold State.judgeDiscarded
  split
  · rfl
  · exact Bank.cell_map ..

/-- R146: it leaves the booth, and reports a record not yet reported. -/
theorem State.judgeDiscarded_link (s : State) (l : DropLink) : (s.judgeDiscarded l).booth = s.booth ∧
    (s.judgeDiscarded l).link = if l.reported = true then s.link else s.link.enqueue 0 (.portDropped l.seq none none) := by
  unfold State.judgeDiscarded
  split <;> exact ⟨rfl, rfl⟩

/-! ## What a port's fall leaves alone -/

/-- From `s` to `t` nothing has changed but the ports, the booth and the link. -/
structure State.ByPorts (s t : State) : Prop where
  transports : t.transports = s.transports
  readers : t.readers = s.readers
  dousers : t.dousers = s.dousers
  lamps : t.lamps = s.lamps
  houses : t.houses = s.houses
  lights : t.lights = s.lights

theorem State.ByPorts.refl (s : State) : s.ByPorts s := ⟨rfl, rfl, rfl, rfl, rfl, rfl⟩

theorem State.byPorts_judgeDiscarded (s : State) (l : DropLink) : s.ByPorts (s.judgeDiscarded l) := by
  obtain ⟨ht, hr, hd, hp, hh, hlt, -⟩ := s.judgeDiscarded_keeps l
  exact ⟨ht, hr, hd, hp, hh, hlt⟩

/-- R146: a judgement of a record that is kept leaves the ports and the booth too. -/
theorem State.judgeSettled_kept {s : State} {l : DropLink} {d : DropRecord} (hd : l.discarded = false)
    (hf : s.booth.log.find? (fun x => x.seq = l.seq) = some d) : s.judgeSettled l = s.setLink
      (if s.settled l = true then s.link.enqueue 0 (.portDropped l.seq (some d.cause) d.projector) else s.link) := by
  cases hs : s.settled l with
  | true => exact State.judgeSettled_settled hd hs hf
  | false => exact State.judgeSettled_open hd hs

/-! ## The down switch and the confirmation limit -/

/-- R143: the port whose down switch has closed at the end of its fall. -/
def Port.fallen (p : Port) : Port := { p with state := .down, releasedAt := none, link := none, downSwitch := true }

theorem State.downCloses_other {s : State} {n : PortId} (hd : (s.pt n).state ≠ .dropping) (hj : (s.pt n).state ≠ .jammed) :
    s.downCloses n = s.setPt n { s.pt n with downSwitch := true } := by
  unfold State.downCloses
  dsimp only
  split
  · contradiction
  · contradiction
  all_goals rfl

/-- R143: the state in which the down switch of port `n` has closed. -/
def State.switched (s : State) (n : PortId) : State := s.setPt n { s.pt n with downSwitch := true }

theorem State.switched_pt (s : State) (n : PortId) : (s.switched n).pt n = { s.pt n with downSwitch := true } :=
  (State.setPt_pt ..).trans (if_pos rfl)

theorem State.switched_landed (s : State) (n : PortId) :
    (s.switched n).setPt n ((s.switched n).pt n).landed = s.setPt n (s.pt n).fallen := by
  rw [s.switched_pt]
  exact s.setPt_setPt n _ _

/-- R143: what the down switch does to a port that falls. -/
theorem State.downCloses_dropping {s : State} {n : PortId} (h : (s.pt n).state = .dropping) :
    s.downCloses n = (s.switched n).confirmDrop n := by
  unfold State.downCloses
  dsimp only
  split
  · rfl
  all_goals simp_all

theorem State.downCloses_jammed {s : State} {n : PortId} (h : (s.pt n).state = .jammed) :
    s.downCloses n = (s.switched n).confirmLate n := by
  unfold State.downCloses
  dsimp only
  split
  · simp_all
  · rfl
  all_goals simp_all

theorem Port.fallTime_eq {p : Port} {from0 : Instant} (now : Instant) (h : p.releasedAt = some from0) :
    p.fallTime now = (now - from0) / 10 := by
  simp only [Port.fallTime, h]
  rfl

/-- R143, R146: a fall confirmed in time, its record kept or discarded. -/
theorem State.confirmDrop_kept {s : State} {n : PortId} {l : DropLink} {from0 : Instant} (hl : (s.pt n).link = some l)
    (hd : l.discarded = false) (hr : (s.pt n).releasedAt = some from0) : s.confirmDrop n =
      ((s.setPt n (s.pt n).landed).setBooth (s.booth.written l.seq n (.closed ((s.now - from0) / 10)))).judgeSettled l := by
  unfold State.confirmDrop
  dsimp only
  rw [hl, Port.fallTime_eq _ hr, State.writeOutcome_kept _ hl hd]
  rfl

theorem State.confirmDrop_discarded {s : State} {n : PortId} {l : DropLink} (hl : (s.pt n).link = some l)
    (hd : l.discarded = true) : s.confirmDrop n = (s.setPt n (s.pt n).landed).judgeDiscarded l := by
  unfold State.confirmDrop
  dsimp only
  rw [hl, State.writeOutcome_discarded _ hl hd]
  exact State.judgeSettled_discarded hd

/-- R143, R146: a fall confirmed late, its record kept or discarded. -/
theorem State.confirmLate_kept {s : State} {n : PortId} {l : DropLink} {from0 : Instant} (hl : (s.pt n).link = some l)
    (hd : l.discarded = false) (hr : (s.pt n).releasedAt = some from0) : s.confirmLate n =
      ((s.setPt n (s.pt n).landed).setBooth (s.booth.written l.seq n (.late ((s.now - from0) / 10)))).reportBooth
        (.portDroppedLate l.seq n ((s.now - from0) / 10)) := by
  unfold State.confirmLate
  dsimp only
  rw [hl, Port.fallTime_eq _ hr, State.writeOutcome_kept _ hl hd]
  simp [hd]
  rfl

theorem State.confirmLate_discarded {s : State} {n : PortId} {l : DropLink} {from0 : Instant} (hl : (s.pt n).link = some l)
    (hd : l.discarded = true) (hr : (s.pt n).releasedAt = some from0) : s.confirmLate n =
      ((s.setPt n (s.pt n).landed).judgeDiscarded l).reportBooth (.portDroppedLate l.seq n ((s.now - from0) / 10)) := by
  unfold State.confirmLate
  dsimp only
  rw [hl, Port.fallTime_eq _ hr, State.writeOutcome_discarded _ hl hd]
  simp [hd]

/-- R143, R146: the confirmation limit of a port that still falls. -/
theorem State.jams_due {s : State} {n : PortId} {l : DropLink} {from0 : Instant} (hst : (s.pt n).state = .dropping)
    (hl : (s.pt n).link = some l) (hr : (s.pt n).releasedAt = some from0) (ht : from0 + 10000 ≤ s.now) :
    s.jams n = (((s.writeOutcome n .jammed).setPt n { s.pt n with state := .jammed }).reportPort n
      (.portJammed l.seq)).judgeSettled l := by
  have hdue : due (after (s.pt n).releasedAt 1000) s.now = true := by
    rw [hr]
    exact due_late ht
  unfold State.jams
  dsimp only
  rw [if_pos ⟨hst, hdue⟩]
  simp only [hl]

theorem State.jams_not {s : State} {n : PortId} {from0 : Instant} (hr : (s.pt n).releasedAt = some from0)
    (h : (s.pt n).state ≠ .dropping ∨ s.now < from0 + 10000) : s.jams n = s := by
  unfold State.jams
  dsimp only
  refine if_neg fun hd => ?_
  rcases h with h | h
  · exact h hd.1
  · have hearly : due (after (s.pt n).releasedAt 1000) s.now = false := by
      rw [hr]
      exact due_early h
    simp [hearly] at hd

/-- R143, R146: the down switch of a port that falls, its record kept or discarded. -/
theorem State.downCloses_dropping_kept {s : State} {n : PortId} {l : DropLink} {from0 : Instant}
    (hst : (s.pt n).state = .dropping) (hl : (s.pt n).link = some l) (hd : l.discarded = false)
    (hr : (s.pt n).releasedAt = some from0) : s.downCloses n = ((s.setPt n (s.pt n).fallen).setBooth
      (s.booth.written l.seq n (.closed ((s.now - from0) / 10)))).judgeSettled l := by
  have hp := s.switched_pt n
  rw [State.downCloses_dropping hst, State.confirmDrop_kept (by rw [hp]; exact hl) hd (by rw [hp]; exact hr),
    s.switched_landed]
  rfl

theorem State.downCloses_dropping_discarded {s : State} {n : PortId} {l : DropLink} (hst : (s.pt n).state = .dropping)
    (hl : (s.pt n).link = some l) (hd : l.discarded = true) :
    s.downCloses n = (s.setPt n (s.pt n).fallen).judgeDiscarded l := by
  have hp := s.switched_pt n
  rw [State.downCloses_dropping hst, State.confirmDrop_discarded (by rw [hp]; exact hl) hd, s.switched_landed]

theorem State.downCloses_jammed_kept {s : State} {n : PortId} {l : DropLink} {from0 : Instant}
    (hst : (s.pt n).state = .jammed) (hl : (s.pt n).link = some l) (hd : l.discarded = false)
    (hr : (s.pt n).releasedAt = some from0) : s.downCloses n = ((s.setPt n (s.pt n).fallen).setBooth
      (s.booth.written l.seq n (.late ((s.now - from0) / 10)))).reportBooth
        (.portDroppedLate l.seq n ((s.now - from0) / 10)) := by
  have hp := s.switched_pt n
  rw [State.downCloses_jammed hst, State.confirmLate_kept (by rw [hp]; exact hl) hd (by rw [hp]; exact hr),
    s.switched_landed]
  rfl

theorem State.downCloses_jammed_discarded {s : State} {n : PortId} {l : DropLink} {from0 : Instant}
    (hst : (s.pt n).state = .jammed) (hl : (s.pt n).link = some l) (hd : l.discarded = true)
    (hr : (s.pt n).releasedAt = some from0) : s.downCloses n =
      ((s.setPt n (s.pt n).fallen).judgeDiscarded l).reportBooth (.portDroppedLate l.seq n ((s.now - from0) / 10)) := by
  have hp := s.switched_pt n
  rw [State.downCloses_jammed hst, State.confirmLate_discarded (by rw [hp]; exact hl) hd (by rw [hp]; exact hr),
    s.switched_landed]
  rfl

theorem State.setPt_pt_same (s : State) (n : PortId) (x : Port) : (s.setPt n x).pt n = x :=
  (State.setPt_pt ..).trans (if_pos rfl)

theorem State.setPt_pt_other (s : State) {n k : PortId} (x : Port) (h : k ≠ n) : (s.setPt n x).pt k = s.pt k :=
  (State.setPt_pt ..).trans (if_neg h)

/-- R146: whether the record that port `n` no longer falls for is settled. -/
theorem State.settled_alone {s : State} {n : PortId} {l : DropLink} (hn : (s.pt n).state ≠ .dropping)
    (h : ∀ k, k ≠ n → (s.pt k).state = .dropping → (s.pt k).link ≠ some l) : s.settled l = true :=
  (s.settled_iff l).2 fun k hk => h k (fun he => hn (he ▸ hk)) hk

theorem State.settled_not {s : State} {l : DropLink} {k : PortId} (hk : (s.pt k).state = .dropping)
    (hl : (s.pt k).link = some l) : s.settled l = false :=
  Bool.eq_false_iff.2 fun h => (s.settled_iff l).1 h k hk hl

/-- R141: the up switch of an ARMING port, in a house at rest. -/
theorem exec_upSwitchCloses_arming (s : State) (dt : Nat) (n : PortId) (hst : (s.pt n).state = .arming)
    (hr : s.houseAtRest (portHouse n)) : exec (.upSwitchCloses dt n) s =
      .next (((s.elapse dt).setPt n { s.pt n with state := .held, windowEnd := none, upSwitch := true }).reportPort n
        .portHeld) := by
  let w := (s.elapse dt).setPt n { s.pt n with upSwitch := true }
  have hrun : exec (.upSwitchCloses dt n) s = (Rule.becomesHeld ⟨w, [], false⟩ n).finish := congrArg Rule.finish (if_pos hst)
  have hheld : w.held n =
      ((s.elapse dt).setPt n { s.pt n with state := .held, windowEnd := none, upSwitch := true }).reportPort n .portHeld := by
    have hpt : w.pt n = { s.pt n with upSwitch := true } := State.setPt_pt_same ..
    rw [State.held, hpt]
    exact congrArg (fun u : State => u.reportPort n .portHeld) ((s.elapse dt).setPt_setPt n _ _)
  rw [hrun, Rule.becomesHeld_eq, ← hheld]
  refine Rule.finish_settled (Rule.settle_unheeded _ (w.held n) (heldSignals n) false ((heldSignals_length n).trans (by decide))
    fun y hy l' => ?_) (by simp)
  obtain ⟨p, rfl, hp⟩ := heldSignals_house hy
  refine Rule.sees_portHeld_atRest _ p ?_
  rw [hp]
  exact hr

/-- R143: a down switch or a limit changes what its state function says. -/
theorem exec_downSwitchCloses {s t : State} {dt : Nat} {n : PortId} (h : (s.elapse dt).downCloses n = t) :
    exec (.downSwitchCloses dt n) s = .next t :=
  (Rule.finish_plain ((s.elapse dt).downCloses n)).trans (congrArg _ h)

theorem exec_confirmationLimit {s t : State} {dt : Nat} {n : PortId} (h : (s.elapse dt).jams n = t) :
    exec (.confirmationLimit dt n) s = .next t :=
  (Rule.finish_plain ((s.elapse dt).jams n)).trans (congrArg _ h)

/-- Settles O45, by the switch or the limit, the state of the port, and whether its record is kept. -/
theorem portFallIsConfirmed : Obligations.PortFallIsConfirmed := by
  refine ⟨fun s dt n l d from0 m o hm ho => ⟨fun hst hr => ?_, fun hst => ?_, fun hst => ?_, ?_, fun hdrop hjam => ?_,
      fun hl hd hr hf hst => ?_⟩,
    fun s dt n l d from0 hr => ⟨fun h => ?_, fun hst ht hl hd hf => ?_⟩,
    fun s dt n l from0 m x hl hd hr hm hx => ⟨fun hst => ?_, fun hst => ?_, fun hst ht hrep => ?_, fun hst ht hrep => ?_⟩⟩
  · exact exec_upSwitchCloses_arming s dt n hst hr
  · exact (congrArg Rule.finish (if_neg hst)).trans (Rule.finish_plain _)
  · exact (congrArg Rule.finish (if_neg hst)).trans (Rule.finish_plain _)
  · exact Rule.finish_plain _
  · exact exec_downSwitchCloses (State.downCloses_other hdrop hjam)
  · rcases hst with hst | hst
    · rw [if_pos hst] at ho
      subst hm ho
      obtain ⟨d', hf', hcause, hproj⟩ := Booth.written_find n (.closed ((s.now + dt - from0) / 10)) hf
      let w := ((s.elapse dt).setPt n (s.pt n).fallen).setBooth
        (s.booth.written l.seq n (.closed ((s.now + dt - from0) / 10)))
      have hpt : w.pt n = (s.pt n).fallen := (s.elapse dt).setPt_pt_same n _
      have hothers (k : PortId) (hk : k ≠ n) : w.pt k = s.pt k := (s.elapse dt).setPt_pt_other _ hk
      have hend := (State.downCloses_dropping_kept (s := s.elapse dt) hst hl hd hr).trans (State.judgeSettled_kept hd hf')
      rw [hcause, hproj] at hend
      refine ⟨_, exec_downSwitchCloses hend, hpt, hothers, rfl, fun _ halone => ?_, fun _ hother => ?_, fun h => ?_, rfl, rfl,
        rfl, rfl, rfl, rfl⟩
      · refine if_pos (State.settled_alone (n := n) ?_ fun k hk => ?_)
        · change (w.pt n).state ≠ .dropping
          rw [hpt]
          simp [Port.fallen]
        · change (w.pt k).state = .dropping → (w.pt k).link ≠ some l
          rw [hothers k hk]
          exact halone k hk
      · obtain ⟨k, hk, hkst, hkl⟩ := hother
        have hnot : w.settled l = false := State.settled_not (k := k) (by rw [hothers k hk]; exact hkst)
          (by rw [hothers k hk]; exact hkl)
        exact if_neg (Bool.eq_false_iff.1 hnot)
      · simp [hst] at h
    · rw [if_neg (by simp [hst])] at ho
      subst hm ho
      have hend := State.downCloses_jammed_kept (s := s.elapse dt) hst hl hd hr
      refine ⟨_, exec_downSwitchCloses hend, (s.elapse dt).setPt_pt_same n _, fun k hk => (s.elapse dt).setPt_pt_other _ hk,
        rfl, fun h => ?_, fun h => ?_, fun _ => rfl, rfl, rfl, rfl, rfl, rfl, rfl⟩
      · simp [hst] at h
      · simp [hst] at h
  · exact exec_confirmationLimit (State.jams_not hr h)
  · obtain ⟨d', hf', hcause, hproj⟩ := Booth.written_find n .jammed hf
    let w := (((s.elapse dt).setBooth (s.booth.written l.seq n .jammed)).setPt n { s.pt n with state := .jammed }).reportPort n
      (.portJammed l.seq)
    have hpt : w.pt n = { s.pt n with state := .jammed } := (s.elapse dt).setPt_pt_same n _
    have hothers (k : PortId) (hk : k ≠ n) : w.pt k = s.pt k := (s.elapse dt).setPt_pt_other _ hk
    have hend := State.jams_due (s := s.elapse dt) hst hl hr ht
    rw [State.writeOutcome_kept (s := s.elapse dt) .jammed hl hd] at hend
    have hend := hend.trans (State.judgeSettled_kept hd hf')
    rw [hcause, hproj] at hend
    refine ⟨_, exec_confirmationLimit hend, hpt, hothers, rfl, fun halone => ?_, fun hother => ?_, rfl, rfl,
      rfl, rfl, rfl, rfl⟩
    · refine if_pos (State.settled_alone (n := n) ?_ fun k hk => ?_)
      · change (w.pt n).state ≠ .dropping
        rw [hpt]
        simp
      · change (w.pt k).state = .dropping → (w.pt k).link ≠ some l
        rw [hothers k hk]
        exact halone k hk
    · obtain ⟨k, hk, hkst, hkl⟩ := hother
      have hnot : w.settled l = false := State.settled_not (k := k) (by rw [hothers k hk]; exact hkst)
        (by rw [hothers k hk]; exact hkl)
      exact if_neg (Bool.eq_false_iff.1 hnot)
  · have hend := State.downCloses_dropping_discarded (s := s.elapse dt) hst hl hd
    let w := (s.elapse dt).setPt n (s.pt n).fallen
    have hpt : w.pt n = (s.pt n).fallen := (s.elapse dt).setPt_pt_same n _
    obtain ⟨hbooth, hlink⟩ := w.judgeDiscarded_link l
    obtain ⟨htr, -, hds, hlp, hhs, hlt⟩ := w.byPorts_judgeDiscarded l
    refine ⟨_, exec_downSwitchCloses hend, ?_, hlink.trans hx.symm, hbooth, fun k hk => ?_, htr, hds, hlp, hhs, hlt⟩
    · refine (w.judgeDiscarded_pt l n).trans ?_
      rw [hpt]
      split <;> rfl
    · refine (w.judgeDiscarded_pt l k).trans ?_
      rw [show w.pt k = s.pt k from (s.elapse dt).setPt_pt_other _ hk]
      rfl
  · have hend := State.downCloses_jammed_discarded (s := s.elapse dt) hst hl hd hr
    let w := (s.elapse dt).setPt n (s.pt n).fallen
    have hpt : w.pt n = (s.pt n).fallen := (s.elapse dt).setPt_pt_same n _
    obtain ⟨hbooth, hlink⟩ := w.judgeDiscarded_link l
    refine ⟨_, exec_downSwitchCloses hend, ?_, ?_, hbooth⟩
    · refine (w.judgeDiscarded_pt l n).trans ?_
      rw [hpt]
      split <;> rfl
    · rw [hm]
      exact congrArg (Link.enqueue · 0 (.portDroppedLate l.seq n ((s.now + dt - from0) / 10))) (hlink.trans hx.symm)
  · have hend := State.jams_due (s := s.elapse dt) hst hl hr ht
    rw [State.writeOutcome_discarded (s := s.elapse dt) .jammed hl hd, State.judgeSettled_discarded hd] at hend
    let w := ((s.elapse dt).setPt n { s.pt n with state := .jammed }).reportPort n (.portJammed l.seq)
    have hpt : w.pt n = { s.pt n with state := .jammed } := (s.elapse dt).setPt_pt_same n _
    have hnot : ¬ l.reported = true := by simp [hrep]
    obtain ⟨hbooth, hlink⟩ := w.judgeDiscarded_link l
    refine ⟨_, exec_confirmationLimit hend, ?_, hbooth, hlink.trans (if_neg hnot)⟩
    refine ((w.judgeDiscarded_pt l n).trans (if_neg hnot)).trans ?_
    rw [hpt]
    simp [Port.noteReported, hl, hd]
  · have hend := State.jams_due (s := s.elapse dt) hst hl hr ht
    rw [State.writeOutcome_discarded (s := s.elapse dt) .jammed hl hd, State.judgeSettled_discarded hd,
      State.judgeDiscarded_reported _ l hrep] at hend
    exact ⟨_, exec_confirmationLimit hend, (s.elapse dt).setPt_pt_same n _, rfl, rfl⟩

end Sys2Proof.Machine
end

section
/-! PROOFS. The drop record and the release of its ports: a self-drop, DROP TEST, and a full log. -/

namespace Sys2Proof.Machine

/-! ## The release of listed ports -/

/-- R142, R143: a port as its release leaves it: DROPPING, or DOWN at once where its down switch is closed. -/
def Port.released (p : Port) (seq : Nat) (now : Instant) : Port :=
  if p.state = .held ∨ p.state = .arming then
    if p.downSwitch = true then { p with state := .down, windowEnd := none, link := none }
    else { p with state := .dropping, windowEnd := none, releasedAt := some now, link := some ⟨seq, false, false⟩ }
  else p

/-- R143: whether the release of a port is confirmed at once. -/
def Port.landsAtOnce (p : Port) : Bool := decide (p.state = .held ∨ p.state = .arming) && p.downSwitch

/-- R143, R146: the booth with the outcome CLOSED, after no time, written into record `seq` for the ports that `f` names. -/
def Booth.closedIn (b : Booth) (seq : Nat) (f : PortId → Bool) : Booth :=
  { b with log := b.log.map (fun x => if x.seq = seq then
    { x with ports := x.ports.map (fun y => if f y.port = true then { y with outcome := .closed 0 } else y) } else x) }

theorem Booth.closedIn_none (b : Booth) (seq : Nat) {f : PortId → Bool} (h : ∀ k, f k = false) : b.closedIn seq f = b := by
  simp [Booth.closedIn, h]

theorem Booth.closedIn_closedIn (b : Booth) (seq : Nat) (f g : PortId → Bool) :
    (b.closedIn seq f).closedIn seq g = b.closedIn seq (fun k => f k || g k) := by
  simp only [Booth.closedIn, List.map_map]
  congr 1
  refine List.map_congr_left fun x _ => ?_
  simp only [Function.comp]
  split
  · simp only [*]
    congr 1
    rw [List.map_map]
    refine List.map_congr_left fun y _ => ?_
    simp only [Function.comp]
    by_cases hf : f y.port = true <;> by_cases hg : g y.port = true <;> simp [hf, hg]
  · simp [*]

/-- R142: what the release of the ports `ns` under record `seq` does. -/
structure Rule.Releases (r r' : Rule) (seq : Nat) (ns : List PortId) : Prop where
  pt : ∀ k, r'.st.pt k = if k ∈ ns then (r.st.pt k).released seq r.st.now else r.st.pt k
  booth : r'.st.booth = r.st.booth.closedIn seq (fun k => decide (k ∈ ns) && (r.st.pt k).landsAtOnce)
  link : r'.st.link = r.st.link
  transports : r'.st.transports = r.st.transports
  readers : r'.st.readers = r.st.readers
  lamps : r'.st.lamps = r.st.lamps
  houses : r'.st.houses = r.st.houses
  lights : r'.st.lights = r.st.lights
  now : r'.st.now = r.st.now
  dousers : ∀ p, projPort p ∉ ns → r'.st.ds p = r.st.ds p
  shut : ∀ p, projPort p ∈ ns → (r.st.pt (projPort p)).state = .held → ¬ (r'.st.ds p).agape
  agenda : ∃ l, r'.agenda = r.agenda ++ l ∧ l.length ≤ ns.length ∧ ∀ y ∈ l, ∃ q, y = .portLeft q ∧ projPort q ∈ ns
  tie : r'.tie = r.tie

theorem Rule.Releases.nil (r : Rule) (seq : Nat) : r.Releases r seq [] where
  pt k := by simp
  booth := (Booth.closedIn_none _ _ fun k => by simp).symm
  link := rfl
  transports := rfl
  readers := rfl
  lamps := rfl
  houses := rfl
  lights := rfl
  now := rfl
  dousers _ _ := rfl
  shut p hp := by simp at hp
  agenda := ⟨[], by simp, by simp, by simp⟩
  tie := rfl

theorem Rule.Releases.cons {r r' r'' : Rule} {seq : Nat} {n : PortId} {rest : List PortId} (h : r.Releases r' seq [n])
    (k : r'.Releases r'' seq rest) (hn : n ∉ rest) : r.Releases r'' seq (n :: rest) where
  pt m := by
    rw [k.pt, h.pt, h.now]
    by_cases hm : m = n
    · subst hm
      simp [hn]
    · simp [hm]
  booth := by
    rw [k.booth, h.booth, Booth.closedIn_closedIn]
    congr 1
    funext m
    rw [h.pt m]
    by_cases hm : m = n
    · subst hm
      simp [hn]
    · simp [hm]
  link := k.link.trans h.link
  transports := k.transports.trans h.transports
  readers := k.readers.trans h.readers
  lamps := k.lamps.trans h.lamps
  houses := k.houses.trans h.houses
  lights := k.lights.trans h.lights
  now := k.now.trans h.now
  dousers p hp := by
    rw [List.mem_cons, not_or] at hp
    rw [k.dousers p hp.2, h.dousers p (by simpa using hp.1)]
  shut p hp hst := by
    rcases List.mem_cons.1 hp with hp | hp
    · rw [k.dousers p (hp ▸ hn)]
      exact h.shut p (by simp [hp]) hst
    · refine k.shut p hp ?_
      rw [h.pt, if_neg]
      · exact hst
      · rw [List.mem_singleton]
        exact fun he => hn (he ▸ hp)
  agenda := by
    obtain ⟨l, hl, hlen, hmem⟩ := h.agenda
    obtain ⟨l', hl', hlen', hmem'⟩ := k.agenda
    refine ⟨l ++ l', by rw [hl', hl, List.append_assoc], ?_, fun y hy => ?_⟩
    · simp only [List.length_append, List.length_cons, List.length_nil] at *
      omega
    · rcases List.mem_append.1 hy with hy | hy
      · obtain ⟨q, hq, hin⟩ := hmem y hy
        exact ⟨q, hq, by simp [List.mem_singleton.1 hin]⟩
      · obtain ⟨q, hq, hin⟩ := hmem' y hy
        exact ⟨q, hq, List.mem_cons_of_mem _ hin⟩
  tie := k.tie.trans h.tie

/-- R142, R143: the state in which port `n` has been released. -/
def State.letGo (s : State) (seq : Nat) (n : PortId) : State :=
  (s.setPt n ((s.pt n).released seq s.now)).setBooth (s.booth.closedIn seq (fun k => decide (k = n) && (s.pt n).landsAtOnce))

/-- R142: a port that is neither HELD nor ARMING is not released. -/
theorem Rule.release_lowered {s : State} {n : PortId} (l : List Signal) (t : Bool) (seq : Nat)
    (h : ¬ ((s.pt n).state = .held ∨ (s.pt n).state = .arming)) :
    Rule.release ⟨s, l, t⟩ seq n = ⟨s, l, t⟩ ∧ s.letGo seq n = s := by
  constructor
  · unfold Rule.release
    dsimp only
    rw [if_neg h]
  · rw [State.letGo, Port.released, if_neg h, State.setPt_self, Booth.closedIn_none _ _ fun k => by simp [Port.landsAtOnce, h]]
    rfl

/-- R142, R143: another is; a HELD projection port has its douser closed. -/
theorem Rule.release_raised {s : State} {n : PortId} (l : List Signal) (t : Bool) (seq : Nat)
    (h : (s.pt n).state = .held ∨ (s.pt n).state = .arming) : Rule.release ⟨s, l, t⟩ seq n =
      match portProj n with
      | some q => if (s.pt n).state = .held then ⟨(s.letGo seq n).closeCommand q, l ++ [.portLeft q], t⟩
          else ⟨s.letGo seq n, l, t⟩
      | none => ⟨s.letGo seq n, l, t⟩ := by
  unfold Rule.release
  extract_lets p linked r1
  have hr1 : r1 = ⟨s.letGo seq n, l, t⟩ := by
    have hreleased : (s.pt n).released seq s.now = if p.downSwitch = true then { linked with state := .down, link := none }
        else { linked with state := .dropping, releasedAt := some s.now } := if_pos h
    have hlands : (s.pt n).landsAtOnce = p.downSwitch := by simp [Port.landsAtOnce, h, p]
    unfold r1 State.letGo
    rw [hreleased, hlands]
    by_cases hd : p.downSwitch = true
    · have hwrite : (s.setPt n linked).writeOutcome n (.closed 0) =
          (s.setPt n linked).setBooth (s.booth.written seq n (.closed 0)) :=
        State.writeOutcome_kept (s := s.setPt n linked) (n := n) (l := ⟨seq, false, false⟩) _
          (congrArg Port.link (s.setPt_pt_same n linked)) rfl
      have hset := s.setPt_setPt n linked { linked with state := .down, link := none }
      have hbooth : s.booth.closedIn seq (fun k => decide (k = n) && p.downSwitch) = s.booth.written seq n (.closed 0) := by
        simp [Booth.written, Booth.closedIn, hd]
      rw [if_pos hd, if_pos hd, hbooth, Rule.upd]
      dsimp only
      rw [hwrite]
      exact congrArg (fun u : State => (⟨u.setBooth (s.booth.written seq n (.closed 0)), l, t⟩ : Rule)) hset
    · rw [if_neg hd, if_neg hd, Booth.closedIn_none _ _ fun _ => by simp [hd]]
      rfl
  clear_value r1
  subst hr1
  rw [if_pos h]
  rfl

theorem State.letGo_pt (s : State) (seq : Nat) (n k : PortId) :
    (s.letGo seq n).pt k = if k ∈ [n] then (s.pt k).released seq s.now else s.pt k := by
  have hk : (s.letGo seq n).pt k = if k = n then (s.pt n).released seq s.now else s.pt k := State.setPt_pt ..
  rw [hk]
  by_cases h : k = n <;> simp [h]

theorem State.letGo_booth (s : State) (seq : Nat) (n : PortId) : (s.letGo seq n).booth =
    s.booth.closedIn seq (fun k => decide (k ∈ [n]) && (s.pt k).landsAtOnce) := by
  change s.booth.closedIn seq (fun k => decide (k = n) && (s.pt n).landsAtOnce) = _
  congr 1
  funext k
  by_cases h : k = n <;> simp [h]

/-- R142: the release of one port. -/
theorem Rule.releases_release (r : Rule) (seq : Nat) (n : PortId) : r.Releases (r.release seq n) seq [n] := by
  obtain ⟨s, l, t⟩ := r
  by_cases h : (s.pt n).state = .held ∨ (s.pt n).state = .arming
  · rw [Rule.release_raised l t seq h]
    split
    next q hq =>
      have hn : n = projPort q := portProj_eq_some n q hq
      have hport {p : Proj} (hp : projPort p ∈ [n]) : p = q := by
        rw [List.mem_singleton, hn] at hp
        exact Option.some.inj ((portProj_projPort p).symm.trans ((congrArg portProj hp).trans (portProj_projPort q)))
      split
      next hheld =>
        obtain ⟨hlk, htr, hrd, hlp, hhs, hlt, hpt, hb, hnow, -⟩ := (s.letGo seq n).closeCommand_keeps q
        refine ⟨fun k => ?_, hb.trans (s.letGo_booth seq n), hlk, htr, hrd, hlp, hhs, hlt, hnow, fun p hp => ?_,
          fun p hp _ => ?_, ⟨[.portLeft q], rfl, by simp, fun y hy => ⟨q, List.mem_singleton.1 hy, by simp [hn]⟩⟩, rfl⟩
        · exact (congrArg (fun b => b.cell k) hpt).trans (s.letGo_pt seq n k)
        · exact State.closeCommand_ds_other _ fun he => hp (by simp [hn, he])
        · obtain rfl := hport hp
          exact (s.letGo seq n).closeCommand_shut p
      next hnot =>
        refine ⟨s.letGo_pt seq n, s.letGo_booth seq n, rfl, rfl, rfl, rfl, rfl, rfl, rfl, fun _ _ => rfl,
          fun p hp hst => absurd ?_ hnot, ⟨[], by simp, by simp, by simp⟩, rfl⟩
        rw [hn, ← hport hp]
        exact hst
    next hnone =>
      refine ⟨s.letGo_pt seq n, s.letGo_booth seq n, rfl, rfl, rfl, rfl, rfl, rfl, rfl, fun _ _ => rfl,
        fun p hp _ => ?_, ⟨[], by simp, by simp, by simp⟩, rfl⟩
      rw [List.mem_singleton.1 hp |>.symm, portProj_projPort] at hnone
      cases hnone
  · obtain ⟨hr, hgo⟩ := Rule.release_lowered l t seq h
    rw [hr]
    refine ⟨fun k => ?_, ?_, rfl, rfl, rfl, rfl, rfl, rfl, rfl, fun _ _ => rfl, fun p hp hst => absurd ?_ h,
      ⟨[], by simp, by simp, by simp⟩, rfl⟩
    · have hpt := s.letGo_pt seq n k
      rw [hgo] at hpt
      exact hpt
    · have hb := s.letGo_booth seq n
      rw [hgo] at hb
      exact hb
    · rw [← List.mem_singleton.1 hp]
      exact .inl hst

/-- R142: the release of listed ports, no port listed twice. -/
theorem Rule.releases_releaseAll (r : Rule) (seq : Nat) (ns : List PortId) (h : ns.Nodup) :
    r.Releases (r.releaseAll seq ns) seq ns := by
  induction ns generalizing r with
  | nil => exact .nil r seq
  | cons n rest ih =>
    obtain ⟨hn, hrest⟩ := List.nodup_cons.1 h
    exact (r.releases_release seq n).cons (ih _ hrest) hn

/-! ## The drop record -/

/-- R144: the record that a drop writes. -/
def State.dropRecord (s : State) (cause : DropCause) (p : Option Proj) (ns : List PortId) : DropRecord :=
  { seq := s.booth.nextSeq
    cause := cause
    projector := p
    footage := s.dropFootage p
    time := s.link.clock
    ports := ns.map (fun n => ⟨n, (s.pt n).listed⟩) }

/-- R144, R145: it joins a log that has room. -/
theorem State.writeRecord_room {s : State} (cause : DropCause) (p : Option Proj) (ns : List PortId)
    (h : s.booth.log.length < 16) : s.writeRecord cause p ns = s.setBooth { s.booth with
      log := s.booth.log ++ [s.dropRecord cause p ns], nextSeq := nextSequence s.booth.nextSeq } := by
  have htrim : s.trimLog = s := if_pos h
  simp only [State.writeRecord, htrim]
  rfl

/-- R145: or a full one, from which the oldest record goes. -/
theorem State.writeRecord_full {s : State} (cause : DropCause) (p : Option Proj) (ns : List PortId) {old : DropRecord}
    {rest : List DropRecord} (hl : s.booth.log = old :: rest) (h : rest.length = 15) :
    (s.writeRecord cause p ns).booth = { s.booth with
      log := rest ++ [s.dropRecord cause p ns], nextSeq := nextSequence s.booth.nextSeq } ∧
    ∀ k, (s.writeRecord cause p ns).pt k = (s.pt k).unlink old.seq (s.settled ⟨old.seq, false, false⟩) := by
  have hfull : ¬ s.booth.log.length < logCapacity := by simp [hl, h, logCapacity]
  have htrim : s.trimLog = { s.setBooth { s.booth with log := rest } with
      ports := s.ports.map (fun p => p.unlink old.seq (s.settled ⟨old.seq, false, false⟩)) } := by
    rw [State.trimLog, if_neg hfull, hl]
  simp only [State.writeRecord, htrim]
  exact ⟨rfl, fun k => Bank.cell_map ..⟩

/-- R142, R144, R146: a drop that no FIRE CAUSE announces. -/
theorem Rule.drop_unannounced (r : Rule) {cause : DropCause} (p : Option Proj) (ns : List PortId)
    (h : cause.announced = false) : r.drop cause p ns =
      ((r.upd (fun s => s.writeRecord cause p ns)).releaseAll r.st.booth.nextSeq ns).upd
        (fun s => s.judgeSettled ⟨r.st.booth.nextSeq, false, false⟩) := by
  simp [Rule.drop, h]

/-- R96, R112, R120: a house at rest makes nothing of a port that leaves HELD. -/
theorem Rule.sees_portLeft_atRest (r : Rule) (p : Proj) (h : r.st.houseAtRest (houseOf p)) : r.sees (.portLeft p) = r := by
  simp [Rule.sees, r.failure_atRest p _ h, r.look_atRest _ h]

/-- R147: what the self-drop of a HELD port leaves, from the state `v` with its record written. -/
structure State.SelfDropped (v t : State) (n : PortId) (seq : Nat) : Prop where
  booth : t.booth = v.booth
  pt : t.pt n = { v.pt n with
    state := .dropping
    windowEnd := none
    releasedAt := some v.now
    link := some ⟨seq, false, false⟩ }
  others : ∀ k, k ≠ n → t.pt k = v.pt k
  shut : ∀ p, portProj n = some p → ¬ (t.ds p).agape
  dousers : ∀ p, portProj n ≠ some p → t.ds p = v.ds p
  transports : t.transports = v.transports
  readers : t.readers = v.readers
  lamps : t.lamps = v.lamps
  houses : t.houses = v.houses
  lights : t.lights = v.lights
  link : t.link = v.link

theorem Rule.drop_self (s v : State) (n : PortId) (hv : s.writeRecord .self (portProj n) [n] = v)
    (hst : (v.pt n).state = .held) (hd : (v.pt n).downSwitch = false) (hr : v.houseAtRest (portHouse n)) :
    ∃ t, (Rule.drop ⟨s, [], false⟩ .self (portProj n) [n]).finish = .next t ∧ v.SelfDropped t n s.booth.nextSeq := by
  have hrel := Rule.releases_releaseAll ⟨v, [], false⟩ s.booth.nextSeq [n] (List.nodup_singleton n)
  have hdrop := Rule.drop_unannounced ⟨s, [], false⟩ (cause := .self) (portProj n) [n] rfl
  simp only [Rule.upd, hv] at hdrop
  generalize Rule.releaseAll ⟨v, [], false⟩ s.booth.nextSeq [n] = r at *
  obtain ⟨t, l, tie⟩ := r
  obtain ⟨hpt, hb, hlink, htr, hrd, hlp, hhs, hlt, -, hds, hshut, ⟨l', hl, hlen, hmem⟩, htie⟩ := hrel
  dsimp only at hpt hb hlink htr hrd hlp hhs hlt hds hshut hl htie
  subst hl htie
  have hptn := hpt n
  rw [if_pos (List.mem_singleton_self n), Port.released, if_pos (.inl hst), if_neg (by simp [hd])] at hptn
  have hopen : t.judgeSettled ⟨s.booth.nextSeq, false, false⟩ = t :=
    State.judgeSettled_open rfl (State.settled_not (k := n) (by rw [hptn]) (by rw [hptn]))
  rw [hdrop, hopen]
  refine ⟨t, Rule.finish_settled (Rule.settle_unheeded _ t _ false ?_ fun y hy m => ?_) (by simp), ?_, hptn, fun k hk => ?_,
    fun p hp => hshut p ?_ ?_, fun p hp => hds p ?_, htr, hrd, hlp, hhs, hlt, hlink⟩
  · simp only [List.length_singleton] at hlen
    exact hlen.trans (by decide)
  · obtain ⟨q, rfl, hq⟩ := hmem y hy
    refine Rule.sees_portLeft_atRest _ q ((State.houseAtRest_congr hhs _).2 ?_)
    rw [← portHouse_projPort, List.mem_singleton.1 hq]
    exact hr
  · refine hb.trans (Booth.closedIn_none _ _ fun k => ?_)
    by_cases hk : k = n
    · subst hk
      simp [Port.landsAtOnce, hd]
    · simp [hk]
  · rw [hpt k, if_neg (by simpa using hk)]
  · simp [portProj_eq_some n p hp]
  · rw [← portProj_eq_some n p hp]
    exact hst
  · rw [List.mem_singleton]
    rintro rfl
    exact hp (portProj_projPort p)

/-! ## DROP TEST -/

/-- R47: the ends of trials change dousers and the link alone. -/
theorem State.stopTrials_keeps (s : State) (ns : List PortId) : (s.stopTrials ns).transports = s.transports ∧
    (s.stopTrials ns).readers = s.readers ∧ (s.stopTrials ns).lamps = s.lamps ∧ (s.stopTrials ns).houses = s.houses ∧
      (s.stopTrials ns).lights = s.lights ∧ (s.stopTrials ns).ports = s.ports ∧ (s.stopTrials ns).booth = s.booth := by
  induction ns generalizing s with
  | nil => exact ⟨rfl, rfl, rfl, rfl, rfl, rfl, rfl⟩
  | cons n rest ih =>
    unfold State.stopTrials
    split
    next p _ =>
      obtain ⟨h1, h2, h3, h4, h5, h6, h7, -⟩ := s.endTrial_keeps p .fire
      obtain ⟨k1, k2, k3, k4, k5, k6, k7⟩ := ih (s.endTrial p .fire)
      exact ⟨k1.trans h1, k2.trans h2, k3.trans h3, k4.trans h4, k5.trans h5, k6.trans h6, k7.trans h7⟩
    next => exact ih s

/-- R146: a judgement of a record that is kept changes the link alone. -/
theorem State.judgeSettled_eq (s : State) (l : DropLink) (hd : l.discarded = false) :
    s.judgeSettled l = s.setLink (s.judgeSettled l).link := by
  unfold State.judgeSettled
  rw [hd]
  simp only [Bool.false_eq_true, if_false]
  split
  · split <;> rfl
  · rfl

theorem State.judgeSettled_keeps (s : State) (l : DropLink) (hd : l.discarded = false) :
    (s.judgeSettled l).transports = s.transports ∧ (s.judgeSettled l).readers = s.readers ∧
      (s.judgeSettled l).lamps = s.lamps ∧ (s.judgeSettled l).houses = s.houses ∧ (s.judgeSettled l).lights = s.lights ∧
      (s.judgeSettled l).ports = s.ports ∧ (s.judgeSettled l).booth = s.booth := by
  rw [s.judgeSettled_eq l hd]
  exact ⟨rfl, rfl, rfl, rfl, rfl, rfl, rfl⟩

/-- R144, R146: the outcome that the record of a drop lists for a port once it has been released. -/
def Port.outcomeOf (p : Port) : DropOutcome :=
  if p.state = .held ∨ p.state = .arming then if p.downSwitch = true then .closed 0 else .pending else .already

/-- R144, R146: the record of a drop, the outcomes of its release written. -/
theorem Booth.closedIn_dropRecord (s : State) (cause : DropCause) (p : Option Proj) (ns : List PortId) (b : Booth)
    (hb : b.log = s.booth.log ++ [s.dropRecord cause p ns]) (hold : ∀ d ∈ s.booth.log, d.seq ≠ s.booth.nextSeq) :
    b.closedIn s.booth.nextSeq (fun k => decide (k ∈ ns) && (s.pt k).landsAtOnce) = { b with
      log := s.booth.log ++ [{ s.dropRecord cause p ns with ports := ns.map (fun n => ⟨n, (s.pt n).outcomeOf⟩) }] } := by
  have hkeep (f : DropRecord → DropRecord) :
      s.booth.log.map (fun x => if x.seq = s.booth.nextSeq then f x else x) = s.booth.log := by
    refine (List.map_congr_left fun d hd => if_neg (hold d hd)).trans (List.map_id' _)
  have hseq : (s.dropRecord cause p ns).seq = s.booth.nextSeq := rfl
  unfold Booth.closedIn
  rw [hb, List.map_append, hkeep, List.map_singleton, if_pos hseq]
  congr 3
  unfold State.dropRecord
  dsimp only
  rw [List.map_map]
  congr 1
  refine List.map_congr_left fun n hn => ?_
  simp only [Function.comp, hn, decide_true, Bool.true_and, Port.landsAtOnce, Port.listed, Port.outcomeOf]
  by_cases hr : (s.pt n).state = .held ∨ (s.pt n).state = .arming <;> by_cases hd : (s.pt n).downSwitch = true <;>
    simp [hr, hd]

/-- R156: what a DROP TEST names: ports of one house, each once. -/
theorem namedPorts_eq {form : DropForm} {b : Byte} {m : PortId} {h : HouseId} {named : List PortId}
    (hn : (form = .port ∧ b.toNat = m.val + 1 ∧ h = portHouse m ∧ named = [m]) ∨
      (form = .house ∧ b.toNat = h.val + 1 ∧ named = [projPort (projAt h .a), projPort (projAt h .b), obsPort h])) :
    namedPorts form b = some named ∧ named.Nodup ∧ named ≠ [] ∧ named.length ≤ 3 ∧ ∀ n ∈ named, portHouse n = h := by
  rcases hn with ⟨rfl, hb, rfl, rfl⟩ | ⟨rfl, hb, rfl⟩
  · exact ⟨by simp [namedPorts, portOf_of_toNat hb], by simp, by simp, by simp, by simp⟩
  · have hports : ∀ h : HouseId, [projPort (projAt h .a), projPort (projAt h .b), obsPort h].Nodup ∧
        ∀ n ∈ [projPort (projAt h .a), projPort (projAt h .b), obsPort h], portHouse n = h := by decide
    obtain ⟨hnodup, hhouse⟩ := hports h
    exact ⟨by simp [namedPorts, houseOfNumber_of_toNat hb], hnodup, by simp, by simp, hhouse⟩

/-- R156: the decision of DROP TEST. -/
theorem Rule.decideDropTest_refused (r : Rule) {form : DropForm} {b : Byte} {named : List PortId} {h : HouseId}
    (hn : namedPorts form b = some named) (hne : named ≠ []) (hh : ∀ n ∈ named, portHouse n = h)
    (hshow : (r.st.hs h).state.inShow = true) : r.decideDropTest form b = r.refuse .state := by
  obtain ⟨n, hmem⟩ := List.exists_mem_of_ne_nil named hne
  have hany : named.any (fun n => (r.st.hs (portHouse n)).state.inShow) = true :=
    List.any_eq_true.2 ⟨n, hmem, by rw [hh n hmem]; exact hshow⟩
  simp [Rule.decideDropTest, hn, hany]

theorem Rule.decideDropTest_done (r : Rule) {form : DropForm} {b : Byte} {named : List PortId} {h : HouseId}
    (hn : namedPorts form b = some named) (hh : ∀ n ∈ named, portHouse n = h) (hrest : (r.st.hs h).state.inShow = false) :
    r.decideDropTest form b = (r.activation .test none named).doneWith (.sequence r.st.booth.nextSeq) := by
  have hany : named.any (fun n => (r.st.hs (portHouse n)).state.inShow) = false := by
    rw [List.any_eq_false]
    intro n hmem
    simp [hh n hmem, hrest]
  simp [Rule.decideDropTest, hn, hany]

/-- R142, R144, R156: what the drop test of the ports `ns` leaves. -/
structure State.DropTested (s t : State) (ns : List PortId) : Prop where
  booth : t.booth = { s.booth with
    log := s.booth.log ++ [{ s.dropRecord .test none ns with ports := ns.map (fun n => ⟨n, (s.pt n).outcomeOf⟩) }]
    nextSeq := nextSequence s.booth.nextSeq }
  pt : ∀ k, t.pt k = if k ∈ ns then (s.pt k).released s.booth.nextSeq s.now else s.pt k
  transports : t.transports = s.transports
  readers : t.readers = s.readers
  lamps : t.lamps = s.lamps
  houses : t.houses = s.houses
  lights : t.lights = s.lights

theorem Rule.activation_test (s : State) (ns : List PortId) (hroom : s.booth.log.length < 16)
    (hold : ∀ d ∈ s.booth.log, d.seq ≠ s.booth.nextSeq) (hnodup : ns.Nodup) :
    ∃ t l, Rule.activation ⟨s, [], false⟩ .test none ns = ⟨t, l, false⟩ ∧ s.DropTested t ns ∧ l.length ≤ ns.length ∧
      ∀ y ∈ l, ∃ q, y = .portLeft q ∧ projPort q ∈ ns := by
  have hwrite := State.writeRecord_room (s := s) .test none ns hroom
  let v := s.setBooth { s.booth with
    log := s.booth.log ++ [s.dropRecord .test none ns], nextSeq := nextSequence s.booth.nextSeq }
  have hdrop : Rule.drop ⟨s, [], false⟩ .test none ns = (Rule.releaseAll ⟨v, [], false⟩ s.booth.nextSeq ns).upd
      (fun u => u.judgeSettled ⟨s.booth.nextSeq, false, false⟩) :=
    (Rule.drop_unannounced ⟨s, [], false⟩ none ns rfl).trans (congrArg (fun x : State =>
      (Rule.releaseAll ⟨x, [], false⟩ s.booth.nextSeq ns).upd
        (fun u => u.judgeSettled ⟨s.booth.nextSeq, false, false⟩)) hwrite)
  have hrel := Rule.releases_releaseAll ⟨v, [], false⟩ s.booth.nextSeq ns hnodup
  generalize Rule.releaseAll ⟨v, [], false⟩ s.booth.nextSeq ns = r at *
  obtain ⟨u, l, tie⟩ := r
  obtain ⟨hpt, hb, -, htr, hrd, hlp, hhs, hlt, -, -, -, ⟨l', hl, hlen, hmem⟩, htie⟩ := hrel
  dsimp only at hpt hb htr hrd hlp hhs hlt hl htie
  subst hl htie
  obtain ⟨j1, j2, j3, j4, j5, j6, j7⟩ := u.judgeSettled_keeps ⟨s.booth.nextSeq, false, false⟩ rfl
  obtain ⟨k1, k2, k3, k4, k5, k6, k7⟩ := (u.judgeSettled ⟨s.booth.nextSeq, false, false⟩).stopTrials_keeps ns
  refine ⟨_, l, (congrArg (Rule.upd · (fun s => s.stopTrials ns)) hdrop).trans rfl, ⟨?_, fun k => ?_,
    (k1.trans j1).trans htr, (k2.trans j2).trans hrd, (k3.trans j3).trans hlp, (k4.trans j4).trans hhs,
    (k5.trans j5).trans hlt⟩, hlen, hmem⟩
  · exact ((k7.trans j7).trans hb).trans (Booth.closedIn_dropRecord s .test none ns v.booth rfl hold)
  · exact (congrArg (fun b => b.cell k) (k6.trans j6)).trans (hpt k)

/-- R144, R147: the record of a self-drop of a HELD port. -/
theorem State.dropRecord_self (s : State) (n : PortId) (h : (s.pt n).state = .held) : s.dropRecord .self (portProj n) [n] =
    { seq := s.booth.nextSeq
      cause := .self
      projector := portProj n
      footage := match portProj n with
        | none => none
        | some p => if (s.tr p).armed = none then none else some ((s.tr p).counter / 16)
      time := s.link.clock
      ports := [⟨n, .pending⟩] } := by
  have hlisted : (s.pt n).listed = .pending := if_pos (.inl h)
  have hfootage : s.dropFootage (portProj n) = match portProj n with
      | none => none
      | some p => if (s.tr p).armed = none then none else some ((s.tr p).counter / 16) := by
    cases portProj n with
    | none => rfl
    | some p =>
      unfold State.dropFootage
      cases ha : (s.tr p).armed <;> simp [ha, footage]
  rw [State.dropRecord, hfootage, List.map_singleton, hlisted]

/-- Settles O46, by the self-drop, the drop test, and the self-drop with a full log. -/
theorem dropsAreRecorded : Obligations.DropsAreRecorded := by
  refine ⟨fun s dt n hst hd hr hroom => ?_, fun s dt form b m h named hs hn => ⟨fun hshow => ?_, fun hr hroom hold => ?_⟩,
    fun s dt n old rest b hst hd hr hlog hlen hb => ?_⟩
  · let w := (s.elapse dt).setPt n { s.pt n with upSwitch := false }
    have hrun : exec (.upSwitchOpens dt n) s = (Rule.drop ⟨w, [], false⟩ .self (portProj n) [n]).finish :=
      congrArg Rule.finish (if_pos hst)
    have hpt : w.pt n = { s.pt n with upSwitch := false } := State.setPt_pt_same ..
    have hwrite := State.writeRecord_room (s := w) .self (portProj n) [n] hroom
    obtain ⟨t, ht, hbooth, htpt, hothers, hshut, hds, htr, hrd, hlp, hhs, hlt, hlink⟩ :=
      Rule.drop_self w _ n hwrite (by rw [State.setBooth_pt, hpt]; exact hst) (by rw [State.setBooth_pt, hpt]; exact hd) hr
    rw [State.setBooth_pt, hpt] at htpt
    refine ⟨t, hrun.trans ht, hbooth.trans ?_, htpt, fun k hk => (hothers k hk).trans ((s.elapse dt).setPt_pt_other _ hk),
      fun p hp => not_or.1 (hshut p hp), hds, htr, hrd, hlp, hhs, hlt, hlink⟩
    have hrec := w.dropRecord_self n (by rw [hpt]; exact hst)
    rw [State.setBooth_booth, hrec]
    rfl
  · obtain ⟨hnamed, -, hne, -, hhouse⟩ := namedPorts_eq hn
    exact Rule.finish_answered (s.elapse dt) (.dropTest form b) (.refused .state .nothing) hs rfl
      (Rule.decideDropTest_refused _ hnamed hne hhouse hshow)
  · obtain ⟨hnamed, hnodup, -, hthree, hhouse⟩ := namedPorts_eq hn
    let w := (s.elapse dt).setLink s.link.claimed
    obtain ⟨v, l, hact, ⟨hbooth, hpt, htr, hrd, hlp, hhs, hlt⟩, hlen, hmem⟩ := Rule.activation_test w named hroom hold hnodup
    have hask : Rule.ask ⟨w, [], false⟩ (.dropTest form b) = ⟨.done (.sequence s.booth.nextSeq), ⟨v, l, false⟩⟩ :=
      (Rule.decideDropTest_done _ hnamed hhouse hr.1).trans (congrArg (Rule.doneWith · (.sequence s.booth.nextSeq)) hact)
    have hbusy : v.link.transmitter ≠ .idle := by
      have hmoves := Rule.moves_activation ⟨w, [], false⟩ .test none named
      rw [hact] at hmoves
      exact fun hi => s.link.claimed_awake (hmoves.fed.idle hi).1
    obtain ⟨t, ht, hend, hslot, -⟩ := Rule.finish_request_unheeded (s.elapse dt) v (.dropTest form b) (.done (.sequence _)) l
      hs rfl hbusy hask ((hlen.trans hthree).trans (by decide)) fun y hy k l' t => by
        obtain ⟨q, rfl, hq⟩ := hmem y hy
        refine Rule.sees_portLeft_atRest _ q ((State.houseAtRest_congr (s := s) hhs _).2 ?_)
        rw [← portHouse_projPort, hhouse _ hq]
        exact hr
    have htpt (k : PortId) : t.pt k = if k ∈ named then (s.pt k).released s.booth.nextSeq (s.now + dt) else s.pt k :=
      (congrArg (fun b => b.cell k) hend.ports).trans (hpt k)
    refine ⟨t, ht, hslot, (hend.booth.trans hbooth).trans rfl, fun n hn hup hd => ?_, fun n hn hup hd => ?_, fun n hn => ?_,
      hend.transports.trans htr, hend.readers.trans hrd, hend.lamps.trans hlp, hend.houses.trans hhs, hend.lights.trans hlt⟩
    · rw [htpt, if_pos hn, Port.released, if_pos hup, if_neg (by simp [hd])]
    · rw [htpt, if_pos hn, Port.released, if_pos hup, if_pos hd]
    · rw [htpt, Port.released]
      by_cases hin : n ∈ named
      · rw [if_pos hin, if_neg fun hup => hn ⟨hin, hup⟩]
      · rw [if_neg hin]
  · let w := (s.elapse dt).setPt n { s.pt n with upSwitch := false }
    have hrun : exec (.upSwitchOpens dt n) s = (Rule.drop ⟨w, [], false⟩ .self (portProj n) [n]).finish :=
      congrArg Rule.finish (if_pos hst)
    have hpt : w.pt n = { s.pt n with upSwitch := false } := State.setPt_pt_same ..
    obtain ⟨hwbooth, hwpt⟩ := State.writeRecord_full (s := w) .self (portProj n) [n] hlog hlen
    obtain ⟨hklink, hktr, hkrd, hkds, hklp, hkhs, hklt, hknow, -⟩ := w.writeRecord_keeps .self (portProj n) [n]
    have hsettled : w.settled ⟨old.seq, false, false⟩ = b := by
      refine Bool.eq_iff_iff.2 (((w.settled_iff _).trans (forall_congr' fun k => ?_)).trans hb.symm)
      by_cases hk : k = n
      · subst hk
        simp [hpt, hst]
      · rw [show w.pt k = s.pt k from (s.elapse dt).setPt_pt_other _ hk]
    have hptn := hwpt n
    rw [hsettled, hpt] at hptn
    obtain ⟨t, ht, hbooth, htpt, hothers, hshut, hds, htr, hrd, hlp, hhs, hlt, hlink⟩ :=
      Rule.drop_self w _ n rfl (by rw [hptn]; exact hst) (by rw [hptn]; exact hd)
        ((State.houseAtRest_congr (s := s) hkhs _).2 hr)
    rw [hptn, hknow] at htpt
    refine ⟨t, hrun.trans ht, (hbooth.trans hwbooth).trans ?_, htpt, fun k hk => ?_, htr.trans hktr, hrd.trans hkrd,
      hlp.trans hklp, hhs.trans hkhs, hlt.trans hklt, hlink.trans hklink⟩
    · have hrec := w.dropRecord_self n (by rw [hpt]; exact hst)
      rw [hrec]
      rfl
    · refine ((hothers k hk).trans (hwpt k)).trans ?_
      rw [hsettled, show w.pt k = s.pt k from (s.elapse dt).setPt_pt_other _ hk]
      rfl

end Sys2Proof.Machine
end

section
/-! PROOFS. The reel plan: ADD REEL, CLEAR PROGRAM, and the arming and disarming of projectors. -/

namespace Sys2Proof.Machine

/-! ## A reader that discards, and a projector that is disarmed -/

/-- R21: from `s` to `t` the reader of `p` has taken state `x` and discarded what it held. -/
structure State.Discarded (s t : State) (p : Proj) (x : ReaderState) : Prop where
  rd : t.rd p = { s.rd p with state := x, group := none, held := [], queue := [] }
  rds : ∀ q, q ≠ p → t.rd q = s.rd q
  state : (t.lp p).state = (s.lp p).state
  account : (t.lp p).account = (s.lp p).account
  rate : (t.lp p).rate = (s.lp p).rate
  lps : ∀ q, q ≠ p → t.lp q = s.lp q
  marks : ∀ g, ∃ m, t.hs g = { s.hs g with marks := m }
  houses : ∀ g, g ≠ houseOf p → t.hs g = s.hs g
  transports : t.transports = s.transports
  dousers : t.dousers = s.dousers
  lights : t.lights = s.lights
  ports : t.ports = s.ports
  booth : t.booth = s.booth
  link : t.link = s.link
  now : t.now = s.now

/-- R104: the bad mark cleared, written out. -/
theorem State.clearBadMark_eq (s : State) (p : Proj) : ∃ m, s.clearBadMark p =
    s.setHs (houseOf p) { s.hs (houseOf p) with marks := m } := by
  unfold State.clearBadMark
  dsimp only
  split
  · exact ⟨_, rfl⟩
  · exact ⟨(s.hs (houseOf p)).marks, (s.setHs_self _).symm⟩

/-- R29, R61: an evaluation of a burst changes its lamp alone, and not its state, account or rate. -/
theorem State.evalBurst_eq (s : State) (p : Proj) : ∃ l : Lamp, s.evalBurst p = s.setLp p l ∧ l.state = (s.lp p).state ∧
    l.account = (s.lp p).account ∧ l.rate = (s.lp p).rate :=
  ⟨_, rfl, ((s.lp p).evaluate_aside ..).1, ((s.lp p).evaluate_keeps ..).2.1, ((s.lp p).evaluate_keeps ..).1⟩

theorem State.readerDiscards_discarded (s : State) (p : Proj) (x : ReaderState) : s.Discarded (s.readerDiscards p x) p x := by
  let w := s.setRd p { s.rd p with state := x, group := none, held := [], queue := [] }
  obtain ⟨m, hm⟩ := w.clearBadMark_eq p
  let v := w.setHs (houseOf p) { w.hs (houseOf p) with marks := m }
  have hhs (g : HouseId) : v.hs g = if g = houseOf p then { s.hs (houseOf p) with marks := m } else s.hs g := State.setHs_hs ..
  have hmarks (g : HouseId) : ∃ m, v.hs g = { s.hs g with marks := m } := by
    rw [hhs]
    split
    next hg => exact ⟨m, by rw [hg]⟩
    next => exact ⟨(s.hs g).marks, rfl⟩
  have hrd (q : Proj) : v.rd q = if q = p then { s.rd p with state := x, group := none, held := [], queue := [] } else s.rd q :=
    State.setRd_rd ..
  have hend : s.readerDiscards p x = if (s.rd p).assembling = true then v.evalBurst p else v := by
    unfold State.readerDiscards
    dsimp only
    rw [hm]
  rw [hend]
  split
  · obtain ⟨l, hl, hst, hacc, hrate⟩ := v.evalBurst_eq p
    have hlp (q : Proj) : (v.setLp p l).lp q = if q = p then l else s.lp q := State.setLp_lp ..
    rw [hl]
    exact ⟨(hrd p).trans (if_pos rfl), fun q hq => (hrd q).trans (if_neg hq), by rw [hlp, if_pos rfl]; exact hst,
      by rw [hlp, if_pos rfl]; exact hacc, by rw [hlp, if_pos rfl]; exact hrate, fun q hq => (hlp q).trans (if_neg hq), hmarks,
      fun g hg => (hhs g).trans (if_neg hg), rfl, rfl, rfl, rfl, rfl, rfl, rfl⟩
  · exact ⟨(hrd p).trans (if_pos rfl), fun q hq => (hrd q).trans (if_neg hq), rfl, rfl, rfl, fun q hq => rfl, hmarks,
      fun g hg => (hhs g).trans (if_neg hg), rfl, rfl, rfl, rfl, rfl, rfl, rfl⟩

/-- R91: the plan of house `g` when projector `p` gives up its entry. -/
def State.planGivenUp (s : State) (p : Proj) (g : HouseId) : List ReelEntry :=
  match (s.tr p).armed with
  | none => (s.hs g).plan
  | some a => if a.house = g then mapReel (s.hs g).plan a.reel (fun e => { e with status := e.status.given })
      else (s.hs g).plan

theorem State.giveUpEntry_hs (s : State) (p : Proj) (g : HouseId) :
    (s.giveUpEntry p).hs g = { s.hs g with plan := s.planGivenUp p g } := by
  unfold State.giveUpEntry State.planGivenUp
  cases (s.tr p).armed with
  | none => rfl
  | some a =>
    dsimp only
    rw [State.modReel, State.setHs_hs]
    by_cases hg : a.house = g
    · subst hg
      simp
    · rw [if_neg (Ne.symm hg), if_neg hg]

theorem State.giveUpEntry_eq (s : State) (p : Proj) : ∃ hs, s.giveUpEntry p = { s with houses := hs } := by
  unfold State.giveUpEntry
  split
  · exact ⟨s.houses, rfl⟩
  · exact ⟨_, rfl⟩

/-- R91: from `s` to `t` projector `p` has been disarmed. -/
structure State.Disarmed (s t : State) (p : Proj) : Prop where
  tr : t.tr p = { s.tr p with
    armed := none
    counter := 0
    state := if (s.tr p).state = .broken then .stopped else (s.tr p).state }
  trs : ∀ q, q ≠ p → t.tr q = s.tr q
  rd : t.rd p = { s.rd p with state := .off, group := none, held := [], queue := [] }
  rds : ∀ q, q ≠ p → t.rd q = s.rd q
  state : (t.lp p).state = (s.lp p).state
  account : (t.lp p).account = (s.lp p).account
  sufficiency : (t.lp p).sufficiency = none
  lps : ∀ q, q ≠ p → t.lp q = s.lp q
  plan : ∀ g, ∃ m, t.hs g = { s.hs g with plan := s.planGivenUp p g, marks := m }
  houses : ∀ g, g ≠ houseOf p → t.hs g = { s.hs g with plan := s.planGivenUp p g }
  dousers : t.dousers = s.dousers
  lights : t.lights = s.lights
  ports : t.ports = s.ports
  booth : t.booth = s.booth
  link : t.link = s.link

theorem Rule.disarm_cases (s : State) (l : List Signal) (t : Bool) (p : Proj) : ∃ u,
    Rule.disarm ⟨s, l, t⟩ p = ⟨u, l ++ (.readiness (houseOf p) :: if (s.tr p).state = .broken then [.transport p .stopped]
      else []), t⟩ ∧ s.Disarmed u p := by
  obtain ⟨hs, hgive⟩ := s.giveUpEntry_eq p
  let w := (s.giveUpEntry p).setTr p { s.tr p with
    armed := none
    counter := 0
    state := if (s.tr p).state = .broken then .stopped else (s.tr p).state }
  have htr (q : Proj) : w.tr q = if q = p then { s.tr p with
      armed := none
      counter := 0
      state := if (s.tr p).state = .broken then .stopped else (s.tr p).state } else s.tr q := by
    rw [State.setTr_tr, hgive]
    rfl
  have hwrd (q : Proj) : w.rd q = s.rd q := by rw [State.setTr_rd, hgive]; rfl
  have hwlp (q : Proj) : w.lp q = s.lp q := by rw [State.setTr_lp, hgive]; rfl
  have hwhs (g : HouseId) : w.hs g = { s.hs g with plan := s.planGivenUp p g } := s.giveUpEntry_hs p g
  obtain ⟨hrd, hrds, hst, hacc, -, hlps, hmarks, hhouses, htrs, hds, hlt, hpt, hb, hlink, -⟩ :=
    w.readerDiscards_discarded p .off
  have hw : w.dousers = s.dousers ∧ w.lights = s.lights ∧ w.ports = s.ports ∧ w.booth = s.booth ∧ w.link = s.link := by
    change (s.giveUpEntry p).dousers = _ ∧ (s.giveUpEntry p).lights = _ ∧ (s.giveUpEntry p).ports = _ ∧
      (s.giveUpEntry p).booth = _ ∧ (s.giveUpEntry p).link = _
    rw [hgive]
    exact ⟨rfl, rfl, rfl, rfl, rfl⟩
  obtain ⟨hwds, hwlt, hwpt, hwb, hwlink⟩ := hw
  have hlp (q : Proj) : ((w.readerDiscards p .off).setLp p { (w.readerDiscards p .off).lp p with sufficiency := none }).lp q =
      if q = p then { (w.readerDiscards p .off).lp p with sufficiency := none } else (w.readerDiscards p .off).lp q :=
    State.setLp_lp ..
  refine ⟨(w.readerDiscards p .off).setLp p { (w.readerDiscards p .off).lp p with sufficiency := none }, ?_, ?_⟩
  · unfold Rule.disarm
    dsimp only
    by_cases hbroken : (s.tr p).state = .broken
    · rw [if_pos hbroken, if_pos hbroken]
      simp only [Rule.emit, Rule.upd, List.append_assoc, hbroken, w, if_true, List.singleton_append]
    · rw [if_neg hbroken, if_neg hbroken]
      simp only [Rule.emit, Rule.upd, hbroken, w, if_false]
  · refine ⟨?_, fun q hq => ?_, ?_, fun q hq => ?_, ?_, ?_, ?_, fun q hq => ?_, fun g => ?_, fun g hg => ?_, hds.trans hwds,
      hlt.trans hwlt, hpt.trans hwpt, hb.trans hwb, hlink.trans hwlink⟩
    · exact (congrArg (fun b => b.cell p) htrs).trans ((htr p).trans (if_pos rfl))
    · exact (congrArg (fun b => b.cell q) htrs).trans ((htr q).trans (if_neg hq))
    · exact hrd.trans (by rw [hwrd])
    · exact (hrds q hq).trans (hwrd q)
    · rw [hlp, if_pos rfl]
      exact hst.trans (by rw [hwlp])
    · rw [hlp, if_pos rfl]
      exact hacc.trans (by rw [hwlp])
    · rw [hlp, if_pos rfl]
    · rw [hlp, if_neg hq]
      exact (hlps q hq).trans (hwlp q)
    · obtain ⟨m, hm⟩ := hmarks g
      exact ⟨m, hm.trans (by rw [hwhs])⟩
    · exact (hhouses g hg).trans (hwhs g)

/-! ## ADD REEL and CLEAR PROGRAM -/

/-- R86: the decision of an acceptable ADD REEL. -/
theorem Rule.decideAddReel_done (r : Rule) {b : Byte} {spec : ReelSpec} {h : HouseId} {e : ReelEntry}
    (hb : b.toNat = h.val + 1) (hst : (r.st.hs h).state = .idle ∨ (r.st.hs h).state = .ready) (he : entryOf spec = some e)
    (hroom : (r.st.hs h).plan.length < 12) (hplan : ∀ x ∈ (r.st.hs h).plan, x.reel ≠ e.reel ∧ x.last = false)
    (hgeo : e.geometry = true) : r.decideAddReel b spec =
      (r.upd (fun s => s.modHs h (fun x => x.addReel e))).doneWith (.entryCount ((r.st.hs h).plan.length + 1)) := by
  have hopen : ¬ ((r.st.hs h).state ≠ .idle ∧ (r.st.hs h).state ≠ .ready) := by
    rcases hst with hst | hst <;> simp [hst]
  have hnew : ¬ (findReel (r.st.hs h).plan e.reel).isSome = true := by
    rw [findReel, List.find?_isSome]
    rintro ⟨x, hx, heq⟩
    exact (hplan x hx).1 (of_decide_eq_true heq)
  have hlast : ¬ (r.st.hs h).plan.any (fun y => y.last) = true := by
    rw [List.any_eq_true]
    rintro ⟨x, hx, heq⟩
    simp [(hplan x hx).2] at heq
  have hcap : ¬ planCapacity ≤ (r.st.hs h).plan.length := Nat.not_le.2 hroom
  simp only [Rule.decideAddReel, houseOfNumber_of_toNat hb, hopen, he, hnew, hlast, hcap, hgeo, if_false, not_true_eq_false,
    Bool.false_eq_true]

/-- R87: from `s` to `u` projector `p` holds no entry any more; one that held none is left alone. -/
structure State.Cleared (s u : State) (p : Proj) : Prop where
  armed : (u.tr p).armed = none
  state : (u.tr p).state = (s.tr p).state
  emptied : (s.tr p).armed ≠ none → (u.tr p).counter = 0 ∧ (u.rd p).state = .off ∧ (u.rd p).queue = [] ∧
    (u.lp p).sufficiency = none
  others : ∀ q, q ≠ p → u.tr q = s.tr q ∧ u.rd q = s.rd q ∧ u.lp q = s.lp q
  hs : ∀ g, ∃ pl m, u.hs g = { s.hs g with plan := pl, marks := m }
  houses : (∀ a, (s.tr p).armed = some a → a.house = houseOf p) → ∀ g, g ≠ houseOf p → u.hs g = s.hs g
  dousers : u.dousers = s.dousers
  lights : u.lights = s.lights
  ports : u.ports = s.ports
  booth : u.booth = s.booth
  link : u.link = s.link

theorem Rule.disarmArmed_cases (s : State) (l : List Signal) (t : Bool) (p : Proj)
    (hst : (s.tr p).armed ≠ none → (s.tr p).state = .stopped) : ∃ u l', Rule.disarmArmed ⟨s, l, t⟩ p = ⟨u, l ++ l', t⟩ ∧
      l'.length ≤ 1 ∧ (∀ y ∈ l', y = .readiness (houseOf p)) ∧ s.Cleared u p := by
  unfold Rule.disarmArmed
  dsimp only
  cases ha : (s.tr p).armed with
  | none =>
    exact ⟨s, [], by simp, by simp, by simp, ha, rfl, fun h => absurd ha h, fun _ _ => ⟨rfl, rfl, rfl⟩,
      fun g => ⟨(s.hs g).plan, (s.hs g).marks, rfl⟩, fun _ _ _ => rfl, rfl, rfl, rfl, rfl, rfl⟩
  | some a =>
    have hstopped : (s.tr p).state = .stopped := hst (by simp [ha])
    obtain ⟨u, hu, htr, htrs, hrd, hrds, -, -, hsuff, hlps, hplan, hhouses, hds, hlt, hpt, hb, hlink⟩ :=
      Rule.disarm_cases s l t p
    rw [hstopped] at hu htr
    refine ⟨u, [.readiness (houseOf p)], hu, by simp, by simp, by rw [htr], by rw [htr, hstopped]; rfl, fun _ => ?_,
      fun q hq => ⟨htrs q hq, hrds q hq, hlps q hq⟩, fun g => ?_, fun hh g hg => ?_, hds, hlt, hpt, hb, hlink⟩
    · exact ⟨by rw [htr], by rw [hrd], by rw [hrd], hsuff⟩
    · obtain ⟨m, hm⟩ := hplan g
      exact ⟨_, m, hm⟩
    · have hsame : s.planGivenUp p g = (s.hs g).plan := by
        rw [State.planGivenUp, ha]
        exact if_neg fun he => hg (he.symm.trans (hh a ha))
      rw [hhouses g hg, hsame]

/-- R87: the decision of CLEAR PROGRAM. -/
theorem Rule.decideClearProgram_eq (r : Rule) {b : Byte} {h : HouseId} (hb : b.toNat = h.val + 1) :
    r.decideClearProgram b = if (r.st.hs h).state.inShow ∨ r.st.armedAndMoving (projAt h .a) ∨
        r.st.armedAndMoving (projAt h .b) then r.refuse .state
      else (((r.disarmArmed (projAt h .a)).disarmArmed (projAt h .b)).upd (fun s => s.modHs h (fun x =>
        { x with plan := [], state := .idle, holdReason := none, liveSide := none }))).done := by
  simp [Rule.decideClearProgram, houseOfNumber_of_toNat hb]

theorem State.armedAndMoving_iff (s : State) (p : Proj) :
    s.armedAndMoving p = true ↔ (s.tr p).armed ≠ none ∧ (s.tr p).state ≠ .stopped := by
  simp [State.armedAndMoving, Option.isSome_iff_ne_none]

/-- R87: the decision of an accepted CLEAR PROGRAM. -/
theorem Rule.decideClearProgram_done (s : State) {b : Byte} {h : HouseId} (hb : b.toNat = h.val + 1) (hr : s.houseAtRest h)
    (harmed : ∀ p, houseOf p = h → (s.tr p).armed ≠ none →
      (s.tr p).state = .stopped ∧ (s.tr p).armed.map (fun a => a.house) = some h) :
    ∃ u v l, Rule.decideClearProgram ⟨s, [], false⟩ b = ⟨.done .nothing, ⟨v.setHs h { v.hs h with
        plan := [], state := .idle, holdReason := none, liveSide := none }, l, false⟩⟩ ∧ l.length ≤ 2 ∧
      (∀ y ∈ l, y = .readiness h) ∧ s.Cleared u (projAt h .a) ∧ u.Cleared v (projAt h .b) := by
  have hha : houseOf (projAt h .a) = h := (houseOf_eq_iff _ h).2 (.inl rfl)
  have hhb : houseOf (projAt h .b) = h := (houseOf_eq_iff _ h).2 (.inr rfl)
  have hba : projAt h .b ≠ projAt h .a := (projAt_a_ne_b h).symm
  have hopen : ¬ ((s.hs h).state.inShow = true ∨ s.armedAndMoving (projAt h .a) = true ∨
      s.armedAndMoving (projAt h .b) = true) := by
    simp only [State.armedAndMoving_iff]
    rintro (h1 | ⟨h1, h2⟩ | ⟨h1, h2⟩)
    · simp [hr.1] at h1
    · exact h2 (harmed _ hha h1).1
    · exact h2 (harmed _ hhb h1).1
  obtain ⟨u, la, hu, hlena, hla, hcu⟩ := Rule.disarmArmed_cases s [] false (projAt h .a) fun ha => (harmed _ hha ha).1
  obtain ⟨v, lb, hv, hlenb, hlb, hcv⟩ := Rule.disarmArmed_cases u la false (projAt h .b) fun hb' => by
    rw [(hcu.others _ hba).1] at hb' ⊢
    exact (harmed _ hhb hb').1
  refine ⟨u, v, la ++ lb, ?_, ?_, fun y hy => ?_, hcu, hcv⟩
  · rw [Rule.decideClearProgram_eq _ hb, if_neg hopen, hu]
    rw [List.nil_append, hv]
    rfl
  · simp only [List.length_append]
    omega
  · rcases List.mem_append.1 hy with hy | hy
    · rw [hla y hy, hha]
    · rw [hlb y hy, hhb]

/-- R84, R86: the light cue of a well-formed entry, its target and fade clamped. -/
theorem cueOf_eq (c : CueSpec) : cueOf c = ⟨triggerOf c, min 1000 c.target.toNat, min 600 c.fade.toNat, false⟩ := by
  simp only [cueOf, clamp_zero]

/-- R86: the geometry of an entry whose expected frames lie on the reel, in their order. -/
theorem ReelEntry.geometry_of {e : ReelEntry} {m c : BitVec 16} (hm : e.motorFrame = optFrame m) (hc : e.changeFrame = optFrame c)
    (hmt : m.toNat ≤ e.tail) (hct : c.toNat ≤ e.tail) (hlt : m.toNat < c.toNat ∨ m.toNat = 0 ∨ c.toNat = 0) :
    e.geometry = true := by
  rw [ReelEntry.geometry, hm, hc]
  by_cases h0 : m.toNat = 0
  · simp [optFrame, h0, onReel]
    split <;> simp_all
  · by_cases h1 : c.toNat = 0
    · simp [optFrame, h0, h1, onReel, hmt]
    · have horder : m.toNat < c.toNat := by omega
      simp [optFrame, h0, h1, onReel, hmt, hct, horder]

/-- Settles O28, by the request, its refusals, and the two projectors of the house. -/
theorem planIsBuiltAndCleared : Obligations.PlanIsBuiltAndCleared := by
  refine ⟨fun s dt b e h sd hs hb hst hside hlo hhi hleader hpic hpic' hcues hroom hplan hmf hcf horder => ?_,
    fun s dt b h hs hb => ⟨fun hshow => ?_, fun ⟨p, hp, harmed, hmove⟩ => ?_, fun hr harmed => ?_⟩⟩
  · let x : ReelEntry :=
      { reel := e.reel.toNat
        side := sd
        leader := e.leader.toNat
        picture := e.picture.toNat
        motorFrame := optFrame e.motorFrame
        changeFrame := optFrame e.changeFrame
        last := e.last
        cues := e.cues.map cueOf
        status := .pending }
    have hsd : sideOfCode e.side = some sd := by
      cases sd <;> simp [sideOfCode, hside]
    have hx : entryOf e = some x := by
      simp only [entryOf, hsd]
      exact if_pos ⟨hlo, hhi, hleader, hpic, hpic'⟩
    have hgeo : x.geometry = true := ReelEntry.geometry_of rfl rfl hmf hcf horder
    have hadd : (s.hs h).addReel x = { s.hs h with state := .ready, plan := (s.hs h).plan ++ [x] } := by
      rcases hst with hst | hst <;> simp [House.addReel, hst]
    have hask := Rule.decideAddReel_done ⟨(s.elapse dt).setLink s.link.claimed, [], false⟩ hb hst hx hroom hplan hgeo
    have hend := Rule.finish_decided (s.elapse dt) ((s.elapse dt).setHs h ((s.hs h).addReel x)) (.addReel b e)
      (.done (.entryCount ((s.hs h).plan.length + 1))) [] hs (by simpa [Request.wf] using hcues) rfl hask (by simp) (by simp)
    rw [hadd] at hend
    refine hend.trans ?_
    have hcue : e.cues.map cueOf = e.cues.map (fun c =>
        { trigger := match c.trigger with
            | .start => .start
            | .tab => .tab
            | .frame => .frame c.frame.toNat
            | .ending => .ending
          target := min 1000 c.target.toNat
          fade := min 600 c.fade.toNat
          fired := false }) := by
      refine List.map_congr_left fun c _ => ?_
      rw [cueOf_eq]
      cases ht : c.trigger <;> simp [triggerOf, ht]
    simp only [x, hcue]
    rfl
  · refine Rule.finish_answered (s.elapse dt) (.clearProgram b) (.refused .state .nothing) hs rfl ?_
    exact (Rule.decideClearProgram_eq _ hb).trans (if_pos (.inl hshow))
  · refine Rule.finish_answered (s.elapse dt) (.clearProgram b) (.refused .state .nothing) hs rfl ?_
    have hmoving := (s.armedAndMoving_iff p).2 ⟨harmed, hmove⟩
    refine (Rule.decideClearProgram_eq _ hb).trans (if_pos (.inr ?_))
    rcases (houseOf_eq_iff p h).1 hp with rfl | rfl
    · exact .inl hmoving
    · exact .inr hmoving
  · let w := (s.elapse dt).setLink s.link.claimed
    obtain ⟨u, v, l, hdone, hlen, hmem, ⟨huarmed, hustate, huempt, huoth, huhs, huhouses, hud, hul, hup, hub, hulink⟩,
      ⟨hvarmed, hvstate, hvempt, hvoth, hvhs, hvhouses, hvd, hvl, hvp, hvb, hvlink⟩⟩ :=
      Rule.decideClearProgram_done w hb hr harmed
    have hha : houseOf (projAt h .a) = h := (houseOf_eq_iff _ h).2 (.inl rfl)
    have hhb : houseOf (projAt h .b) = h := (houseOf_eq_iff _ h).2 (.inr rfl)
    have hab := projAt_a_ne_b h
    have hhouse (p : Proj) (hp : houseOf p = h) (a : Armed) (ha : (s.tr p).armed = some a) : a.house = h := by
      have hmap := (harmed p hp (by simp [ha])).2
      rw [ha] at hmap
      exact Option.some.inj hmap
    obtain ⟨plu, mu, hu⟩ := huhs h
    obtain ⟨plv, mv, hv⟩ := hvhs h
    have hwv : v.hs h = { s.hs h with plan := plv, marks := mv } := by
      rw [hv, hu]
      rfl
    let x := v.setHs h { v.hs h with plan := [], state := .idle, holdReason := none, liveSide := none }
    have hxh : x.hs h = { s.hs h with plan := [], marks := mv, state := .idle, holdReason := none, liveSide := none } := by
      rw [State.setHs_hs, if_pos rfl, hwv]
    have hrest (k : Link) : (x.setLink k).houseAtRest h := by
      rw [State.houseAtRest, State.setLink_hs, hxh]
      exact ⟨rfl, hr.2⟩
    have hend := Rule.finish_asked_unheeded (s.elapse dt) x (.clearProgram b) (.done .nothing) l hs rfl
      (hvlink.trans hulink) hdone (hlen.trans (by decide)) fun y hy k l' t => by
        rw [hmem y hy]
        exact Rule.look_atRest _ h (hrest k)
    have hside (p : Proj) (hp : houseOf p = h) : (v.tr p).armed = none ∧ (v.tr p).state = (s.tr p).state ∧
        ((s.tr p).armed ≠ none → (v.tr p).counter = 0 ∧ (v.rd p).state = .off ∧ (v.rd p).queue = [] ∧
          (v.lp p).sufficiency = none) := by
      rcases (houseOf_eq_iff p h).1 hp with rfl | rfl
      · obtain ⟨htr, hrd, hlp⟩ := hvoth _ hab
        rw [htr, hrd, hlp]
        exact ⟨huarmed, hustate, huempt⟩
      · obtain ⟨htr, -, -⟩ := huoth _ hab.symm
        rw [htr] at hvstate hvempt
        exact ⟨hvarmed, hvstate, hvempt⟩
    refine ⟨_, hend, congrArg House.plan hxh, congrArg House.state hxh, congrArg House.holdReason hxh,
      congrArg House.liveSide hxh, (congrArg House.levels hxh).trans rfl, (congrArg House.speed hxh).trans rfl,
      (congrArg House.gate hxh).trans rfl,
      fun p hp => ⟨(hside p hp).1, (hside p hp).2.1⟩, fun p hp => (hside p hp).2.2, fun p hp => ?_, fun g hg => ?_,
      hvd.trans hud, hvl.trans hul, hvp.trans hup, hvb.trans hub, rfl⟩
    · have hpa : p ≠ projAt h .a := fun he => hp (he ▸ hha)
      have hpb : p ≠ projAt h .b := fun he => hp (he ▸ hhb)
      obtain ⟨h1, h2, h3⟩ := huoth p hpa
      obtain ⟨k1, k2, k3⟩ := hvoth p hpb
      exact ⟨k1.trans h1, k2.trans h2, k3.trans h3⟩
    · refine (State.setHs_hs ..).trans ((if_neg hg).trans ((hvhouses (fun a ha => ?_) g (by rwa [hhb])).trans
        (huhouses (fun a ha => ?_) g (by rwa [hha]))))
      · rw [(huoth _ hab.symm).1] at ha
        rw [hhb]
        exact hhouse _ hhb a ha
      · rw [hha]
        exact hhouse _ hha a ha

end Sys2Proof.Machine
end

section
/-! PROOFS. ARM REEL and UNARM. -/

namespace Sys2Proof.Machine

/-! ## UNARM -/

/-- R90: the decision of UNARM. -/
theorem Rule.decideUnarm_eq (r : Rule) {b : Byte} {p : Proj} (hb : b.toNat = p.val + 1) : r.decideUnarm b =
    if ((r.st.tr p).state ≠ .stopped ∧ (r.st.tr p).state ≠ .broken) ∨ r.st.holdsShowing p ∨ r.st.startedIncoming p then
      r.refuse .state
    else (r.disarm p).done := by
  simp [Rule.decideUnarm, projOf_of_toNat hb]

/-- R91: the plan without the entry of a projector that gives it up. -/
theorem State.planGivenUp_armed {s : State} {p : Proj} {a : Armed} (ha : (s.tr p).armed = some a) :
    s.planGivenUp p a.house = (s.hs a.house).plan.map (fun x =>
      if x.reel = a.reel then { x with status := if x.status = .armed then .pending else x.status } else x) := by
  rw [State.planGivenUp, ha]
  refine (if_pos rfl).trans (List.map_congr_left fun x _ => ?_)
  have hgiven : x.status.given = if x.status = .armed then .pending else x.status := by
    cases x.status <;> rfl
  dsimp only
  rw [hgiven]

/-! ## ARM REEL -/

/-- R88: the decision of an acceptable ARM REEL. -/
theorem Rule.decideArmReel_done (r : Rule) {b reel : Byte} {start : Option (BitVec 16)} {p : Proj} {e : ReelEntry} {n : Nat}
    (hb : b.toNat = p.val + 1) (ha : (r.st.tr p).armed = none) (hst : (r.st.tr p).state = .stopped)
    (hidle : (r.st.hs (houseOf p)).state ≠ .idle) (hf : findReel (r.st.hs (houseOf p)).plan reel.toNat = some e)
    (hpend : e.status = .pending ∨ e.status = .interrupted) (hside : e.side = sideOf p)
    (hn : n = (match start with | none => 0 | some w => w.toNat)) (hlt : n < e.tail) :
    r.decideArmReel b reel start = (r.arm (houseOf p) p e n).doneWith (.judged ((r.arm (houseOf p) p e n).st.lp p).sufficiency) := by
  have hfree : ¬ ((r.st.tr p).armed.isSome = true ∨ (r.st.tr p).state ≠ .stopped ∨ (r.st.hs (houseOf p)).state = .idle) := by
    simp [ha, hst, hidle]
  have hopen : ¬ ((e.status ≠ .pending ∧ e.status ≠ .interrupted) ∨ e.side ≠ sideOf p) := by
    rcases hpend with h | h <;> simp [h, hside]
  subst hn
  unfold Rule.decideArmReel
  rw [projOf_of_toNat hb]
  refine (if_neg hfree).trans ?_
  rw [hf]
  refine (if_neg hopen).trans ?_
  cases start <;> exact if_neg (Nat.not_le.2 hlt)

/-- R89: from `s` to `t` projector `p` has been ARMED with entry `e` at frame `n`; its lamp is not yet judged. -/
structure State.ArmedWith (s t : State) (p : Proj) (e : ReelEntry) (n : Nat) : Prop where
  tr : t.tr p = { s.tr p with armed := some ⟨houseOf p, e.reel, n⟩, counter := n }
  trs : ∀ q, q ≠ p → t.tr q = s.tr q
  rd : t.rd p = { s.rd p with state := huntOrWatch n e.leader, group := none, held := [], queue := [] }
  rds : ∀ q, q ≠ p → t.rd q = s.rd q
  state : (t.lp p).state = (s.lp p).state
  account : (t.lp p).account = (s.lp p).account
  rate : (t.lp p).rate = (s.lp p).rate
  carbonLow : (t.lp p).carbonLow = false
  lps : ∀ q, q ≠ p → t.lp q = s.lp q
  house : ∃ m, t.hs (houseOf p) = { s.hs (houseOf p) with
    plan := mapReel (s.hs (houseOf p)).plan e.reel ReelEntry.arm, marks := m }
  houses : ∀ g, g ≠ houseOf p → t.hs g = s.hs g
  dousers : t.dousers = s.dousers
  lights : t.lights = s.lights
  ports : t.ports = s.ports
  booth : t.booth = s.booth
  link : t.link = s.link

theorem State.arm_armedWith (s : State) (p : Proj) (e : ReelEntry) (n : Nat) :
    s.ArmedWith (s.arm (houseOf p) p e n) p e n := by
  let w := (s.modReel (houseOf p) e.reel ReelEntry.arm).setTr p { s.tr p with
    armed := some ⟨houseOf p, e.reel, n⟩, counter := n }
  have htr (q : Proj) : w.tr q = if q = p then { s.tr p with armed := some ⟨houseOf p, e.reel, n⟩, counter := n }
      else s.tr q := State.setTr_tr ..
  have hhs (g : HouseId) : w.hs g = if g = houseOf p then { s.hs (houseOf p) with
      plan := mapReel (s.hs (houseOf p)).plan e.reel ReelEntry.arm } else s.hs g := State.setHs_hs ..
  obtain ⟨hrd, hrds, hst, hacc, hrate, hlps, hmarks, hhouses, htrs, hds, hlt, hpt, hb, hlink, -⟩ :=
    w.readerDiscards_discarded p (huntOrWatch n e.leader)
  have hlp (q : Proj) : (s.arm (houseOf p) p e n).lp q = if q = p then
      { (w.readerDiscards p (huntOrWatch n e.leader)).lp p with carbonLow := false }
      else (w.readerDiscards p (huntOrWatch n e.leader)).lp q := State.setLp_lp ..
  have hhs' (g : HouseId) : (s.arm (houseOf p) p e n).hs g = (w.readerDiscards p (huntOrWatch n e.leader)).hs g := rfl
  refine ⟨?_, fun q hq => ?_, hrd, hrds, ?_, ?_, ?_, ?_, fun q hq => ?_, ?_, fun g hg => ?_, hds, hlt, hpt, hb, hlink⟩
  · exact (congrArg (fun b => b.cell p) htrs).trans ((htr p).trans (if_pos rfl))
  · exact (congrArg (fun b => b.cell q) htrs).trans ((htr q).trans (if_neg hq))
  · rw [hlp, if_pos rfl]
    exact hst
  · rw [hlp, if_pos rfl]
    exact hacc
  · rw [hlp, if_pos rfl]
    exact hrate
  · rw [hlp, if_pos rfl]
  · rw [hlp, if_neg hq]
    exact hlps q hq
  · obtain ⟨m, hm⟩ := hmarks (houseOf p)
    refine ⟨m, (hhs' _).trans (hm.trans ?_)⟩
    rw [hhs, if_pos rfl]
  · exact (hhs' g).trans ((hhouses g hg).trans ((hhs g).trans (if_neg hg)))

/-- R89: what is judged at an ARM REEL is the entry that the projector now holds. -/
theorem State.ArmedWith.heldEntry {s t : State} {p : Proj} {e : ReelEntry} {n : Nat} (h : s.ArmedWith t p e n)
    (hf : findReel (s.hs (houseOf p)).plan e.reel = some e) : t.heldEntry p = some e.arm := by
  obtain ⟨m, hm⟩ := h.house
  unfold State.heldEntry
  rw [h.tr]
  dsimp only
  rw [hm]
  dsimp only
  rw [findReel_mapReel _ _ _ ReelEntry.arm fun _ => rfl, hf, Option.map_some, if_pos rfl]

/-- R88: a house at rest is at rest with a projector of it ARMED. -/
theorem State.ArmedWith.houseAtRest {s t : State} {p : Proj} {e : ReelEntry} {n : Nat} (h : s.ArmedWith t p e n)
    (hr : s.houseAtRest (houseOf p)) : t.houseAtRest (houseOf p) := by
  obtain ⟨m, hm⟩ := h.house
  rw [State.houseAtRest, hm]
  exact hr

/-- R81: CARBON SHORT of a short lamp alone. -/
theorem State.carbonShort_eq {s : State} {p : Proj} {x : Sufficiency} (reel : Nat) (hx : (s.lp p).sufficiency = some x) :
    s.carbonShort p reel = s.setLink (if x.sufficient then s.link
      else s.link.enqueue (projNumber p) (.carbonShort reel (s.lp p).account x.need x.frames (s.lp p).rate)) := by
  rw [State.carbonShort, hx]
  dsimp only
  split <;> rfl

/-- R89: an accepted ARM REEL arms the projector, judges its lamp, queues CARBON SHORT where that is short, and tells the
house. -/
theorem Rule.arm_cases (s : State) (p : Proj) (e : ReelEntry) (n : Nat)
    (hf : findReel (s.hs (houseOf p)).plan e.reel = some e) : ∃ u x l, s.ArmedWith u p e n ∧
      (u.judged p).sufficiencyOf p = some x ∧ l.length ≤ 2 ∧ (∀ y ∈ l, y = Signal.readiness (houseOf p)) ∧
      Rule.arm ⟨s, [], false⟩ (houseOf p) p e n = ⟨(u.judged p).setLink (if x.sufficient then s.link
        else s.link.enqueue (projNumber p) (.carbonShort e.reel (s.lp p).account x.need x.frames (s.lp p).rate)), l, false⟩ := by
  have hu := s.arm_armedWith p e n
  obtain ⟨l, hl, he⟩ := Rule.evalSufficiency_cases (s.arm (houseOf p) p e n) [] false p
  obtain ⟨x, hx⟩ : ∃ x, (s.arm (houseOf p) p e n).sufficiencyOf p = some x := by
    rw [State.sufficiencyOf_eq_map, hu.heldEntry hf]
    exact ⟨_, rfl⟩
  have hsuf : (((s.arm (houseOf p) p e n).judged p).lp p).sufficiency = some x := by
    rw [State.judged_lp, if_pos rfl]
    exact hx
  refine ⟨_, x, l ++ [.readiness (houseOf p)], hu, (State.sufficiencyOf_judged ..).trans hx, ?_, fun y hy => ?_, ?_⟩
  · rcases hl with rfl | rfl <;> simp
  · rcases hl with rfl | rfl <;> simpa using hy
  · unfold Rule.arm
    refine (congrArg (fun r : Rule => (r.upd (fun s => s.carbonShort p e.reel)).emit (.readiness (houseOf p))) he).trans ?_
    simp only [Rule.upd, Rule.emit, List.nil_append, State.carbonShort_eq _ hsuf, State.judged_lp, if_true, hu.account,
      hu.rate]
    rw [show ((s.arm (houseOf p) p e n).judged p).link = s.link from hu.link]

/-- R79: a judgement reads the transports, the lamps and the houses alone. -/
theorem State.sufficiencyOf_congr {s t : State} (ht : t.transports = s.transports) (hl : t.lamps = s.lamps)
    (hh : t.houses = s.houses) (p : Proj) : t.sufficiencyOf p = s.sufficiencyOf p := by
  simp only [State.sufficiencyOf, State.heldEntry, State.speedOf, State.tr, State.lp, State.hs, ht, hl, hh]
  rfl

theorem findReel_reel {plan : List ReelEntry} {n : Nat} {e : ReelEntry} (h : findReel plan n = some e) : e.reel = n := by
  simpa using List.find?_some h

/-- Settles O29, by what arming and disarming leave. -/
theorem reelsAreArmedAndUnarmed : Obligations.ReelsAreArmedAndUnarmed := by
  refine ⟨fun s dt b reel start p e n x hs hb hr hidle harmed hst hf hpend hside hn hlt => ?_,
    fun s dt b p a e hs hb => ⟨fun hmove => ?_, fun he hshow => ?_, fun hst hr hheld => ?_⟩⟩
  · let w := (s.elapse dt).setLink s.link.claimed
    have hreel : e.reel = reel.toNat := findReel_reel hf
    obtain ⟨u, y, l, hu, hy, hl, hmem, harm⟩ := Rule.arm_cases w p e n (by rw [hreel]; exact hf)
    let v := (u.judged p).setLink (if y.sufficient then w.link
      else w.link.enqueue (projNumber p) (.carbonShort e.reel (w.lp p).account y.need y.frames (w.lp p).rate))
    have hlp (q : Proj) : v.lp q = if q = p then { u.lp q with sufficiency := u.sufficiencyOf q } else u.lp q :=
      State.judged_lp ..
    have hjudged : (v.lp p).sufficiency = some y := by
      rw [hlp, if_pos rfl]
      exact (State.sufficiencyOf_judged ..).symm.trans hy
    have hask : Rule.ask ⟨w, [], false⟩ (.armReel b reel start) = ⟨.done (.judged (some y)), ⟨v, l, false⟩⟩ := by
      refine (Rule.decideArmReel_done _ hb harmed hst hidle hf hpend hside hn hlt).trans ?_
      rw [harm, ← hjudged]
      rfl
    have hbusy : v.link.transmitter ≠ .idle := by
      change (if y.sufficient then w.link else w.link.enqueue _ _).transmitter ≠ _
      split
      · exact s.link.claimed_awake
      · exact fun hi => s.link.claimed_awake ((s.link.claimed.enqueue_fed _ _).idle hi).1
    have hrest : u.houseAtRest (houseOf p) := hu.houseAtRest hr
    obtain ⟨t, ht, ⟨htr, hrd, hds, hlamps, hhs, hlt', hpt, hbo, -⟩, hslot, hreplied, hsending⟩ :=
      Rule.finish_request_unheeded (s.elapse dt) v (.armReel b reel start) (.done (.judged (some y))) l hs rfl hbusy hask
        (hl.trans (by decide)) fun z hz k l' t => by
          rw [hmem z hz]
          exact Rule.look_atRest _ _ hrest
    obtain ⟨m, hm⟩ := hu.house
    have htlp (q : Proj) : t.lp q = if q = p then { u.lp q with sufficiency := u.sufficiencyOf q } else u.lp q :=
      (congrArg (fun b => b.cell q) hlamps).trans (hlp q)
    have hts : (t.lp p).sufficiency = some y := by
      rw [htlp, ← hlp]
      exact hjudged
    have hthouse (g : HouseId) : t.hs g = u.hs g := congrArg (fun b => b.cell g) hhs
    have hsuf : t.sufficiencyOf p = some y := by
      rw [← hy]
      exact State.sufficiencyOf_congr htr hlamps hhs p
    refine ⟨t, ht, (congrArg (fun b => b.cell p) htr).trans hu.tr, (congrArg (fun b => b.cell p) hrd).trans hu.rd, ?_,
      hts.trans hsuf.symm, by simp [hts], ?_, ?_, ?_, ?_, ?_, fun hx hbig => ?_, fun hx hshort hsend => ?_,
      fun q hq => ⟨(congrArg (fun b => b.cell q) htr).trans (hu.trs q hq),
        (congrArg (fun b => b.cell q) hrd).trans (hu.rds q hq), ?_⟩,
      fun g hg => (hthouse g).trans (hu.houses g hg), hds.trans hu.dousers, hlt'.trans hu.lights, hpt.trans hu.ports,
      hbo.trans hu.booth⟩
    · rw [htlp, if_pos rfl]
      exact hu.carbonLow
    · rw [htlp, if_pos rfl]
      exact hu.account
    · rw [htlp, if_pos rfl]
      exact hu.state
    · rw [hthouse, hm]
      rfl
    · rw [hthouse, hm]
      rfl
    · rw [hts]
      exact hslot
    · obtain rfl : y = x := Option.some.inj (hts.symm.trans hx)
      exact hreplied (if_pos hbig)
    · obtain rfl : y = x := Option.some.inj (hts.symm.trans hx)
      refine (hsending hsend).trans ?_
      have hclaimed : w.link = s.link := Link.claimed_busy hsend
      have hv : v.link = w.link.enqueue (projNumber p)
          (.carbonShort e.reel (w.lp p).account y.need y.frames (w.lp p).rate) := if_neg (by simp [hshort])
      rw [hv, hclaimed]
      rfl
    · rw [htlp, if_neg hq]
      exact hu.lps q hq
  · refine Rule.finish_answered (s.elapse dt) (.unarm b) (.refused .state .nothing) hs rfl ?_
    refine (Rule.decideUnarm_eq _ hb).trans (if_pos (.inl ?_))
    change (s.tr p).state ≠ _ ∧ (s.tr p).state ≠ _
    rcases hmove with h | h | h <;> simp [h]
  · refine Rule.finish_answered (s.elapse dt) (.unarm b) (.refused .state .nothing) hs rfl ?_
    refine (Rule.decideUnarm_eq _ hb).trans (if_pos (.inr (.inl ?_)))
    change s.holdsShowing p = true
    simp [State.holdsShowing, he, hshow]
  · let w := (s.elapse dt).setLink s.link.claimed
    have hmay : ¬ (((s.tr p).state ≠ .stopped ∧ (s.tr p).state ≠ .broken) ∨ s.holdsShowing p ∨ s.startedIncoming p) := by
      have hhold : s.holdsShowing p = false := by
        rcases hheld with h | ⟨h, hne⟩ <;> simp [State.holdsShowing, h]
        exact hne
      have hinc : s.startedIncoming p = false := by simp [State.startedIncoming, hr.1.2.1]
      rcases hst with h | h <;> simp [h, hhold, hinc]
    obtain ⟨u, hdis, hu⟩ := Rule.disarm_cases w [] false p
    have hask : Rule.ask ⟨w, [], false⟩ (.unarm b) = (Rule.disarm ⟨w, [], false⟩ p).done :=
      (Rule.decideUnarm_eq _ hb).trans (if_neg hmay)
    rw [hdis] at hask
    have hplan := hu.plan
    have hrest : u.atRest p := by
      obtain ⟨m, hm⟩ := hu.plan (houseOf p)
      refine ⟨?_, ?_⟩
      · rw [State.houseAtRest, hm]
        exact hr.1
      · rw [State.ds, hu.dousers]
        exact hr.2
    have hend := Rule.finish_asked_quiet (s.elapse dt) u (.unarm b) (.done .nothing) _ hs rfl hu.link hask
      (by split <;> simp [settleBound]) fun y hy => by
        split at hy <;> simp at hy
        · rcases hy with rfl | rfl
          · exact hrest.1
          · exact hrest
        · exact hy ▸ hrest.1
    refine ⟨_, hend, ?_, hu.rd, hu.sufficiency, hu.state, hu.account, fun ha => ?_, fun q hq => ⟨hu.trs q hq, hu.rds q hq, hu.lps q hq⟩,
      hu.dousers, hu.lights, hu.ports, hu.booth, rfl⟩
    · refine hu.tr.trans ?_
      change { s.tr p with armed := none, counter := 0, state := if (s.tr p).state = TransportState.broken then TransportState.stopped else (s.tr p).state } = _
      rcases hst with h | h <;> simp [h]
    · obtain ⟨m, hm⟩ := hu.plan a.house
      exact (congrArg House.plan hm).trans (State.planGivenUp_armed (s := w) ha)

end Sys2Proof.Machine
end

section
/-! PROOFS. START: the next reel of a house whose projector is READY, and its refusals. -/

namespace Sys2Proof.Machine

/-! ## A motor start -/

/-- R3: from `s` to `t` the motor of projector `p` has been started, its reader has taken up its state, and a trial of its douser
has ended. -/
structure State.MotorOn (s t : State) (p : Proj) : Prop where
  tr : t.tr p = (s.tr p).started s.now
  trs : ∀ q, q ≠ p → t.tr q = s.tr q
  queue : (t.rd p).queue = (s.rd p).queue
  rds : ∀ q, q ≠ p → t.rd q = s.rd q
  dousers : ∀ q, q ≠ p → t.ds q = s.ds q
  lamps : t.lamps = s.lamps
  houses : t.houses = s.houses
  lights : t.lights = s.lights
  ports : t.ports = s.ports
  booth : t.booth = s.booth
  now : t.now = s.now
  fed : s.link.Fed t.link
  untried : (s.ds p).trial = none → t.dousers = s.dousers ∧ t.link = s.link

/-- R46, R47: the end of a trial leaves the other dousers. -/
theorem State.endTrial_ds_other (s : State) {p q : Proj} (o : TrialOutcome) (h : q ≠ p) :
    (s.endTrial p o).ds q = s.ds q := by
  rcases s.endTrial_cases p o with ⟨-, he⟩ | ⟨n, b, he⟩ <;> rw [he]
  refine (((State.byLamp_gatingWatch _ p).others q h).2).trans ((State.setDs_ds ..).trans (if_neg h))

/-- R22: what the reader takes up as a motor starts. -/
theorem State.readerStarts_cases (s : State) (p : Proj) : ∃ d, s.readerStarts p = s.setRd p d ∧
    d.queue = (s.rd p).queue ∧ (s.readerStarts p).rd p = d := by
  unfold State.readerStarts
  split
  · exact ⟨s.rd p, (s.setRd_self p).symm, rfl, rfl⟩
  · exact ⟨_, rfl, rfl, by simp⟩

/-- R3: the motor start of a STOPPED transport. -/
theorem Rule.motorStart_cases (s : State) (l : List Signal) (t : Bool) (p : Proj) (hs : (s.tr p).state = .stopped) :
    ∃ u, Rule.motorStart ⟨s, l, t⟩ p = ⟨u, l ++ [.transport p .starting], t⟩ ∧ s.MotorOn u p := by
  let w := s.setTr p ((s.tr p).started s.now)
  obtain ⟨htr, hrd, hlp, hhs, hlt, hpt, hb, hnow, -⟩ := w.endTrial_keeps p .motor
  obtain ⟨d, hstart, hqueue, hd⟩ := (w.endTrial p .motor).readerStarts_cases p
  refine ⟨(w.endTrial p .motor).readerStarts p, ?_, ?_⟩
  · unfold Rule.motorStart
    exact if_pos hs
  · have hw (q : Proj) : w.tr q = if q = p then (s.tr p).started s.now else s.tr q := State.setTr_tr ..
    have htr' (q : Proj) : ((w.endTrial p .motor).readerStarts p).tr q = w.tr q := by
      rw [hstart, State.setRd_tr]
      exact congrArg (fun b => b.cell q) htr
    have hrd' (q : Proj) (hq : q ≠ p) : ((w.endTrial p .motor).readerStarts p).rd q = s.rd q := by
      rw [hstart, State.setRd_rd, if_neg hq]
      exact congrArg (fun b => b.cell q) hrd
    have hdq : d.queue = (s.rd p).queue := hqueue.trans (congrArg (fun b => (b.cell p).queue) hrd)
    refine ⟨(htr' p).trans ((hw p).trans (if_pos rfl)), fun q hq => (htr' q).trans ((hw q).trans (if_neg hq)),
      (congrArg Reader.queue hd).trans hdq, hrd', fun q hq => ?_, ?_, ?_, ?_, ?_, ?_, ?_, ?_, fun hnone => ?_⟩
    · rw [hstart]
      exact w.endTrial_ds_other .motor hq
    all_goals rw [hstart]
    · exact hlp
    · exact hhs
    · exact hlt
    · exact hpt
    · exact hb
    · exact hnow
    · exact w.endTrial_fed p .motor
    · have hend : w.endTrial p .motor = w := by
        rcases w.endTrial_cases p .motor with ⟨-, h⟩ | ⟨n, b, h⟩
        · exact h
        · have hwt : (w.ds p).trial = none := hnone
          simp [State.endTrial, hwt]
      rw [hend]
      exact ⟨rfl, rfl⟩

/-! ## START -/

/-- R94: the house of a show that starts on side `sd`. -/
def House.starting (x : House) (sd : Side) : House :=
  { x with holdReason := none, dark := false, startingSide := some sd, state := .starting }

/-- R94: the decision of START where a next entry stands in the plan of a READY or held house. -/
theorem Rule.decideStart_next (r : Rule) {b : Byte} {h : HouseId} {e : ReelEntry} (hb : b.toNat = h.val + 1)
    (hst : (r.st.hs h).state = .ready ∨ (r.st.hs h).state = .hold) (he : nextEntry (r.st.hs h).plan = some e) :
    r.decideStart b = if r.st.startFailures h e = ReadyFailures.none then (r.startShow h e).done
      else r.refuseWith .notReady (.notReady (some e.reel) (r.st.startFailures h e)) := by
  have hmay : ¬ ((r.st.hs h).state ≠ .ready ∧ (r.st.hs h).state ≠ .hold) := by
    rcases hst with h | h <;> simp [h]
  unfold Rule.decideStart
  rw [houseOfNumber_of_toNat hb]
  refine (if_neg hmay).trans ?_
  rw [he]

/-- R94: with every entry DONE nothing can be started. -/
theorem Rule.decideStart_finished (r : Rule) {b : Byte} {h : HouseId} (hb : b.toNat = h.val + 1)
    (hst : (r.st.hs h).state = .ready ∨ (r.st.hs h).state = .hold) (he : ∀ x ∈ (r.st.hs h).plan, x.status = .finished) :
    r.decideStart b = r.refuseWith .notReady (.notReady none ReadyFailures.none) := by
  have hmay : ¬ ((r.st.hs h).state ≠ .ready ∧ (r.st.hs h).state ≠ .hold) := by
    rcases hst with h | h <;> simp [h]
  have hnext : nextEntry (r.st.hs h).plan = none := List.find?_eq_none.2 fun x hx => by simp [he x hx]
  unfold Rule.decideStart
  rw [houseOfNumber_of_toNat hb]
  refine (if_neg hmay).trans ?_
  rw [hnext]

theorem Rule.decideStart_state (r : Rule) {b : Byte} {h : HouseId} (hb : b.toNat = h.val + 1)
    (hr : (r.st.hs h).state ≠ .ready) (hh : (r.st.hs h).state ≠ .hold) : r.decideStart b = r.refuse .state := by
  unfold Rule.decideStart
  rw [houseOfNumber_of_toNat hb]
  exact if_pos ⟨hr, hh⟩

theorem State.isSufficient_iff (s : State) (p : Proj) :
    s.isSufficient p = true ↔ (s.lp p).sufficiency.map (fun x => x.sufficient) = some true := by
  unfold State.isSufficient
  cases (s.lp p).sufficiency <;> simp

/-- R94: the conditions of a start that fail are those that NOT READY names. -/
theorem State.startFailures_eq (s : State) (h : HouseId) (e : ReelEntry) (f : ReadyFailures) {p : Proj} (hp : p = projAt h e.side)
    (h1 : f.entryArmed = false ↔ e.status = .armed ∧ (s.tr p).armed.map (fun a => (a.house, a.reel)) = some (h, e.reel))
    (h2 : f.stopped = false ↔ (s.tr p).state = .stopped) (h3 : f.burning = false ↔ (s.lp p).state = .burning)
    (h4 : f.sufficient = false ↔ (s.lp p).sufficiency.map (fun x => x.sufficient) = some true)
    (h5 : f.portHeld = false ↔ (s.pt (projPort p)).state = .held)
    (h6 : f.douserClosed = false ↔ (s.ds p).state = .closed) : s.startFailures h e = f := by
  subst hp
  rw [← State.isSufficient_iff] at h4
  have heq (b c : Bool) (P : Prop) (hb : b = false ↔ P) (hc : c = false ↔ P) : b = c := by
    cases b <;> cases c <;> simp_all
  obtain ⟨a1, a2, a3, a4, a5, a6⟩ := f
  dsimp only at h1 h2 h3 h4 h5 h6
  unfold State.startFailures State.readyFailures
  dsimp only
  congr 1
  · exact heq _ _ _ (by simp [and_comm]) h1
  · exact heq _ _ _ (by simp) h2
  · exact heq _ _ _ (by simp) h3
  · exact heq _ _ _ (by simp) h4
  · exact heq _ _ _ (by simp) h5
  · exact heq _ _ _ (by simp) h6

/-- R47, R94: an accepted START makes the house STARTING, ends the trials of its dousers, and starts the motor. -/
theorem Rule.startShow_cases (s : State) (h : HouseId) (e : ReelEntry)
    (hs : (s.tr (projAt h e.side)).state = .stopped) : ∃ v u,
    Rule.startShow ⟨s, [], false⟩ h e = ⟨u, [.transport (projAt h e.side) .starting], false⟩ ∧
      v = ((s.setHs h ((s.hs h).starting e.side)).endTrial (projAt h .a) .house).endTrial (projAt h .b) .house ∧
      v.MotorOn u (projAt h e.side) := by
  let v := ((s.setHs h ((s.hs h).starting e.side)).endTrial (projAt h .a) .house).endTrial (projAt h .b) .house
  have hstop : (v.tr (projAt h e.side)).state = .stopped := by
    have hv : v.transports = s.transports := (State.endTrial_keeps ..).1.trans (State.endTrial_keeps ..).1
    rwa [State.tr, hv]
  obtain ⟨u, hstart, hu⟩ := Rule.motorStart_cases v [] false _ hstop
  exact ⟨v, u, hstart, rfl, hu⟩

/-- Settles O30, by what START does with the next entry. -/
theorem startStartsTheNextReel : Obligations.StartStartsTheNextReel := by
  refine ⟨fun s dt b h e hs hb => ⟨fun hr hh => ?_, fun hst he harm hheld htr hlp hsuf hpt hds => ?_⟩,
    fun s dt b h e p f hs hb hst => ⟨fun hfin => ?_, fun he hp h1 h2 h3 h4 h5 h6 hf => ?_⟩⟩
  · exact Rule.finish_answered (s.elapse dt) (.start b) (.refused .state .nothing) hs rfl
      (Rule.decideStart_state _ hb hr hh)
  · let w := (s.elapse dt).setLink s.link.claimed
    have hnone : w.startFailures h e = ReadyFailures.none :=
      w.startFailures_eq h e ReadyFailures.none rfl ⟨fun _ => ⟨harm, hheld⟩, fun _ => rfl⟩ ⟨fun _ => htr, fun _ => rfl⟩
        ⟨fun _ => hlp, fun _ => rfl⟩ ⟨fun _ => hsuf, fun _ => rfl⟩ ⟨fun _ => hpt, fun _ => rfl⟩ ⟨fun _ => hds, fun _ => rfl⟩
    obtain ⟨v, u, hshow, hv, hu⟩ := Rule.startShow_cases w h e htr
    have hask : Rule.ask ⟨w, [], false⟩ (.start b) =
        ⟨.done .nothing, ⟨u, [.transport (projAt h e.side) .starting], false⟩⟩ :=
      (Rule.decideStart_next ⟨w, [], false⟩ hb hst he).trans ((if_pos hnone).trans (congrArg Rule.done hshow))
    let x := w.setHs h ((s.hs h).starting e.side)
    obtain ⟨atr, ard, alp, ahs, alt, apt, ab, anow, -⟩ := x.endTrial_keeps (projAt h .a) .house
    obtain ⟨btr, brd, blp, bhs, blt, bpt, bb, bnow, -⟩ := (x.endTrial (projAt h .a) .house).endTrial_keeps (projAt h .b) .house
    have hvds (q : Proj) (hq : houseOf q ≠ h) : v.ds q = s.ds q := by
      rw [hv]
      refine (State.endTrial_ds_other _ _ fun hqp => hq ?_).trans (State.endTrial_ds_other x _ fun hqp => hq ?_)
      · exact (houseOf_eq_iff q h).2 (.inr hqp)
      · exact (houseOf_eq_iff q h).2 (.inl hqp)
    have hbusy : u.link.transmitter ≠ .idle := fun hidle => by
      have hvl := (hu.fed.idle hidle).1
      rw [hv] at hvl
      exact s.link.claimed_awake ((x.endTrial_fed _ .house).idle ((State.endTrial_fed _ _ .house).idle hvl).1).1
    rw [← show v = (x.endTrial (projAt h .a) .house).endTrial (projAt h .b) .house from hv] at btr brd blp bhs blt bpt bb bnow
    obtain ⟨t, ht, ⟨ttr, trd, tds, tlp, ths, tlt, tpt, tb, -⟩, hslot, -⟩ := Rule.finish_request_unheeded (s.elapse dt) u (.start b)
      (.done .nothing) _ hs rfl hbusy hask (by simp [settleBound]) fun y hy k l t => by
        obtain rfl := List.mem_singleton.1 hy
        rfl
    have hxhs (g : HouseId) : x.hs g = if g = h then (s.hs h).starting e.side else s.hs g := State.setHs_hs ..
    have hhs (g : HouseId) : t.hs g = x.hs g :=
      congrArg (fun b => b.cell g) (ths.trans (hu.houses.trans (bhs.trans ahs)))
    have hvtr (q : Proj) : v.tr q = s.tr q := congrArg (fun b => b.cell q) (btr.trans atr)
    have hvrd (q : Proj) : v.rd q = s.rd q := congrArg (fun b => b.cell q) (brd.trans ard)
    refine ⟨t, ht, (hhs h).trans ((hxhs h).trans (if_pos rfl)), ?_, fun q hq => ⟨?_, ?_⟩, fun g hg =>
      (hhs g).trans ((hxhs g).trans (if_neg hg)), fun q hq => ?_, tlp.trans (hu.lamps.trans (blp.trans alp)),
      tlt.trans (hu.lights.trans (blt.trans alt)), tpt.trans (hu.ports.trans (bpt.trans apt)),
      tb.trans (hu.booth.trans (bb.trans ab)), hslot⟩
    · refine (congrArg (fun b => b.cell (projAt h e.side)) ttr).trans (hu.tr.trans ?_)
      rw [hvtr, bnow.trans anow]
      rfl
    · exact (congrArg (fun b => b.cell q) ttr).trans ((hu.trs q hq).trans (hvtr q))
    · exact (congrArg (fun b => b.cell q) trd).trans ((hu.rds q hq).trans (hvrd q))
    · refine (congrArg (fun b => b.cell q) tds).trans ((hu.dousers q fun hqp => hq ?_).trans (hvds q hq))
      rw [hqp]
      cases hsd : e.side
      · exact (houseOf_eq_iff _ h).2 (.inl rfl)
      · exact (houseOf_eq_iff _ h).2 (.inr rfl)
  · exact Rule.finish_answered (s.elapse dt) (.start b) (.refused .notReady (.notReady none ReadyFailures.none)) hs rfl
      (Rule.decideStart_finished _ hb hst hfin)
  · have hfail := ((s.elapse dt).setLink s.link.claimed).startFailures_eq h e f hp h1 h2 h3 h4 h5 h6
    refine Rule.finish_answered (s.elapse dt) (.start b) (.refused .notReady (.notReady (some e.reel) f)) hs rfl ?_
    refine (Rule.decideStart_next ⟨(s.elapse dt).setLink s.link.claimed, [], false⟩ hb hst he).trans ?_
    change (if ((s.elapse dt).setLink s.link.claimed).startFailures h e = _ then _ else
      Rule.refuseWith _ _ (.notReady _ (((s.elapse dt).setLink s.link.claimed).startFailures h e))) = _
    rw [hfail]
    exact if_neg hf

end Sys2Proof.Machine
end

section
/-! PROOFS. RESTART: its refusal, and every block at its restart values. -/

namespace Sys2Proof.Machine

/-! ## A bank put cell by cell -/

/-- A step over a list puts each cell of a bank, by what does not depend on the other cells. -/
theorem State.each_put {α β : Type} [DecidableEq α] (get : State → α → β) (put : State → α → β → State) (g : State → α → β)
    (hget : ∀ s a b x, get (put s a x) b = if b = a then x else get s b)
    (hg : ∀ s a b x, b ≠ a → g (put s a x) b = g s b) (l : List α) (hl : l.Nodup) (s : State) (b : α) :
    get (s.each (fun s a => put s a (g s a)) l) b = if b ∈ l then g s b else get s b := by
  induction l generalizing s with
  | nil => rfl
  | cons a rest ih =>
    obtain ⟨hfresh, hrest⟩ := List.nodup_cons.1 hl
    refine (ih hrest (put s a (g s a))).trans ?_
    by_cases hba : b = a
    · subst hba
      rw [if_neg hfresh, if_pos List.mem_cons_self, hget, if_pos rfl]
    · rw [hget, if_neg hba, hg s a b _ hba]
      simp [hba]

/-- A step over a list, under what it keeps, is the step that it is there. -/
theorem State.each_congr {α : Type} {f g : State → α → State} (P : State → Prop)
    (hfg : ∀ s a, P s → f s a = g s a ∧ P (g s a)) (l : List α) {s : State} (hs : P s) : s.each f l = s.each g l := by
  induction l generalizing s with
  | nil => rfl
  | cons a rest ih =>
    obtain ⟨heq, hkeep⟩ := hfg s a hs
    exact (congrArg (fun t => State.each t f rest) heq).trans (ih hkeep)

theorem allProjs_nodup : allProjs.Nodup := by decide

theorem allHouses_nodup : allHouses.Nodup := by decide

theorem mem_allHouses (h : HouseId) : h ∈ allHouses := by
  revert h
  decide

/-- R19: the transports put one by one. -/
theorem State.each_setTr (s : State) (g : State → Proj → Transport) (l : List Proj) (hl : l.Nodup) (hall : ∀ p, p ∈ l)
    (hg : ∀ s a b x, b ≠ a → g (s.setTr a x) b = g s b) :
    ∃ v, s.each (fun s p => s.setTr p (g s p)) l = { s with transports := v } ∧ ∀ p, v.cell p = g s p := by
  refine ⟨(s.each (fun s p => s.setTr p (g s p)) l).transports, ?_, fun p => ?_⟩
  · have hkeep (v) : { s.each (fun s p => s.setTr p (g s p)) l with transports := v } = { s with transports := v } :=
      State.each_keeps (fun u => { u with transports := v }) (fun s p => s.setTr p (g s p)) (fun _ _ => rfl) l s
    exact hkeep _
  · exact (State.each_put State.tr State.setTr g (fun _ _ _ _ => State.setTr_tr ..) hg l hl s p).trans
      (if_pos (hall p))

/-- R35: the readers put one by one. -/
theorem State.each_setRd (s : State) (g : State → Proj → Reader) (l : List Proj) (hl : l.Nodup) (hall : ∀ p, p ∈ l)
    (hg : ∀ s a b x, b ≠ a → g (s.setRd a x) b = g s b) :
    ∃ v, s.each (fun s p => s.setRd p (g s p)) l = { s with readers := v } ∧ ∀ p, v.cell p = g s p := by
  refine ⟨(s.each (fun s p => s.setRd p (g s p)) l).readers, ?_, fun p => ?_⟩
  · have hkeep (v) : { s.each (fun s p => s.setRd p (g s p)) l with readers := v } = { s with readers := v } :=
      State.each_keeps (fun u => { u with readers := v }) (fun s p => s.setRd p (g s p)) (fun _ _ => rfl) l s
    exact hkeep _
  · exact (State.each_put State.rd State.setRd g (fun _ _ _ _ => State.setRd_rd ..) hg l hl s p).trans
      (if_pos (hall p))

/-- R72: the lamps put one by one. -/
theorem State.each_setLp (s : State) (g : State → Proj → Lamp) (l : List Proj) (hl : l.Nodup) (hall : ∀ p, p ∈ l)
    (hg : ∀ s a b x, b ≠ a → g (s.setLp a x) b = g s b) :
    ∃ v, s.each (fun s p => s.setLp p (g s p)) l = { s with lamps := v } ∧ ∀ p, v.cell p = g s p := by
  refine ⟨(s.each (fun s p => s.setLp p (g s p)) l).lamps, ?_, fun p => ?_⟩
  · have hkeep (v) : { s.each (fun s p => s.setLp p (g s p)) l with lamps := v } = { s with lamps := v } :=
      State.each_keeps (fun u => { u with lamps := v }) (fun s p => s.setLp p (g s p)) (fun _ _ => rfl) l s
    exact hkeep _
  · exact (State.each_put State.lp State.setLp g (fun _ _ _ _ => State.setLp_lp ..) hg l hl s p).trans
      (if_pos (hall p))

/-- R48: the dousers put one by one. -/
theorem State.each_setDs (s : State) (g : State → Proj → Douser) (l : List Proj) (hl : l.Nodup) (hall : ∀ p, p ∈ l)
    (hg : ∀ s a b x, b ≠ a → g (s.setDs a x) b = g s b) :
    ∃ v, s.each (fun s p => s.setDs p (g s p)) l = { s with dousers := v } ∧ ∀ p, v.cell p = g s p := by
  refine ⟨(s.each (fun s p => s.setDs p (g s p)) l).dousers, ?_, fun p => ?_⟩
  · have hkeep (v) : { s.each (fun s p => s.setDs p (g s p)) l with dousers := v } = { s with dousers := v } :=
      State.each_keeps (fun u => { u with dousers := v }) (fun s p => s.setDs p (g s p)) (fun _ _ => rfl) l s
    exact hkeep _
  · exact (State.each_put State.ds State.setDs g (fun _ _ _ _ => State.setDs_ds ..) hg l hl s p).trans
      (if_pos (hall p))

/-- R102: the houses put one by one. -/
theorem State.each_setHs (s : State) (g : State → HouseId → House) (l : List HouseId) (hl : l.Nodup) (hall : ∀ h, h ∈ l)
    (hg : ∀ s a b x, b ≠ a → g (s.setHs a x) b = g s b) :
    ∃ v, s.each (fun s h => s.setHs h (g s h)) l = { s with houses := v } ∧ ∀ h, v.cell h = g s h := by
  refine ⟨(s.each (fun s h => s.setHs h (g s h)) l).houses, ?_, fun h => ?_⟩
  · have hkeep (v) : { s.each (fun s h => s.setHs h (g s h)) l with houses := v } = { s with houses := v } :=
      State.each_keeps (fun u => { u with houses := v }) (fun s h => s.setHs h (g s h)) (fun _ _ => rfl) l s
    exact hkeep _
  · exact (State.each_put State.hs State.setHs g (fun _ _ _ _ => State.setHs_hs ..) hg l hl s h).trans
      (if_pos (hall h))

/-- R138: the light channels put one by one. -/
theorem State.each_setLt (s : State) (g : State → HouseId → Light) (l : List HouseId) (hl : l.Nodup) (hall : ∀ h, h ∈ l)
    (hg : ∀ s a b x, b ≠ a → g (s.setLt a x) b = g s b) :
    ∃ v, s.each (fun s h => s.setLt h (g s h)) l = { s with lights := v } ∧ ∀ h, v.cell h = g s h := by
  refine ⟨(s.each (fun s h => s.setLt h (g s h)) l).lights, ?_, fun h => ?_⟩
  · have hkeep (v) : { s.each (fun s h => s.setLt h (g s h)) l with lights := v } = { s with lights := v } :=
      State.each_keeps (fun u => { u with lights := v }) (fun s h => s.setLt h (g s h)) (fun _ _ => rfl) l s
    exact hkeep _
  · exact (State.each_put State.lt State.setLt g (fun _ _ _ _ => State.setLt_lt ..) hg l hl s h).trans
      (if_pos (hall h))

/-! ## The blocks at a restart -/

/-- R48: every douser has been told its switches at this instant. -/
def State.switchesTold (s : State) (sw : Bank SwitchPair 8) : Prop :=
  ∀ p, (s.ds p).switches = some ⟨sw.cell p, s.now⟩

/-- R48: a douser that has been told its switches takes its state from them. -/
theorem State.restartDouser_told {s : State} {sw : Bank SwitchPair 8} (h : s.switchesTold sw) (p : Proj) :
    s.restartDouser p = s.setDs p ((s.ds p).fromSwitches (sw.cell p) s.now) ∧
      (s.setDs p ((s.ds p).fromSwitches (sw.cell p) s.now)).switchesTold sw := by
  refine ⟨?_, fun q => ?_⟩
  · simp [State.restartDouser, Douser.reading, h p]
  · rw [State.setDs_ds]
    split
    · rename_i hq
      rw [hq]
      rfl
    · exact h q

/-- R169: from `s` to `t` every block but the link has taken its restart values, the dousers by the switches `sw`. -/
structure State.Restarted (s t : State) (sw : Bank SwitchPair 8) : Prop where
  tr : ∀ p, t.tr p = (s.tr p).restart
  rd : ∀ p, t.rd p = (s.rd p).restart (s.restartReaderState p)
  lp : ∀ p, t.lp p = { (s.lp p).restart with sufficiency := t.sufficiencyOf p }
  ds : ∀ p, t.ds p = (s.ds p).fromSwitches (sw.cell p) s.now
  hs : ∀ h, t.hs h = (s.hs h).restart
  lt : ∀ h, t.lt h = (s.lt h).restart (!(s.booth.safetyCauses h).isEmpty) s.now
  ports : t.ports = s.ports
  booth : t.booth = s.booth
  link : t.link = s.link

/-- R79: what a judgement reads. -/
theorem State.sufficiencyOf_agree {s t : State} (p : Proj) (hheld : t.heldEntry p = s.heldEntry p)
    (hrate : (t.lp p).rate = (s.lp p).rate) (hacc : (t.lp p).account = (s.lp p).account)
    (hspeed : t.speedOf p = s.speedOf p) (hcounter : (t.tr p).counter = (s.tr p).counter) :
    t.sufficiencyOf p = s.sufficiencyOf p := by
  rw [State.sufficiencyOf_eq_map, State.sufficiencyOf_eq_map, hheld, hrate, hacc, hspeed, hcounter]

theorem State.restartBlocks_restarted (s : State) (sw : Bank SwitchPair 8) (h : s.switchesTold sw) :
    s.Restarted s.restartBlocks sw := by
  obtain ⟨v1, e1, h1⟩ := s.each_setTr (fun s p => (s.tr p).restart) allProjs allProjs_nodup mem_allProjs fun s a b x hab => by rw [State.setTr_tr, if_neg hab]
  obtain ⟨v2, e2, h2⟩ := { s with transports := v1 }.each_setRd (fun s p => (s.rd p).restart (s.restartReaderState p))
    allProjs allProjs_nodup mem_allProjs fun s a b x hab => by rw [State.setRd_rd, if_neg hab]; rfl
  obtain ⟨v3, e3, h3⟩ := { s with transports := v1, readers := v2 }.each_setLp (fun s p => (s.lp p).restart)
    allProjs allProjs_nodup mem_allProjs fun s a b x hab => by rw [State.setLp_lp, if_neg hab]
  obtain ⟨v4, e4, h4⟩ := { s with transports := v1, readers := v2, lamps := v3 }.each_setDs
    (fun s p => (s.ds p).fromSwitches (sw.cell p) s.now) allProjs allProjs_nodup mem_allProjs fun s a b x hab => by rw [State.setDs_ds, if_neg hab]; rfl
  obtain ⟨v5, e5, h5⟩ := { s with transports := v1, readers := v2, lamps := v3, dousers := v4 }.each_setLp
    (fun s p => { s.lp p with sufficiency := s.judge p }) allProjs allProjs_nodup mem_allProjs fun s a b x hab => by
      have hlp : (s.setLp a x).lp b = s.lp b := (State.setLp_lp ..).trans (if_neg hab)
      have hj : (s.setLp a x).judge b = s.judge b := by
        unfold State.judge
        rw [hlp]
        rfl
      rw [hlp, hj]
  obtain ⟨v6, e6, h6⟩ := { s with transports := v1, readers := v2, lamps := v5, dousers := v4 }.each_setHs
    (fun s h => (s.hs h).restart) allHouses allHouses_nodup mem_allHouses fun s a b x hab => by rw [State.setHs_hs, if_neg hab]
  obtain ⟨v7, e7, h7⟩ := { s with transports := v1, readers := v2, lamps := v5, dousers := v4, houses := v6 }.each_setLt
    (fun s h => (s.lt h).restart (!(s.booth.safetyCauses h).isEmpty) s.now) allHouses allHouses_nodup mem_allHouses fun s a b x hab => by
      rw [State.setLt_lt, if_neg hab]; rfl
  have e4' := (State.each_congr (f := State.restartDouser) (State.switchesTold · sw) (fun s p hs => s.restartDouser_told hs p)
    allProjs (s := { s with transports := v1, readers := v2, lamps := v3 }) h).trans e4
  have e5' : { s with transports := v1, readers := v2, lamps := v3, dousers := v4 }.each State.restartJudge allProjs = _ := e5
  have heq : s.restartBlocks = { s with
      transports := v1, readers := v2, lamps := v5, dousers := v4, houses := v6, lights := v7 } := by
    unfold State.restartBlocks
    dsimp only
    rw [e1, e2, e3, e4', e5', e6, e7]
  have htr (p : Proj) : v1.cell p = (s.tr p).restart := h1 p
  have hread (p : Proj) : State.restartReaderState { s with transports := v1 } p = s.restartReaderState p := by
    have h (p : Proj) : ({ s with transports := v1 } : State).tr p = (s.tr p).restart := h1 p
    unfold State.restartReaderState State.leaderOf State.heldEntry
    rw [h]
    rfl
  have hjudge (p : Proj) : State.judge { s with transports := v1, readers := v2, lamps := v3, dousers := v4 } p =
      State.sufficiencyOf { s with
        transports := v1, readers := v2, lamps := v5, dousers := v4, houses := v6, lights := v7 } p := by
    have hhs (h : HouseId) : v6.cell h = (s.hs h).restart := h6 h
    refine (State.judge_eq_sufficiencyOf ..).trans (State.sufficiencyOf_agree p ?_ ?_ ?_ ?_ rfl)
    · unfold State.heldEntry
      change (match (v1.cell p).armed with | none => none | some a => findReel (s.hs a.house).plan a.reel) =
        (match (v1.cell p).armed with | none => none | some a => findReel (v6.cell a.house).plan a.reel)
      cases (v1.cell p).armed
      · rfl
      · simp only [hhs, House.restart]
    · exact (congrArg Lamp.rate (h5 p)).symm
    · exact (congrArg Lamp.account (h5 p)).symm
    · exact (congrArg House.speed (hhs (houseOf p))).symm
  rw [heq]
  refine ⟨h1, fun p => (h2 p).trans (congrArg _ (hread p)), fun p => (h5 p).trans ?_, h4, h6, h7, rfl, rfl, rfl⟩
  have hlp : State.lp { s with transports := v1, readers := v2, lamps := v3, dousers := v4 } p = (s.lp p).restart := h3 p
  rw [hjudge, hlp]

/-- R169: an accepted RESTART ties with no report: RESTARTED alone is queued. -/
theorem Rule.request_restart (s : State) (hs : s.linkReady) (hb : (s.setLink s.link.claimed).busy = false) :
    Rule.request ⟨s, [], false⟩ .restart =
      ⟨(s.setLink s.link.claimed).restartBlocks.setLink { s.link.claimed.restart with
        slot := some (.done 43 .nothing) }, [], false⟩ := by
  obtain ⟨hbuf, hslot, -⟩ := hs
  unfold Rule.request
  rw [Rule.arrives_taken _ _ hbuf hslot]
  unfold Rule.takeRecord
  have hask : Rule.decideRecord (Rule.claim ⟨s, [], false⟩) (recordOf .restart) =
      Rule.done ⟨(s.setLink s.link.claimed).restartBlocks.setLink s.link.claimed.restart, [], false⟩ := by
    rw [Rule.decideRecord_recordOf _ _ rfl, Rule.ask, Rule.decideRestart]
    have hclaim : (Rule.claim ⟨s, [], false⟩).st = s.setLink s.link.claimed := rfl
    rw [hclaim, hb]
    refine (if_neg (by simp)).trans ?_
    rw [Rule.upd, hclaim]
    rfl
  rw [hask]
  have hkind : (recordOf .restart).kind = restartKind := rfl
  simp [Rule.done, Rule.upd, hkind]
  rfl

theorem State.busy_iff (s : State) : s.busy = true ↔ (∃ h, (s.hs h).state.inShow = true) ∨
    ∃ p, (s.tr p).state = .starting ∨ (s.tr p).state = .running ∨ (s.tr p).state = .stopping := by
  simp [State.busy, mem_allHouses, mem_allProjs]

/-- R48: the switches that an accepted RESTART tells. -/
theorem State.readSwitches_told (s : State) (sw : Bank SwitchPair 8) (hs : s.linkReady) (hb : s.busy = false) :
    ∃ v, s.readSwitches sw = { s with dousers := v } ∧ ∀ p, v.cell p = { s.ds p with switches := some ⟨sw.cell p, s.now⟩ } := by
  obtain ⟨v, he, hv⟩ := s.each_setDs (fun s p => { s.ds p with switches := some ⟨sw.cell p, s.now⟩ }) allProjs allProjs_nodup
    mem_allProjs fun s a b x hab => by rw [State.setDs_ds, if_neg hab]; rfl
  refine ⟨v, (if_pos ?_).trans he, hv⟩
  obtain ⟨hbuf, hslot, -⟩ := hs
  simp [State.takesRestart, hbuf, hslot, hb]

/-- R138: what a light channel keeps and takes at a restart. -/
theorem Light.restart_takes (l : Light) (safety : Bool) (now : Instant) :
    (l.restart safety now).safetyActive = (l.safetyActive && safety) ∧
      (l.restart safety now).safetyTarget = l.safetyTarget ∧ (l.restart safety now).manualTarget = l.manualTarget ∧
      (l.restart safety now).level = l.level ∧ (l.restart safety now).drive = l.drive ∧
      (l.restart safety now).manualActive = false ∧ (l.restart safety now).pending = none ∧
      (l.restart safety now).programTarget = l.programTarget ∧
      (l.restart safety now).fade = (if (l.restart safety now).effective = l.level then none
        else some ⟨l.level, (l.restart safety now).effective, 60, 0, now⟩) := by
  unfold Light.restart
  dsimp only
  split
  · rename_i h
    exact ⟨rfl, rfl, rfl, rfl, rfl, rfl, rfl, rfl, rfl⟩
  · rename_i h
    rw [Light.fadeTo_eq]
    refine ⟨rfl, rfl, rfl, rfl, rfl, rfl, rfl, rfl, ?_⟩
    refine (if_neg (not_or.2 ⟨by decide, h⟩)).trans (if_neg h).symm

/-- R133: a safety cause of a house is active. -/
theorem Booth.safetyCauses_iff (b : Booth) (h : HouseId) : (!(b.safetyCauses h).isEmpty) = true ↔ b.fusible = true ∨
    b.emergency = true ∨ b.critical = true ∨ ∃ p, houseOf p = h ∧ b.filmFire.cell p = true := by
  have hnil := b.safetyCauses_eq_nil h
  rw [Bool.not_eq_true', List.isEmpty_eq_false_iff, ne_eq, hnil]
  simp only [not_and_or, Bool.not_eq_false, not_forall, exists_prop]

/-- R169: RESTARTED waits behind the reply that the transmitter has been claimed for. -/
theorem Link.restart_claimed (l : Link) (x : Reply) : { l.claimed.restart with slot := some x } = { l.replied x with
    queue := [⟨0, l.clock, .restarted .restart⟩]
    lost := none } := by
  have hq : ({ l.claimed with queue := [], lost := none } : Link).queue = [] := rfl
  have hawake : ({ l.claimed with queue := [], lost := none } : Link).transmitter ≠ .idle := l.claimed_awake
  rw [Link.restart, Link.enqueue_waits hq hawake]
  rfl

/-- Settles O60, by the blocks one after another. -/
theorem restartTakesTheRestartValues : Obligations.RestartTakesTheRestartValues := by
  refine fun s dt sw hs => ⟨fun hbusy => exec_restart_refused s dt sw hs (s.busy_iff.2 hbusy), fun hshow hmotor => ?_⟩
  have hb : s.busy = false := by
    refine Bool.eq_false_iff.2 fun hb => ?_
    rcases s.busy_iff.1 hb with ⟨h, hh⟩ | ⟨p, hp⟩
    · simp [hshow h] at hh
    · rcases hmotor p with hm | hm <;> simp [hm] at hp
  obtain ⟨v, hread, hv⟩ := (s.elapse dt).readSwitches_told sw hs hb
  let w := ({ s.elapse dt with dousers := v } : State).setLink s.link.claimed
  have htold : w.switchesTold sw := fun p => congrArg Douser.switches (hv p)
  obtain ⟨htr, hrd, hlp, hds, hhs, hlt, hports, hbooth, hlink⟩ := w.restartBlocks_restarted sw htold
  have hend : exec (.restart dt sw) s = .next (w.restartBlocks.setLink { s.link.claimed.restart with
      slot := some (.done 43 .nothing) }) := by
    have hrun : exec (.restart dt sw) s = (Rule.request ⟨(s.elapse dt).readSwitches sw, [], false⟩ .restart).finish := rfl
    rw [hrun, hread, Rule.request_restart { s.elapse dt with dousers := v } hs ?_]
    · exact Rule.finish_plain _
    · exact (State.busy_congr rfl rfl).trans hb
  generalize w.restartBlocks = u at *
  refine ⟨_, hend, fun p => (htr p).trans ?_, fun p => (hrd p).trans ?_, fun p => (hlp p).trans ?_,
    fun p => (hds p).trans ?_, fun h => (hhs h).trans ?_, fun h => ?_, hports, hbooth, ?_⟩
  · rfl
  · have hstate : w.restartReaderState p =
        if (s.tr p).armed = none then .off else if (s.tr p).counter < s.leaderOf p then .hunt else .watch := by
      change (if (s.tr p).armed.isSome then huntOrWatch (s.tr p).counter (s.leaderOf p) else .off) = _
      cases (s.tr p).armed <;> rfl
    rw [hstate]
    rfl
  · rfl
  · have hvp : w.ds p = { s.ds p with switches := some ⟨sw.cell p, s.now + dt⟩ } := hv p
    rw [hvp]
    unfold Douser.fromSwitches douserFrom
    cases hc : (sw.cell p).closedEnd <;> cases ho : (sw.cell p).openEnd <;> rfl
  · rfl
  · obtain ⟨hsafe, h2, h3, h4, h5, h6, h7, h8, h9⟩ :=
      (w.lt h).restart_takes (!(w.booth.safetyCauses h).isEmpty) w.now
    rw [← hlt h] at hsafe h2 h3 h4 h5 h6 h7 h8 h9
    refine ⟨?_, h2, h3, h4, h5, h6, h7, h8, h9⟩
    change (u.lt h).safetyActive = true ↔ _
    rw [hsafe, Bool.and_eq_true]
    exact and_congr Iff.rfl (s.booth.safetyCauses_iff h)
  · exact s.link.restart_claimed _

end Sys2Proof.Machine
end

section
/-! PROOFS. Dousers: the switch closures and the travel limit, outside a show and in a crossing. -/

namespace Sys2Proof.Machine

/-! ## Close commands written out -/

/-- R39: the douser that a close command sends from OPEN. -/
def Douser.closingFrom (d : Douser) (full : Bool) (now : Instant) : Douser :=
  { d with state := .closing, drive := .closes, travel := some ⟨.closes, now, full, 2 * d.closeTime + 100⟩ }

theorem State.closeCommand_opened {s : State} {p : Proj} (h : (s.ds p).state = .opened) :
    s.closeCommand p = s.setDs p ((s.ds p).closingFrom true s.now) := by
  simp [State.closeCommand, h, Douser.closingFrom, travelLimit]

theorem State.closeCommand_stuck {s : State} {p : Proj} (h : (s.ds p).state = .stuck) :
    s.closeCommand p = s.setDs p { s.ds p with drive := .closes } := by
  simp [State.closeCommand, h]

theorem otherProj_ne (p : Proj) : otherProj p ≠ p := by
  revert p
  decide

/-- R44: the interlock, written out. -/
theorem State.interlock_opened {s : State} {p : Proj} (h : (s.ds (otherProj p)).state = .opened) :
    s.interlock p = s.setDs (otherProj p) ((s.ds (otherProj p)).closingFrom true s.now) :=
  (if_pos h).trans (State.closeCommand_opened h)

theorem State.interlock_shut {s : State} {p : Proj} (h : (s.ds (otherProj p)).state ≠ .opened) : s.interlock p = s := if_neg h

/-! ## A switch closure -/

/-- R40: the douser whose switch has closed, as the command tells of it (log entry 6). -/
def Douser.told (d : Douser) (sw : DouserSwitch) (now : Instant) : Douser :=
  { d with switches := some ⟨switchReading sw, now⟩ }

/-- R40, R41: the douser whose travel has ended at its switch. -/
def Douser.ended (d : Douser) (sw : DouserSwitch) (now : Instant) (to1 : DouserState) : Douser :=
  { (d.told sw now).measure now with state := to1, travel := none }

/-- R41: a travel that is not full teaches nothing. -/
theorem Douser.ended_partial {d : Douser} {x : Travel} (sw : DouserSwitch) (now : Instant) (to1 : DouserState)
    (hx : d.travel = some x) (hf : x.full = false) : d.ended sw now to1 = { d with
      state := to1, travel := none, switches := some ⟨switchReading sw, now⟩ } := by
  simp [Douser.ended, Douser.told, Douser.measure, hx, hf]

/-- R41: a full closing travel. -/
theorem Douser.ended_closing {d : Douser} {x : Travel} (sw : DouserSwitch) (now : Instant) (to1 : DouserState)
    (hx : d.travel = some x) (hf : x.full = true) (hd : x.dir = .closes) : d.ended sw now to1 = { d with
      state := to1
      travel := none
      closeTime := (3 * d.closeTime + max 40 (min 1200 ((now - x.start) / 10)) + 2) / 4
      lastClose := some ((now - x.start) / 10)
      switches := some ⟨switchReading sw, now⟩ } := by
  simp [Douser.ended, Douser.told, Douser.measure, hx, hf, hd, learnTravel, learn, clamp, elapsedMs]

/-- R41: a full opening travel. -/
theorem Douser.ended_opening {d : Douser} {x : Travel} (sw : DouserSwitch) (now : Instant) (to1 : DouserState)
    (hx : d.travel = some x) (hf : x.full = true) (hd : x.dir = .opens) : d.ended sw now to1 = { d with
      state := to1
      travel := none
      openTime := (3 * d.openTime + max 40 (min 1200 ((now - x.start) / 10)) + 2) / 4
      lastOpen := some ((now - x.start) / 10)
      switches := some ⟨switchReading sw, now⟩ } := by
  simp [Douser.ended, Douser.told, Douser.measure, hx, hf, hd, learnTravel, learn, clamp, elapsedMs]

theorem Douser.ended_trial (d : Douser) (sw : DouserSwitch) (now : Instant) (to1 : DouserState) :
    (d.ended sw now to1).trial = d.trial := by
  unfold Douser.ended Douser.measure
  dsimp only
  repeat' split
  all_goals rfl

/-- R46: with no trial nothing follows the end of a travel. -/
theorem State.trialTravelEnds_untried {s : State} {p : Proj} (h : (s.ds p).trial = none) : s.trialTravelEnds p = s := by
  simp [State.trialTravelEnds, h]

/-- R40: a closing douser at its closed switch. -/
theorem Rule.switchCloses_closing (s : State) (p : Proj) (h : (s.ds p).state = .closing) :
    Rule.switchCloses ⟨s, [], false⟩ p .closedEnd =
      ⟨(s.setDs p ((s.ds p).ended .closedEnd s.now .closed)).trialTravelEnds p, [.douser p .closed], false⟩ := by
  unfold Rule.switchCloses
  dsimp only
  rw [h]
  simp [Rule.travelEnds, Rule.upd, Rule.emit, Douser.ended, Douser.told]

/-- R40, R44: an opening douser at its open switch. -/
theorem Rule.switchCloses_opening (s : State) (p : Proj) (h : (s.ds p).state = .opening) :
    Rule.switchCloses ⟨s, [], false⟩ p .openEnd =
      ⟨((s.setDs p ((s.ds p).ended .openEnd s.now .opened)).interlock p).trialTravelEnds p, [.douser p .opened], false⟩ := by
  unfold Rule.switchCloses
  dsimp only
  rw [h]
  simp [Rule.travelEnds, Rule.upd, Rule.emit, Douser.ended, Douser.told]

/-- R40: the closed switch of an OPEN douser, or the open switch of a CLOSED one. -/
theorem Rule.switchCloses_uncommanded (s : State) (p : Proj) (sw : DouserSwitch)
    (h : ((s.ds p).state = .opened ∧ sw = .closedEnd) ∨ ((s.ds p).state = .closed ∧ sw = .openEnd)) :
    Rule.switchCloses ⟨s, [], false⟩ p sw = ⟨(s.setDs p { s.ds p with
      state := .stuck
      drive := .closes
      switches := some ⟨switchReading sw, s.now⟩ }).reportProj p (.douserStuck (.uncommanded sw) 0 0),
      [.douser p .stuck], false⟩ := by
  unfold Rule.switchCloses
  dsimp only
  rcases h with ⟨h, rfl⟩ | ⟨h, rfl⟩ <;> rw [h] <;> simp [Rule.uncommanded, Rule.upd, Rule.emit]

theorem Rule.switchCloses_stuck (s : State) (p : Proj) (sw : DouserSwitch) (h : (s.ds p).state = .stuck) :
    Rule.switchCloses ⟨s, [], false⟩ p sw =
      Rule.unstick ⟨s.setDs p { s.ds p with switches := some ⟨switchReading sw, s.now⟩ }, [], false⟩ p sw := by
  cases sw <;> simp [Rule.switchCloses, h, Rule.upd]

/-- R40: a switch at which the blade stands, or which it is leaving. -/
theorem Rule.switchCloses_idle (s : State) (p : Proj) (sw : DouserSwitch)
    (h : (((s.ds p).state = .opened ∨ (s.ds p).state = .closing) ∧ sw = .openEnd) ∨
      (((s.ds p).state = .closed ∨ (s.ds p).state = .opening) ∧ sw = .closedEnd)) :
    Rule.switchCloses ⟨s, [], false⟩ p sw =
      ⟨s.setDs p { s.ds p with switches := some ⟨switchReading sw, s.now⟩ }, [], false⟩ := by
  rcases h with ⟨h | h, rfl⟩ | ⟨h | h, rfl⟩ <;> simp [Rule.switchCloses, h, Rule.upd]

/-! ## What the house makes of it -/

/-- R95, R112, R114, R117: a house that is not STARTING makes nothing of a douser while its crossing is not complete. -/
theorem Rule.look_crossing (r : Rule) (h : HouseId) {y : Changeover} (hst : (r.st.hs h).state ≠ .starting)
    (hy : (r.st.hs h).change = some y) (hp : y.phase = .crossing) (hd : r.st.crossingDone y = false) : r.look h = r := by
  have hpicture : r.pictureTest h = r := by
    unfold Rule.pictureTest
    split
    · contradiction
    · rfl
  have hready : r.readinessTest h = r := by
    simp [Rule.readinessTest, hy, hp]
  have hcross : r.crossingTest h = r := by simp [Rule.crossingTest, hy, hp]
  have hdone : r.completionTest h = r := by
    unfold Rule.completionTest
    rw [hy]
    dsimp only
    split
    · rfl
    · rw [hd]
      exact if_neg (by simp)
  rw [Rule.look, hpicture, hready, hcross, hdone]

/-- R96, R101, R151: a house at rest makes of a STUCK douser the DOUSER cause alone. -/
theorem Rule.sees_stuck (r : Rule) (p : Proj) (h : r.st.houseAtRest (houseOf p)) :
    r.sees (.douser p .stuck) = (r.douserCause p).look (houseOf p) := by
  have hdoused : r.upd (fun s => s.endDouserSees p) = r := by
    simp [Rule.upd, State.endDouserSees_atRest _ p h.1]
  simp only [Rule.sees, Rule.douserSeen, r.failure_atRest p _ h, hdoused]

/-- R151: and nothing where the lamp is OFF or the transport RUNNING. -/
theorem Rule.sees_stuck_safe (r : Rule) (p : Proj) (h : r.st.houseAtRest (houseOf p))
    (hsafe : (r.st.lp p).state = .off ∨ (r.st.tr p).state = .running) : r.sees (.douser p .stuck) = r := by
  have hhaz : r.st.douserHazard p = false := by
    rcases hsafe with h | h <;> simp [State.douserHazard, h]
  have hcause : r.douserCause p = r := if_neg (by simp [hhaz])
  rw [r.sees_stuck p h, hcause, r.look_atRest _ h]

theorem Rule.finish_stuck_safe (s : State) (p : Proj) (h : s.houseAtRest (houseOf p))
    (hsafe : (s.lp p).state = .off ∨ (s.tr p).state = .running) :
    Rule.finish ⟨s, [.douser p .stuck], false⟩ = .next s := by
  refine Rule.finish_settled (Rule.settle_unheeded _ s _ false (by simp [settleBound]) fun y hy l' => ?_) (by simp)
  obtain rfl := List.mem_singleton.1 hy
  exact Rule.sees_stuck_safe _ p h hsafe

/-! ## The DOUSER cause -/

/-- R39, R142: the release of its port leaves a STUCK douser STUCK. -/
theorem Rule.release_stuck (r : Rule) (seq : Nat) (p : Proj) (h : (r.st.ds p).state = .stuck) :
    ((r.release seq (projPort p)).st.ds p).state = .stuck ∧
      ((r.release seq (projPort p)).st.ds p).travel = (r.st.ds p).travel ∧
      ((r.release seq (projPort p)).st.ds p).trial = (r.st.ds p).trial := by
  unfold Rule.release
  extract_lets x linked r1
  have h1 : r1.st.ds p = r.st.ds p := by
    unfold r1
    split
    · have hkeep := ((r.st.setPt (projPort p) linked).writeOutcome_keeps (projPort p) (.closed 0)).2.2.2.1
      exact congrArg (fun b => b.cell p) hkeep
    · rfl
  rw [portProj_projPort]
  split
  · dsimp only
    split
    · change ((r1.st.closeCommand p).ds p).state = _ ∧ ((r1.st.closeCommand p).ds p).travel = _ ∧
        ((r1.st.closeCommand p).ds p).trial = _
      rw [State.closeCommand_stuck (h1 ▸ h), State.setDs_ds, if_pos rfl, h1]
      exact ⟨h, rfl, rfl⟩
    · rw [h1]
      exact ⟨h, rfl, rfl⟩
  · exact ⟨h, rfl, rfl⟩

/-- R39, R68: a lamp's stopping leaves a STUCK douser STUCK. -/
theorem State.lampStopped_stuck {s : State} {p : Proj} (reason : StopReason) (h : (s.ds p).state = .stuck) :
    ((s.lampStopped p reason).ds p).state = .stuck ∧ ((s.lampStopped p reason).ds p).travel = (s.ds p).travel := by
  have hds : ((s.endBurstFor p reason).setLp p ((s.lp p).stopped reason)).ds p = s.ds p := by
    rw [s.endBurstFor_eq]
    rfl
  unfold State.lampStopped
  split
  · rw [State.closeCommand_stuck (hds ▸ h), State.setDs_ds, if_pos rfl, hds]
    exact ⟨h, rfl⟩
  · rw [hds]
    exact ⟨h, rfl⟩

/-- R151: what the activation of the DOUSER cause of `p` leaves, of a douser with no trial. -/
structure State.DouserFired (s t : State) (p : Proj) : Prop where
  stuck : (t.ds p).state = .stuck
  travel : (t.ds p).travel = (s.ds p).travel
  off : (t.lp p).state = .off
  stop : (t.lp p).stop = some .fire
  lowered : (t.pt (projPort p)).state ≠ .held ∧ (t.pt (projPort p)).state ≠ .arming
  others : ∀ q, q ≠ p → t.ds q = s.ds q ∧ t.lp q = s.lp q
  transports : t.transports = s.transports
  houses : t.houses = s.houses
  lights : t.lights = s.lights

theorem projPort_injective {p q : Proj} (h : projPort p = projPort q) : p = q := by
  simpa [portProj_projPort] using congrArg portProj h

theorem Rule.douserCause_fires (s : State) (p : Proj) (hhaz : s.douserHazard p = true) (htrial : (s.ds p).trial = none) :
    ∃ t l, Rule.douserCause ⟨s, [], false⟩ p = ⟨t, l, false⟩ ∧ s.DouserFired t p ∧ l.length ≤ 3 ∧
      ∀ y ∈ l, y = .portLeft p ∨ y = .lampLeft p false ∨ y = .lampOff p := by
  have hstuck : (s.ds p).state = .stuck := by
    simp only [State.douserHazard, Bool.decide_and, Bool.and_eq_true, decide_eq_true_eq] at hhaz
    exact hhaz.1
  have hlit : (s.lp p).state ≠ .off := by
    simp only [State.douserHazard, Bool.decide_and, Bool.and_eq_true, decide_eq_true_eq] at hhaz
    exact hhaz.2.2
  -- The record, the release of the port, and the reports.
  let v := s.writeRecord .douser (some p) [projPort p]
  obtain ⟨-, vtr, -, vds, vlp, vhs, vlt, -⟩ := s.writeRecord_keeps .douser (some p) [projPort p]
  have hreleased := Rule.releases_releaseAll ⟨v, [], false⟩ s.booth.nextSeq [projPort p] (List.nodup_singleton _)
  have hlow := Rule.release_lowers ⟨v, [], false⟩ s.booth.nextSeq (projPort p)
  have hkept := Rule.release_stuck ⟨v, [], false⟩ s.booth.nextSeq p ((congrArg (fun b => (b.cell p).state) vds).trans hstuck)
  have hall : Rule.releaseAll ⟨v, [], false⟩ s.booth.nextSeq [projPort p] =
    Rule.release ⟨v, [], false⟩ s.booth.nextSeq (projPort p) := rfl
  rw [hall] at hreleased
  have hact : Rule.activation ⟨s, [], false⟩ .douser (some p) (coverage .douser (some p) []) =
      ((((Rule.release ⟨v, [], false⟩ s.booth.nextSeq (projPort p)).upd
        (fun s' => s'.reportBooth (.fireCauseOn .douser (some p) s.booth.nextSeq))).upd
        (fun s' => s'.judgeSettled ⟨s.booth.nextSeq, false, false⟩)).upd (fun s' => s'.stopTrials [projPort p])) := rfl
  generalize Rule.release ⟨v, [], false⟩ s.booth.nextSeq (projPort p) = r at hreleased hlow hkept hact
  obtain ⟨u, l, tie⟩ := r
  obtain ⟨-, -, -, utr, -, ulp, uhs, ult, -, uds, -, ⟨l', hl, hlen, hmem⟩, htie⟩ := hreleased
  dsimp only at utr ulp uhs ult uds hl htie
  subst htie
  -- No trial is stopped.
  let w := (u.reportBooth (.fireCauseOn .douser (some p) s.booth.nextSeq)).judgeSettled ⟨s.booth.nextSeq, false, false⟩
  have hw : w = u.setLink w.link := by
    refine (State.judgeSettled_eq _ _ rfl).trans ?_
    rfl
  have hwtrial : w.stopTrials [projPort p] = w := by
    have hnone : (w.ds p).trial = none := by
      rw [hw]
      exact hkept.2.2.trans ((congrArg (fun b => (b.cell p).trial) vds).trans htrial)
    simp [State.stopTrials, portProj_projPort, State.endTrial, hnone]
  have hact' : Rule.activation ⟨s, [], false⟩ .douser (some p) (coverage .douser (some p) []) = ⟨w, l', false⟩ := by
    refine hact.trans ?_
    rw [hl]
    exact congrArg (fun t => (⟨t, l', false⟩ : Rule)) hwtrial
  -- The lamp is extinguished.
  have hwlp (q : Proj) : w.lp q = s.lp q := by
    rw [hw]
    exact congrArg (fun b => b.cell q) (ulp.trans vlp)
  have hrule : Rule.douserCause ⟨s, [], false⟩ p = ⟨w.lampStopped p .fire, l' ++ (w.lp p).offSignals p, false⟩ := by
    unfold Rule.douserCause
    refine (if_pos hhaz).trans ?_
    rw [hact']
    exact (if_neg (by rw [hwlp]; exact hlit)).trans (Rule.lampStops_eq ..)
  have hby := w.byLamp_lampStopped p .fire
  refine ⟨_, _, hrule, ⟨?_, ?_, ?_, ?_, ?_, fun q hq => ?_, ?_, ?_, ?_⟩, ?_, fun y hy => ?_⟩
  · exact (State.lampStopped_stuck _ (by rw [hw]; exact hkept.1)).1
  · refine (State.lampStopped_stuck _ (by rw [hw]; exact hkept.1)).2.trans ?_
    rw [hw]
    exact hkept.2.1.trans (congrArg (fun b => (b.cell p).travel) vds)
  · rw [State.lampStopped_lp]
    rfl
  · rw [State.lampStopped_lp]
    rfl
  · rw [State.pt, hby.ports, hw]
    exact not_or.1 hlow
  · obtain ⟨h1, h2⟩ := hby.others q hq
    refine ⟨h2.trans ?_, h1.trans (hwlp q)⟩
    rw [hw]
    refine (uds q fun hmem => hq ?_).trans (congrArg (fun b => b.cell q) vds)
    exact projPort_injective (List.mem_singleton.1 hmem)
  · rw [hby.transports, hw]
    exact utr.trans vtr
  · rw [hby.houses, hw]
    exact uhs.trans vhs
  · rw [hby.lights, hw]
    exact ult.trans vlt
  · rw [List.length_append]
    have := (w.lp p).offSignals_length p
    have : l'.length ≤ 1 := hlen
    omega
  · rcases List.mem_append.1 hy with hy | hy
    · obtain ⟨q, rfl, hq⟩ := hmem y hy
      exact .inl (congrArg Signal.portLeft (projPort_injective (List.mem_singleton.1 hq)))
    · unfold Lamp.offSignals at hy
      split at hy <;> simp at hy
      · exact .inr hy
      · exact .inr (.inr hy)

/-- R151: a house at rest, and a douser that has become STUCK over a lamp that is not OFF. -/
theorem Rule.finish_stuck_fires (s : State) (p : Proj) (h : s.houseAtRest (houseOf p)) (hstuck : (s.ds p).state = .stuck)
    (htrial : (s.ds p).trial = none) (hl : (s.lp p).state ≠ .off) (ht : (s.tr p).state ≠ .running) :
    ∃ t, Rule.finish ⟨s, [.douser p .stuck], false⟩ = .next t ∧ s.DouserFired t p := by
  obtain ⟨t, l, hcause, hfired, hlen, hmem⟩ :=
    Rule.douserCause_fires s p (by simp [State.douserHazard, hstuck, hl, ht]) htrial
  have hrest : t.houseAtRest (houseOf p) := (State.houseAtRest_congr hfired.houses _).2 h
  refine ⟨t, ?_, hfired⟩
  refine Rule.finish_settled (t := false) ?_ (by simp)
  have hsees : Rule.sees ⟨s, [], false⟩ (.douser p .stuck) = ⟨t, l, false⟩ := by
    rw [Rule.sees_stuck _ p h, hcause, Rule.look_atRest _ _ hrest]
  rw [show settleBound = 511 + 1 from rfl, Rule.settle_cons, hsees]
  refine Rule.settle_unheeded _ t l false (hlen.trans (by decide)) fun y hy l' => ?_
  rcases hmem y hy with rfl | rfl | rfl
  · exact Rule.sees_portLeft_atRest _ p hrest
  · simp [Rule.sees, Rule.failure_atRest ⟨t, l', false⟩ p _ hrest, Rule.look_atRest ⟨t, l', false⟩ _ hrest]
  · exact Rule.darkLampOff_notShowing _ p (HouseState.inShow_false hrest.1).2.1

/-! ## The travel limit -/

theorem Rule.travelExpires_early (s : State) (p : Proj) {x : Travel} (hx : (s.ds p).travel = some x)
    (h : s.now < x.start + 10 * x.limit) : Rule.travelExpires ⟨s, [], false⟩ p = ⟨s, [], false⟩ := by
  have hearly : due (some (x.start + ms x.limit)) s.now = false := due_early h
  simp [Rule.travelExpires, hx, hearly]

/-- R42: the travel limit of a douser falls. -/
theorem Rule.travelExpires_due (s : State) (p : Proj) {x : Travel} (hx : (s.ds p).travel = some x)
    (hst : (s.ds p).state = .opening ∨ (s.ds p).state = .closing) (h : x.start + 10 * x.limit ≤ s.now) :
    Rule.travelExpires ⟨s, [], false⟩ p = ⟨((s.setDs p { s.ds p with state := .stuck, travel := none }).reportProj p
      (.douserStuck (match x.dir with | .opens => .opening | .closes => .closing) x.limit ((x.limit - 100) / 2))).trialSticks p,
      [.douser p .stuck], false⟩ := by
  have hdue : due (some (x.start + ms x.limit)) s.now = true := due_late h
  have hname : x.dir.stuckTravel = (match x.dir with | .opens => .opening | .closes => .closing) := by
    cases x.dir <;> rfl
  unfold Rule.travelExpires
  dsimp only
  rw [hx]
  refine (if_pos ⟨hst, hdue⟩).trans ?_
  rw [hname]
  rfl

theorem State.trialSticks_untried {s : State} {p : Proj} (h : (s.ds p).trial = none) : s.trialSticks p = s := by
  simp [State.trialSticks, h]

@[simp] theorem State.setDs_ds_self (s : State) (p : Proj) (x : Douser) : (s.setDs p x).ds p = x :=
  (State.setDs_ds ..).trans (if_pos rfl)

/-- R40: a douser of a house at rest that closes. -/
theorem Rule.finish_closed (s : State) (p : Proj) (d : Douser) (h : s.houseAtRest (houseOf p)) (hd : d.state = .closed) :
    Rule.finish ⟨s.setDs p d, [.douser p .closed], false⟩ = .next (s.setDs p d) := by
  refine Rule.finish_quiet _ _ (by simp [settleBound]) fun y hy => ?_
  obtain rfl := List.mem_singleton.1 hy
  refine ⟨⟨h, ?_⟩, by simp⟩
  simp [hd]

theorem Rule.finish_switchCloses_closing (s : State) (p : Proj) (h : s.houseAtRest (houseOf p)) (ht : (s.ds p).trial = none)
    (hst : (s.ds p).state = .closing) : (Rule.switchCloses ⟨s, [], false⟩ p .closedEnd).finish =
      .next (s.setDs p ((s.ds p).ended .closedEnd s.now .closed)) := by
  rw [Rule.switchCloses_closing s p hst, State.trialTravelEnds_untried (by simp [Douser.ended_trial, ht])]
  exact Rule.finish_closed s p _ h rfl

/-- R37: the state of a douser plays no part in its gating condition. -/
theorem State.gating_setDs (s : State) (p : Proj) (d : Douser) (ht : d.trial = (s.ds p).trial) :
    (s.setDs p d).gating p = s.gating p := by
  simp [State.gating, State.trialCase, ht]

/-- R43: a STUCK douser driven open whose gating condition holds, at its open switch. -/
theorem Rule.unstick_opens (s : State) (p : Proj) (hd : (s.ds p).drive = .opens) (hg : s.gating p = true)
    (ho : (s.ds (otherProj p)).state ≠ .opened) : Rule.unstick ⟨s, [], false⟩ p .openEnd =
      ⟨s.setDs p { s.ds p with state := .opened }, [.douser p .opened], false⟩ := by
  have hgate : (s.setDs p { s.ds p with state := .opened }).gating p = true := by
    rw [s.gating_setDs p { s.ds p with state := .opened } rfl]
    exact hg
  have hshut : (s.setDs p { s.ds p with state := .opened }).interlock p = s.setDs p { s.ds p with state := .opened } :=
    State.interlock_shut (by rw [State.setDs_ds, if_neg (otherProj_ne p)]; exact ho)
  exact (if_pos ⟨hd, hgate⟩).trans (congrArg (fun t => (⟨t, [.douser p .opened], false⟩ : Rule)) hshut)

/-- R43: and any other is closed at once. -/
theorem Rule.unstick_closes (s : State) (p : Proj) (h : (s.ds p).drive = .closes ∨ s.gating p = false) :
    Rule.unstick ⟨s, [], false⟩ p .openEnd = ⟨s.setDs p ((s.ds p).closingFrom true s.now), [], false⟩ := by
  have hno : ¬ ((s.ds p).drive = .opens ∧ (s.setDs p { s.ds p with state := .opened }).gating p = true) := by
    rw [s.gating_setDs p { s.ds p with state := .opened } rfl]
    rcases h with h | h <;> simp [h]
  have hclose : (s.setDs p { s.ds p with state := .opened }).closeCommand p =
      s.setDs p ((s.ds p).closingFrom true s.now) := by
    rw [State.closeCommand_opened (by simp)]
    simp [Douser.closingFrom]
  exact (if_neg hno).trans (congrArg (fun t => (⟨t, [], false⟩ : Rule)) hclose)

/-- R44: what follows in a house whose crossing, if any, wants more than this opening. -/
theorem Rule.finish_opened (s : State) (p : Proj) (hs : (s.hs (houseOf p)).state ≠ .starting)
    (hc : (s.hs (houseOf p)).change = none ∨ ∃ y, (s.hs (houseOf p)).change = some y ∧ y.phase = .crossing ∧
      s.crossingDone y = false) : Rule.finish ⟨s, [.douser p .opened], false⟩ = .next s := by
  refine Rule.finish_settled (Rule.settle_unheeded _ s _ false (by simp [settleBound]) fun y hy l' => ?_) (by simp)
  obtain rfl := List.mem_singleton.1 hy
  rcases hc with hc | ⟨y, hc, hp, hd⟩
  · exact Rule.look_unmoved _ _ ⟨hs, .inl hc⟩
  · exact Rule.look_crossing _ _ hs hc hp hd

/-- R44: the interlock leaves the house's other douser not OPEN. -/
theorem State.interlock_ds (s : State) (p q : Proj) : (s.interlock p).ds q =
    if q = otherProj p ∧ (s.ds q).state = .opened then (s.ds q).closingFrom true s.now else s.ds q := by
  by_cases ho : (s.ds (otherProj p)).state = .opened
  · rw [State.interlock_opened ho, State.setDs_ds]
    by_cases hq : q = otherProj p
    · subst hq
      simp [ho]
    · simp [hq]
  · rw [State.interlock_shut ho]
    by_cases hq : q = otherProj p
    · subst hq
      simp [ho]
    · simp [hq]

/-- Settles O14, by the switch, the state of the douser, and the travel limit. -/
theorem douserFollowsItsSwitches : Obligations.DouserFollowsItsSwitches := by
  refine ⟨fun s dt p x m hr ht hx hm => ⟨fun hst hdir hfull => ?_, fun hst hfull => ?_⟩,
    fun s dt p x m h y z hh hstart hc ht hst hx hdir hm => ?_,
    fun s dt p hr => ⟨fun hst hsafe => ?_, fun hst hsafe => ?_, fun hst => ?_, fun hst hdrive hgate hother => ?_,
      fun hst hno => ?_⟩,
    fun s dt p => ⟨fun hst => ?_, fun hst => ?_⟩,
    fun s dt p x hr ht hx hst => ⟨fun hearly => ?_, fun hdue hsafe => ?_, fun hdue hlp htr => ?_⟩⟩
  · refine (Rule.finish_switchCloses_closing (s.elapse dt) p hr.1 ht hst).trans ?_
    rw [Douser.ended_closing (d := (s.elapse dt).ds p) .closedEnd _ .closed hx hfull hdir, hm]
    rfl
  · refine (Rule.finish_switchCloses_closing (s.elapse dt) p hr.1 ht hst).trans ?_
    rw [Douser.ended_partial (d := (s.elapse dt).ds p) .closedEnd _ .closed hx hfull]
    rfl
  · subst hh
    let v := (s.elapse dt).setDs p ((s.ds p).ended .openEnd (s.now + dt) .opened)
    have hvds (q : Proj) : v.ds q = if q = p then (s.ds p).ended .openEnd (s.now + dt) .opened else s.ds q := State.setDs_ds ..
    have hds (q : Proj) := v.interlock_ds p q
    have hp : (v.interlock p).ds p = (s.ds p).ended .openEnd (s.now + dt) .opened := by
      rw [hds, if_neg fun h => otherProj_ne p h.1.symm, hvds, if_pos rfl]
    have hother : (v.interlock p).ds (otherProj p) = if (s.ds (otherProj p)).state = .opened then
        (s.ds (otherProj p)).closingFrom true (s.now + dt) else s.ds (otherProj p) := by
      rw [hds, hvds, if_neg (otherProj_ne p)]
      simp only [true_and]
      rfl
    obtain ⟨h8, h1, h2, h3, h4, h5, h6, h7, -⟩ := v.interlock_keeps p
    have hrule := Rule.switchCloses_opening (s.elapse dt) p hst
    change Rule.switchCloses _ p .openEnd = ⟨(v.interlock p).trialTravelEnds p, _, _⟩ at hrule
    rw [State.trialTravelEnds_untried (by rw [hp, Douser.ended_trial]; exact ht)] at hrule
    have hhouse : (v.interlock p).hs (houseOf p) = s.hs (houseOf p) := by rw [State.hs, h4]; rfl
    have hend := Rule.finish_opened (v.interlock p) p (by rw [hhouse]; exact hstart) (by
      rw [hhouse]
      refine hc.imp_right fun ⟨hy, hph, hz, hin, hopen⟩ => ⟨y, hy, hph, ?_⟩
      simp only [State.crossingDone, hph, hz, hin, hother]
      rcases hopen with h | h | h <;> simp [h, Douser.closingFrom])
    refine ⟨v.interlock p, (congrArg Rule.finish hrule).trans hend, fun hfull => hp.trans ?_, fun hfull => hp.trans ?_,
      fun ho => hother.trans (if_pos ho), fun ho => hother.trans (if_neg ho), fun q hq hqo => ?_, h1, h2, h3, h4, h5, h6, h7, h8⟩
    · rw [Douser.ended_opening .openEnd _ .opened hx hfull hdir, hm]
      rfl
    · exact Douser.ended_partial .openEnd _ .opened hx hfull
    · rw [hds, if_neg fun h => hqo h.1, hvds, if_neg hq]
  · exact (congrArg Rule.finish (Rule.switchCloses_uncommanded (s.elapse dt) p .openEnd (.inr ⟨hst, rfl⟩))).trans
      (Rule.finish_stuck_safe _ p hr hsafe)
  · exact (congrArg Rule.finish (Rule.switchCloses_uncommanded (s.elapse dt) p .closedEnd (.inl ⟨hst, rfl⟩))).trans
      (Rule.finish_stuck_safe _ p hr hsafe)
  · rw [show exec (.douserSwitchCloses dt p .closedEnd) s =
      (Rule.switchCloses ⟨s.elapse dt, [], false⟩ p .closedEnd).finish from rfl, Rule.switchCloses_stuck (s.elapse dt) p _ hst]
    refine (congrArg Rule.finish ?_).trans (Rule.finish_closed (s.elapse dt) p _ hr rfl)
    simp [Rule.unstick, Rule.upd, Rule.emit]
    rfl
  · let w := (s.elapse dt).setDs p { s.ds p with switches := some ⟨switchReading .openEnd, s.now + dt⟩ }
    have hwds : w.ds p = { s.ds p with switches := some ⟨switchReading .openEnd, s.now + dt⟩ } := State.setDs_ds_self ..
    have hgw : w.gating p = true := (State.gating_setDs (s.elapse dt) p
      { s.ds p with switches := some ⟨switchReading .openEnd, s.now + dt⟩ } rfl).trans hgate
    have hstuck := Rule.switchCloses_stuck (s.elapse dt) p .openEnd hst
    have hopen := Rule.unstick_opens w p (by rw [hwds]; exact hdrive) hgw
      (by rw [State.setDs_ds, if_neg (otherProj_ne p)]; exact hother)
    refine (congrArg Rule.finish (hstuck.trans hopen)).trans ((Rule.finish_opened (w.setDs p { w.ds p with state := .opened }) p ?_
      (.inl hr.2.1)).trans ?_)
    · exact (HouseState.inShow_false hr.1).1
    · rw [State.setDs_setDs, hwds]
      rfl
  · let w := (s.elapse dt).setDs p { s.ds p with switches := some ⟨switchReading .openEnd, s.now + dt⟩ }
    have hwds : w.ds p = { s.ds p with switches := some ⟨switchReading .openEnd, s.now + dt⟩ } := State.setDs_ds_self ..
    have hstuck := Rule.switchCloses_stuck (s.elapse dt) p .openEnd hst
    have hclose := Rule.unstick_closes w p (by
      rw [hwds, State.gating_setDs (s.elapse dt) p { s.ds p with switches := some ⟨switchReading .openEnd, s.now + dt⟩ } rfl]
      exact hno)
    refine (congrArg Rule.finish (hstuck.trans hclose)).trans ((Rule.finish_plain _).trans ?_)
    rw [State.setDs_setDs, hwds]
    rfl
  · exact (congrArg Rule.finish (Rule.switchCloses_idle (s.elapse dt) p .openEnd (.inl ⟨hst, rfl⟩))).trans (Rule.finish_plain _)
  · exact (congrArg Rule.finish (Rule.switchCloses_idle (s.elapse dt) p .closedEnd (.inr ⟨hst, rfl⟩))).trans (Rule.finish_plain _)
  · exact (congrArg Rule.finish (Rule.travelExpires_early (s.elapse dt) p hx hearly)).trans (Rule.finish_plain _)
  · have hdue' := Rule.travelExpires_due (s.elapse dt) p hx hst hdue
    rw [State.trialSticks_untried (by exact (congrArg Douser.trial (State.setDs_ds_self ..)).trans ht)] at hdue'
    exact (congrArg Rule.finish hdue').trans (Rule.finish_stuck_safe _ p hr hsafe)
  · have hexp := Rule.travelExpires_due (s.elapse dt) p hx hst hdue
    rw [State.trialSticks_untried (by exact (congrArg Douser.trial (State.setDs_ds_self ..)).trans ht)] at hexp
    let w := ((s.elapse dt).setDs p { s.ds p with state := .stuck, travel := none }).reportProj p
      (.douserStuck (match x.dir with | .opens => .opening | .closes => .closing) x.limit ((x.limit - 100) / 2))
    have hds (q : Proj) : w.ds q = if q = p then { s.ds p with state := .stuck, travel := none } else s.ds q :=
      State.setDs_ds ..
    have hdsp := (hds p).trans (if_pos rfl)
    obtain ⟨t, hend, ⟨h1, h2, h3, h4, h5, h6, h7, h8, h9⟩⟩ := Rule.finish_stuck_fires w p hr (by rw [hdsp]) (by rw [hdsp]; exact ht)
      hlp htr
    exact ⟨t, (congrArg Rule.finish hexp).trans hend, h1, h2.trans (congrArg Douser.travel hdsp), h3, h4, h5.1, h5.2,
      fun q hq => ⟨(h6 q hq).1.trans ((hds q).trans (if_neg hq)), (h6 q hq).2⟩, h7, h8, h9⟩

end Sys2Proof.Machine
end

section
/-! PROOFS. DOUSER TRIAL: its travels and pauses, and its early ends. -/

namespace Sys2Proof.Machine

/-! ## The end of a trial -/

/-- R46, R47: the end of a trial that runs, written out. -/
theorem State.endTrial_eq {s : State} {p : Proj} {k : Trial} (o : TrialOutcome) (hk : (s.ds p).trial = some k) :
    s.endTrial p o = ((s.setDs p { s.ds p with trial := none }).setLink
      (s.link.enqueue (projNumber p) (.trialDone o k.completed (s.ds p).openTime (s.ds p).closeTime))).gatingWatch p := by
  rw [State.endTrial, hk]
  rfl

theorem State.endTrial_none {s : State} {p : Proj} (o : TrialOutcome) (h : (s.ds p).trial = none) : s.endTrial p o = s := by
  rw [State.endTrial, h]

/-- R46, R47: what the end of trial `k` over an OFF lamp leaves. -/
structure State.TrialEnded (s t : State) (p : Proj) : Prop where
  trial : (t.ds p).trial = none
  openTime : (t.ds p).openTime = (s.ds p).openTime
  closeTime : (t.ds p).closeTime = (s.ds p).closeTime
  shut : (t.ds p).state ≠ .opened ∧ (t.ds p).state ≠ .opening
  others : ∀ r, r ≠ p → t.ds r = s.ds r

/-- The link and the other records play no part. -/
theorem State.TrialEnded.congr {s t s' t' : State} {p : Proj} (h : s.TrialEnded t p) (hs : s'.dousers = s.dousers)
    (ht : t'.dousers = t.dousers) : s'.TrialEnded t' p := by
  have hds (r : Proj) : s'.ds r = s.ds r := congrArg (fun b => b.cell r) hs
  have hdt (r : Proj) : t'.ds r = t.ds r := congrArg (fun b => b.cell r) ht
  obtain ⟨h1, h2, h3, h4, h5⟩ := h
  exact ⟨by rw [hdt]; exact h1, by rw [hdt, hds]; exact h2, by rw [hdt, hds]; exact h3, by rw [hdt]; exact h4,
    fun r hr => by rw [hdt, hds]; exact h5 r hr⟩

theorem State.endTrial_ended {s : State} {p : Proj} {k : Trial} (o : TrialOutcome) (hk : (s.ds p).trial = some k)
    (hl : (s.lp p).state = .off) : s.TrialEnded (s.endTrial p o) p ∧ (s.endTrial p o).link =
      s.link.enqueue (projNumber p) (.trialDone o k.completed (s.ds p).openTime (s.ds p).closeTime) := by
  let w := (s.setDs p { s.ds p with trial := none }).setLink
    (s.link.enqueue (projNumber p) (.trialDone o k.completed (s.ds p).openTime (s.ds p).closeTime))
  have hds : w.ds p = { s.ds p with trial := none } := State.setDs_ds_self ..
  have hg : w.gating p = false := by
    have hlp : (w.lp p).state = .off := hl
    simp [State.gating, State.trialCase, hlp, hds]
  have hshut := not_or.1 (w.gatingWatch_closes p hg)
  have hlink : (w.gatingWatch p).link = w.link := (w.gatingWatch_keeps p).1
  have hkeep : ((w.gatingWatch p).ds p).trial = (w.ds p).trial ∧ ((w.gatingWatch p).ds p).openTime = (w.ds p).openTime ∧
      ((w.gatingWatch p).ds p).closeTime = (w.ds p).closeTime := by
    rcases w.gatingWatch_cases p with h | ⟨h, -⟩ <;> rw [h]
    · exact w.closeCommand_ds_keeps p p
    · exact ⟨rfl, rfl, rfl⟩
  rw [hds] at hkeep
  rw [State.endTrial_eq o hk]
  refine ⟨⟨hkeep.1, hkeep.2.1, hkeep.2.2, hshut, fun r hr => ?_⟩, hlink⟩
  exact ((State.byLamp_gatingWatch w p).others r hr).2.trans ((State.setDs_ds ..).trans (if_neg hr))

/-! ## The travels -/

/-- R37: a trial is what opens a douser over an OFF lamp. -/
theorem State.gating_trial {s : State} {p : Proj} (ht : (s.ds p).trial.isSome = true) (hl : (s.lp p).state = .off)
    (htr : (s.tr p).state = .stopped) : s.gating p = true := by
  simp [State.gating, State.trialCase, ht, hl, htr]

/-- R37: an open command to a CLOSED douser on trial. -/
theorem State.openCommand_trial {s : State} {p : Proj} (hd : (s.ds p).state = .closed) (ht : (s.ds p).trial.isSome = true)
    (hl : (s.lp p).state = .off) (htr : (s.tr p).state = .stopped) : s.openCommand p = s.setDs p { s.ds p with
      drive := .opens
      state := .opening
      travel := some ⟨.opens, s.now, true, 2 * (s.ds p).openTime + 100⟩ } := by
  unfold State.openCommand
  refine (if_pos ⟨State.gating_trial ht hl htr, .inl hd⟩).trans ?_
  simp [hd, travelLimit]

/-- R46: the travel of a trial that has not run its eight ends in a pause. -/
theorem State.trialTravelEnds_pauses {s : State} {p : Proj} {n : Nat} {y : TrialPhase} {e : Option Instant}
    (hk : (s.ds p).trial = some ⟨n, y, e⟩) (hn : n < 7) : s.trialTravelEnds p =
      s.setDs p { s.ds p with trial := some ⟨n + 1, .pause, some (s.now + 5000)⟩ } := by
  have hmore : n + 1 < 8 := by omega
  simp [State.trialTravelEnds, hk, hmore, ms]

/-- R46: the eighth ends the trial. -/
theorem State.trialTravelEnds_completes {s : State} {p : Proj} {y : TrialPhase} {e : Option Instant}
    (hk : (s.ds p).trial = some ⟨7, y, e⟩) (hd : ¬ (s.ds p).agape) : s.trialTravelEnds p =
      (s.setDs p { s.ds p with trial := none }).setLink
        (s.link.enqueue (projNumber p) (.trialDone .complete 8 (s.ds p).openTime (s.ds p).closeTime)) := by
  have hend : s.trialTravelEnds p = (s.setDs p { s.ds p with trial := some ⟨8, y, e⟩ }).endTrial p .complete := by
    simp [State.trialTravelEnds, hk]
  rw [hend, State.endTrial_eq (k := ⟨8, y, e⟩) .complete (by simp), State.gatingWatch_shut _ p]
  · simp
  · change ¬ (((s.setDs p _).setDs p _).ds p).agape
    rw [State.setDs_ds_self, State.setDs_ds_self]
    exact hd

/-- R46: the pause of a trial ends, and the next travel is commanded. -/
theorem Rule.pauseEnds_due (s : State) (p : Proj) {n : Nat} {e : Instant} (hk : (s.ds p).trial = some ⟨n, .pause, some e⟩)
    (he : e ≤ s.now) : Rule.pauseEnds ⟨s, [], false⟩ p =
      match (s.ds p).state with
      | .closed => ⟨(s.setDs p { s.ds p with trial := some ⟨n, .travel, none⟩ }).openCommand p, [], false⟩
      | .opened => ⟨(s.setDs p { s.ds p with trial := some ⟨n, .travel, none⟩ }).closeCommand p, [], false⟩
      | .opening | .closing | .stuck => ⟨s.setDs p { s.ds p with trial := some ⟨n, .travel, none⟩ }, [], false⟩ := by
  have hdue : due (some e) s.now = true := due_late he
  unfold Rule.pauseEnds
  dsimp only
  rw [hk]
  refine (if_pos ⟨rfl, hdue⟩).trans ?_
  cases (s.ds p).state <;> rfl

/-- R46: a trial's travel that ends CLOSED. -/
theorem Rule.finish_trial_closed (s : State) (p : Proj) {n : Nat} {y : TrialPhase} {e : Option Instant}
    (hr : s.houseAtRest (houseOf p)) (hk : (s.ds p).trial = some ⟨n, y, e⟩) (hn : n < 7) (hst : (s.ds p).state = .closing) :
    (Rule.switchCloses ⟨s, [], false⟩ p .closedEnd).finish = .next (s.setDs p { (s.ds p).ended .closedEnd s.now .closed with
      trial := some ⟨n + 1, .pause, some (s.now + 5000)⟩ }) := by
  rw [Rule.switchCloses_closing s p hst, State.trialTravelEnds_pauses (n := n) (y := y) (e := e)
    (by rw [State.setDs_ds_self, Douser.ended_trial]; exact hk) hn]
  simp only [State.setDs_setDs, State.setDs_ds_self]
  exact Rule.finish_closed s p _ hr rfl

/-- R46: a trial's travel that ends OPEN, the other douser not OPEN. -/
theorem Rule.finish_trial_opened (s : State) (p : Proj) {n : Nat} {y : TrialPhase} {e : Option Instant}
    (hr : s.houseAtRest (houseOf p)) (hk : (s.ds p).trial = some ⟨n, y, e⟩) (hn : n < 7) (hst : (s.ds p).state = .opening)
    (ho : (s.ds (otherProj p)).state ≠ .opened) :
    (Rule.switchCloses ⟨s, [], false⟩ p .openEnd).finish = .next (s.setDs p { (s.ds p).ended .openEnd s.now .opened with
      trial := some ⟨n + 1, .pause, some (s.now + 5000)⟩ }) := by
  rw [Rule.switchCloses_opening s p hst, State.interlock_shut (by rw [State.setDs_ds, if_neg (otherProj_ne p)]; exact ho),
    State.trialTravelEnds_pauses (n := n) (y := y) (e := e) (by rw [State.setDs_ds_self, Douser.ended_trial]; exact hk) hn]
  simp only [State.setDs_setDs, State.setDs_ds_self]
  exact Rule.finish_opened _ p (HouseState.inShow_false hr.1).1 (.inl hr.2.1)

/-! ## The request -/

/-- R45: an acceptable DOUSER TRIAL. -/
theorem Rule.decideDouserTrial_done (r : Rule) {b : Byte} {p : Proj} (hb : b.toNat = p.val + 1)
    (hl : (r.st.lp p).state = .off) (htr : (r.st.tr p).state = .stopped) (hshow : (r.st.hs (houseOf p)).state.inShow = false)
    (hd : (r.st.ds p).state = .closed) (ht : (r.st.ds p).trial = none) (ho : (r.st.ds (otherProj p)).trial = none)
    (hc : r.st.booth.covers (projPort p) = false) : r.decideDouserTrial b =
      (r.upd (fun s => (s.setDs p { s.ds p with trial := some ⟨0, .travel, none⟩ }).openCommand p)).done := by
  simp [Rule.decideDouserTrial, projOf_of_toNat hb, hl, htr, hshow, hd, ht, ho, hc]

/-! ## The early ends -/

/-- R3, R47: the motor start of an EMPTY projector. -/
theorem Rule.motorStart_unarmed (s : State) (p : Proj) (hs : (s.tr p).state = .stopped) (ha : (s.tr p).armed = none) :
    Rule.motorStart ⟨s, [], false⟩ p =
      ⟨(s.setTr p ((s.tr p).started s.now)).endTrial p .motor, [.transport p .starting], false⟩ := by
  have harmed : (((s.setTr p ((s.tr p).started s.now)).endTrial p .motor).tr p).armed = none := by
    have htr := ((s.setTr p ((s.tr p).started s.now)).endTrial_keeps p .motor).1
    rw [State.tr, htr]
    exact (congrArg Transport.armed ((State.setTr_tr ..).trans (if_pos rfl))).trans ha
  have hreader : ((s.setTr p ((s.tr p).started s.now)).endTrial p .motor).readerStarts p =
      (s.setTr p ((s.tr p).started s.now)).endTrial p .motor := by
    rw [State.readerStarts, harmed]
  exact (if_pos hs).trans (congrArg (fun t => (⟨t, [.transport p .starting], false⟩ : Rule)) hreader)

/-- R47: a trial in TRAVEL that is stuck. -/
theorem State.trialSticks_travel {s : State} {p : Proj} {k : Trial} (hk : (s.ds p).trial = some k) (hp : k.phase = .travel)
    (hd : (s.ds p).state = .stuck) : s.trialSticks p = (s.setDs p { s.ds p with trial := none }).setLink
      (s.link.enqueue (projNumber p) (.trialDone .stuck k.completed (s.ds p).openTime (s.ds p).closeTime)) := by
  have hend : s.trialSticks p = s.endTrial p .stuck := by simp [State.trialSticks, hk, hp]
  rw [hend, State.endTrial_eq .stuck hk]
  refine State.gatingWatch_shut _ p ?_
  change ¬ ((s.setDs p { s.ds p with trial := none }).ds p).agape
  rw [State.setDs_ds_self]
  simp [Douser.agape, hd]

theorem State.trialSticks_pause {s : State} {p : Proj} {k : Trial} (hk : (s.ds p).trial = some k) (hp : k.phase = .pause) :
    s.trialSticks p = s := by
  simp [State.trialSticks, hk, hp]

/-- R142: a port that is DOWN is not released. -/
theorem Rule.release_down (r : Rule) (seq : Nat) (n : PortId) (h : (r.st.pt n).state = .down) : r.release seq n = r :=
  if_neg (by simp [h])

/-- R47, R144, R146: the drop test of a DOWN port whose projector is on trial: its record is settled at once, and the trial
stops. -/
theorem Rule.activation_test_down (s : State) (p : Proj) (hdown : (s.pt (projPort p)).state = .down)
    (hroom : s.booth.log.length < 16) (hold : ∀ d ∈ s.booth.log, d.seq ≠ s.booth.nextSeq)
    (hlinks : ∀ n l, (s.pt n).link = some l → l.seq ≠ s.booth.nextSeq) : ∃ b, Rule.activation ⟨s, [], false⟩ .test none [projPort p] =
      ⟨((s.setBooth b).setLink (s.link.enqueue 0 (.portDropped s.booth.nextSeq (some .test) none))).endTrial p .fire, [], false⟩ := by
  let b : Booth := { s.booth with
    log := s.booth.log ++ [s.dropRecord .test none [projPort p]], nextSeq := nextSequence s.booth.nextSeq }
  have hwrite : s.writeRecord .test none [projPort p] = s.setBooth b := State.writeRecord_room .test none _ hroom
  have hsettled : (s.setBooth b).settled ⟨s.booth.nextSeq, false, false⟩ = true :=
    (State.settled_iff _ _).2 fun k _ hk => hlinks k _ hk rfl
  have hfind : b.log.find? (fun x => x.seq = s.booth.nextSeq) = some (s.dropRecord .test none [projPort p]) := by
    rw [List.find?_append, List.find?_eq_none.2 fun d hd => by simpa using hold d hd]
    simp [State.dropRecord]
  have hjudge : (s.setBooth b).judgeSettled ⟨s.booth.nextSeq, false, false⟩ = (s.setBooth b).setLink
      (s.link.enqueue 0 (.portDropped s.booth.nextSeq (some .test) none)) :=
    State.judgeSettled_settled rfl hsettled hfind
  have hrel : Rule.releaseAll ⟨s.setBooth b, [], false⟩ s.booth.nextSeq [projPort p] = ⟨s.setBooth b, [], false⟩ :=
    Rule.release_down _ _ _ hdown
  have hdrop : Rule.drop ⟨s, [], false⟩ .test none [projPort p] = ⟨(s.setBooth b).setLink
      (s.link.enqueue 0 (.portDropped s.booth.nextSeq (some .test) none)), [], false⟩ := by
    rw [Rule.drop_unannounced _ _ _ rfl]
    dsimp only [Rule.upd]
    rw [hwrite, hrel, hjudge]
  refine ⟨b, ?_⟩
  rw [Rule.activation, hdrop]
  simp [Rule.upd, State.stopTrials, portProj_projPort]

theorem projPort_val (p : Proj) : (projPort p).val = p.val := by
  revert p
  decide

/-- R94: a READY projector that holds the next entry fails no condition of its start. -/
theorem State.startFailures_ready {s : State} {h : HouseId} {e : ReelEntry} (hready : s.ready (projAt h e.side) = true)
    (harm : e.status = .armed) (hheld : (s.tr (projAt h e.side)).armed.map (fun a => (a.house, a.reel)) = some (h, e.reel)) :
    s.startFailures h e = ReadyFailures.none := by
  have hnone : s.readyFailures (projAt h e.side) = ReadyFailures.none := by simpa [State.ready] using hready
  have hentry : (!(decide ((s.tr (projAt h e.side)).armed.map (fun a => (a.house, a.reel)) = some (h, e.reel) ∧
      e.status = .armed))) = false := by
    rw [decide_eq_true ⟨hheld, harm⟩]
    rfl
  unfold State.startFailures
  dsimp only
  rw [hnone, hentry]
  rfl

/-- R47: the trials of a house's dousers end, where one of them runs. -/
theorem State.endTrials_one {s : State} {h : HouseId} {p : Proj} (o : TrialOutcome) (hp : houseOf p = h)
    (ho : (s.ds (otherProj p)).trial = none) : (s.endTrial (projAt h .a) o).endTrial (projAt h .b) o = s.endTrial p o := by
  have hall : ∀ h : HouseId, otherProj (projAt h .a) = projAt h .b ∧ otherProj (projAt h .b) = projAt h .a := by decide
  have hother := hall h
  rcases (houseOf_eq_iff p h).1 hp with rfl | rfl
  · rw [hother.1] at ho
    refine State.endTrial_none o ?_
    rw [State.endTrial_ds_other _ _ (projAt_a_ne_b h).symm]
    exact ho
  · rw [hother.2] at ho
    rw [State.endTrial_none o ho]

/-- R47: a trial is stopped by a drop test of its port. -/
theorem exec_dropTest_trial (s : State) (dt : Nat) (b : Byte) (p : Proj) (k : Trial) (hk : (s.ds p).trial = some k)
    (hl : (s.lp p).state = .off) (hs : s.linkReady) (hsend : s.link.transmitter ≠ .idle) (hb : b.toNat = p.val + 1)
    (hshow : (s.hs (houseOf p)).state.inShow = false) (hpt : (s.pt (projPort p)).state = .down)
    (hroom : s.booth.log.length < 16) (hold : ∀ d ∈ s.booth.log, d.seq ≠ s.booth.nextSeq)
    (hlinks : ∀ n l, (s.pt n).link = some l → l.seq ≠ s.booth.nextSeq) :
    ∃ t, exec (.dropTest dt .port b) s = .next t ∧ s.TrialEnded t p ∧
      t.link = { (s.link.enqueue 0 (.portDropped s.booth.nextSeq (some .test) none)).enqueue (projNumber p)
        (.trialDone .fire k.completed (s.ds p).openTime (s.ds p).closeTime) with
        slot := some (.done 38 (.sequence s.booth.nextSeq)) } := by
  let w := (s.elapse dt).setLink s.link.claimed
  have hclaim : s.link.claimed = s.link := s.link.claimed_sending hsend
  obtain ⟨c, hact⟩ := Rule.activation_test_down w p hpt hroom hold hlinks
  obtain ⟨hnamed, -, -, -, hhouse⟩ := namedPorts_eq (form := .port) (b := b) (m := projPort p)
    (.inl ⟨rfl, by rw [projPort_val]; exact hb, rfl, rfl⟩)
  let y := (w.setBooth c).setLink (w.link.enqueue 0 (.portDropped s.booth.nextSeq (some .test) none))
  have hask : Rule.ask ⟨w, [], false⟩ (.dropTest .port b) =
      ⟨.done (.sequence s.booth.nextSeq), ⟨y.endTrial p .fire, [], false⟩⟩ :=
    (Rule.decideDropTest_done ⟨w, [], false⟩ hnamed hhouse (by rw [portHouse_projPort]; exact hshow)).trans
      (congrArg (Rule.doneWith · (.sequence s.booth.nextSeq)) hact)
  obtain ⟨hended, hylink⟩ := State.endTrial_ended (s := y) (p := p) (k := k) .fire hk hl
  have hbusy : (y.endTrial p .fire).link.transmitter ≠ .idle := fun hi => s.link.claimed_awake
    ((s.link.claimed.enqueue_fed _ _).idle ((y.endTrial_fed p .fire).idle hi).1).1
  obtain ⟨t, ht, hend, -, -, hlink⟩ := Rule.finish_request_unheeded (s.elapse dt) (y.endTrial p .fire) (.dropTest .port b)
    (.done (.sequence s.booth.nextSeq)) [] hs rfl hbusy hask (by simp) (by simp)
  refine ⟨t, ht, hended.congr rfl hend.dousers, (hlink hsend).trans ?_⟩
  rw [hylink]
  change ({ (s.link.claimed.enqueue 0 _).enqueue _ _ with slot := _ } : Link) = _
  rw [hclaim]
  rfl

/-- R47: a trial is stopped by the RUN MOTOR of its projector. -/
theorem exec_runMotor_trial (s : State) (dt : Nat) (b : Byte) (p : Proj) (k : Trial) (hk : (s.ds p).trial = some k)
    (hl : (s.lp p).state = .off) (htr : (s.tr p).state = .stopped) (hs : s.linkReady) (hsend : s.link.transmitter ≠ .idle)
    (hb : b.toNat = p.val + 1) (hshow : (s.hs (houseOf p)).state.inShow = false) (ha : (s.tr p).armed = none)
    (hfree : s.booth.stopsMotors (houseOf p) = false) :
    ∃ t, exec (.runMotor dt b) s = .next t ∧ (t.tr p).state = .starting ∧ s.TrialEnded t p ∧
      t.link = { s.link.enqueue (projNumber p)
        (.trialDone .motor k.completed (s.ds p).openTime (s.ds p).closeTime) with slot := some (.done 16 .nothing) } := by
  let w := (s.elapse dt).setLink s.link.claimed
  have hclaim : s.link.claimed = s.link := s.link.claimed_sending hsend
  let y := w.setTr p ((s.tr p).started (s.now + dt))
  have hask : Rule.ask ⟨w, [], false⟩ (.runMotor b) =
      ⟨.done .nothing, ⟨y.endTrial p .motor, [.transport p .starting], false⟩⟩ :=
    (Rule.decideRunMotor_done ⟨w, [], false⟩ b p hb ha htr hshow hfree).trans
      (congrArg Rule.done (Rule.motorStart_unarmed w p htr ha))
  obtain ⟨hended, hylink⟩ := State.endTrial_ended (s := y) (p := p) (k := k) .motor hk hl
  have hbusy : (y.endTrial p .motor).link.transmitter ≠ .idle := fun hi =>
    s.link.claimed_awake ((y.endTrial_fed p .motor).idle hi).1
  obtain ⟨t, ht, hend, -, -, hlink⟩ := Rule.finish_request_unheeded (s.elapse dt) (y.endTrial p .motor) (.runMotor b)
    (.done .nothing) [.transport p .starting] hs rfl hbusy hask (by simp [settleBound]) fun z hz k l' t => by
      obtain rfl := List.mem_singleton.1 hz
      rfl
  refine ⟨t, ht, ?_, hended.congr rfl hend.dousers, (hlink hsend).trans ?_⟩
  · have htp : t.tr p = y.tr p := congrArg (fun b => b.cell p) (hend.transports.trans (y.endTrial_keeps p .motor).1)
    rw [htp, State.setTr_tr, if_pos rfl]
    rfl
  · rw [hylink]
    change ({ s.link.claimed.enqueue _ _ with slot := _ } : Link) = _
    rw [hclaim]
    rfl

/-- R47: a trial is stopped by the START of its house on the other projector. -/
theorem exec_start_trial (s : State) (dt : Nat) (b : Byte) (p : Proj) (k : Trial) (e : ReelEntry)
    (hk : (s.ds p).trial = some k) (hl : (s.lp p).state = .off) (hs : s.linkReady) (hsend : s.link.transmitter ≠ .idle)
    (hb : b.toNat = (houseOf p).val + 1) (hst : (s.hs (houseOf p)).state = .ready ∨ (s.hs (houseOf p)).state = .hold)
    (he : nextEntry (s.hs (houseOf p)).plan = some e) (harm : e.status = .armed)
    (hside : projAt (houseOf p) e.side = otherProj p)
    (hheld : (s.tr (otherProj p)).armed.map (fun a => (a.house, a.reel)) = some (houseOf p, e.reel))
    (hready : s.ready (otherProj p) = true) (hqt : (s.ds (otherProj p)).trial = none) :
    ∃ t, exec (.start dt b) s = .next t ∧ (t.hs (houseOf p)).state = .starting ∧ s.TrialEnded t p ∧
      t.link = { s.link.enqueue (projNumber p)
        (.trialDone .house k.completed (s.ds p).openTime (s.ds p).closeTime) with slot := some (.done 30 .nothing) } := by
  let w := (s.elapse dt).setLink s.link.claimed
  have hclaim : s.link.claimed = s.link := s.link.claimed_sending hsend
  have hfree : w.startFailures (houseOf p) e = ReadyFailures.none :=
    State.startFailures_ready (s := w) (by rw [hside]; exact hready) harm (by rw [hside]; exact hheld)
  have hqstop : (s.tr (otherProj p)).state = .stopped := by
    have hnone : s.readyFailures (otherProj p) = ReadyFailures.none := by simpa [State.ready] using hready
    simpa [State.readyFailures, ReadyFailures.none] using congrArg ReadyFailures.stopped hnone
  obtain ⟨v, u, hshow, hv, hu⟩ := Rule.startShow_cases w (houseOf p) e (by rw [hside]; exact hqstop)
  rw [hside] at hshow hu
  let y := w.setHs (houseOf p) ((s.hs (houseOf p)).starting e.side)
  have hvy : v = y.endTrial p .house := hv.trans (State.endTrials_one (s := y) .house rfl hqt)
  obtain ⟨hended, hylink⟩ := State.endTrial_ended (s := y) (p := p) (k := k) .house hk hl
  rw [← hvy] at hended hylink
  obtain ⟨hud, hul⟩ := hu.untried (by rw [hended.others _ (otherProj_ne p)]; exact hqt)
  have hask : Rule.ask ⟨w, [], false⟩ (.start b) = ⟨.done .nothing, ⟨u, [.transport (otherProj p) .starting], false⟩⟩ :=
    (Rule.decideStart_next ⟨w, [], false⟩ hb hst he).trans ((if_pos hfree).trans (congrArg Rule.done hshow))
  have hbusy : u.link.transmitter ≠ .idle := fun hi => by
    rw [hul, hylink] at hi
    exact s.link.claimed_awake ((s.link.claimed.enqueue_fed _ _).idle hi).1
  obtain ⟨t, ht, hend, -, -, hlink⟩ := Rule.finish_request_unheeded (s.elapse dt) u (.start b) (.done .nothing) _ hs rfl
    hbusy hask (by simp [settleBound]) fun z hz k l' t => by
      obtain rfl := List.mem_singleton.1 hz
      rfl
  refine ⟨t, ht, ?_, hended.congr rfl (hend.dousers.trans hud), (hlink hsend).trans ?_⟩
  · have hhs : t.houses = y.houses := hend.houses.trans (hu.houses.trans (by
      rw [hvy]
      exact (y.endTrial_keeps p .house).2.2.2.1))
    have hth : t.hs (houseOf p) = y.hs (houseOf p) := by rw [State.hs, hhs]; rfl
    rw [hth, State.setHs_hs, if_pos rfl]
    rfl
  · rw [hul, hylink]
    change ({ s.link.claimed.enqueue _ _ with slot := _ } : Link) = _
    rw [hclaim]
    rfl

/-- Settles O15, by the trial's phase and by what ends it early. -/
theorem douserTrialRunsItsTravels : Obligations.DouserTrialRunsItsTravels := by
  refine ⟨fun s dt b p n e x hl htr hr => ⟨fun hs hb hd ht ho hc => ?_, fun hk he hd => ?_, fun hk he hd => ?_,
      fun hk hn hst hx => ?_, fun hk hst hx hdir => ?_⟩,
    fun s dt p n x m hl htr hr hk hn hx hfull hm => ⟨fun hst hdir ho => ?_, fun hst hdir => ?_⟩,
    fun s dt b p q k x e h hh hq hk hl htr => ⟨fun hp hr hst hx hdue => ?_, fun hp hr hst hx hdue => ?_,
      fun hs hsend hb hr hd hpt hroom hold hlinks => ?_, fun hs hsend hb hshow ha hd hfree => ?_,
      fun hs hsend hb hst he harm hside hheld hready hqt hd => ?_⟩⟩
  · let w := ((s.elapse dt).setLink s.link.claimed).setDs p { s.ds p with trial := some ⟨0, .travel, none⟩ }
    have hwds : w.ds p = { s.ds p with trial := some ⟨0, .travel, none⟩ } := State.setDs_ds_self ..
    have hopen : w.openCommand p = _ := State.openCommand_trial (by rw [hwds]; exact hd) (by rw [hwds]; rfl) hl htr
    refine Rule.finish_decided (s.elapse dt) ((s.elapse dt).setDs p { s.ds p with
        trial := some ⟨0, .travel, none⟩
        drive := .opens
        state := .opening
        travel := some ⟨.opens, s.now + dt, true, 2 * (s.ds p).openTime + 100⟩ }) (.douserTrial b) (.done .nothing) [] hs rfl
      rfl ?_ (by simp) (by simp)
    refine (Rule.decideDouserTrial_done _ hb hl htr hr.1 hd ht ho hc).trans ?_
    refine congrArg (fun t => Rule.done ⟨t, [], false⟩) (hopen.trans ?_)
    rw [hwds, State.setDs_setDs]
    rfl
  · let w := (s.elapse dt).setDs p { s.ds p with trial := some ⟨n, .travel, none⟩ }
    have hwds : w.ds p = { s.ds p with trial := some ⟨n, .travel, none⟩ } := State.setDs_ds_self ..
    have hopen : w.openCommand p = _ := State.openCommand_trial (by rw [hwds]; exact hd) (by rw [hwds]; rfl) hl htr
    have hrule := Rule.pauseEnds_due (s.elapse dt) p hk he
    rw [show ((s.elapse dt).ds p).state = .closed from hd] at hrule
    refine (congrArg Rule.finish hrule).trans ((Rule.finish_plain _).trans (congrArg Host.Outcome.next (hopen.trans ?_)))
    rw [hwds, State.setDs_setDs]
    rfl
  · let w := (s.elapse dt).setDs p { s.ds p with trial := some ⟨n, .travel, none⟩ }
    have hwds : w.ds p = { s.ds p with trial := some ⟨n, .travel, none⟩ } := State.setDs_ds_self ..
    have hclose : w.closeCommand p = _ := State.closeCommand_opened (by rw [hwds]; exact hd)
    have hrule := Rule.pauseEnds_due (s.elapse dt) p hk he
    rw [show ((s.elapse dt).ds p).state = .opened from hd] at hrule
    refine (congrArg Rule.finish hrule).trans ((Rule.finish_plain _).trans (congrArg Host.Outcome.next (hclose.trans ?_)))
    rw [hwds, State.setDs_setDs]
    rfl
  · refine ⟨_, Rule.finish_trial_closed (s.elapse dt) p hr hk hn hst, ?_, ?_, rfl⟩
    · rw [State.setDs_ds_self]
      rfl
    · rw [State.setDs_ds_self]
      rfl
  · let w := (s.elapse dt).setDs p ((s.ds p).ended .closedEnd (s.now + dt) .closed)
    have hwds : w.ds p = (s.ds p).ended .closedEnd (s.now + dt) .closed := State.setDs_ds_self ..
    have hrule := Rule.switchCloses_closing (s.elapse dt) p hst
    change Rule.switchCloses _ p .closedEnd = ⟨w.trialTravelEnds p, _, _⟩ at hrule
    rw [State.trialTravelEnds_completes (by rw [hwds, Douser.ended_trial]; exact hk)
      (by rw [hwds]; simp [Douser.agape, Douser.ended]), hwds] at hrule
    have htimes : ((s.ds p).ended .closedEnd (s.now + dt) .closed).openTime = (s.ds p).openTime := by
      cases hfull : x.full with
      | false => rw [Douser.ended_partial .closedEnd _ .closed hx hfull]
      | true => rw [Douser.ended_closing .closedEnd _ .closed hx hfull hdir]
    let d := { (s.ds p).ended .closedEnd (s.now + dt) .closed with trial := none }
    have hds (k : Link) : ((w.setDs p d).setLink k).ds p = d := State.setDs_ds_self ..
    refine ⟨_, (congrArg Rule.finish hrule).trans (Rule.finish_quiet _ _ (by simp [settleBound]) fun y hy => ?_), ?_, ?_, ?_, ?_⟩
    · obtain rfl := List.mem_singleton.1 hy
      refine ⟨⟨hr, ?_⟩, by simp⟩
      rw [hds]
      simp [d, Douser.ended]
    · rw [hds]
      rfl
    · rw [hds]
    · rw [hds]
      exact htimes
    · rw [hds]
      rfl
  · refine (Rule.finish_trial_opened (s.elapse dt) p hr hk hn hst ho).trans ?_
    rw [Douser.ended_opening (d := (s.elapse dt).ds p) .openEnd _ .opened hx hfull hdir, hm]
    rfl
  · refine (Rule.finish_trial_closed (s.elapse dt) p hr hk hn hst).trans ?_
    rw [Douser.ended_closing (d := (s.elapse dt).ds p) .closedEnd _ .closed hx hfull hdir, hm]
    rfl
  · subst hh
    have hexp := Rule.travelExpires_due (s.elapse dt) p hx hst hdue
    let w := ((s.elapse dt).setDs p { s.ds p with state := .stuck, travel := none }).reportProj p
      (.douserStuck (match x.dir with | .opens => .opening | .closes => .closing) x.limit ((x.limit - 100) / 2))
    have hwds : w.ds p = { s.ds p with state := .stuck, travel := none } := State.setDs_ds_self ..
    change Rule.travelExpires _ p = ⟨w.trialSticks p, _, _⟩ at hexp
    rw [State.trialSticks_travel (k := k) (by rw [hwds]; exact hk) hp (by rw [hwds])] at hexp
    refine (congrArg Rule.finish hexp).trans ((Rule.finish_stuck_safe (State.setLink (w.setDs p _) _) p hr (.inl hl)).trans ?_)
    have hcollapse (d : Douser) : w.setDs p d = ((s.elapse dt).setDs p d).setLink w.link :=
      congrArg (·.setLink w.link) (State.setDs_setDs (s.elapse dt) p _ d)
    rw [hwds, hcollapse]
    rfl
  · subst hh
    have hexp := Rule.travelExpires_due (s.elapse dt) p hx hst hdue
    rw [State.trialSticks_pause (k := k) (by exact (congrArg Douser.trial (State.setDs_ds_self ..)).trans hk) hp] at hexp
    rw [← hk]
    exact (congrArg Rule.finish hexp).trans (Rule.finish_stuck_safe _ p hr (.inl hl))
  · subst hh
    obtain ⟨t, ht, ⟨h1, h2, h3, h4, h5⟩, hlink⟩ :=
      exec_dropTest_trial s dt b p k hk hl hs hsend hb hr.1 hpt hroom hold hlinks
    exact ⟨t, ht, h1, h2, h3, h4.1, h4.2, h5, hlink⟩
  · subst hh
    obtain ⟨t, ht, hstart, ⟨h1, h2, h3, h4, h5⟩, hlink⟩ :=
      exec_runMotor_trial s dt b p k hk hl htr hs hsend hb hshow ha hfree
    exact ⟨t, ht, hstart, h1, h2, h3, h4.1, h4.2, h5, hlink⟩
  · subst hh hq
    obtain ⟨t, ht, hstart, ⟨h1, h2, h3, h4, h5⟩, hlink⟩ :=
      exec_start_trial s dt b p k e hk hl hs hsend hb hst he harm hside hheld hready hqt
    exact ⟨t, ht, hstart, h1, h2, h3, h4.1, h4.2, h5, hlink⟩

end Sys2Proof.Machine
end

section
/-! PROOFS. The live cue queue: SET CUE SENSE, CUE CLEAR, and what a SHOWING house takes from the head of its queue. -/

namespace Sys2Proof.Machine

/-! ## What a show reads -/

/-- From `s` to `t` nothing has changed of what house `h` reads to find its live, its following and its incoming reel (R92,
R105). -/
structure State.SameShow (s t : State) (h : HouseId) : Prop where
  transports : t.transports = s.transports
  lamps : t.lamps = s.lamps
  dousers : t.dousers = s.dousers
  ports : t.ports = s.ports
  plan : ∀ g, (t.hs g).plan = (s.hs g).plan
  liveSide : (t.hs h).liveSide = (s.hs h).liveSide

theorem State.SameShow.refl (s : State) (h : HouseId) : s.SameShow s h := ⟨rfl, rfl, rfl, rfl, fun _ => rfl, rfl⟩

theorem State.SameShow.trans {s t u : State} {h : HouseId} (a : s.SameShow t h) (b : t.SameShow u h) : s.SameShow u h :=
  ⟨b.transports.trans a.transports, b.lamps.trans a.lamps, b.dousers.trans a.dousers, b.ports.trans a.ports,
    fun g => (b.plan g).trans (a.plan g), b.liveSide.trans a.liveSide⟩

theorem State.sameShow_setRd (s : State) (p : Proj) (d : Reader) (h : HouseId) : s.SameShow (s.setRd p d) h :=
  ⟨rfl, rfl, rfl, rfl, fun _ => rfl, rfl⟩

theorem State.sameShow_setLink (s : State) (k : Link) (h : HouseId) : s.SameShow (s.setLink k) h :=
  ⟨rfl, rfl, rfl, rfl, fun _ => rfl, rfl⟩

/-- A change of the house that keeps its plan and its live side. -/
theorem State.sameShow_setHs (s : State) (h : HouseId) (x : House) (hp : x.plan = (s.hs h).plan)
    (hl : x.liveSide = (s.hs h).liveSide) : s.SameShow (s.setHs h x) h := by
  refine ⟨rfl, rfl, rfl, rfl, fun g => ?_, ?_⟩
  · rw [State.setHs_hs]
    split
    · rename_i hg
      rw [hg, hp]
    · rfl
  · rw [State.setHs_hs, if_pos rfl, hl]

theorem State.setHs_liveProj (s : State) (h : HouseId) (x : House) (hl : x.liveSide = (s.hs h).liveSide) :
    (s.setHs h x).liveProj h = s.liveProj h := by
  rw [State.liveProj, State.setHs_hs, if_pos rfl, hl]
  rfl

section
variable {s t : State} {h : HouseId}

theorem State.SameShow.tr (a : s.SameShow t h) (p : Proj) : t.tr p = s.tr p := by rw [State.tr, a.transports]; rfl

theorem State.SameShow.liveProj (a : s.SameShow t h) : t.liveProj h = s.liveProj h := by
  rw [State.liveProj, a.liveSide]
  rfl

theorem State.SameShow.heldEntry (a : s.SameShow t h) (p : Proj) : t.heldEntry p = s.heldEntry p := by
  unfold State.heldEntry
  rw [a.tr]
  cases (s.tr p).armed with
  | none => rfl
  | some x => exact congrArg (findReel · x.reel) (a.plan x.house)

theorem State.SameShow.liveEntry (a : s.SameShow t h) : t.liveEntry h = s.liveEntry h := by
  unfold State.liveEntry
  rw [a.liveProj]
  exact congrArg _ (funext a.heldEntry)

theorem State.SameShow.followingEntry (a : s.SameShow t h) : t.followingEntry h = s.followingEntry h := by
  unfold State.followingEntry
  rw [a.liveEntry, a.plan]

theorem State.SameShow.ready (a : s.SameShow t h) (p : Proj) : t.ready p = s.ready p := by
  have hheld : t.holdsArmed p = s.holdsArmed p := by rw [State.holdsArmed, a.heldEntry]; rfl
  have hlp : t.lp p = s.lp p := by rw [State.lp, a.lamps]; rfl
  have hds : t.ds p = s.ds p := by rw [State.ds, a.dousers]; rfl
  have hpt : t.pt (projPort p) = s.pt (projPort p) := by rw [State.pt, a.ports]; rfl
  have hsuf : t.isSufficient p = s.isSufficient p := by rw [State.isSufficient, hlp]; rfl
  have hfail : t.readyFailures p = s.readyFailures p := by
    simp only [State.readyFailures, hsuf, hheld, hlp, hds, hpt, a.tr]
  rw [State.ready, hfail]
  rfl

theorem State.SameShow.readyToFollow (a : s.SameShow t h) (p : Proj) : t.readyToFollow h p = s.readyToFollow h p := by
  unfold State.readyToFollow
  rw [a.ready, a.followingEntry, a.tr]

end

/-! ## The heads of the live queue -/

/-- R106: a house that is not SHOWING takes nothing. -/
theorem Rule.takeCues_notShowing (r : Rule) (h : HouseId) (hs : (r.st.hs h).state ≠ .showing) : r.takeCues h = r := by
  unfold Rule.takeCues
  split
  · rfl
  · exact if_neg hs

/-- R106: an empty queue gives nothing. -/
theorem Rule.takeHeads_empty (n : Nat) (r : Rule) {h : HouseId} {p : Proj} (hl : r.st.liveProj h = some p)
    (hq : (r.st.rd p).queue = []) : Rule.takeHeads n h r = r := by
  cases n with
  | zero => rfl
  | succ n =>
    unfold Rule.takeHeads
    split
    · rw [hl]
      split
      · rename_i x live hx he
        obtain rfl := Option.some.inj hx
        rw [hq]
      · rfl
    · rfl

theorem Rule.takeCues_nothing (r : Rule) {h : HouseId} {p : Proj} (hl : r.st.liveProj h = some p)
    (hq : (r.st.rd p).queue = []) : r.takeCues h = r := by
  unfold Rule.takeCues
  rw [hl]
  exact Rule.takeHeads_empty _ r hl hq

/-- R106: a head of the live queue of a SHOWING house. -/
theorem Rule.takeHeads_head (n : Nat) (r : Rule) {h : HouseId} {p : Proj} {w : ReelEntry} {e : CueEntry} {rest : List CueEntry}
    (hs : (r.st.hs h).state = .showing) (hl : r.st.liveProj h = some p) (hw : r.st.liveEntry h = some w)
    (hq : (r.st.rd p).queue = e :: rest) : Rule.takeHeads (n + 1) h r =
      if e.code = .bad then r.upd (fun s => s.reportBadHead h p e)
      else ((r.upd (fun s => s.setRd p { s.rd p with queue := rest })).takeEntry h p w e).takeHeads n h := by
  conv_lhs => unfold Rule.takeHeads
  rw [if_pos hs, hl, hw]
  dsimp only
  rw [hq]

/-- R110: nothing is offered where no expected frame is passed untaken. -/
theorem Rule.countedFallback_nothing (r : Rule) (h : HouseId) (hno : ∀ p w, r.st.liveProj h = some p → r.st.liveEntry h = some w →
    (r.st.counterPasses h p w.motorFrame 48 = true → (r.st.hs h).marks.motorTaken = true) ∧
      (r.st.counterPasses h p w.changeFrame 12 = true → (r.st.hs h).marks.changeTaken = true)) : r.countedFallback h = r := by
  unfold Rule.countedFallback
  split
  · rename_i p w hp hw
    obtain ⟨h1, h2⟩ := hno p w hp hw
    have hm : ¬ (r.st.counterPasses h p w.motorFrame 48 = true ∧ (r.st.hs h).marks.motorTaken = false ∧
        (r.st.hs h).marks.countedMotor = false) := fun ⟨hc, ht, _⟩ => by simp [h1 hc] at ht
    have hc : ¬ (r.st.counterPasses h p w.changeFrame 12 = true ∧ (r.st.hs h).marks.changeTaken = false ∧
        (r.st.hs h).marks.countedChange = false) := fun ⟨hc, ht, _⟩ => by simp [h2 hc] at ht
    dsimp only
    rw [if_neg hm]
    exact if_neg hc
  · rfl

/-- R110: an expected frame is passed by its margin in a SHOWING house whose head is not BAD. -/
theorem State.counterPasses_iff (s : State) (h : HouseId) (p : Proj) (x : Option Nat) (m : Nat) : s.counterPasses h p x m = true ↔
    ∃ n, x = some n ∧ (s.hs h).state = .showing ∧ (s.followingEntry h).isSome = true ∧ s.badHead p = false ∧
      n + m ≤ (s.tr p).counter := by
  unfold State.counterPasses
  cases x with
  | none => simp
  | some n => simp

theorem Rule.countedFallback_untaken (r : Rule) {h : HouseId} {p : Proj} {w : ReelEntry} (hl : r.st.liveProj h = some p)
    (hw : r.st.liveEntry h = some w) (hm : r.st.noCountedMotor p w (r.st.hs h).marks)
    (hc : r.st.noCountedChange p w (r.st.hs h).marks) : r.countedFallback h = r := by
  refine r.countedFallback_nothing h fun q v hq hv => ?_
  obtain rfl := Option.some.inj (hl.symm.trans hq)
  obtain rfl := Option.some.inj (hw.symm.trans hv)
  simp only [State.counterPasses_iff]
  exact ⟨fun ⟨n, hn, _, _, _, hle⟩ => (hm n hn).resolve_left (Nat.not_lt.2 hle),
    fun ⟨n, hn, _, _, _, hle⟩ => (hc n hn).resolve_left (Nat.not_lt.2 hle)⟩

/-- R110: a BAD head keeps the fallback back. -/
theorem Rule.countedFallback_bad (r : Rule) {h : HouseId} {p : Proj} (hl : r.st.liveProj h = some p)
    (hbad : r.st.badHead p = true) : r.countedFallback h = r := by
  refine r.countedFallback_nothing h fun q v hq _ => ?_
  obtain rfl := Option.some.inj (hl.symm.trans hq)
  simp only [State.counterPasses_iff]
  exact ⟨fun ⟨_, _, _, _, hb, _⟩ => by simp [hbad] at hb, fun ⟨_, _, _, _, hb, _⟩ => by simp [hbad] at hb⟩

/-! ## MOTOR entries -/

/-- R107: the record that a MOTOR entry makes, before its incoming is looked at. -/
def waitingChange (p : Proj) (w : ReelEntry) (src : MotorSource) (m speed : Nat) : Changeover :=
  { incoming := otherProj p
    phase := .waitReady
    motorSource := src
    motorFrame := m
    changeFrame := match w.changeFrame with
      | some k => k
      | none => min 65535 (m + 8 * speed)
    delay := none
    delayEnd := none
    held := none
    changeSource := none
    loss := none
    crossing := none }

/-- R107: a MOTOR entry whose incoming is not ready to follow makes a record in WAIT_READY. -/
theorem Rule.takeMotor_waits (r : Rule) {h : HouseId} {p : Proj} {w : ReelEntry} {e : CueEntry}
    (hf : r.st.followingEntry h ≠ none) (hc : (r.st.hs h).change = none) (hm : (r.st.hs h).marks.motorTaken = false)
    (hr : r.st.readyToFollow h (otherProj p) = false) : r.takeMotor h p w e = r.upd (fun s => s.setHs h { s.hs h with
      change := some (waitingChange p w (match e.source with | .tab => .tab | .counted => .counted) e.frame (s.hs h).speed)
      marks := { (s.hs h).marks with motorTaken := true } }) := by
  have hcreate (c : Changeover) : r.st.createChange h c = r.st.setHs h { r.st.hs h with
      change := some c, marks := { (r.st.hs h).marks with motorTaken := true } } := by
    simp [State.createChange, State.modHs, State.modMarks]
  have hnot : ¬ ((r.st.hs h).change.isSome = true ∨ (r.st.hs h).marks.motorTaken = true) := by simp [hc, hm]
  have hready (c : Changeover) : (r.st.setHs h { r.st.hs h with
      change := some c, marks := { (r.st.hs h).marks with motorTaken := true } }).readyToFollow h (otherProj p) = false :=
    ((r.st.sameShow_setHs h { r.st.hs h with change := some c, marks := { (r.st.hs h).marks with motorTaken := true } } rfl
      rfl).readyToFollow _).trans hr
  unfold Rule.takeMotor
  refine (if_neg hf).trans ((if_neg hnot).trans ?_)
  simp only [Rule.upd, hcreate]
  refine (if_neg ?_).trans ?_
  · rw [show (newChange (otherProj p) _ _ _).incoming = otherProj p from rfl, hready]
    simp
  · rfl

/-- R107: the house once a MOTOR entry has made its record. -/
def House.motorWaits (x : House) (p : Proj) (w : ReelEntry) (e : CueEntry) : House :=
  { x with
    change := some (waitingChange p w (match e.source with | .tab => .tab | .counted => .counted) e.frame x.speed)
    marks := { x.marks with motorTaken := true } }

/-- R106, R107: a MOTOR entry alone in the live queue, whose incoming is not ready to follow. -/
theorem Rule.takeCues_motor (r : Rule) {h : HouseId} {p : Proj} {w : ReelEntry} {y : CueEntry}
    (hs : (r.st.hs h).state = .showing) (hl : r.st.liveProj h = some p) (hw : r.st.liveEntry h = some w)
    (hq : (r.st.rd p).queue = [y]) (hy : y.code = .motor) (hf : r.st.followingEntry h ≠ none)
    (hc : (r.st.hs h).change = none) (hm : (r.st.hs h).marks.motorTaken = false)
    (hr : r.st.readyToFollow h (otherProj p) = false) : r.takeCues h =
      r.upd (fun s => (s.setRd p { s.rd p with queue := [] }).setHs h ((s.hs h).motorWaits p w y)) := by
  have hsame := r.st.sameShow_setRd p { r.st.rd p with queue := [] } h
  have hfuel : (r.st.rd p).queue.length + 1 = 1 + 1 := by rw [hq]; rfl
  have htake := Rule.takeMotor_waits (r.upd (fun s => s.setRd p { s.rd p with queue := [] })) (h := h) (p := p) (w := w) (e := y)
    (by rw [← hsame.followingEntry] at hf; exact hf) hc hm (by rw [← hsame.readyToFollow] at hr; exact hr)
  have hentry : (r.upd (fun s => s.setRd p { s.rd p with queue := [] })).takeEntry h p w y =
      r.upd (fun s => (s.setRd p { s.rd p with queue := [] }).setHs h ((s.hs h).motorWaits p w y)) := by
    rw [Rule.takeEntry, hy]
    exact htake
  unfold Rule.takeCues
  rw [hl]
  dsimp only
  rw [hfuel, Rule.takeHeads_head 1 r hs hl hw hq, if_neg (by simp [hy]), hentry]
  refine Rule.takeHeads_empty (p := p) 1 _ ?_ ?_
  · dsimp only [Rule.upd]
    refine Eq.trans (State.setHs_liveProj _ h _ ?_) (hsame.liveProj.trans hl)
    rfl
  · change (((r.st.setRd p { r.st.rd p with queue := [] }).setHs h _).rd p).queue = []
    rw [State.setHs_rd, State.setRd_rd, if_pos rfl]

/-- R106: a BAD head of the live queue is reported once. -/
theorem Rule.takeCues_bad (r : Rule) {h : HouseId} {p : Proj} {w : ReelEntry} {y : CueEntry} {more : List CueEntry}
    (hs : (r.st.hs h).state = .showing) (hl : r.st.liveProj h = some p) (hw : r.st.liveEntry h = some w)
    (hq : (r.st.rd p).queue = y :: more) (hy : y.code = .bad) (hm : (r.st.hs h).marks.badReported = false) :
    r.takeCues h = r.upd (fun s => (s.reportProj p (.cueBad y.frame y.bad)).setHs h { s.hs h with
      marks := { (s.hs h).marks with badReported := true } }) := by
  have hreport : r.st.reportBadHead h p y = (r.st.reportProj p (.cueBad y.frame y.bad)).setHs h { r.st.hs h with
      marks := { (r.st.hs h).marks with badReported := true } } := by
    unfold State.reportBadHead
    exact (if_neg (by simp [hm])).trans rfl
  unfold Rule.takeCues
  rw [hl]
  dsimp only
  rw [Rule.takeHeads_head _ r hs hl hw hq, if_pos hy, Rule.upd, hreport]
  rfl

/-! ## CUE CLEAR -/

/-- R33, R104: the state once the head of the live queue has been removed. -/
def State.headCleared (s : State) (p : Proj) (rest : List CueEntry) : State :=
  (s.setRd p { s.rd p with queue := rest }).setHs (houseOf p) { s.hs (houseOf p) with
    marks := { (s.hs (houseOf p)).marks with badReported := false } }

/-- R106: what the removal of the head leaves of the show. -/
theorem State.headCleared_sameShow (s : State) (p : Proj) (rest : List CueEntry) :
    s.SameShow (s.headCleared p rest) (houseOf p) :=
  (s.sameShow_setRd p _ _).trans (State.sameShow_setHs _ _ _ rfl rfl)

theorem State.clearBadMark_live {s : State} {p : Proj} (rest : List CueEntry) (h : s.liveProj (houseOf p) = some p) :
    (s.setRd p { s.rd p with queue := rest }).clearBadMark p = s.headCleared p rest := if_pos h

theorem State.clearBadMark_other {s : State} {p : Proj} (h : s.liveProj (houseOf p) ≠ some p) : s.clearBadMark p = s := if_neg h

/-- R33: CUE CLEAR of a queue without a BAD head. -/
theorem Rule.decideCueClear_refused (r : Rule) {b : Byte} {p : Proj} (hb : b.toNat = p.val + 1)
    (hq : (r.st.rd p).queue = [] ∨ ∃ e rest, (r.st.rd p).queue = e :: rest ∧ e.code ≠ .bad) :
    r.decideCueClear b = r.refuse .state := by
  unfold Rule.decideCueClear
  rw [projOf_of_toNat hb]
  dsimp only
  rcases hq with hq | ⟨e, rest, hq, he⟩ <;> rw [hq]
  exact if_neg he

/-- R33: CUE CLEAR of a BAD head on a projector that is not live. -/
theorem Rule.decideCueClear_other (s : State) {b : Byte} {p : Proj} {e : CueEntry} {rest : List CueEntry} (hb : b.toNat = p.val + 1)
    (hq : (s.rd p).queue = e :: rest) (he : e.code = .bad) (hl : s.liveProj (houseOf p) ≠ some p) :
    Rule.decideCueClear ⟨s, [], false⟩ b =
      Rule.doneWith ⟨s.setRd p { s.rd p with queue := rest }, [], false⟩ (.cueCleared e.frame e.bad) := by
  have hclear : (s.setRd p { s.rd p with queue := rest }).clearBadMark p = s.setRd p { s.rd p with queue := rest } :=
    State.clearBadMark_other hl
  unfold Rule.decideCueClear
  rw [projOf_of_toNat hb]
  dsimp only
  rw [hq]
  refine (if_pos he).trans (congrArg (Rule.doneWith · _) ?_)
  simp only [Rule.upd, hclear]
  exact if_neg hl

/-- R33, R106, R110: CUE CLEAR of a BAD head of the live queue. -/
theorem Rule.decideCueClear_live (s : State) {b : Byte} {p : Proj} {e : CueEntry} {rest : List CueEntry} (hb : b.toNat = p.val + 1)
    (hq : (s.rd p).queue = e :: rest) (he : e.code = .bad) (hl : s.liveProj (houseOf p) = some p) :
    Rule.decideCueClear ⟨s, [], false⟩ b =
      ((Rule.takeCues ⟨s.headCleared p rest, [], false⟩ (houseOf p)).countedFallback (houseOf p)).doneWith
        (.cueCleared e.frame e.bad) := by
  have hside : (s.headCleared p rest).liveProj (houseOf p) = some p :=
    (s.headCleared_sameShow p rest).liveProj.trans hl
  unfold Rule.decideCueClear
  rw [projOf_of_toNat hb]
  dsimp only
  rw [hq]
  refine (if_pos he).trans (congrArg (Rule.doneWith · _) ?_)
  simp only [Rule.upd, State.clearBadMark_live rest hl]
  exact if_pos hside

theorem State.headCleared_rd (s : State) (p : Proj) (rest : List CueEntry) (q : Proj) : (s.headCleared p rest).rd q =
    if q = p then { s.rd p with queue := rest } else s.rd q := State.setRd_rd ..

theorem State.headCleared_hs (s : State) (p : Proj) (rest : List CueEntry) (g : HouseId) : (s.headCleared p rest).hs g =
    if g = houseOf p then { s.hs (houseOf p) with marks := { (s.hs (houseOf p)).marks with badReported := false } }
    else s.hs g := State.setHs_hs ..

/-- R33, R107: a change of the queue and the house after the removal of the head. -/
theorem State.headCleared_put (s : State) (p : Proj) (rest : List CueEntry) (d : Reader) (x : House) :
    ((s.headCleared p rest).setRd p d).setHs (houseOf p) x = (s.setRd p d).setHs (houseOf p) x := by
  change (((s.setRd p { s.rd p with queue := rest }).setRd p d).setHs (houseOf p) _).setHs (houseOf p) x = _
  rw [State.setRd_setRd, State.setHs_setHs]

/-- R107, R110: a house whose MOTOR has made its record offers no counted MOTOR, and a CHANGE only past its frame. -/
theorem Rule.countedFallback_motorTaken (r : Rule) {h : HouseId} {p : Proj} {w : ReelEntry} (hl : r.st.liveProj h = some p)
    (hw : r.st.liveEntry h = some w) (hm : (r.st.hs h).marks.motorTaken = true)
    (hc : r.st.noCountedChange p w (r.st.hs h).marks) : r.countedFallback h = r :=
  r.countedFallback_untaken hl hw (fun _ _ => .inr hm) hc

/-- R31: a counted entry offered to a reader with no group in assembly and an empty queue. -/
theorem Rule.offerCounted_joins (r : Rule) {p : Proj} (code : CueCode) (hg : (r.st.rd p).group = none)
    (hq : (r.st.rd p).queue = []) : r.offerCounted p code =
      (r.upd (fun s => (s.setRd p { s.rd p with queue := [⟨code, (s.tr p).counter, .counted, none⟩] }).reportProj p
        (.cueSeen ⟨code, (s.tr p).counter, .counted, none⟩))).emit (.cues p) := by
  have hgroup : ¬ (r.st.rd p).group.isSome = true := by simp [hg]
  have hlen : (r.st.rd p).queue.length < cueCapacity := by
    rw [hq]
    decide
  refine (if_neg hgroup).trans ((if_pos hlen).trans ?_)
  simp only [Rule.upd, Rule.emit, hq, List.nil_append]

/-- R110: the counted MOTOR, its CHANGE not due behind it. -/
theorem Rule.countedFallback_motor (r r1 : Rule) {h : HouseId} {p : Proj} {w : ReelEntry} (hl : r.st.liveProj h = some p)
    (hw : r.st.liveEntry h = some w) (hpass : r.st.counterPasses h p w.motorFrame 48 = true)
    (hm : (r.st.hs h).marks.motorTaken = false) (hcm : (r.st.hs h).marks.countedMotor = false)
    (hr1 : ((r.offerCounted p .motor).upd (fun s => s.modMarks h (fun m => { m with countedMotor := true }))).takeCues h = r1)
    (hc : r1.st.noCountedChange p w (r1.st.hs h).marks) : r.countedFallback h = r1 := by
  have hno : ¬ (r1.st.counterPasses h p w.changeFrame 12 = true ∧ (r1.st.hs h).marks.changeTaken = false ∧
      (r1.st.hs h).marks.countedChange = false) := by
    rw [State.counterPasses_iff]
    rintro ⟨⟨n, hn, _, _, _, hle⟩, ht, -⟩
    have := (hc n hn).resolve_left (Nat.not_lt.2 hle)
    simp [ht] at this
  have hcond : r.st.counterPasses h p w.motorFrame 48 = true ∧ (r.st.hs h).marks.motorTaken = false ∧
      (r.st.hs h).marks.countedMotor = false := ⟨hpass, hm, hcm⟩
  unfold Rule.countedFallback
  rw [hl, hw]
  dsimp only
  rw [if_pos hcond, hr1]
  exact if_neg hno

/-- R107, R110: a counted MOTOR offered to a live queue that is empty, its incoming not ready to follow. -/
theorem Rule.countedFallback_motorWaits (s : State) (l : List Signal) {p : Proj} {w : ReelEntry} {n : Nat} (hst : (s.hs (houseOf p)).state = .showing)
    (hl : s.liveProj (houseOf p) = some p) (hw : s.heldEntry p = some w) (hn : w.motorFrame = some n)
    (hpast : n + 48 ≤ (s.tr p).counter) (hf : s.followingEntry (houseOf p) ≠ none) (hnone : (s.hs (houseOf p)).change = none)
    (hm : (s.hs (houseOf p)).marks.motorTaken = false) (hcm : (s.hs (houseOf p)).marks.countedMotor = false)
    (hr : s.readyToFollow (houseOf p) (otherProj p) = false) (hg : (s.rd p).group = none) (hq : (s.rd p).queue = [])
    (hc : s.noCountedChange p w (s.hs (houseOf p)).marks) : Rule.countedFallback ⟨s, l, false⟩ (houseOf p) =
      ⟨((s.setRd p { s.rd p with queue := [] }).reportProj p (.cueSeen ⟨.motor, (s.tr p).counter, .counted, none⟩)).setHs
        (houseOf p) ({ s.hs (houseOf p) with marks := { (s.hs (houseOf p)).marks with countedMotor := true } }.motorWaits p w
          ⟨.motor, (s.tr p).counter, .counted, none⟩), l ++ [.cues p], false⟩ := by
  let y : CueEntry := ⟨.motor, (s.tr p).counter, .counted, none⟩
  let x : House := { s.hs (houseOf p) with marks := { (s.hs (houseOf p)).marks with countedMotor := true } }
  let u := ((s.setRd p { s.rd p with queue := [y] }).reportProj p (.cueSeen y)).setHs (houseOf p) x
  have hlw : s.liveEntry (houseOf p) = some w := (congrArg (·.bind s.heldEntry) hl).trans hw
  have hsame : s.SameShow u (houseOf p) :=
    ((s.sameShow_setRd p _ _).trans (State.sameShow_setLink ..)).trans (State.sameShow_setHs _ _ x rfl rfl)
  have huhs : u.hs (houseOf p) = x := (State.setHs_hs ..).trans (if_pos rfl)
  have hurd : u.rd p = { s.rd p with queue := [y] } := (State.setRd_rd ..).trans (if_pos rfl)
  have hpass : s.counterPasses (houseOf p) p w.motorFrame 48 = true :=
    (s.counterPasses_iff ..).2 ⟨n, hn, hst, Option.isSome_iff_ne_none.2 hf, by simp [State.badHead, hq], hpast⟩
  have hoffer := Rule.offerCounted_joins ⟨s, l, false⟩ .motor hg hq
  have hmark : (Rule.offerCounted ⟨s, l, false⟩ p .motor).upd
      (fun s => s.modMarks (houseOf p) (fun m => { m with countedMotor := true })) = ⟨u, l ++ [.cues p], false⟩ := by
    rw [hoffer]
    rfl
  have htake := Rule.takeCues_motor ⟨u, l ++ [.cues p], false⟩ (y := y) (by rw [huhs]; exact hst) (hsame.liveProj.trans hl)
    (hsame.liveEntry.trans hlw) (by rw [hurd]) rfl (by rw [hsame.followingEntry]; exact hf) (by rw [huhs]; exact hnone)
    (by rw [huhs]; exact hm) (by rw [hsame.readyToFollow]; exact hr)
  have hput : (u.setRd p { u.rd p with queue := [] }).setHs (houseOf p) ((u.hs (houseOf p)).motorWaits p w y) =
      ((s.setRd p { s.rd p with queue := [] }).reportProj p (.cueSeen y)).setHs (houseOf p) (x.motorWaits p w y) := by
    rw [huhs, hurd]
    change ((((s.setRd p { s.rd p with queue := [y] }).setRd p { s.rd p with queue := [] }).reportProj p (.cueSeen y)).setHs
      (houseOf p) x).setHs (houseOf p) (x.motorWaits p w y) = _
    rw [State.setRd_setRd, State.setHs_setHs]
  dsimp only [Rule.upd] at htake
  rw [hput] at htake
  refine Rule.countedFallback_motor _ _ hl hlw hpass hm hcm ((congrArg (·.takeCues (houseOf p)) hmark).trans htake) ?_
  dsimp only
  rw [State.setHs_hs, if_pos rfl]
  exact hc

/-- Settles O12, by the head of the queue and by what stands behind it. -/
theorem cueRequestsAreDecided : Obligations.CueRequestsAreDecided := by
  refine ⟨fun s dt b threshold hysteresis p v w hs hb hv hw => ?_,
    fun s dt b p e rest hs hb => ⟨fun hq => ?_, fun hq he => ?_, fun hq he hl => ?_, fun hq he hst hl => ?_⟩,
    fun s dt b p h e y rest more w x n hs hb hh hx hst hl hq he hw => ⟨fun hrest hm hc => ?_, fun hrest hy hsend => ?_,
      fun hrest hy hc hf hnone hm hr => ?_, fun hrest hc hn hpast hf hnone hm hcm hr hg hsend => ?_⟩⟩
  · subst hv hw
    refine Rule.finish_decided (s.elapse dt) _ (.setCueSense b threshold hysteresis) (.done (.cueSense _ _)) [] hs rfl rfl ?_
      (by simp) (by simp)
    change Rule.decideSetCueSense _ b threshold hysteresis = _
    simp [Rule.decideSetCueSense, projOf_of_toNat hb, cueSense, clamp]
    rfl
  · exact Rule.finish_answered (s.elapse dt) (.cueClear b) (.refused .state .nothing) hs rfl
      (Rule.decideCueClear_refused _ hb (.inl hq))
  · exact Rule.finish_answered (s.elapse dt) (.cueClear b) (.refused .state .nothing) hs rfl
      (Rule.decideCueClear_refused _ hb (.inr ⟨e, rest, hq, he⟩))
  · exact Rule.finish_decided (s.elapse dt) ((s.elapse dt).setRd p { s.rd p with queue := rest }) (.cueClear b)
      (.done (.cueCleared e.frame e.bad)) [] hs rfl rfl (Rule.decideCueClear_other _ hb hq he hl) (by simp) (by simp)
  · let k := (s.elapse dt).setLink s.link.claimed
    have hstate : ((k.headCleared p rest).hs (houseOf p)).state ≠ .showing := by
      rw [State.headCleared_hs, if_pos rfl]
      exact hst
    refine Rule.finish_decided (s.elapse dt) ((s.elapse dt).headCleared p rest) (.cueClear b)
      (.done (.cueCleared e.frame e.bad)) [] hs rfl rfl ((Rule.decideCueClear_live k hb hq he hl).trans ?_) (by simp) (by simp)
    rw [Rule.takeCues_notShowing _ _ hstate, Rule.countedFallback_nothing _ _ fun q w _ _ => ?_]
    · rfl
    · simp only [State.counterPasses_iff]
      exact ⟨fun ⟨_, _, hsh, _⟩ => absurd hsh hstate, fun ⟨_, _, hsh, _⟩ => absurd hsh hstate⟩
  · subst hh hx hrest
    let k := (s.elapse dt).setLink s.link.claimed
    have hsame := k.headCleared_sameShow p []
    have hrd : ((k.headCleared p []).rd p).queue = [] := by rw [State.headCleared_rd, if_pos rfl]
    have hmarks : ((k.headCleared p []).hs (houseOf p)).marks = { (s.hs (houseOf p)).marks with badReported := false } := by
      rw [State.headCleared_hs, if_pos rfl]
      rfl
    have hwl : (k.headCleared p []).liveEntry (houseOf p) = some w :=
      hsame.liveEntry.trans ((congrArg (·.bind s.heldEntry) hl).trans hw)
    refine Rule.finish_decided (s.elapse dt) ((s.elapse dt).headCleared p []) (.cueClear b)
      (.done (.cueCleared e.frame e.bad)) [] hs rfl rfl ((Rule.decideCueClear_live k hb hq he hl).trans ?_) (by simp) (by simp)
    rw [Rule.takeCues_nothing _ (hsame.liveProj.trans hl) hrd, Rule.countedFallback_untaken _ (hsame.liveProj.trans hl) hwl]
    · rfl
    · rw [hmarks]
      exact hm
    · rw [hmarks]
      exact hc
  · subst hh hx hrest
    let k := (s.elapse dt).setLink s.link.claimed
    have hsame := k.headCleared_sameShow p (y :: more)
    have hrd : ((k.headCleared p (y :: more)).rd p).queue = y :: more := by rw [State.headCleared_rd, if_pos rfl]
    have hhs : (k.headCleared p (y :: more)).hs (houseOf p) = { s.hs (houseOf p) with
        marks := { (s.hs (houseOf p)).marks with badReported := false } } := by
      rw [State.headCleared_hs, if_pos rfl]
      rfl
    have hwl : (k.headCleared p (y :: more)).liveEntry (houseOf p) = some w :=
      hsame.liveEntry.trans ((congrArg (·.bind s.heldEntry) hl).trans hw)
    let v := ((k.headCleared p (y :: more)).reportProj p (.cueBad y.frame y.bad)).setHs (houseOf p) { s.hs (houseOf p) with
      marks := { (s.hs (houseOf p)).marks with badReported := true } }
    have hask : Rule.ask ⟨k, [], false⟩ (.cueClear b) = ⟨.done (.cueCleared e.frame e.bad), ⟨v, [], false⟩⟩ := by
      refine (Rule.decideCueClear_live k hb hq he hl).trans ?_
      rw [Rule.takeCues_bad _ (by rw [hhs]; exact hst) (hsame.liveProj.trans hl) hwl hrd hy (by rw [hhs]),
        Rule.countedFallback_bad (p := p) _ ?_ ?_]
      · dsimp only [Rule.upd]
        rw [hhs]
        rfl
      · dsimp only [Rule.upd]
        refine Eq.trans (State.setHs_liveProj _ _ _ ?_) (hsame.liveProj.trans hl)
        rfl
      · have hq' : (((((k.headCleared p (y :: more)).reportProj p (.cueBad y.frame y.bad)).setHs (houseOf p)
            { (k.headCleared p (y :: more)).hs (houseOf p) with
              marks := { ((k.headCleared p (y :: more)).hs (houseOf p)).marks with badReported := true } })).rd p).queue =
            y :: more := hrd
        unfold State.badHead Rule.upd
        rw [hq']
        simp [hy]
    obtain ⟨t, ht, hend, -, -, hlink⟩ := Rule.finish_request_unheeded (s.elapse dt) v (.cueClear b)
      (.done (.cueCleared e.frame e.bad)) [] hs rfl
      (fun hi => s.link.claimed_awake ((s.link.claimed.enqueue_fed _ _).idle hi).1) hask (by simp) (by simp)
    have htrd (q : Proj) : t.rd q = if q = p then { s.rd p with queue := y :: more } else s.rd q :=
      (congrArg (fun b => b.cell q) hend.readers).trans (State.setRd_rd ..)
    have hths (g : HouseId) : t.hs g = v.hs g := congrArg (fun b => b.cell g) hend.houses
    refine ⟨t, ht, (htrd p).trans (if_pos rfl), ?_, (hlink hsend).trans ?_, fun q hq => (htrd q).trans (if_neg hq), fun g hg => ?_,
      hend.transports, hend.dousers, hend.lamps, hend.lights, hend.ports, hend.booth⟩
    · rw [hths, State.setHs_hs, if_pos rfl]
    · have hclaim : s.link.claimed = s.link := s.link.claimed_sending hsend
      change ({ s.link.claimed.enqueue _ _ with slot := _ } : Link) = _
      rw [hclaim]
      rfl
    · rw [hths, State.setHs_hs, if_neg hg]
      exact (State.headCleared_hs ..).trans (if_neg hg)
  · subst hh hx hrest
    let k := (s.elapse dt).setLink s.link.claimed
    have hsame := k.headCleared_sameShow p [y]
    have hrd : ((k.headCleared p [y]).rd p).queue = [y] := by rw [State.headCleared_rd, if_pos rfl]
    have hhs : (k.headCleared p [y]).hs (houseOf p) = { s.hs (houseOf p) with
        marks := { (s.hs (houseOf p)).marks with badReported := false } } := by
      rw [State.headCleared_hs, if_pos rfl]
      rfl
    have hwl : (k.headCleared p [y]).liveEntry (houseOf p) = some w :=
      hsame.liveEntry.trans ((congrArg (·.bind s.heldEntry) hl).trans hw)
    have htake := Rule.takeCues_motor ⟨k.headCleared p [y], [], false⟩ (by rw [hhs]; exact hst) (hsame.liveProj.trans hl) hwl hrd hy
      (by rw [hsame.followingEntry]; exact hf) (by rw [hhs]; exact hnone) (by rw [hhs]; exact hm)
      (by rw [hsame.readyToFollow]; exact hr)
    let x : House := { s.hs (houseOf p) with marks := { (s.hs (houseOf p)).marks with badReported := false } }
    have hput : ((k.headCleared p [y]).setRd p { (k.headCleared p [y]).rd p with queue := [] }).setHs (houseOf p)
        (((k.headCleared p [y]).hs (houseOf p)).motorWaits p w y) =
        (k.setRd p { s.rd p with queue := [] }).setHs (houseOf p) (x.motorWaits p w y) := by
      rw [State.headCleared_put, hhs, State.headCleared_rd, if_pos rfl]
      rfl
    dsimp only [Rule.upd] at htake
    rw [hput] at htake
    let v := ((s.elapse dt).setRd p { s.rd p with queue := [] }).setHs (houseOf p) (x.motorWaits p w y)
    have hvsame : k.SameShow (v.setLink s.link.claimed) (houseOf p) :=
      (k.sameShow_setRd p _ _).trans (State.sameShow_setHs _ _ (x.motorWaits p w y) rfl rfl)
    have hvhs : (v.setLink s.link.claimed).hs (houseOf p) = x.motorWaits p w y := by
      change v.hs (houseOf p) = _
      rw [State.setHs_hs, if_pos rfl]
    refine Rule.finish_decided (s.elapse dt) v (.cueClear b) (.done (.cueCleared e.frame e.bad)) [] hs rfl rfl
      ((Rule.decideCueClear_live k hb hq he hl).trans ?_) (by simp) (by simp)
    rw [htake]
    refine congrArg (Rule.doneWith · _) (Rule.countedFallback_motorTaken ⟨v.setLink s.link.claimed, [], false⟩
      (hvsame.liveProj.trans hl) (hvsame.liveEntry.trans ((congrArg (·.bind s.heldEntry) hl).trans hw)) ?_ ?_)
    · rw [hvhs]
      rfl
    · rw [hvhs]
      exact hc
  · subst hh hx hrest
    let k := (s.elapse dt).setLink s.link.claimed
    have hsame := k.headCleared_sameShow p []
    have hrd : (k.headCleared p []).rd p = { s.rd p with queue := [] } := by
      rw [State.headCleared_rd, if_pos rfl]
      rfl
    let x : House := { s.hs (houseOf p) with marks := { (s.hs (houseOf p)).marks with badReported := false } }
    have hhs : (k.headCleared p []).hs (houseOf p) = x := by
      rw [State.headCleared_hs, if_pos rfl]
      rfl
    have htr : (k.headCleared p []).tr p = s.tr p := hsame.tr p
    have hask := Rule.decideCueClear_live k hb hq he hl
    rw [Rule.takeCues_nothing _ (hsame.liveProj.trans hl) (by rw [hrd]),
      Rule.countedFallback_motorWaits (k.headCleared p []) [] (by rw [hhs]; exact hst) (hsame.liveProj.trans hl)
        ((hsame.heldEntry p).trans hw) hn (by rw [htr]; exact hpast) (by rw [hsame.followingEntry]; exact hf)
        (by rw [hhs]; exact hnone) (by rw [hhs]; exact hm) (by rw [hhs]; exact hcm) (by rw [hsame.readyToFollow]; exact hr)
        (by rw [hrd]; exact hg) (by rw [hrd]) (by rw [hhs]; exact hc), hhs, hrd, htr] at hask
    let y : CueEntry := ⟨.motor, (s.tr p).counter, .counted, none⟩
    let v := (((k.headCleared p []).setRd p { s.rd p with queue := [] }).reportProj p (.cueSeen y)).setHs (houseOf p)
      ({ x with marks := { x.marks with countedMotor := true } }.motorWaits p w y)
    have hvlive : v.liveProj (houseOf p) = some p := by
      refine Eq.trans (State.setHs_liveProj _ _ _ ?_) (hsame.liveProj.trans hl)
      rw [State.reportProj, State.report, State.setLink_hs, State.setRd_hs, hhs]
      rfl
    have hvrd (q : Proj) : v.rd q = if q = p then { s.rd p with queue := [] } else s.rd q := by
      refine (State.setRd_rd ..).trans ?_
      rw [State.headCleared_rd]
      split <;> rfl
    have hvhs (g : HouseId) : v.hs g = if g = houseOf p then
        { x with marks := { x.marks with countedMotor := true } }.motorWaits p w y else s.hs g := by
      refine (State.setHs_hs ..).trans ?_
      by_cases hgp : g = houseOf p
      · rw [if_pos hgp, if_pos hgp]
      · rw [if_neg hgp, if_neg hgp]
        exact (State.headCleared_hs k p [] g).trans (if_neg hgp)
    obtain ⟨t, ht, hend, -, -, hlink⟩ := Rule.finish_request_unheeded (s.elapse dt) v (.cueClear b)
      (.done (.cueCleared e.frame e.bad)) [.cues p] hs rfl
      (fun hi => s.link.claimed_awake ((s.link.claimed.enqueue_fed _ _).idle hi).1) hask (by simp [settleBound])
      fun z hz l' a tie => by
        obtain rfl := List.mem_singleton.1 hz
        refine (if_pos hvlive).trans (Rule.takeCues_nothing _ hvlive ?_)
        exact congrArg Reader.queue ((hvrd p).trans (if_pos rfl))
    have htrd (q : Proj) : t.rd q = v.rd q := congrArg (fun b => b.cell q) hend.readers
    have hths (g : HouseId) : t.hs g = v.hs g := congrArg (fun b => b.cell g) hend.houses
    refine ⟨t, ht, (htrd p).trans ((hvrd p).trans (if_pos rfl)), (hths _).trans ((hvhs _).trans (if_pos rfl)),
      (hlink hsend).trans ?_, fun q hq => (htrd q).trans ((hvrd q).trans (if_neg hq)),
      fun g hg => (hths g).trans ((hvhs g).trans (if_neg hg)), hend.transports, hend.dousers, hend.lamps, hend.lights,
      hend.ports, hend.booth⟩
    have hclaim : s.link.claimed = s.link := s.link.claimed_sending hsend
    change ({ s.link.claimed.enqueue _ _ with slot := _ } : Link) = _
    rw [hclaim]
    rfl

end Sys2Proof.Machine
end

section
/-! PROOFS. Power-on: every block at its power-on values, and the causes whose inputs are found active. -/

namespace Sys2Proof.Machine

/-! ## The records of the causes activated -/

/-- R144, R157: the record of the cause `c`, the `n`-th activated at power-on. -/
def powerOnRecord (c : DropCause × Option Proj) (n : Nat) : DropRecord :=
  { seq := n
    cause := c.1
    projector := c.2
    footage := none
    time := none
    ports := (coverage c.1 c.2 []).map (fun n => ⟨n, .already⟩) }

/-- R144, R157: the log once the causes `cs` have been activated. -/
def powerOnLog (cs : List (DropCause × Option Proj)) : List DropRecord := (cs.zipIdx 1).map (fun x => powerOnRecord x.1 x.2)

theorem powerOnRecords_eq (i : FieldInputs) : powerOnRecords i = powerOnLog (powerOnCauses i) := rfl

theorem powerOnLog_append (cs : List (DropCause × Option Proj)) (c : DropCause × Option Proj) :
    powerOnLog (cs ++ [c]) = powerOnLog cs ++ [powerOnRecord c (cs.length + 1)] := by
  simp [powerOnLog, List.zipIdx_append, Nat.add_comm]

theorem powerOnLog_length (cs : List (DropCause × Option Proj)) : (powerOnLog cs).length = cs.length := by
  simp [powerOnLog]

/-- R144: the numbers run from 1. -/
theorem powerOnLog_seq (cs : List (DropCause × Option Proj)) : ∀ d ∈ powerOnLog cs, d.seq ≤ cs.length := by
  intro d hd
  obtain ⟨x, hx, rfl⟩ := List.mem_map.1 hd
  have := List.snd_lt_add_of_mem_zipIdx (x := x) hx
  change x.2 ≤ _
  omega

/-! ## The state as the inputs are read -/

/-- R157: from the power-on state `u` to `t` the causes `cs` have been activated in their order and the reports `bodies` queued;
`b` is the booth-level state but for the log. -/
structure State.Fired (u t : State) (b : Booth) (cs : List (DropCause × Option Proj)) (bodies : List ReportBody) : Prop where
  state : t = { u with
    booth := { b with log := powerOnLog cs, nextSeq := cs.length + 1 }
    link := bodies.foldl (fun l x => l.enqueue 0 x) u.link
    lights := t.lights }
  lights : ∀ h, t.lt h = { u.lt h with safetyActive := decide (∃ c ∈ cs, h ∈ fireHouses c.1 c.2) }

theorem Light.powerOn_activateSafety (v : Bool) (now : Instant) :
    { Light.powerOn with safetyActive := v }.activateSafety now = { Light.powerOn with safetyActive := true } := by
  cases v <;> rfl

@[simp] theorem State.powerOn_pt (s : State) (i : FieldInputs) (n : PortId) :
    (s.powerOn i).pt n = Port.powerOn (i.upSwitches.cell n) (i.downSwitches.cell n) := by
  simp [State.powerOn, State.pt, Bank.cell]

/-- A rule carried on over a list by what changes nothing. -/
theorem Rule.each_unmoved {α : Type} (r : Rule) (f : Rule → α → Rule) (l : List α) (h : ∀ a, f r a = r) : r.each f l = r := by
  induction l with
  | nil => rfl
  | cons a rest ih =>
    unfold Rule.each
    rw [h a]
    exact ih

/-- A rule carried on over a list by changes of its state alone. -/
theorem Rule.each_upd {α : Type} (r : Rule) (f : State → α → State) (l : List α) :
    r.each (fun r a => r.upd (fun s => f s a)) l = r.upd (fun s => s.each f l) := by
  induction l generalizing r with
  | nil => rfl
  | cons a rest ih => exact ih _

theorem fireHouses_nodup (c : DropCause) (p : Option Proj) : (fireHouses c p).Nodup := by
  unfold fireHouses
  split
  · exact allHouses_nodup
  · exact allHouses_nodup
  · exact allHouses_nodup
  · exact List.nodup_singleton _
  all_goals exact List.nodup_nil

/-! ## One activation -/

/-- R37: with no trial none is stopped. -/
theorem State.stopTrials_none {s : State} (h : ∀ p, (s.ds p).trial = none) (ns : List PortId) : s.stopTrials ns = s := by
  induction ns with
  | nil => rfl
  | cons n rest ih =>
    unfold State.stopTrials
    split
    · rw [State.endTrial_none _ (h _)]
      exact ih
    · exact ih

theorem Rule.releaseAll_down (r : Rule) (seq : Nat) (ns : List PortId) (h : ∀ n, (r.st.pt n).state = .down) :
    r.releaseAll seq ns = r := by
  induction ns with
  | nil => rfl
  | cons n rest ih =>
    unfold Rule.releaseAll
    rw [Rule.release_down r seq n (h n)]
    exact ih

theorem Booth.setActive_log (b : Booth) (c : DropCause) (p : Option Proj) (v : Bool) (log : List DropRecord) (n : Nat) :
    { b with log := log, nextSeq := n }.setActive c p v = { b.setActive c p v with log := log, nextSeq := n } := by
  unfold Booth.setActive
  split <;> rfl

/-- R144, R146, R148: an activation with every port DOWN and no trial running: its record is settled at once. -/
theorem Rule.activation_down (s : State) (c : DropCause) (p : Option Proj) (ns : List PortId) (ha : c.announced = true)
    (hd : ∀ n, (s.pt n).state = .down) (ht : ∀ p, (s.ds p).trial = none)
    (hroom : s.booth.log.length < 16) (hold : ∀ d ∈ s.booth.log, d.seq ≠ s.booth.nextSeq) :
    Rule.activation ⟨s, [], false⟩ c p ns = ⟨(s.setBooth { s.booth with
      log := s.booth.log ++ [s.dropRecord c p ns], nextSeq := nextSequence s.booth.nextSeq }).setLink
        ((s.link.enqueue 0 (.fireCauseOn c p s.booth.nextSeq)).enqueue 0 (.portDropped s.booth.nextSeq (some c) p)),
      [], false⟩ := by
  let v := s.setBooth { s.booth with
    log := s.booth.log ++ [s.dropRecord c p ns], nextSeq := nextSequence s.booth.nextSeq }
  have hwrite : s.writeRecord c p ns = v := State.writeRecord_room c p ns hroom
  have hfind : v.booth.log.find? (fun x => x.seq = s.booth.nextSeq) = some (s.dropRecord c p ns) := by
    change (s.booth.log ++ [s.dropRecord c p ns]).find? _ = _
    rw [List.find?_append, List.find?_eq_none.2 fun d hd => by simpa using hold d hd]
    simp [State.dropRecord]
  let w := v.reportBooth (.fireCauseOn c p s.booth.nextSeq)
  have hsettled : w.settled ⟨s.booth.nextSeq, false, false⟩ = true :=
    (State.settled_iff _ _).2 fun k hk => absurd ((hd k).symm.trans hk) (by decide)
  have hjudge := State.judgeSettled_settled (s := w) (l := ⟨s.booth.nextSeq, false, false⟩) rfl hsettled hfind
  have hdrop : Rule.drop ⟨s, [], false⟩ c p ns =
      ⟨w.reportBooth (.portDropped s.booth.nextSeq (some c) p), [], false⟩ := by
    unfold Rule.drop
    simp only [Rule.upd, ha, if_true, hwrite]
    rw [Rule.releaseAll_down ⟨v, [], false⟩ _ _ hd]
    exact congrArg (fun t => (⟨t, [], false⟩ : Rule)) hjudge
  rw [Rule.activation, hdrop]
  exact congrArg (fun t => (⟨t, [], false⟩ : Rule))
    (State.stopTrials_none (s := w.reportBooth (.portDropped s.booth.nextSeq (some c) p)) ht ns)

/-- R149, R150: the consequences of a cause where no house is in a show or held, no lamp burns and no motor runs. -/
theorem Rule.consequences_idle (s : State) (c : DropCause) (p : Option Proj) (hh : ∀ h, (s.hs h).state = .idle)
    (hl : ∀ q, (s.lp q).state = .off) (ht : ∀ q, (s.tr q).state = .stopped) :
    Rule.consequences ⟨s, [], false⟩ c p = ⟨s.each State.activateSafety (fireHouses c p), [], false⟩ := by
  have hhold (h : HouseId) : Rule.fireHold ⟨s, [], false⟩ h c.hold = ⟨s, [], false⟩ := by
    simp [Rule.fireHold, hh h]
  have hoff (q : Proj) : Rule.extinguish ⟨s, [], false⟩ q .fire = ⟨s, [], false⟩ := if_pos (hl q)
  have hstop (q : Proj) : Rule.motorStop ⟨s, [], false⟩ q = ⟨s, [], false⟩ := Rule.motorStop_undriven _ q (.inl (ht q))
  unfold Rule.consequences
  rw [Rule.each_unmoved ⟨s, [], false⟩ (fun r h => r.fireHold h c.hold) _ hhold,
    Rule.each_unmoved ⟨s, [], false⟩ (fun r q => r.extinguish q .fire) _ hoff,
    Rule.each_unmoved ⟨s, [], false⟩ (fun r q => r.motorStop q) _ hstop, Rule.each_upd]
  rfl

/-- R133: the SAFETY layers of a list of houses. -/
theorem State.each_activateSafety (s : State) (l : List HouseId) (hl : l.Nodup) :
    ∃ v, s.each State.activateSafety l = { s with lights := v } ∧
      ∀ h, v.cell h = if h ∈ l then (s.lt h).activateSafety s.now else s.lt h := by
  refine ⟨(s.each State.activateSafety l).lights, ?_, fun h => ?_⟩
  · have hkeep (v) : { s.each State.activateSafety l with lights := v } = { s with lights := v } :=
      State.each_keeps (fun u => { u with lights := v }) State.activateSafety (fun _ _ => rfl) l s
    exact hkeep _
  · exact State.each_put State.lt State.setLt (fun s h => (s.lt h).activateSafety s.now) (fun _ _ _ _ => State.setLt_lt ..)
      (fun s a b x hab => by rw [State.setLt_lt, if_neg hab]; rfl) l hl s h

section
variable {s t : State} {i : FieldInputs} {b : Booth} {cs : List (DropCause × Option Proj)} {bodies : List ReportBody}

theorem State.Fired.tr (h : (s.powerOn i).Fired t b cs bodies) (p : Proj) : t.tr p = Transport.powerOn := by
  rw [h.state]
  exact s.powerOn_tr i p

theorem State.Fired.lp (h : (s.powerOn i).Fired t b cs bodies) (p : Proj) : t.lp p = Lamp.powerOn := by
  rw [h.state]
  exact s.powerOn_lp i p

theorem State.Fired.ds (h : (s.powerOn i).Fired t b cs bodies) (p : Proj) :
    t.ds p = Douser.powerOn (i.dousers.cell p) s.now := by
  rw [h.state]
  exact s.powerOn_ds i p

theorem State.Fired.hs (h : (s.powerOn i).Fired t b cs bodies) (g : HouseId) : t.hs g = House.powerOn := by
  rw [h.state]
  exact s.powerOn_hs i g

theorem State.Fired.pt (h : (s.powerOn i).Fired t b cs bodies) (n : PortId) :
    t.pt n = Port.powerOn (i.upSwitches.cell n) (i.downSwitches.cell n) := by
  rw [h.state]
  exact s.powerOn_pt i n

theorem foldl_enqueue_clock (l : Link) (bodies : List ReportBody) :
    (bodies.foldl (fun l x => l.enqueue 0 x) l).clock = l.clock := by
  induction bodies generalizing l with
  | nil => rfl
  | cons x rest ih => exact (ih _).trans (l.enqueue_keeps 0 x).2.2.2.1

/-- R148, R157: one more cause is activated. -/
theorem State.Fired.fire (h : (s.powerOn i).Fired t b cs bodies) (c : DropCause) (p : Option Proj) (ha : c.announced = true)
    (hroom : cs.length < 16) : ∃ t', Rule.fire ⟨t, [], false⟩ c p = ⟨t', [], false⟩ ∧
      (s.powerOn i).Fired t' (b.setActive c p true) (cs ++ [(c, p)])
        (bodies ++ (powerOnRecord (c, p) (cs.length + 1)).announced) := by
  let u := t.setBooth (t.booth.setActive c p true)
  have hbooth : t.booth.setActive c p true =
      { b.setActive c p true with log := powerOnLog cs, nextSeq := cs.length + 1 } := by
    rw [h.state]
    exact Booth.setActive_log b c p true _ _
  have hlink : t.link = bodies.foldl (fun l x => l.enqueue 0 x) (s.powerOn i).link := congrArg State.link h.state
  have hlog : u.booth.log = powerOnLog cs := congrArg Booth.log hbooth
  have hseq : u.booth.nextSeq = cs.length + 1 := congrArg Booth.nextSeq hbooth
  have hdown (n : PortId) : (u.pt n).state = .down := congrArg Port.state (h.pt n)
  have hact := Rule.activation_down u c p (coverage c p []) ha hdown
    (fun q => congrArg Douser.trial (h.ds q)) (by rw [hlog, powerOnLog_length]; exact hroom)
    fun d hd => by
      have := powerOnLog_seq cs d (hlog ▸ hd)
      omega
  have hrecord : u.dropRecord c p (coverage c p []) = powerOnRecord (c, p) (cs.length + 1) := by
    unfold State.dropRecord powerOnRecord
    rw [hseq]
    congr 1
    · cases p with
      | none => rfl
      | some q => exact if_neg (by rw [show u.tr q = Transport.powerOn from h.tr q]; decide)
    · exact (congrArg Link.clock hlink).trans (foldl_enqueue_clock _ _)
    · exact List.map_congr_left fun n _ => congrArg (PortEntry.mk n) (if_neg (by rw [hdown n]; decide))
  have hnext : nextSequence u.booth.nextSeq = (cs ++ [(c, p)]).length + 1 := by
    rw [hseq, nextSequence, if_neg (by omega), List.length_append]
    rfl
  rw [hrecord, hlog, hnext, hseq, ← powerOnLog_append] at hact
  generalize hv : State.setLink _ _ = v at hact
  have hcons := Rule.consequences_idle v c p (fun g => by rw [← hv]; exact congrArg House.state (h.hs g))
    (fun q => by rw [← hv]; exact congrArg Lamp.state (h.lp q))
    (fun q => by rw [← hv]; exact congrArg Transport.state (h.tr q))
  obtain ⟨l, hl, hcell⟩ := State.each_activateSafety v (fireHouses c p) (fireHouses_nodup c p)
  have hfire : Rule.fire ⟨t, [], false⟩ c p = Rule.consequences (Rule.activation ⟨u, [], false⟩ c p (coverage c p [])) c p := by
    unfold Rule.fire
    refine if_neg ?_
    change ¬ (Rule.activation ⟨u, [], false⟩ c p (coverage c p [])).holdMeetsFailure c p = true
    rw [hact]
    exact Bool.false_ne_true
  refine ⟨_, (hfire.trans (congrArg (fun r => Rule.consequences r c p) hact)).trans hcons, ?_, fun g => ?_⟩
  · have hB := congrArg (fun B : Booth => { B with log := powerOnLog (cs ++ [(c, p)]), nextSeq := (cs ++ [(c, p)]).length + 1 })
      hbooth
    have hL : v.link = (bodies ++ (powerOnRecord (c, p) (cs.length + 1)).announced).foldl (fun l x => l.enqueue 0 x)
        (s.powerOn i).link := by
      rw [List.foldl_append, ← hlink, ← hv]
      rfl
    rw [hl, ← hL]
    have hvt : v = { t with booth := v.booth, link := v.link } := by rw [← hv]; rfl
    have hvb : v.booth = { b.setActive c p true with
        log := powerOnLog (cs ++ [(c, p)]), nextSeq := (cs ++ [(c, p)]).length + 1 } := by rw [← hv]; exact hB
    rw [← hvb]
    exact (congrArg (fun x : State => { x with lights := l }) hvt).trans
      (congrArg (fun x : State => { x with booth := v.booth, link := v.link, lights := l }) h.state)
  · rw [hl]
    refine (hcell g).trans ?_
    have hg : v.lt g = t.lt g := by rw [← hv]; rfl
    rw [hg, h.lights g, State.powerOn_lt, Light.powerOn_activateSafety]
    simp only [List.mem_append, List.mem_singleton, or_and_right, exists_or, exists_eq_left]
    by_cases hg : g ∈ fireHouses c p
    · rw [if_pos hg, decide_eq_true (Or.inr hg)]
    · rw [if_neg hg]
      simp only [hg, or_false]

/-- R148, R157: a cause is activated where its input is found active. -/
theorem State.Fired.fireIf (h : (s.powerOn i).Fired t b cs ((powerOnLog cs).flatMap DropRecord.announced)) (v : Bool)
    (c : DropCause) (p : Option Proj) (ha : c.announced = true) (hroom : cs.length < 16) :
    ∃ t' cs', (if v then Rule.fire ⟨t, [], false⟩ c p else ⟨t, [], false⟩) = ⟨t', [], false⟩ ∧
      cs' = cs ++ (if v then [(c, p)] else []) ∧
      (s.powerOn i).Fired t' (if v then b.setActive c p true else b) cs' ((powerOnLog cs').flatMap DropRecord.announced) := by
  cases v
  · exact ⟨t, cs, rfl, (List.append_nil cs).symm, h⟩
  · obtain ⟨t', hrule, hfired⟩ := h.fire c p ha hroom
    refine ⟨t', cs ++ [(c, p)], hrule, rfl, ?_⟩
    rwa [powerOnLog_append, List.flatMap_append, List.flatMap_singleton]

/-- R150, R157: the gate heat sensors, in their order. -/
theorem State.Fired.heats (h : (s.powerOn i).Fired t b cs ((powerOnLog cs).flatMap DropRecord.announced)) (l : List Proj)
    (hl : l.Nodup) (hcold : ∀ p ∈ l, b.filmFire.cell p = false) (hroom : cs.length + l.length ≤ 16) :
    ∃ t' cs' F, Rule.each ⟨t, [], false⟩ (fun r p => if i.gateHeat.cell p then r.gateHeats p else r) l = ⟨t', [], false⟩ ∧
      cs' = cs ++ (l.filter (fun p => i.gateHeat.cell p)).map (fun p => (.filmFire, some p)) ∧
      (∀ p, F.cell p = if p ∈ l then i.gateHeat.cell p else b.filmFire.cell p) ∧
      (s.powerOn i).Fired t' { b with filmFire := F } cs' ((powerOnLog cs').flatMap DropRecord.announced) := by
  induction l generalizing t b cs with
  | nil => exact ⟨t, cs, b.filmFire, rfl, (List.append_nil cs).symm, fun p => rfl, h⟩
  | cons p rest ih =>
    obtain ⟨hp, hrest⟩ := List.nodup_cons.1 hl
    have hlen : cs.length + (rest.length + 1) ≤ 16 := hroom
    have hcell : t.booth.filmFire.cell p = false := by
      rw [h.state]
      exact hcold p List.mem_cons_self
    have hgate : Rule.gateHeats ⟨t, [], false⟩ p = Rule.fire ⟨t, [], false⟩ .filmFire (some p) :=
      if_neg (by rw [show (⟨t, [], false⟩ : Rule).st = t from rfl, hcell]; exact Bool.false_ne_true)
    obtain ⟨t1, cs1, hrule, hcs1, hfired⟩ := h.fireIf (i.gateHeat.cell p) .filmFire (some p) rfl (by omega)
    have hcell1 (q : Proj) : (if i.gateHeat.cell p then b.setActive .filmFire (some p) true else b).filmFire.cell q =
        if q = p then i.gateHeat.cell p else b.filmFire.cell q := by
      cases hv : i.gateHeat.cell p
      · by_cases hq : q = p
        · rw [if_pos hq, hq]
          exact hcold p List.mem_cons_self
        · rw [if_neg hq]
          rfl
      · exact Bank.cell_put ..
    have hlen1 : cs1.length ≤ cs.length + 1 := by
      rw [hcs1, List.length_append]
      split <;> simp
    obtain ⟨t2, cs2, F, hrule2, hcs2, hF, hfired2⟩ := ih hfired hrest
      (fun q hq => by
        have hqp : q ≠ p := fun e => hp (e ▸ hq)
        rw [hcell1, if_neg hqp]
        exact hcold q (List.mem_cons_of_mem p hq)) (by omega)
    refine ⟨t2, cs2, F, ?_, ?_, fun q => ?_, ?_⟩
    · unfold Rule.each
      rw [hgate, hrule]
      exact hrule2
    · rw [hcs2, hcs1, List.append_assoc]
      cases hv : i.gateHeat.cell p <;> simp [hv]
    · rw [hF, hcell1]
      by_cases hq : q = p
      · subst hq
        simp [hp]
      · simp [hq]
    · cases hv : i.gateHeat.cell p <;> simpa [hv, Booth.setActive] using hfired2

/-- R153, R155: the first reading is recorded. -/
theorem State.Fired.graded (h : (s.powerOn i).Fired t b cs bodies) (d : Nat) (g : Grade) :
    (s.powerOn i).Fired (t.setBooth { t.booth with temperature := d, grade := g }) { b with temperature := d, grade := g }
      cs bodies where
  state := by
    have hb : t.booth = { b with log := powerOnLog cs, nextSeq := cs.length + 1 } := congrArg State.booth h.state
    rw [hb]
    exact congrArg (fun x : State => x.setBooth
      { b with log := powerOnLog cs, nextSeq := cs.length + 1, temperature := d, grade := g }) h.state
  lights := h.lights

/-- R164: one more report is queued. -/
theorem State.Fired.report (h : (s.powerOn i).Fired t b cs bodies) (x : ReportBody) :
    (s.powerOn i).Fired (t.reportBooth x) b cs (bodies ++ [x]) where
  state := by
    have hl : t.link = bodies.foldl (fun l x => l.enqueue 0 x) (s.powerOn i).link := congrArg State.link h.state
    rw [List.foldl_append, ← hl]
    exact congrArg (fun u : State => u.setLink (t.link.enqueue 0 x)) h.state
  lights := h.lights

end

/-- R155: the first reading is graded from NORMAL. -/
theorem gradeAfter_normal (d : Nat) : gradeAfter .normal d = powerOnGrade d := by
  rw [gradeAfter_eq, powerOnGrade]
  simp only [reduceCtorEq, false_and, false_or, ne_eq, not_true_eq_false, if_false]
  split_ifs <;> (try rfl) <;> omega

/-- R155, R157: the first reading and what it activates. -/
theorem State.Fired.firstReading {s t : State} {i : FieldInputs} {b : Booth} {cs : List (DropCause × Option Proj)}
    (h : (s.powerOn i).Fired t b cs ((powerOnLog cs).flatMap DropRecord.announced)) (hgrade : b.grade = .normal)
    (hcrit : b.critical = false) (hroom : cs.length < 16) (d : Nat) :
    ∃ t' cs', Rule.gradeReading ⟨t, [], false⟩ d = ⟨t', [], false⟩ ∧
      cs' = cs ++ (if 55 ≤ d then [(.critical, none)] else []) ∧
      (s.powerOn i).Fired t' { b with temperature := d, grade := powerOnGrade d, critical := decide (55 ≤ d) } cs'
        ((powerOnLog cs).flatMap DropRecord.announced ++
          (if d < 35 then [] else [.tempGrade .normal (powerOnGrade d) d]) ++
          (if 55 ≤ d then (powerOnRecord (.critical, none) (cs.length + 1)).announced else [])) := by
  have hb : t.booth = { b with log := powerOnLog cs, nextSeq := cs.length + 1 } := congrArg State.booth h.state
  have hold : t.booth.grade = .normal := by rw [hb]; exact hgrade
  have hcold : t.booth.critical = false := by rw [hb]; exact hcrit
  have hg := h.graded d (powerOnGrade d)
  by_cases hcool : d < 35
  · have hnew : powerOnGrade d = .normal := if_pos hcool
    have hhot : ¬ 55 ≤ d := by omega
    refine ⟨t.setBooth { t.booth with temperature := d, grade := powerOnGrade d }, cs, ?_, ?_, ?_⟩
    · unfold Rule.gradeReading
      simp only [hold, gradeAfter_normal, hnew, if_true, Rule.upd]
    · rw [if_neg hhot, List.append_nil]
    · rw [if_pos hcool, if_neg hhot, List.append_nil, List.append_nil, decide_eq_false hhot, ← hcrit]
      exact hg
  · have hr := hg.report (.tempGrade .normal (powerOnGrade d) d)
    have hnew : powerOnGrade d ≠ .normal := by
      unfold powerOnGrade
      rw [if_neg hcool]
      split_ifs <;> decide
    rw [if_neg hcool]
    by_cases hhot : 55 ≤ d
    · have hnow : powerOnGrade d = .critical := by
        unfold powerOnGrade
        rw [if_neg hcool, if_neg (by omega), if_neg (by omega)]
      obtain ⟨t', hrule, hfired⟩ := hr.fire .critical none rfl hroom
      refine ⟨t', cs ++ [(.critical, none)], ?_, by rw [if_pos hhot], ?_⟩
      · rw [hnow] at hrule
        unfold Rule.gradeReading
        simp only [hold, gradeAfter_normal, hnow, Rule.upd, reduceCtorEq, if_false, if_true]
        exact (if_neg fun h => Bool.false_ne_true (hcold.symm.trans h)).trans hrule
      · rw [if_pos hhot, decide_eq_true hhot]
        exact hfired
    · have hnow : powerOnGrade d ≠ .critical := by
        have hbelow : d < 55 := by omega
        rw [powerOnGrade, if_pos hbelow]
        split_ifs <;> decide
      refine ⟨(t.setBooth { t.booth with temperature := d, grade := powerOnGrade d }).reportBooth
        (.tempGrade .normal (powerOnGrade d) d), cs, ?_, ?_, ?_⟩
      · unfold Rule.gradeReading
        simp only [hold, gradeAfter_normal, hnew, hnow, Rule.upd, reduceCtorEq, if_false]
      · rw [if_neg hhot, List.append_nil]
      · rw [if_neg hhot, List.append_nil, decide_eq_false hhot, ← hcrit]
        exact hr

/-- R157: the reports of the causes, TEMP GRADE before those of CRITICAL. -/
theorem powerOnReports_eq (i : FieldInputs) (cs : List (DropCause × Option Proj)) (hcs : ∀ c ∈ cs, c.1 ≠ .critical)
    (hall : powerOnCauses i = cs ++ (if 55 ≤ i.temperature then [(.critical, none)] else [])) :
    powerOnReports i = (powerOnLog cs).flatMap DropRecord.announced ++
      (if i.temperature < 35 then [] else [.tempGrade .normal (powerOnGrade i.temperature) i.temperature]) ++
      (if 55 ≤ i.temperature then (powerOnRecord (.critical, none) (cs.length + 1)).announced else []) := by
  have hlog : ∀ d ∈ powerOnLog cs, d.cause ≠ .critical := by
    intro d hd
    obtain ⟨x, hx, rfl⟩ := List.mem_map.1 hd
    exact hcs x.1 (List.fst_mem_of_mem_zipIdx hx)
  have hkept : (powerOnLog cs).filter (fun d => d.cause ≠ .critical) = powerOnLog cs :=
    List.filter_eq_self.2 fun d hd => decide_eq_true (hlog d hd)
  have hnone : (powerOnLog cs).filter (fun d => d.cause = .critical) = [] :=
    List.filter_eq_nil_iff.2 fun d hd => by simpa using hlog d hd
  rw [powerOnReports, powerOnRecords_eq, hall]
  by_cases hhot : 55 ≤ i.temperature
  · rw [if_pos hhot, if_pos hhot, powerOnLog_append, List.filter_append, List.filter_append, hkept, hnone]
    simp [powerOnRecord]
  · rw [if_neg hhot, if_neg hhot, List.append_nil, hkept, hnone]
    rfl

/-- R157: the causes at power-on are fewer than the places of the log. -/
theorem powerOnCauses_eq (i : FieldInputs) : powerOnCauses i =
    (([] ++ if i.fusibleOpen then [(.fusible, none)] else []) ++ if i.emergencyPressed then [(.emergency, none)] else []) ++
      (allProjs.filter (fun p => i.gateHeat.cell p)).map (fun p => (.filmFire, some p)) ++
      (if 55 ≤ i.temperature then [(.critical, none)] else []) := rfl

/-- R149, R150, R157: the inputs read as events. -/
theorem Rule.readInputs_fired (s : State) (i : FieldInputs) : ∃ t F,
    Rule.readInputs ⟨s.powerOn i, [], false⟩ i = ⟨t, [], false⟩ ∧ (∀ p, F.cell p = i.gateHeat.cell p) ∧
      (s.powerOn i).Fired t { Booth.powerOn i s.now with
        fusible := i.fusibleOpen, emergency := i.emergencyPressed, filmFire := F, temperature := i.temperature,
        grade := powerOnGrade i.temperature, critical := decide (55 ≤ i.temperature) } (powerOnCauses i) (powerOnReports i) := by
  have h0 : (s.powerOn i).Fired (s.powerOn i) (Booth.powerOn i s.now) [] ((powerOnLog []).flatMap DropRecord.announced) := by
    refine ⟨rfl, fun h => ?_⟩
    rw [State.powerOn_lt]
    simp [Light.powerOn]
  obtain ⟨t1, c1, hr1, hc1, h1⟩ := h0.fireIf i.fusibleOpen .fusible none rfl (by decide)
  have hlen1 : c1.length ≤ 1 := by rw [hc1]; split <;> simp
  obtain ⟨t2, c2, hr2, hc2, h2⟩ := h1.fireIf i.emergencyPressed .emergency none rfl (by omega)
  have hlen2 : c2.length ≤ 2 := by rw [hc2, List.length_append]; split <;> simp <;> omega
  obtain ⟨t3, c3, F, hr3, hc3, hF, h3⟩ := h2.heats allProjs allProjs_nodup (fun p _ => by
    cases i.fusibleOpen <;> cases i.emergencyPressed <;> simp [Booth.setActive, Booth.powerOn, Bank.cell])
    (by rw [show allProjs.length = 8 from rfl]; omega)
  have hlen3 : c3.length ≤ 10 := by
    have := (allProjs.length_filter_le fun p => i.gateHeat.cell p)
    rw [show allProjs.length = 8 from rfl] at this
    rw [hc3, List.length_append, List.length_map]
    omega
  obtain ⟨t4, c4, hr4, hc4, h4⟩ := h3.firstReading
    (by cases i.fusibleOpen <;> cases i.emergencyPressed <;> rfl)
    (by cases i.fusibleOpen <;> cases i.emergencyPressed <;> rfl) (by omega) i.temperature
  have hall : powerOnCauses i = c3 ++ (if 55 ≤ i.temperature then [(.critical, none)] else []) := by
    rw [powerOnCauses_eq, hc3, hc2, hc1]
  have hcs : ∀ c ∈ c3, c.1 ≠ .critical := by
    intro c hc
    rw [hc3, hc2, hc1] at hc
    simp only [List.mem_append, List.mem_map, List.not_mem_nil, false_or] at hc
    obtain (hc | hc) | ⟨p, _, rfl⟩ := hc
    · split at hc <;> simp_all
    · split at hc <;> simp_all
    · exact nofun
  refine ⟨t4, F, ?_, fun p => (hF p).trans (if_pos (mem_allProjs p)), ?_⟩
  · unfold Rule.readInputs
    dsimp only
    rw [hr1, hr2, hr3]
    exact hr4
  · rw [powerOnReports_eq i c3 hcs hall, hall, ← hc4]
    convert h4 using 1
    cases i.fusibleOpen <;> cases i.emergencyPressed <;> rfl

/-- R133, R157: the houses whose SAFETY layer the inputs activate. -/
theorem mem_fireHouses_powerOn (i : FieldInputs) (h : HouseId) : (∃ c ∈ powerOnCauses i, h ∈ fireHouses c.1 c.2) ↔
    i.fusibleOpen = true ∨ i.emergencyPressed = true ∨ 55 ≤ i.temperature ∨ ∃ p, houseOf p = h ∧ i.gateHeat.cell p = true := by
  have hlasting (v : Prop) [Decidable v] (c : DropCause) (hc : fireHouses c none = allHouses) :
      (∃ x ∈ (if v then [(c, (none : Option Proj))] else []), h ∈ fireHouses x.1 x.2) ↔ v := by
    by_cases hv : v <;> simp [hv, hc, mem_allHouses]
  have hgate : (∃ x ∈ (allProjs.filter (fun p => i.gateHeat.cell p)).map (fun p => (DropCause.filmFire, some p)),
      h ∈ fireHouses x.1 x.2) ↔ ∃ p, houseOf p = h ∧ i.gateHeat.cell p = true := by
    simp only [List.mem_map, List.mem_filter, mem_allProjs, true_and]
    constructor
    · rintro ⟨_, ⟨p, hp, rfl⟩, hx⟩
      exact ⟨p, (List.mem_singleton.1 hx).symm, hp⟩
    · rintro ⟨p, rfl, hp⟩
      exact ⟨_, ⟨p, hp, rfl⟩, List.mem_singleton_self _⟩
  unfold powerOnCauses
  simp only [List.mem_append, or_and_right, exists_or]
  rw [hlasting (i.fusibleOpen = true) .fusible rfl, hlasting (i.emergencyPressed = true) .emergency rfl,
    hlasting (55 ≤ i.temperature) .critical rfl, hgate]
  constructor
  · rintro (((h1 | h2) | h3) | h4)
    · exact .inl h1
    · exact .inr (.inl h2)
    · exact .inr (.inr (.inr h3))
    · exact .inr (.inr (.inl h4))
  · rintro (h1 | h2 | h4 | h3)
    · exact .inl (.inl (.inl h1))
    · exact .inl (.inl (.inr h2))
    · exact .inr h4
    · exact .inl (.inr h3)

/-- Reports join the queue behind the one being sent and touch nothing else that is told of the link here. -/
theorem foldl_enqueue_sending (l : Link) (d : Report) (h : l.transmitter = .report d) (bodies : List ReportBody) :
    let l' := bodies.foldl (fun l x => l.enqueue 0 x) l
    l'.transmitter = .report d ∧ l'.clock = l.clock ∧ l'.slot = l.slot ∧ l'.buffer = l.buffer ∧ l'.receive = l.receive := by
  induction bodies generalizing l with
  | nil => exact ⟨h, rfl, rfl, rfl, rfl⟩
  | cons x rest ih =>
    have hx : (l.enqueue 0 x).transmitter = .report d := by
      unfold Link.enqueue
      split
      · exact (congrArg Link.transmitter (if_neg (by rw [h]; exact nofun))).trans h
      · exact h
    obtain ⟨htx, hclock, hslot, hbuffer, hreceive⟩ := ih (l.enqueue 0 x) hx
    obtain ⟨hr, hb, hs, hc, _⟩ := l.enqueue_keeps 0 x
    exact ⟨htx, hclock.trans hc, hslot.trans hs, hbuffer.trans hb, hreceive.trans hr⟩

/-- Settles O4: the activations are taken one after another from the power-on state, each with its record settled at once. -/
theorem powerOnTakesThePowerOnValues : Obligations.PowerOnTakesThePowerOnValues := by
  intro s dt i
  obtain ⟨t, F, hrule, hF, hfired⟩ := Rule.readInputs_fired (s.elapse dt) i
  have hlink : t.link = (powerOnReports i).foldl (fun l b => l.enqueue 0 b) Link.powerOn := congrArg State.link hfired.state
  obtain ⟨htx, hclock, hslot, hbuffer, hreceive⟩ := foldl_enqueue_sending Link.powerOn _ rfl (powerOnReports i)
  rw [← hlink] at htx hclock hslot hbuffer hreceive
  have hlight (h : HouseId) : t.lt h = { Light.powerOn with
      safetyActive := decide (∃ c ∈ powerOnCauses i, h ∈ fireHouses c.1 c.2) } := by
    rw [hfired.lights h, State.powerOn_lt]
  refine ⟨t, (congrArg Rule.finish hrule).trans (Rule.finish_plain t), ?_, ?_, ?_, ?_, fun p => ?_, fun n => ?_,
    fun h => ⟨?_, ?_, ?_, ?_, ?_, ?_, ?_⟩, ?_, hlink, htx, hclock, hslot, hbuffer, hreceive, ?_, ?_⟩
  · have hsame := congrArg State.transports hfired.state
    exact hsame
  · have hsame := congrArg State.readers hfired.state
    exact hsame
  · have hsame := congrArg State.houses hfired.state
    exact hsame
  · have hsame := congrArg State.lamps hfired.state
    exact hsame
  · rw [hfired.ds p, Douser.powerOn, Douser.fromSwitches]
    obtain ⟨o, c⟩ := i.dousers.cell p
    cases c
    · cases o <;> rfl
    · rfl
  · exact hfired.pt n
  · have hreset : State.reset.lt h = Light.powerOn := by simp [State.reset, State.lt, Bank.cell]
    rw [hreset, hlight h]
  · rw [hlight h]; rfl
  · rw [hlight h]; rfl
  · rw [hlight h]; rfl
  · rw [hlight h]; rfl
  · rw [hlight h]; rfl
  · rw [hlight h, ← mem_fireHouses_powerOn]
    exact decide_eq_true_iff
  · have hFi : F = i.gateHeat := Vector.ext fun k hk => hF ⟨k, hk⟩
    have hsame := congrArg State.booth hfired.state
    rw [hFi] at hsame
    exact hsame
  · have hsame := congrArg State.now hfired.state
    exact hsame
  · have hsame := congrArg State.draws hfired.state
    exact hsame

end Sys2Proof.Machine
end

section
/-! PROOFS. CHANGE NOW and the CHANGE button: the change called by hand. -/

namespace Sys2Proof.Machine

/-! ## A record that enters DUE -/

/-- R108, R120: the record of a house that enters DUE and does not begin its crossing at once. -/
def House.called (x : House) (y : Changeover) (source : ChangeSource) (loss : Option LossReason) : House :=
  { x with
    change := some { y with phase := .due, changeSource := some source, loss := loss, held := none, delayEnd := none }
    marks := { x.marks with changeTaken := true } }

/-- R114: an incoming that does not run, or stands short of its picture, begins no crossing. -/
theorem Rule.crossingTest_waits (s : State) (l : List Signal) (t : Bool) (h : HouseId) {y : Changeover}
    (hy : (s.hs h).change = some y)
    (hw : (s.tr y.incoming).state ≠ .running ∨ (s.tr y.incoming).counter < s.leaderOf y.incoming) :
    Rule.crossingTest ⟨s, l, t⟩ h = ⟨s, l, t⟩ := by
  unfold Rule.crossingTest
  dsimp only
  rw [hy]
  refine if_neg fun ⟨_, hrun, hat⟩ => ?_
  exact hw.elim (fun h => h hrun) fun h => absurd hat (Nat.not_le.2 h)

/-- R108, R120: the record enters DUE and waits for its incoming. -/
theorem Rule.enterDue_waits (s : State) (l : List Signal) (t : Bool) (h : HouseId) (source : ChangeSource)
    (loss : Option LossReason) {y : Changeover} (hy : (s.hs h).change = some y)
    (hw : (s.tr y.incoming).state ≠ .running ∨ (s.tr y.incoming).counter < s.leaderOf y.incoming) :
    Rule.enterDue ⟨s, l, t⟩ h source loss = ⟨s.setHs h ((s.hs h).called y source loss), l, t⟩ := by
  have hstate : ((s.modChange h (fun c => { c with
      phase := .due, changeSource := some source, loss := loss, held := none, delayEnd := none })).modMarks h
        (fun m => { m with changeTaken := true })) = s.setHs h ((s.hs h).called y source loss) := by
    simp [State.modMarks, State.modChange, State.modHs, House.called, hy]
  unfold Rule.enterDue
  refine (congrArg (fun v => Rule.crossingTest ⟨v, l, t⟩ h) hstate).trans ?_
  have hsame := s.sameShow_setHs h ((s.hs h).called y source loss) rfl rfl
  refine Rule.crossingTest_waits _ l t h (y := { y with
    phase := .due, changeSource := some source, loss := loss, held := none, delayEnd := none }) ?_ ?_
  · rw [State.setHs_hs, if_pos rfl]
    rfl
  · have hlead : (s.setHs h ((s.hs h).called y source loss)).leaderOf y.incoming = s.leaderOf y.incoming := by
      unfold State.leaderOf
      rw [hsame.heldEntry]
    dsimp only
    rw [hlead]
    exact hw

/-- R92: an incoming that is ready to follow has its transport STOPPED. -/
theorem State.readyToFollow_stopped {s : State} {h : HouseId} {q : Proj} (hr : s.readyToFollow h q = true) :
    (s.tr q).state = .stopped := by
  have hready : s.ready q = true := (Bool.and_eq_true _ _ ▸ hr).1
  have hnone : s.readyFailures q = ReadyFailures.none := of_decide_eq_true hready
  have hstopped : decide ((s.tr q).state ≠ .stopped) = false := congrArg ReadyFailures.stopped hnone
  simpa using hstopped

/-- R105, R108, R120: the incoming of a record is started, and the record enters DUE. -/
theorem Rule.startIncoming_due (s : State) (l : List Signal) (t : Bool) (h : HouseId) (source : ChangeSource)
    (loss : Option LossReason) {y : Changeover} (hy : (s.hs h).change = some y) (c : Changeover) (hc : c.incoming = y.incoming)
    (hstop : (s.tr y.incoming).state = .stopped) : ∃ u, s.MotorOn u y.incoming ∧
      (Rule.startIncoming ⟨s, l, t⟩ c).enterDue h source loss =
        ⟨u.setHs h ((s.hs h).called y source loss), l ++ [.transport y.incoming .starting], t⟩ := by
  obtain ⟨u, hu, hon⟩ := Rule.motorStart_cases s l t y.incoming hstop
  have hhs : u.hs h = s.hs h := congrArg (fun b => b.cell h) hon.houses
  refine ⟨u, hon, ?_⟩
  unfold Rule.startIncoming
  rw [hc, hu, Rule.enterDue_waits u _ t h source loss (hhs ▸ hy) (.inl (by rw [hon.tr]; exact nofun)), hhs]

/-! ## The manual change (R120) -/

/-- R120: the house whose motor is taken. -/
def House.motorTaken (x : House) : House := { x with marks := { x.marks with motorTaken := true } }

/-- R120: a record in RUNUP or LOCKED whose incoming is not at its picture. -/
theorem Rule.manualChange_started (s : State) (h : HouseId) {y : Changeover} (hy : (s.hs h).change = some y)
    (hph : y.phase = .runup ∨ y.phase = .locked)
    (hw : (s.tr y.incoming).state ≠ .running ∨ (s.tr y.incoming).counter < s.leaderOf y.incoming) :
    Rule.manualChange ⟨s, [], false⟩ h = ⟨s.setHs h ((s.hs h).motorTaken.called y .manual none), [], false⟩ := by
  let v := s.setHs h (s.hs h).motorTaken
  have hsame : s.SameShow v h := s.sameShow_setHs h (s.hs h).motorTaken rfl rfl
  have hv : v.hs h = (s.hs h).motorTaken := by rw [State.setHs_hs, if_pos rfl]
  have hlead : v.leaderOf y.incoming = s.leaderOf y.incoming := by
    unfold State.leaderOf
    rw [hsame.heldEntry]
  have hdue := Rule.enterDue_waits v [] false h .manual none (y := y) (by rw [hv]; exact hy) (by rw [hlead]; exact hw)
  rw [hv, show v.setHs h _ = s.setHs h _ from State.setHs_setHs ..] at hdue
  unfold Rule.manualChange
  dsimp only
  rw [hy]
  dsimp only
  rcases hph with hp | hp <;> rw [hp] <;> exact hdue

/-- R120: a record that waits for its incoming, which is now ready to follow. -/
theorem Rule.manualChange_waiting (s : State) (h : HouseId) {y : Changeover} (hy : (s.hs h).change = some y)
    (hph : y.phase = .waitReady ∨ y.phase = .delay) (hstop : (s.tr y.incoming).state = .stopped) :
    ∃ u, (s.setHs h (s.hs h).motorTaken).MotorOn u y.incoming ∧ Rule.manualChange ⟨s, [], false⟩ h =
      ⟨u.setHs h ((s.hs h).motorTaken.called y .manual none), [.transport y.incoming .starting], false⟩ := by
  let v := s.setHs h (s.hs h).motorTaken
  have hv : v.hs h = (s.hs h).motorTaken := by rw [State.setHs_hs, if_pos rfl]
  obtain ⟨u, hon, hdue⟩ := Rule.startIncoming_due v [] false h .manual none (y := y) (by rw [hv]; exact hy) y rfl hstop
  rw [hv] at hdue
  refine ⟨u, hon, ?_⟩
  unfold Rule.manualChange
  dsimp only
  rw [hy]
  dsimp only
  rcases hph with hp | hp <;> rw [hp] <;> exact hdue

/-- R120: the house with the record that a manual change makes. -/
def House.manualRecord (x : House) (q : Proj) (m c : Nat) : House :=
  { x.motorTaken with change := some (newChange q .manual m c) }

/-- R120: with no record one is made, and its incoming started. -/
theorem Rule.manualChange_fresh (s : State) (h : HouseId) {p : Proj} {e : ReelEntry} (hc : (s.hs h).change = none)
    (hp : s.liveProj h = some p) (he : s.liveEntry h = some e) (hstop : (s.tr (otherProj p)).state = .stopped) :
    let x := (s.hs h).manualRecord (otherProj p) (s.tr p).counter (changeFrameOf e (s.tr p).counter (s.hs h).speed)
    ∃ u, (s.setHs h x).MotorOn u (otherProj p) ∧ Rule.manualChange ⟨s, [], false⟩ h =
      ⟨u.setHs h (x.called (newChange (otherProj p) .manual (s.tr p).counter
        (changeFrameOf e (s.tr p).counter (s.hs h).speed)) .manual none), [.transport (otherProj p) .starting], false⟩ := by
  intro x
  let y := newChange (otherProj p) .manual (s.tr p).counter (changeFrameOf e (s.tr p).counter (s.hs h).speed)
  have hv : (s.setHs h x).hs h = x := by rw [State.setHs_hs, if_pos rfl]
  obtain ⟨u, hon, hdue⟩ := Rule.startIncoming_due (s.setHs h x) [] false h .manual none (y := y) (by rw [hv]; rfl) y rfl hstop
  rw [hv] at hdue
  refine ⟨u, hon, ?_⟩
  have hmake : s.createChange h y = s.setHs h x := by
    simp [State.createChange, State.modMarks, State.modHs, x, y, House.manualRecord, House.motorTaken]
  unfold Rule.manualChange
  dsimp only
  rw [hc, hp, he]
  refine Eq.trans ?_ hdue
  exact congrArg (fun v => (Rule.startIncoming ⟨v, [], false⟩ y).enterDue h .manual none) hmake

/-! ## The request and the button -/

/-- R120, R121: CHANGE NOW or a press of the CHANGE button. -/
def changeByHand (console : Bool) (dt : Nat) (b : Byte) (h : HouseId) : Instr :=
  if console then .changeNow dt b else .changeButton dt h

/-- R120, R121: a change refused. -/
theorem exec_changeByHand_refused (console : Bool) (s : State) (dt : Nat) (b : Byte) (h : HouseId) (reason : RefusalReason)
    (hs : s.linkReady) (hb : b.toNat = h.val + 1) (hr : s.changeRefusal h = some reason) :
    exec (changeByHand console dt b h) s = .next (if console then (s.elapse dt).replied (.refused 32 reason .nothing)
      else (s.elapse dt).reportHouse h (.panelIgnored .change (s.hs h).state (some reason))) := by
  cases console
  · refine (congrArg Rule.finish ?_).trans (Rule.finish_plain _)
    change Rule.changePressed ⟨s.elapse dt, [], false⟩ h = _
    unfold Rule.changePressed
    rw [show (⟨s.elapse dt, [], false⟩ : Rule).st.changeRefusal h = some reason from hr]
    rfl
  · refine Rule.finish_answered (s.elapse dt) (.changeNow b) (.refused reason .nothing) hs rfl ?_
    change Rule.decideChangeNow ⟨(s.elapse dt).setLink s.link.claimed, [], false⟩ b = _
    unfold Rule.decideChangeNow
    rw [houseOfNumber_of_toNat hb]
    dsimp only
    rw [show ((s.elapse dt).setLink s.link.claimed).changeRefusal h = some reason from hr]
    rfl

/-- R120, R121: a change taken; `w` is the state in which it is decided. -/
theorem exec_changeByHand_taken (console : Bool) (s w u : State) (dt : Nat) (b : Byte) (h : HouseId) (l : List Signal)
    (hs : s.linkReady) (hb : b.toNat = h.val + 1) (hr : s.changeRefusal h = none)
    (hw : w = (s.elapse dt).setLink (if console then s.link.claimed else s.link))
    (hman : Rule.manualChange ⟨w, [], false⟩ h = ⟨u, l, false⟩) (hu : u.link = w.link) (hl : l.length ≤ settleBound)
    (hsees : ∀ y ∈ l, ∀ r : Rule, r.sees y = r) :
    exec (changeByHand console dt b h) s =
      .next (u.setLink (if console then s.link.replied (.done 32 .nothing) else s.link)) := by
  subst hw
  cases console
  · have hpress : Rule.changePressed ⟨s.elapse dt, [], false⟩ h = ⟨u, l, false⟩ := by
      unfold Rule.changePressed
      rw [show (⟨s.elapse dt, [], false⟩ : Rule).st.changeRefusal h = none from hr]
      exact hman
    have hsame : u.setLink s.link = u := by rw [show s.link = u.link from hu.symm]; rfl
    refine (congrArg Rule.finish hpress).trans ?_
    rw [if_neg Bool.false_ne_true, hsame]
    exact Rule.finish_settled (Rule.settle_unheeded settleBound u l false hl fun y hy l' => hsees y hy _) nofun
  · refine Rule.finish_asked_unheeded (s.elapse dt) u (.changeNow b) (.done .nothing) l hs rfl hu ?_ hl
      fun y hy k l' t => hsees y hy _
    change Rule.decideChangeNow ⟨(s.elapse dt).setLink s.link.claimed, [], false⟩ b = _
    unfold Rule.decideChangeNow
    rw [houseOfNumber_of_toNat hb]
    dsimp only
    rw [show ((s.elapse dt).setLink s.link.claimed).changeRefusal h = none from hr]
    exact congrArg Rule.done hman

/-! ## The checks (R120) -/

/-- R120: the checks of a SHOWING house with a following entry. -/
theorem State.changeRefusal_showing {s : State} {h : HouseId} (hst : (s.hs h).state = .showing)
    (hf : s.followingEntry h ≠ none) : s.changeRefusal h =
      if (s.hs h).change.map (fun c => c.phase) = some .due ∨ (s.hs h).change.map (fun c => c.phase) = some .crossing then
        some .state
      else if s.manualFit h then none else some .notReady := by
  have hnot : ¬ (s.hs h).state ≠ .showing := fun hn => hn hst
  unfold State.changeRefusal
  rw [if_neg hnot, if_neg hf]
  congr 1
  cases s.manualFit h <;> rfl

theorem State.changeRefusal_state {s : State} {h : HouseId} {y : Changeover}
    (hno : (s.hs h).state ≠ .showing ∨ s.followingEntry h = none ∨
      ((s.hs h).change = some y ∧ (y.phase = .due ∨ y.phase = .crossing))) : s.changeRefusal h = some .state := by
  by_cases hst : (s.hs h).state = .showing
  · by_cases hf : s.followingEntry h = none
    · have hnot : ¬ (s.hs h).state ≠ .showing := fun hn => hn hst
      unfold State.changeRefusal
      rw [if_neg hnot, if_pos hf]
    · obtain ⟨hy, hph⟩ := (hno.resolve_left fun hn => hn hst).resolve_left hf
      rw [State.changeRefusal_showing hst hf]
      refine if_pos ?_
      rw [hy]
      exact hph.imp (congrArg some) (congrArg some)
  · exact if_pos hst

/-- R120: the check of the incoming, with a record that is not called yet. -/
theorem State.changeRefusal_record {s : State} {h : HouseId} {y : Changeover} (hst : (s.hs h).state = .showing)
    (hf : s.followingEntry h ≠ none) (hy : (s.hs h).change = some y) (hdue : y.phase ≠ .due) (hcross : y.phase ≠ .crossing) :
    s.changeRefusal h = if y.phase = .runup ∨ y.phase = .locked ∨ s.readyToFollow h y.incoming then none
      else some .notReady := by
  have hfit : s.manualFit h = decide (y.phase = .runup ∨ y.phase = .locked ∨ s.readyToFollow h y.incoming) := by
    unfold State.manualFit
    rw [hy]
  rw [State.changeRefusal_showing hst hf, hfit, hy]
  refine (if_neg fun hn => hn.elim (fun h => hdue (Option.some.inj h)) fun h => hcross (Option.some.inj h)).trans ?_
  simp only [decide_eq_true_eq]

/-- R120: the check of the incoming, with no record. -/
theorem State.changeRefusal_fresh {s : State} {h : HouseId} {p : Proj} (hst : (s.hs h).state = .showing)
    (hf : s.followingEntry h ≠ none) (hc : (s.hs h).change = none) (hp : s.liveProj h = some p) :
    s.changeRefusal h = if s.readyToFollow h (otherProj p) then none else some .notReady := by
  have hfit : s.manualFit h = s.readyToFollow h (otherProj p) := by
    unfold State.manualFit
    rw [hc, hp]
  rw [State.changeRefusal_showing hst hf, hfit, hc]
  exact if_neg (by simp)

/-- R92, R105: what is ready to follow holds the following entry. -/
theorem State.readyToFollow_following {s : State} {h : HouseId} {q : Proj} (hr : s.readyToFollow h q = true) :
    s.followingEntry h ≠ none := by
  intro hn
  unfold State.readyToFollow at hr
  rw [hn] at hr
  simp at hr

/-- A motor start leaves the transports and the readers of the other projectors. -/
theorem State.MotorOn.setHs_others {s u : State} {q : Proj} (hon : s.MotorOn u q) (h : HouseId) (x : House) {g : HouseId}
    (hg : g ≠ h) : (u.setHs h x).hs g = s.hs g := by
  rw [State.setHs_hs, if_neg hg]
  exact congrArg (fun b => b.cell g) hon.houses

/-- R120: a change of a record whose incoming must still be started. -/
theorem exec_changeByHand_starts (console : Bool) (s w v u : State) (dt : Nat) (b : Byte) (h : HouseId) (x x1 : House) (q : Proj)
    (hs : s.linkReady) (hb : b.toNat = h.val + 1) (hr : s.changeRefusal h = none)
    (hw : w = (s.elapse dt).setLink (if console then s.link.claimed else s.link)) (hv : v = w.setHs h x1)
    (hon : v.MotorOn u q) (htrial : (s.ds q).trial = none)
    (hman : Rule.manualChange ⟨w, [], false⟩ h = ⟨u.setHs h x, [.transport q .starting], false⟩) :
    ∃ t, exec (changeByHand console dt b h) s = .next t ∧ t.hs h = x ∧ (t.tr q).state = .starting ∧
      (t.tr q).motorOn = some (s.now + dt) ∧ (t.tr q).counter = (s.tr q).counter ∧
      (∀ x, x ≠ q → t.tr x = s.tr x ∧ t.rd x = s.rd x) ∧ (∀ g, g ≠ h → t.hs g = s.hs g) ∧ t.dousers = s.dousers ∧
      t.lamps = s.lamps ∧ t.lights = s.lights ∧ t.ports = s.ports ∧ t.booth = s.booth ∧
      t.link = if console then s.link.replied (.done 32 .nothing) else s.link := by
  have hds : v.ds q = s.ds q := by rw [hv, hw]; rfl
  obtain ⟨hdousers, hlink⟩ := hon.untried (by rw [hds]; exact htrial)
  have hrun := exec_changeByHand_taken console s w (u.setHs h x) dt b h [.transport q .starting] hs hb hr hw hman
    (hlink.trans (by rw [hv]; rfl)) (by simp [settleBound]) fun y hy r => by
      obtain rfl := List.mem_singleton.1 hy
      rfl
  have hvtr : v.transports = s.transports := by rw [hv, hw]; rfl
  have hvrd : v.readers = s.readers := by rw [hv, hw]; rfl
  have hvnow : v.now = s.now + dt := by rw [hv, hw]; rfl
  have htr : u.tr q = (s.tr q).started (s.now + dt) := by
    rw [hon.tr, hvnow]
    exact congrArg (fun b => (b.cell q).started (s.now + dt)) hvtr
  refine ⟨_, hrun, (State.setHs_hs u h x h).trans (if_pos rfl), ?_, ?_, ?_, fun y hy => ⟨?_, ?_⟩, fun g hg => ?_, ?_, ?_, ?_, ?_, ?_, rfl⟩
  · exact congrArg Transport.state htr
  · exact congrArg Transport.motorOn htr
  · have hcounter := congrArg Transport.counter htr
    exact hcounter
  · exact (hon.trs y hy).trans (congrArg (fun b => b.cell y) hvtr)
  · exact (hon.rds y hy).trans (congrArg (fun b => b.cell y) hvrd)
  · refine (hon.setHs_others h x hg).trans ?_
    rw [hv, State.setHs_hs, if_neg hg, hw]
    rfl
  · exact hdousers.trans (by rw [hv, hw]; rfl)
  · exact hon.lamps.trans (by rw [hv, hw]; rfl)
  · exact hon.lights.trans (by rw [hv, hw]; rfl)
  · exact hon.ports.trans (by rw [hv, hw]; rfl)
  · exact hon.booth.trans (by rw [hv, hw]; rfl)

/-- R120: a change of a record whose incoming runs up. -/
theorem exec_changeByHand_called (console : Bool) (s : State) (dt : Nat) (b : Byte) (h : HouseId) {y : Changeover}
    (hs : s.linkReady) (hb : b.toNat = h.val + 1) (hst : (s.hs h).state = .showing) (hf : s.followingEntry h ≠ none)
    (hy : (s.hs h).change = some y) (hph : y.phase = .runup ∨ y.phase = .locked)
    (hw : (s.tr y.incoming).state ≠ .running ∨ (s.tr y.incoming).counter < s.leaderOf y.incoming) :
    exec (changeByHand console dt b h) s =
      .next (((s.elapse dt).setHs h ((s.hs h).motorTaken.called y .manual none)).setLink
        (if console then s.link.replied (.done 32 .nothing) else s.link)) := by
  let w := (s.elapse dt).setLink (if console then s.link.claimed else s.link)
  have hr : s.changeRefusal h = none := by
    rw [State.changeRefusal_record hst hf hy (by rcases hph with h | h <;> simp [h]) (by rcases hph with h | h <;> simp [h])]
    exact if_pos (hph.elim .inl fun h => .inr (.inl h))
  exact exec_changeByHand_taken console s w (w.setHs h ((s.hs h).motorTaken.called y .manual none)) dt b h [] hs hb hr rfl
    (Rule.manualChange_started w h hy hph hw) rfl (by simp) (by simp)

/-- Settles O36, by the checks and, where they hold, by the phase of the record. -/
theorem changeByHandCallsTheChange : Obligations.ChangeByHandCallsTheChange := by
  refine ⟨fun c s dt b h sd p q e y console reason hs hb hc hp hq => ⟨fun hno => ?_, fun hst hl he hch hrf htrial => ?_,
    fun hst hf hy hph htr => ?_⟩, fun c s dt b h y console hs hb hc => ⟨fun hst hf hy hph hrf => ?_,
      fun hst hf hy hph hw => ?_, fun hst hf hy hph hrf htrial => ?_⟩⟩ <;> subst hc
  · refine exec_changeByHand_refused console s dt b h reason hs hb ?_
    rcases hno with ⟨hst, rfl⟩ | ⟨-, hf, rfl⟩ | ⟨-, hy, hph, rfl⟩ | ⟨hst, hf, hch, hl, hrf, rfl⟩
    · exact State.changeRefusal_state (y := y) (.inl hst)
    · exact State.changeRefusal_state (y := y) (.inr (.inl hf))
    · exact State.changeRefusal_state (.inr (.inr ⟨hy, hph⟩))
    · rw [State.changeRefusal_fresh (p := p) hst hf hch (by rw [State.liveProj, hl, hp]; rfl), ← hq, hrf]
      rfl
  · subst hq
    have hlive : s.liveProj h = some p := by rw [State.liveProj, hl, hp]; rfl
    have hentry : s.liveEntry h = some e := by rw [State.liveEntry, hlive]; exact he
    have hr : s.changeRefusal h = none := by
      rw [State.changeRefusal_fresh hst (State.readyToFollow_following hrf) hch hlive, if_pos hrf]
    let w := (s.elapse dt).setLink (if console then s.link.claimed else s.link)
    obtain ⟨u, hon, hman⟩ := Rule.manualChange_fresh w h hch hlive hentry (State.readyToFollow_stopped hrf)
    obtain ⟨t, ht, hhs, hrest⟩ := exec_changeByHand_starts console s w _ u dt b h _ _ _ hs hb hr rfl rfl hon htrial hman
    exact ⟨t, ht, hhs, hrest⟩
  · refine ⟨_, exec_changeByHand_called console s dt b h hs hb hst hf hy (.inl hph) (.inl (by rw [htr]; decide)),
      (State.setHs_hs _ h _ h).trans (if_pos rfl), rfl, rfl, rfl, rfl, fun g hg => ?_, rfl, rfl⟩
    exact (State.setHs_hs _ h _ g).trans (if_neg hg)
  · refine (exec_changeByHand_refused console s dt b h .notReady hs hb ?_).trans (by rw [hst])
    rw [State.changeRefusal_record hst hf hy (by rcases hph with h | h <;> simp [h]) (by rcases hph with h | h <;> simp [h])]
    exact if_neg (by rcases hph with h | h <;> simp [h, hrf])
  · refine ⟨_, exec_changeByHand_called console s dt b h hs hb hst hf hy hph hw,
      (State.setHs_hs _ h _ h).trans (if_pos rfl), rfl, rfl, rfl, rfl, rfl, fun g hg => ?_, rfl, rfl, rfl⟩
    exact (State.setHs_hs _ h _ g).trans (if_neg hg)
  · have hr : s.changeRefusal h = none := by
      rw [State.changeRefusal_record hst hf hy (by rcases hph with h | h <;> simp [h]) (by rcases hph with h | h <;> simp [h])]
      exact if_pos (.inr (.inr hrf))
    let w := (s.elapse dt).setLink (if console then s.link.claimed else s.link)
    obtain ⟨u, hon, hman⟩ := Rule.manualChange_waiting w h hy hph (State.readyToFollow_stopped hrf)
    exact exec_changeByHand_starts console s w _ u dt b h _ _ _ hs hb hr rfl rfl hon htrial hman

end Sys2Proof.Machine
end

section
/-! PROOFS. What the rules of one house leave of the booth, and HOLD. -/

namespace Sys2Proof.Machine

/-! ## Within one house -/

/-- R4: a transport whose motor runs. -/
abbrev Transport.driven (t : Transport) : Prop := t.state = .starting ∨ t.state = .running

/-- From `s` to `t` what has changed lies with house `h`: no motor has been started there, no douser opened or stuck, and the
sound gate and the changeover record, once gone, have stayed so. -/
structure State.Within (s t : State) (h : HouseId) : Prop where
  trs : ∀ q, houseOf q ≠ h → t.tr q = s.tr q
  rds : ∀ q, houseOf q ≠ h → t.rd q = s.rd q
  dss : ∀ q, houseOf q ≠ h → t.ds q = s.ds q
  lps : ∀ q, houseOf q ≠ h → t.lp q = s.lp q
  lts : ∀ g, g ≠ h → t.lt g = s.lt g
  ports : t.ports = s.ports
  booth : t.booth = s.booth
  driven : ∀ q, (t.tr q).driven → (s.tr q).driven
  agape : ∀ q, (t.ds q).agape → (s.ds q).agape
  stuck : ∀ q, (t.ds q).state = .stuck → (s.ds q).state = .stuck
  liveSide : (t.hs h).liveSide = (s.hs h).liveSide
  levels : (t.hs h).levels = (s.hs h).levels
  speed : (t.hs h).speed = (s.hs h).speed
  retiring : (t.hs h).retiring = (s.hs h).retiring
  gate : (s.hs h).gate = .none → (t.hs h).gate = .none
  change : (t.hs h).change = none ∨ (t.hs h).change = (s.hs h).change

section
variable {s t u : State} {h : HouseId} {p : Proj}

theorem State.Within.refl (s : State) (h : HouseId) : s.Within s h :=
  ⟨fun _ _ => rfl, fun _ _ => rfl, fun _ _ => rfl, fun _ _ => rfl, fun _ _ => rfl, rfl, rfl, fun _ => id, fun _ => id,
    fun _ => id, rfl, rfl, rfl, rfl, id, .inr rfl⟩

theorem State.Within.trans (a : s.Within t h) (b : t.Within u h) : s.Within u h where
  trs q hq := (b.trs q hq).trans (a.trs q hq)
  rds q hq := (b.rds q hq).trans (a.rds q hq)
  dss q hq := (b.dss q hq).trans (a.dss q hq)
  lps q hq := (b.lps q hq).trans (a.lps q hq)
  lts g hg := (b.lts g hg).trans (a.lts g hg)
  ports := b.ports.trans a.ports
  booth := b.booth.trans a.booth
  driven q hq := a.driven q (b.driven q hq)
  agape q hq := a.agape q (b.agape q hq)
  stuck q hq := a.stuck q (b.stuck q hq)
  liveSide := b.liveSide.trans a.liveSide
  levels := b.levels.trans a.levels
  speed := b.speed.trans a.speed
  retiring := b.retiring.trans a.retiring
  gate hg := b.gate (a.gate hg)
  change := b.change.elim .inl fun hb => a.change.imp (hb.trans ·) (hb.trans ·)

/-- A record of the house that keeps what lasts through a show. -/
theorem State.within_setHs (s : State) (h : HouseId) (x : House) (hl : x.liveSide = (s.hs h).liveSide)
    (hv : x.levels = (s.hs h).levels) (hs : x.speed = (s.hs h).speed) (hr : x.retiring = (s.hs h).retiring)
    (hg : (s.hs h).gate = .none → x.gate = .none) (hc : x.change = none ∨ x.change = (s.hs h).change) :
    s.Within (s.setHs h x) h := by
  refine ⟨fun _ _ => rfl, fun _ _ => rfl, fun _ _ => rfl, fun _ _ => rfl, fun _ _ => rfl, rfl, rfl, fun _ => id, fun _ => id,
    fun _ => id, ?_, ?_, ?_, ?_, ?_, ?_⟩ <;> rw [State.setHs_hs, if_pos rfl] <;> assumption

/-- Reports, and what else of the link a rule changes. -/
theorem State.within_setLink (s : State) (k : Link) (h : HouseId) : s.Within (s.setLink k) h :=
  ⟨fun _ _ => rfl, fun _ _ => rfl, fun _ _ => rfl, fun _ _ => rfl, fun _ _ => rfl, rfl, rfl, fun _ => id, fun _ => id,
    fun _ => id, rfl, rfl, rfl, rfl, id, .inr rfl⟩

theorem State.within_selectNone (s : State) (h : HouseId) : s.Within (s.selectNone h) h :=
  s.within_setHs h _ rfl rfl rfl rfl (fun _ => rfl) (.inr rfl)

theorem State.within_setStatus (s : State) (h : HouseId) (n : Nat) (x : ReelStatus) : s.Within (s.setStatus h n x) h :=
  s.within_setHs h _ rfl rfl rfl rfl id (.inr rfl)

theorem State.within_programTarget (s : State) (h : HouseId) (n f : Nat) (o : Origin) : s.Within (s.programTarget h n f o) h :=
  ⟨fun _ _ => rfl, fun _ _ => rfl, fun _ _ => rfl, fun _ _ => rfl, fun _ hg => (State.setLt_lt ..).trans (if_neg hg), rfl, rfl,
    fun _ => id, fun _ => id, fun _ => id, rfl, rfl, rfl, rfl, id, .inr rfl⟩

/-- R39: a close command. -/
theorem State.within_closeCommand (s : State) (hp : houseOf p = h) : s.Within (s.closeCommand p) h := by
  obtain ⟨-, htr, hrd, hlp, hhs, hlt, hpt, hb, -⟩ := s.closeCommand_keeps p
  have hh : (s.closeCommand p).hs h = s.hs h := congrArg (fun b => b.cell h) hhs
  have hds (q : Proj) (hq : q ≠ p) : (s.closeCommand p).ds q = s.ds q := s.closeCommand_ds_other hq
  refine ⟨fun q _ => congrArg (fun b => b.cell q) htr, fun q _ => congrArg (fun b => b.cell q) hrd,
    fun q hq => hds q fun e => hq (e ▸ hp), fun q _ => congrArg (fun b => b.cell q) hlp,
    fun g _ => congrArg (fun b => b.cell g) hlt, hpt, hb, fun q hq => ?_, fun q hq => ?_, fun q hq => ?_, by rw [hh], by rw [hh],
    by rw [hh], by rw [hh], by rw [hh]; exact id, .inr (by rw [hh])⟩
  · rwa [State.tr, htr] at hq
  · by_cases e : q = p
    · subst e
      exact absurd hq (s.closeCommand_shut q)
    · rwa [hds q e] at hq
  · by_cases e : q = p
    · subst e
      by_contra hn
      exact s.closeCommand_unstuck q hn hq
    · rwa [hds q e] at hq

/-- R38: the watch on a gating condition. -/
theorem State.within_gatingWatch (s : State) (hp : houseOf p = h) : s.Within (s.gatingWatch p) h := by
  rcases s.gatingWatch_cases p with hw | ⟨hw, -⟩ <;> rw [hw]
  · exact s.within_closeCommand hp
  · exact .refl s h

/-- R38, R50, R122: a transport that leaves RUNNING. -/
theorem State.within_leaveRunning (s : State) (hp : houseOf p = h) : s.Within (s.leaveRunning p) h := by
  subst hp
  have hh : (s.gatingWatch p).hs (houseOf p) = s.hs (houseOf p) :=
    congrArg (fun b => b.cell (houseOf p)) (s.gatingWatch_keeps p).2.2.2.2.1
  rw [State.leaveRunning_eq]
  refine (s.within_gatingWatch rfl).trans (State.within_setHs _ _ _ ?_ ?_ ?_ ?_ ?_ ?_) <;> rw [hh]
  · intro hg
    dsimp only
    rw [hg]
    rfl
  · exact .inr rfl

/-- R22: the work of a reader. -/
theorem State.ByReader.within (a : s.ByReader t p) (hp : houseOf p = h) : s.Within t h := by
  have hne (q : Proj) (hq : houseOf q ≠ h) : q ≠ p := fun e => hq (e ▸ hp)
  refine ⟨fun q _ => a.tr q, fun q hq => a.readers q (hne q hq), fun q _ => a.ds q, fun q hq => a.lamps q (hne q hq),
    fun g _ => congrArg (fun b => b.cell g) a.lights, a.ports, a.booth, fun q => by rw [a.tr]; exact id,
    fun q => by rw [a.ds]; exact id, fun q => by rw [a.ds]; exact id, ?_, ?_, ?_, ?_, ?_, ?_⟩ <;> rw [a.hs]
  · exact id
  · exact .inr rfl

/-- R91: a projector disarmed. -/
theorem State.Disarmed.within (a : s.Disarmed t p) (hp : houseOf p = h) : s.Within t h := by
  have hne (q : Proj) (hq : houseOf q ≠ h) : q ≠ p := fun e => hq (e ▸ hp)
  obtain ⟨m, hm⟩ := a.plan h
  have hds (q : Proj) : t.ds q = s.ds q := congrArg (fun b => b.cell q) a.dousers
  refine ⟨fun q hq => a.trs q (hne q hq), fun q hq => a.rds q (hne q hq), fun q _ => hds q, fun q hq => a.lps q (hne q hq),
    fun g _ => congrArg (fun b => b.cell g) a.lights, a.ports, a.booth, fun q hq => ?_,
    fun q => by rw [hds]; exact id, fun q => by rw [hds]; exact id, ?_, ?_, ?_, ?_, ?_, ?_⟩ <;> try rw [hm]
  · by_cases e : q = p
    · subst e
      rw [a.tr] at hq
      by_cases hb : (s.tr q).state = .broken
      · simp [Transport.driven, hb] at hq
      · simpa [Transport.driven, hb] using hq
    · rwa [a.trs q e] at hq
  · exact id
  · exact .inr rfl

/-- A transport that is not driven. -/
theorem State.within_setTr (s : State) (x : Transport) (hp : houseOf p = h) (hx : ¬ x.driven) : s.Within (s.setTr p x) h := by
  have hne (q : Proj) (hq : houseOf q ≠ h) : q ≠ p := fun e => hq (e ▸ hp)
  refine ⟨fun q hq => (State.setTr_tr ..).trans (if_neg (hne q hq)), fun _ _ => rfl, fun _ _ => rfl, fun _ _ => rfl,
    fun _ _ => rfl, rfl, rfl, fun q hq => ?_, fun _ => id, fun _ => id, rfl, rfl, rfl, rfl, id, .inr rfl⟩
  rw [State.setTr_tr] at hq
  split at hq
  · exact absurd hq hx
  · exact hq

end

/-! ## Signals of one house -/

/-- The house that a change concerns. -/
def Signal.house : Signal → HouseId
  | .transport p _ | .runupFailed p | .lampLeft p _ | .lampOff p | .lampBurning p | .lampStruck p | .portLeft p
  | .portHeld p | .cues p | .douser p _ => houseOf p
  | .readiness h => h

/-- From `r` to `r'` what has changed lies with house `h`, and so do the changes that the blocks are still to see, `n` more at
most. -/
structure Rule.Within (r r' : Rule) (h : HouseId) (n : Nat) : Prop where
  state : r.st.Within r'.st h
  agenda : ∃ l, r'.agenda = r.agenda ++ l ∧ l.length ≤ n ∧ ∀ y ∈ l, y.house = h
  tie : r'.tie = r.tie

section
variable {r r' r'' : Rule} {h : HouseId} {p : Proj} {m n : Nat}

theorem Rule.Within.refl (r : Rule) (h : HouseId) : r.Within r h 0 := ⟨.refl _ _, ⟨[], by simp⟩, rfl⟩

theorem Rule.Within.trans (a : r.Within r' h m) (b : r'.Within r'' h n) : r.Within r'' h (m + n) := by
  obtain ⟨l, hl, hlen, hof⟩ := a.agenda
  obtain ⟨l', hl', hlen', hof'⟩ := b.agenda
  refine ⟨a.state.trans b.state, ⟨l ++ l', by simp [hl, hl'], by simpa using Nat.add_le_add hlen hlen', fun y hy => ?_⟩,
    b.tie.trans a.tie⟩
  exact (List.mem_append.1 hy).elim (hof y) (hof' y)

theorem Rule.Within.mono (a : r.Within r' h m) (hmn : m ≤ n) : r.Within r' h n := by
  obtain ⟨l, hl, hlen, hof⟩ := a.agenda
  exact ⟨a.state, ⟨l, hl, hlen.trans hmn, hof⟩, a.tie⟩

theorem Rule.Within.upd (a : r.Within r' h n) {f : State → State} (hf : r'.st.Within (f r'.st) h) :
    r.Within (r'.upd f) h n := ⟨a.state.trans hf, a.agenda, a.tie⟩

theorem Rule.Within.emit (a : r.Within r' h n) {y : Signal} (hy : y.house = h) : r.Within (r'.emit y) h (n + 1) := by
  obtain ⟨l, hl, hlen, hof⟩ := a.agenda
  refine ⟨a.state, ⟨l ++ [y], by simp [Rule.emit, hl], by simpa using hlen, fun z hz => ?_⟩, a.tie⟩
  rcases List.mem_append.1 hz with hz | hz
  · exact hof z hz
  · rw [List.mem_singleton.1 hz, hy]

theorem Rule.Reads.within (a : r.Reads r' p n) (hp : houseOf p = h) : r.Within r' h n := by
  obtain ⟨l, hl, hlen, hcues⟩ := a.agenda
  exact ⟨a.state.within hp, ⟨l, hl, hlen, fun y hy => by rw [hcues y hy]; exact hp⟩, a.tie⟩

/-- R91: a projector disarmed. -/
theorem Rule.within_disarm (r : Rule) (hp : houseOf p = h) : r.Within (r.disarm p) h 2 := by
  obtain ⟨s, l, t⟩ := r
  obtain ⟨u, hu, hdis⟩ := Rule.disarm_cases s l t p
  rw [hu]
  refine ⟨hdis.within hp, ⟨_, rfl, ?_, fun y hy => ?_⟩, rfl⟩
  · split <;> simp
  · rcases List.mem_cons.1 hy with rfl | hy
    · exact hp
    · split at hy
      · rw [List.mem_singleton.1 hy]
        exact hp
      · cases hy

end

/-! ## A house held -/

/-- R97, R125: nothing that house `h` sees brings anything about: it is in no show, with no changeover record and no retiring
projector. -/
structure State.Still (s : State) (h : HouseId) : Prop where
  noShow : (s.hs h).state.inShow = false
  noChange : (s.hs h).change = none
  noRetiring : (s.hs h).retiring = none

/-- Such a house heeds no change, where no douser of it is STUCK. -/
theorem Rule.sees_still (r : Rule) (y : Signal) (hs : r.st.Still y.house)
    (hd : ∀ p, houseOf p = y.house → (r.st.ds p).state ≠ .stuck) : r.sees y = r := by
  obtain ⟨hshow, hchange, hretiring⟩ := hs
  have hlook : r.look y.house = r := r.look_noShow _ hshow hchange
  have hnot (x : HouseState) (hx : x.inShow = true) (h : HouseId) (hh : h = y.house) : (r.st.hs h).state ≠ x := by
    subst hh
    intro he
    rw [he, hx] at hshow
    cases hshow
  have hfail (p : Proj) (f : Failure) (hp : houseOf p = y.house) : r.failure p f = r :=
    r.failure_noShow p f (by rw [hp]; exact hshow)
  have hdouser (p : Proj) (hp : houseOf p = y.house) : r.douserCause p = r := r.douserCause_unstuck p (hd p hp)
  cases y with
  | transport p to1 =>
    have hlock : r.upd (fun s => s.lockChange p) = r := by
      simp [Rule.upd, State.lockChange_none _ _ hchange]
    have hend : r.endStops p = r := if_neg fun ⟨he, _⟩ => hnot .ending rfl _ rfl he
    change r.look (houseOf p) = r at hlook
    have hretire (x : TransportState) : r.retireSees (houseOf p) p x = r := r.retireSees_atRest _ p x hretiring
    cases to1
    case starting => rfl
    case running =>
      change (r.upd (fun s => s.lockChange p)).look (houseOf p) = r
      rw [hlock, hlook]
    case stopping =>
      change ((r.retireSees (houseOf p) p .stopping).douserCause p).look (houseOf p) = r
      rw [hretire, hdouser p rfl, hlook]
    case stopped =>
      change (((r.endStops p).retireSees (houseOf p) p .stopped).douserCause p).look (houseOf p) = r
      rw [hend, hretire, hdouser p rfl, hlook]
    case broken =>
      change (((r.failure p .brk).retireSees (houseOf p) p .broken).douserCause p).look (houseOf p) = r
      rw [hfail p _ rfl, hretire, hdouser p rfl, hlook]
  | runupFailed p =>
    change (r.failure p .runup).look (houseOf p) = r
    rw [hfail p _ rfl]
    exact hlook
  | lampLeft p b =>
    change (r.failure p (.lamp b)).look (houseOf p) = r
    rw [hfail p _ rfl]
    exact hlook
  | lampOff p => exact r.darkLampOff_notShowing p (hnot .showing rfl _ rfl)
  | lampBurning p =>
    have hreturn : r.upd (fun s => s.lampReturns p) = r := by
      simp only [Rule.upd, State.lampReturns]
      rw [if_neg fun ⟨he, _⟩ => hnot .showing rfl _ rfl he]
    change (r.upd (fun s => s.lampReturns p)).look (houseOf p) = r
    rw [hreturn]
    exact hlook
  | lampStruck p => exact hdouser p rfl
  | portLeft p =>
    change (r.failure p .port).look (houseOf p) = r
    rw [hfail p _ rfl]
    exact hlook
  | portHeld p => exact hlook
  | douser p to1 =>
    have hend : r.upd (fun s => s.endDouserSees p) = r := by
      simp only [Rule.upd, State.endDouserSees]
      rw [if_neg fun ⟨he, _⟩ => hnot .ending rfl _ rfl he]
    change r.look (houseOf p) = r at hlook
    cases to1
    case closed =>
      change (r.upd (fun s => s.endDouserSees p)).look (houseOf p) = r
      rw [hend, hlook]
    case opened => exact hlook
    case stuck =>
      change (((r.failure p .stuck).upd (fun s => s.endDouserSees p)).douserCause p).look (houseOf p) = r
      rw [hfail p _ rfl, hend, hdouser p rfl, hlook]
    all_goals rfl
  | cues p => exact r.cuesJoined_notShowing p (hnot .showing rfl _ rfl)
  | readiness h => exact hlook

/-! ## HOLD (R97) -/

/-- R4: the transport and the reader of a motor stop, before the watches. -/
def Rule.motorCut (r : Rule) (p : Proj) : Rule :=
  (r.upd (fun s => s.setTr p ((s.tr p).stoppedAt s.now))).readerStops p

theorem Rule.motorCut_tr (r : Rule) (p q : Proj) :
    (r.motorCut p).st.tr q = if q = p then (r.st.tr p).stoppedAt r.st.now else r.st.tr q :=
  ((Rule.reads_readerStops _ p).state.tr q).trans (State.setTr_tr ..)

/-- R4: what a motor stop does, by the state of the transport. -/
theorem Rule.motorStop_cases (r : Rule) (p : Proj) :
    ((r.st.tr p).state = .starting ∧ r.motorStop p = (r.motorCut p).emit (.transport p .stopping)) ∨
    ((r.st.tr p).state = .running ∧
      r.motorStop p = ((r.motorCut p).upd (fun s => s.leaveRunning p)).emit (.transport p .stopping)) ∨
    (¬ (r.st.tr p).driven ∧ r.motorStop p = r) := by
  cases hs : (r.st.tr p).state
  case stopped => exact .inr (.inr ⟨by simp [Transport.driven, hs], r.motorStop_undriven p (.inl hs)⟩)
  case starting =>
    refine .inl ⟨rfl, ?_⟩
    simp only [Rule.motorStop, hs]
    rfl
  case running =>
    refine .inr (.inl ⟨rfl, ?_⟩)
    simp only [Rule.motorStop, hs]
    rfl
  case stopping => exact .inr (.inr ⟨by simp [Transport.driven, hs], r.motorStop_undriven p (.inr (.inl hs))⟩)
  case broken => exact .inr (.inr ⟨by simp [Transport.driven, hs], r.motorStop_undriven p (.inr (.inr hs))⟩)

/-- R4: the transports after a motor stop. -/
theorem Rule.motorStop_tr (r : Rule) (p q : Proj) : (r.motorStop p).st.tr q =
    if q = p ∧ (r.st.tr p).driven then (r.st.tr p).stoppedAt r.st.now else r.st.tr q := by
  rcases r.motorStop_cases p with ⟨hs, hr⟩ | ⟨hs, hr⟩ | ⟨hs, hr⟩ <;> rw [hr]
  · rw [Rule.emit_st, Rule.motorCut_tr]
    simp [Transport.driven, hs]
  · rw [Rule.emit_st, Rule.upd_st, State.leaveRunning_tr, Rule.motorCut_tr]
    simp [Transport.driven, hs]
  · rw [if_neg fun h => hs h.2]

/-- R4: a motor stop leaves no motor running. -/
theorem Rule.motorStop_stops (r : Rule) (p : Proj) : ¬ ((r.motorStop p).st.tr p).driven := by
  rw [Rule.motorStop_tr]
  by_cases hd : (r.st.tr p).driven
  · rw [if_pos ⟨rfl, hd⟩]
    simp [Transport.driven, Transport.stoppedAt]
  · rwa [if_neg fun h => hd h.2]

/-- R22: the readers after a motor stop. -/
theorem Rule.motorStop_rd_cut (r : Rule) (p q : Proj) (hd : (r.st.tr p).driven) :
    (r.motorStop p).st.rd q = (r.motorCut p).st.rd q := by
  rcases r.motorStop_cases p with ⟨-, hr⟩ | ⟨-, hr⟩ | ⟨hs, -⟩
  · rw [hr]
    rfl
  · rw [hr]
    exact congrArg (fun b => b.cell q) (State.leaveRunning_keeps _ p).2.2.1
  · exact absurd hd hs

/-- R22, R30: a motor stop abandons the group that the reader assembles. -/
theorem Rule.motorStop_rd (r : Rule) (p : Proj) (hd : (r.st.tr p).driven) (ha : (r.st.rd p).assembling = true)
    (hq : (r.st.rd p).queue.length ≤ 8) : (r.motorStop p).st.rd p = { r.st.rd p with
      state := .off
      group := none
      held := []
      queue := ((r.st.rd p).queue ++ (r.st.rd p).held).take 8 } :=
  (r.motorStop_rd_cut p p hd).trans (Rule.readerStops_rd (r.upd (fun s => s.setTr p _)) p ha hq)

/-- A motor stop touches no other reader. -/
theorem Rule.motorStop_rd_other (r : Rule) {p q : Proj} (hq : q ≠ p) : (r.motorStop p).st.rd q = r.st.rd q := by
  by_cases hd : (r.st.tr p).driven
  · exact (r.motorStop_rd_cut p q hd).trans ((Rule.reads_readerStops _ p).state.readers q hq)
  · rcases r.motorStop_cases p with ⟨hs, -⟩ | ⟨hs, -⟩ | ⟨-, hr⟩
    · exact absurd (.inl hs) hd
    · exact absurd (.inr hs) hd
    · rw [hr]

/-- R4: a motor stop. -/
theorem Rule.within_motorStop {h : HouseId} (r : Rule) {p : Proj} (hp : houseOf p = h) : r.Within (r.motorStop p) h 9 := by
  have hcut : r.Within (r.motorCut p) h 8 :=
    (((Rule.Within.refl r h).upd (State.within_setTr _ _ hp (by simp [Transport.driven, Transport.stoppedAt]))).trans
      ((Rule.reads_readerStops _ p).within hp)).mono (by omega)
  rcases r.motorStop_cases p with ⟨-, hr⟩ | ⟨-, hr⟩ | ⟨-, hr⟩ <;> rw [hr]
  · exact hcut.emit hp
  · exact (hcut.upd (State.within_leaveRunning _ hp)).emit hp
  · exact (Rule.Within.refl r h).mono (by omega)

/-- R97: the drop of a record whose incoming stands in this house. -/
theorem Rule.within_dropChange (r : Rule) (h : HouseId)
    (hin : ∀ p, (r.st.hs h).change.map (fun x => x.incoming) = some p → houseOf p = h) : r.Within (r.dropChange h) h 2 := by
  unfold Rule.dropChange
  cases hc : (r.st.hs h).change with
  | none => exact (Rule.Within.refl r h).mono (by omega)
  | some c =>
    have hp : houseOf c.incoming = h := hin _ (by rw [hc]; rfl)
    have hmod : r.Within (r.upd (fun s => s.modHs h (fun x => { x with change := none }))) h 0 :=
      (Rule.Within.refl r h).upd (State.within_setHs _ h _ rfl rfl rfl rfl id (.inl rfl))
    dsimp only
    split
    · exact (hmod.trans (Rule.within_disarm _ hp)).mono (by omega)
    · exact hmod.mono (by omega)

/-- R97: the drop of a record touches no reader but its incoming's. -/
theorem Rule.dropChange_rd (r : Rule) (h : HouseId) {q : Proj}
    (hq : (r.st.hs h).change.map (fun x => x.incoming) ≠ some q) : (r.dropChange h).st.rd q = r.st.rd q := by
  unfold Rule.dropChange
  cases hc : (r.st.hs h).change with
  | none => rfl
  | some c =>
    have hne : q ≠ c.incoming := fun e => hq (by rw [hc, e]; rfl)
    dsimp only
    split
    · obtain ⟨u, hu, hdis⟩ := Rule.disarm_cases (r.st.modHs h (fun x => { x with change := none })) r.agenda r.tie c.incoming
      exact (congrArg (fun r : Rule => r.st.rd q) hu).trans (hdis.rds q hne)
    · rfl

/-- R97: the live entry of a held house. -/
theorem State.within_interrupt (s : State) (h : HouseId) : s.Within (s.interrupt h) h := by
  have hset : s.Within (s.setLiveStatus h .interrupted) h := by
    unfold State.setLiveStatus
    split
    · exact .refl s h
    · exact s.within_setStatus h _ _
  unfold State.interrupt
  split
  · exact hset
  · exact hset
  all_goals exact .refl s h

theorem State.interrupt_rd (s : State) (h : HouseId) (q : Proj) : (s.interrupt h).rd q = s.rd q := by
  unfold State.interrupt State.setLiveStatus
  (repeat' split) <;> rfl

/-- R97: the first part of a hold: dousers closed, sound cut, motors stopped, and the record dropped. -/
def Rule.holdStops (r : Rule) (h : HouseId) : Rule :=
  (((r.upd (fun s => (s.closeBoth h).selectNone h)).motorStop (projAt h .a)).motorStop (projAt h .b)).dropChange h

/-- R97: the second part of a hold: the live entry, the hold level, and the house's own record. -/
def State.heldWith (s : State) (h : HouseId) (reason : HoldReason) (lights : Bool) : State :=
  let s1 := s.interrupt h
  let s2 := if lights then s1.programTarget h (s1.hs h).levels.hold 30 .hold else s1
  s2.modHs h (fun x => { x with
    startingSide := none
    ending := none
    dark := false
    state := .hold
    holdReason := some reason })

theorem Rule.enterHold_eq (r : Rule) (h : HouseId) (reason : HoldReason) (lights : Bool) :
    r.enterHold h reason lights = (r.holdStops h).upd (fun s => s.heldWith h reason lights) := rfl

/-- What the first part of a hold leaves. -/
structure Rule.HoldStopped (r r' : Rule) (h : HouseId) : Prop where
  within : r.Within r' h 20
  gate : (r'.st.hs h).gate = .none
  change : (r'.st.hs h).change = none
  undriven : ∀ p, houseOf p = h → ¬ (r'.st.tr p).driven
  shut : ∀ p, houseOf p = h → ¬ (r'.st.ds p).agape
  readers : ∀ p, houseOf p = h → (r.st.hs h).change.map (fun x => x.incoming) ≠ some p → (r.st.tr p).driven →
    (r.st.rd p).assembling = true → (r.st.rd p).queue.length ≤ 8 → r'.st.rd p = { r.st.rd p with
      state := .off
      group := none
      held := []
      queue := ((r.st.rd p).queue ++ (r.st.rd p).held).take 8 }

theorem Rule.holdStops_stopped (r : Rule) (h : HouseId)
    (hin : ∀ p, (r.st.hs h).change.map (fun x => x.incoming) = some p → houseOf p = h) : r.HoldStopped (r.holdStops h) h := by
  have ha : houseOf (projAt h .a) = h := (houseOf_eq_iff _ h).2 (.inl rfl)
  have hb : houseOf (projAt h .b) = h := (houseOf_eq_iff _ h).2 (.inr rfl)
  let r1 := r.upd (fun s => (s.closeBoth h).selectNone h)
  let r2 := r1.motorStop (projAt h .a)
  let r3 := r2.motorStop (projAt h .b)
  have hchange : (r3.st.hs h).change = (r.st.hs h).change := by
    have h1 : ((r.st.closeBoth h).selectNone h).showView h = r.st.showView h := by simp
    exact ((r2.motorStop_record _ h).1.trans (r1.motorStop_record _ h).1).trans (congrArg ShowView.change h1)
  have w1 : r.Within r1 h 0 := (Rule.Within.refl r h).upd
    (((State.within_closeCommand _ ha).trans (State.within_closeCommand _ hb)).trans (State.within_selectNone _ h))
  have w2 : r1.Within r2 h 9 := r1.within_motorStop ha
  have w3 : r2.Within r3 h 9 := r2.within_motorStop hb
  have w4 : r3.Within (r3.dropChange h) h 2 := r3.within_dropChange h fun p hp => hin p (hchange ▸ hp)
  have hgate : (r1.st.hs h).gate = .none := by simp [r1, State.selectNone]
  have hshut : ∀ p, houseOf p = h → ¬ (r1.st.ds p).agape := fun p hp => by
    rcases (houseOf_eq_iff p h).1 hp with rfl | rfl
    · exact fun hq => r.st.closeCommand_shut _ ((State.within_closeCommand _ hb).agape _ hq)
    · exact State.closeCommand_shut _ _
  refine ⟨(w1.trans (w2.trans (w3.trans w4))).mono (by omega), (w2.trans (w3.trans w4)).state.gate hgate, r3.dropChange_change h,
    fun p hp hd => ?_, fun p hp hq => hshut p hp ((w2.trans (w3.trans w4)).state.agape p hq), fun p hp hne hd has hq => ?_⟩
  · rcases (houseOf_eq_iff p h).1 hp with rfl | rfl
    · exact r1.motorStop_stops _ ((w3.trans w4).state.driven _ hd)
    · exact r2.motorStop_stops _ (w4.state.driven _ hd)
  · have hrd1 (q : Proj) : r1.st.rd q = r.st.rd q := by
      refine (congrArg (fun b => b.cell q) (State.closeCommand_keeps _ _).2.2.1).trans ?_
      exact congrArg (fun b => b.cell q) (State.closeCommand_keeps _ _).2.2.1
    have htr1 (q : Proj) : r1.st.tr q = r.st.tr q := by
      refine (congrArg (fun b => b.cell q) (State.closeCommand_keeps _ _).2.1).trans ?_
      exact congrArg (fun b => b.cell q) (State.closeCommand_keeps _ _).2.1
    refine (r3.dropChange_rd h (by rwa [hchange])).trans ?_
    rcases (houseOf_eq_iff p h).1 hp with rfl | rfl
    · refine (r2.motorStop_rd_other (projAt_a_ne_b h)).trans ?_
      rw [r1.motorStop_rd _ (by rwa [htr1]) (by rwa [hrd1]) (by rwa [hrd1]), hrd1]
    · have hrd2 : r2.st.rd (projAt h .b) = r.st.rd (projAt h .b) :=
        (r1.motorStop_rd_other (projAt_a_ne_b h).symm).trans (hrd1 _)
      have htr2 : r2.st.tr (projAt h .b) = r.st.tr (projAt h .b) := by
        rw [r1.motorStop_tr, if_neg fun h => (projAt_a_ne_b _).symm h.1, htr1]
      rw [r2.motorStop_rd _ (by rwa [htr2]) (by rwa [hrd2]) (by rwa [hrd2]), hrd2]

/-- R97, R123: house `h` has entered HOLD. -/
structure State.HeldIn (s t : State) (h : HouseId) (reason : HoldReason) : Prop where
  within : s.Within t h
  state : (t.hs h).state = .hold
  holdReason : (t.hs h).holdReason = some reason
  gate : (t.hs h).gate = .none
  change : (t.hs h).change = none
  ending : (t.hs h).ending = none
  startingSide : (t.hs h).startingSide = none
  dark : (t.hs h).dark = false
  undriven : ∀ p, houseOf p = h → ¬ (t.tr p).driven
  shut : ∀ p, houseOf p = h → ¬ (t.ds p).agape
  readers : ∀ p, houseOf p = h → (s.hs h).change.map (fun x => x.incoming) ≠ some p → (s.tr p).driven →
    (s.rd p).assembling = true → (s.rd p).queue.length ≤ 8 → t.rd p = { s.rd p with
      state := .off
      group := none
      held := []
      queue := ((s.rd p).queue ++ (s.rd p).held).take 8 }

theorem State.within_heldWith (s : State) (h : HouseId) (reason : HoldReason) (lights : Bool) :
    s.Within (s.heldWith h reason lights) h := by
  have hlight : (s.interrupt h).Within (if lights then
      (s.interrupt h).programTarget h ((s.interrupt h).hs h).levels.hold 30 .hold else s.interrupt h) h := by
    cases lights
    · exact .refl _ h
    · exact State.within_programTarget ..
  exact (s.within_interrupt h).trans (hlight.trans (State.within_setHs _ h _ rfl rfl rfl rfl id (.inr rfl)))

theorem State.heldWith_rd (s : State) (h : HouseId) (reason : HoldReason) (lights : Bool) (q : Proj) :
    (s.heldWith h reason lights).rd q = s.rd q := by
  have hlight : (if lights then (s.interrupt h).programTarget h ((s.interrupt h).hs h).levels.hold 30 .hold
      else s.interrupt h).rd q = (s.interrupt h).rd q := by
    cases lights <;> rfl
  exact hlight.trans (s.interrupt_rd h q)

/-- R97: a house enters HOLD, and the blocks are still to see twenty changes of it at most. -/
theorem Rule.enterHold_held (r : Rule) (h : HouseId) (reason : HoldReason) (lights : Bool)
    (hin : ∀ p, (r.st.hs h).change.map (fun x => x.incoming) = some p → houseOf p = h) :
    r.Within (r.enterHold h reason lights) h 20 ∧ r.st.HeldIn (r.enterHold h reason lights).st h reason := by
  obtain ⟨hw, hgate, hchange, hundriven, hshut, hreaders⟩ := r.holdStops_stopped h hin
  rw [Rule.enterHold_eq, Rule.upd_st]
  have hheld := (r.holdStops h).st.within_heldWith h reason lights
  have hrec : ((((r.holdStops h).st.heldWith h reason lights).hs h)).state = .hold ∧
      (((r.holdStops h).st.heldWith h reason lights).hs h).holdReason = some reason ∧
      (((r.holdStops h).st.heldWith h reason lights).hs h).ending = none ∧
      (((r.holdStops h).st.heldWith h reason lights).hs h).startingSide = none ∧
      (((r.holdStops h).st.heldWith h reason lights).hs h).dark = false := by
    simp [State.heldWith, State.modHs]
  obtain ⟨hst, hre, hen, hss, hdark⟩ := hrec
  exact ⟨hw.upd hheld, hw.state.trans hheld, hst, hre, hheld.gate hgate,
    hheld.change.elim id (·.trans hchange), hen, hss, hdark, fun p hp hd => hundriven p hp (hheld.driven p hd),
    fun p hp ha => hshut p hp (hheld.agape p ha),
    fun p hp hne hd has hq => (State.heldWith_rd ..).trans (hreaders p hp hne hd has hq)⟩

/-! ## The end of a hold -/

/-- R97: a held house, where no douser was STUCK, heeds none of its changes. -/
theorem State.HeldIn.unheeded {s t : State} {h : HouseId} {reason : HoldReason} (a : s.HeldIn t h reason)
    (hd : ∀ p, houseOf p = h → (s.ds p).state ≠ .stuck) (hr : (s.hs h).retiring = none) {y : Signal} (hy : y.house = h)
    (k : Link) (l : List Signal) (tie : Bool) : Rule.sees ⟨t.setLink k, l, tie⟩ y = ⟨t.setLink k, l, tie⟩ := by
  subst hy
  exact Rule.sees_still _ y ⟨by rw [State.setLink_hs, a.state]; rfl, a.change, a.within.retiring.trans hr⟩
    fun p hp hs => hd p hp (a.within.stuck p hs)

/-- The instant and the link play no part in what a hold has done. -/
theorem State.HeldIn.of_elapse {s t : State} {dt : Nat} {k : Link} {h : HouseId} {reason : HoldReason}
    (a : ((s.elapse dt).setLink k).HeldIn t h reason) : s.HeldIn t h reason := by
  obtain ⟨⟨w1, w2, w3, w4, w5, w6, w7, w8, w9, w10, w11, w12, w13, w14, w15, w16⟩, a2, a3, a4, a5, a6, a7, a8, a9, a10, a11⟩ := a
  exact ⟨⟨w1, w2, w3, w4, w5, w6, w7, w8, w9, w10, w11, w12, w13, w14, w15, w16⟩, a2, a3, a4, a5, a6, a7, a8, a9, a10, a11⟩

/-- Settles O31. A hold leaves its house still: what the blocks then see of it brings nothing about. -/
theorem holdStopsTheShow : Obligations.HoldStopsTheShow := by
  refine ⟨fun c s dt b h reason hshow hstuck hret hin hc => ?_, fun s dt b h hno => ⟨fun hs hb => ?_, ?_⟩⟩
  · suffices hheld : ∃ t, exec c s = .next t ∧ ∃ v, s.HeldIn v h reason ∧ v.Holds h (s.hs h).levels.hold 30 ∧ v.ByLink t by
      obtain ⟨t, ht, v, hv, hholds, hby⟩ := hheld
      obtain ⟨ttr, trd, tds, tlp, ths, tlt, tpt, tb, -⟩ := hby
      have etr (p : Proj) : t.tr p = v.tr p := congrArg (fun b => b.cell p) ttr
      have erd (p : Proj) : t.rd p = v.rd p := congrArg (fun b => b.cell p) trd
      have eds (p : Proj) : t.ds p = v.ds p := congrArg (fun b => b.cell p) tds
      have elp (p : Proj) : t.lp p = v.lp p := congrArg (fun b => b.cell p) tlp
      have elt (g : HouseId) : t.lt g = v.lt g := congrArg (fun b => b.cell g) tlt
      have ehs : t.hs h = v.hs h := congrArg (fun b => b.cell h) ths
      refine ⟨t, ht, by rw [ehs, hv.state], by rw [ehs, hv.holdReason], by rw [ehs, hv.gate], by rw [ehs, hv.change],
        by rw [ehs, hv.ending], by rw [ehs, hv.startingSide], by rw [ehs, hv.dark], by rw [ehs, hv.within.liveSide],
        by rw [ehs, hv.within.levels], by rw [ehs, hv.within.speed], fun p hp => ?_, fun p hp hne hd has hq => ?_,
        by rw [elt, hholds.target], by rw [elt, hholds.fade], fun p hp => ⟨?_, ?_, ?_, ?_⟩, fun g hg => ?_, ?_, ?_⟩
      · have hd := hv.undriven p hp
        have ha := hv.shut p hp
        rw [etr, eds]
        exact ⟨fun e => hd (.inl e), fun e => hd (.inr e), fun e => ha (.inl e), fun e => ha (.inr e)⟩
      · exact (erd p).trans (hv.readers p hp hne hd has hq)
      · exact (etr p).trans (hv.within.trs p hp)
      · exact (erd p).trans (hv.within.rds p hp)
      · exact (eds p).trans (hv.within.dss p hp)
      · exact (elp p).trans (hv.within.lps p hp)
      · exact (elt g).trans (hv.within.lts g hg)
      · exact tpt.trans hv.within.ports
      · exact tb.trans hv.within.booth
    rcases hc with ⟨rfl, hb, hs, rfl⟩ | ⟨rfl, rfl⟩
    · obtain ⟨hw, hheld⟩ := Rule.enterHold_held ⟨(s.elapse dt).setLink s.link.claimed, [], false⟩ h .host true hin
      have hholds := Rule.enterHold_holds ⟨(s.elapse dt).setLink s.link.claimed, [], false⟩ h .host true
      have hfed := (Rule.moves_enterHold ⟨(s.elapse dt).setLink s.link.claimed, [], false⟩ h .host true).fed
      have hask : Rule.ask ⟨(s.elapse dt).setLink s.link.claimed, [], false⟩ (.hold b) =
          ⟨.done .nothing, Rule.enterHold ⟨(s.elapse dt).setLink s.link.claimed, [], false⟩ h .host true⟩ := by
        change Rule.decideHold _ b = _
        unfold Rule.decideHold
        rw [houseOfNumber_of_toNat hb]
        exact if_pos hshow
      generalize Rule.enterHold ⟨(s.elapse dt).setLink s.link.claimed, [], false⟩ h .host true = r at *
      obtain ⟨v, l, tie⟩ := r
      obtain ⟨l', hl, hlen, hof⟩ := hw.agenda
      obtain rfl : l = l' := hl
      obtain rfl : tie = false := hw.tie
      obtain ⟨t, ht, hby, -⟩ := Rule.finish_request_unheeded (s.elapse dt) v (.hold b) (.done .nothing) l hs rfl
        (fun hidle => s.link.claimed_awake (hfed.idle hidle).1) hask (hlen.trans (by simp [settleBound]))
        fun y hy k l t => hheld.unheeded hstuck hret (hof y hy) k l t
      exact ⟨t, ht, v, hheld.of_elapse, hholds, hby⟩
    · obtain ⟨hw, hheld⟩ := Rule.enterHold_held ⟨s.elapse dt, [], false⟩ h .panel true hin
      have hholds := Rule.enterHold_holds ⟨s.elapse dt, [], false⟩ h .panel true
      have hpress : Rule.holdPressed ⟨s.elapse dt, [], false⟩ h = Rule.enterHold ⟨s.elapse dt, [], false⟩ h .panel true :=
        if_pos hshow
      generalize Rule.enterHold ⟨s.elapse dt, [], false⟩ h .panel true = r at *
      obtain ⟨v, l, tie⟩ := r
      obtain ⟨l', hl, hlen, hof⟩ := hw.agenda
      obtain rfl : l = l' := hl
      obtain rfl : tie = false := hw.tie
      refine ⟨v, (congrArg Rule.finish hpress).trans (Rule.finish_settled (Rule.settle_unheeded settleBound v l false
        (hlen.trans (by simp [settleBound])) fun y hy l => ?_) nofun), v, State.HeldIn.of_elapse (k := s.link) hheld, hholds, .refl v⟩
      exact hheld.unheeded hstuck hret (hof y hy) v.link l false
  · exact Rule.finish_answered (s.elapse dt) (.hold b) (.refused .state .nothing) hs rfl (by
      change Rule.decideHold ⟨(s.elapse dt).setLink s.link.claimed, [], false⟩ b = _
      unfold Rule.decideHold
      rw [houseOfNumber_of_toNat hb]
      exact if_neg (by rw [Bool.not_eq_true]; exact hno))
  · refine (congrArg Rule.finish ?_).trans (Rule.finish_plain _)
    change Rule.holdPressed ⟨s.elapse dt, [], false⟩ h = _
    exact if_neg (by rw [Bool.not_eq_true]; exact hno)

end Sys2Proof.Machine
end

section
/-! PROOFS. What a fire turns on: the part of the state that the safe state of the booth is told by, and the operations of the
blocks that leave it. -/

namespace Sys2Proof.Machine

/-! ## The view of a fire -/

/-- The lamps, the motors and what is threaded, the ports, the booth-level state but for its log, the SAFETY layers, and what
each house stands in. -/
structure FireView where
  lamps : Proj → LampState
  motors : Proj → TransportState
  threaded : Proj → Bool
  ports : PortId → PortState
  booth : Booth
  safety : HouseId → Bool
  states : HouseId → HouseState
  reasons : HouseId → Option HoldReason

def State.fireView (s : State) : FireView where
  lamps p := (s.lp p).state
  motors p := (s.tr p).state
  threaded p := (s.tr p).armed.isSome
  ports n := (s.pt n).state
  booth := { s.booth with log := [], nextSeq := 0 }
  safety h := (s.lt h).safetyActive
  states h := (s.hs h).state
  reasons h := (s.hs h).holdReason

/-! ## One record replaced -/

@[simp] theorem State.fireView_setRd (s : State) (p : Proj) (x : Reader) : (s.setRd p x).fireView = s.fireView := rfl
@[simp] theorem State.fireView_setDs (s : State) (p : Proj) (x : Douser) : (s.setDs p x).fireView = s.fireView := rfl
@[simp] theorem State.fireView_setLink (s : State) (x : Link) : (s.setLink x).fireView = s.fireView := rfl
@[simp] theorem State.fireView_setDraws (s : State) (n : Nat) : (s.setDraws n).fireView = s.fireView := rfl
@[simp] theorem State.fireView_report (s : State) (n : Nat) (b : ReportBody) : (s.report n b).fireView = s.fireView := rfl
@[simp] theorem State.fireView_reportProj (s : State) (p : Proj) (b : ReportBody) : (s.reportProj p b).fireView = s.fireView := rfl
@[simp] theorem State.fireView_reportHouse (s : State) (h : HouseId) (b : ReportBody) :
    (s.reportHouse h b).fireView = s.fireView := rfl
@[simp] theorem State.fireView_reportBooth (s : State) (b : ReportBody) : (s.reportBooth b).fireView = s.fireView := rfl

@[simp] theorem State.fireView_setLog (s : State) (l : List DropRecord) (n : Nat) :
    (s.setBooth { s.booth with log := l, nextSeq := n }).fireView = s.fireView := rfl

@[simp] theorem State.fireView_setTr (s : State) (p : Proj) (x : Transport) (hs : x.state = (s.tr p).state)
    (ha : x.armed = (s.tr p).armed) : (s.setTr p x).fireView = s.fireView := by
  have htr (q : Proj) : ((s.setTr p x).tr q).state = (s.tr q).state ∧ ((s.setTr p x).tr q).armed = (s.tr q).armed := by
    rw [State.setTr_tr]
    split
    · rename_i hq
      subst hq
      exact ⟨hs, ha⟩
    · exact ⟨rfl, rfl⟩
  unfold State.fireView
  congr 1
  · exact funext fun q => (htr q).1
  · exact funext fun q => congrArg Option.isSome (htr q).2

@[simp] theorem State.fireView_setLp (s : State) (p : Proj) (x : Lamp) (hs : x.state = (s.lp p).state) :
    (s.setLp p x).fireView = s.fireView := by
  have hlp : (fun q => ((s.setLp p x).lp q).state) = fun q => (s.lp q).state := by
    funext q
    rw [State.setLp_lp]
    split
    · rename_i hq
      rw [hq, hs]
    · rfl
  exact congrArg (fun f => { s.fireView with lamps := f }) hlp

@[simp] theorem State.fireView_setPt (s : State) (n : PortId) (x : Port) (hs : x.state = (s.pt n).state) :
    (s.setPt n x).fireView = s.fireView := by
  have hpt : (fun q => ((s.setPt n x).pt q).state) = fun q => (s.pt q).state := by
    funext q
    rw [State.setPt_pt]
    split
    · rename_i hq
      rw [hq, hs]
    · rfl
  exact congrArg (fun f => { s.fireView with ports := f }) hpt

@[simp] theorem State.fireView_setLt (s : State) (h : HouseId) (x : Light) (hs : x.safetyActive = (s.lt h).safetyActive) :
    (s.setLt h x).fireView = s.fireView := by
  have hlt : (fun g => ((s.setLt h x).lt g).safetyActive) = fun g => (s.lt g).safetyActive := by
    funext g
    rw [State.setLt_lt]
    split
    · rename_i hg
      rw [hg, hs]
    · rfl
  exact congrArg (fun f => { s.fireView with safety := f }) hlt

@[simp] theorem State.fireView_setHs (s : State) (h : HouseId) (x : House) (hs : x.state = (s.hs h).state)
    (hr : x.holdReason = (s.hs h).holdReason) : (s.setHs h x).fireView = s.fireView := by
  have hhs (g : HouseId) : ((s.setHs h x).hs g).state = (s.hs g).state ∧
      ((s.setHs h x).hs g).holdReason = (s.hs g).holdReason := by
    rw [State.setHs_hs]
    split
    · rename_i hg
      subst hg
      exact ⟨hs, hr⟩
    · exact ⟨rfl, rfl⟩
  unfold State.fireView
  congr 1
  · exact funext fun q => (hhs q).1
  · exact funext fun q => (hhs q).2

@[simp] theorem State.fireView_modHs (s : State) (h : HouseId) (f : House → House) (hs : (f (s.hs h)).state = (s.hs h).state)
    (hr : (f (s.hs h)).holdReason = (s.hs h).holdReason) : (s.modHs h f).fireView = s.fireView :=
  s.fireView_setHs h _ hs hr

/-- The drop links of the ports changed. -/
theorem State.fireView_links (s : State) (f : Port → Port) (hf : ∀ x, (f x).state = x.state) :
    { s with ports := s.ports.map f }.fireView = s.fireView := by
  have hpt : (fun n => (State.pt { s with ports := s.ports.map f } n).state) = fun n => (s.pt n).state := by
    funext n
    simp [State.pt, Bank.cell, Vector.get_eq_getElem, hf]
  exact congrArg (fun f => { s.fireView with ports := f }) hpt

/-! ## Operations that leave the view -/

@[simp] theorem State.fireView_modChange (s : State) (h : HouseId) (f : Changeover → Changeover) :
    (s.modChange h f).fireView = s.fireView := s.fireView_modHs h _ rfl rfl

@[simp] theorem State.fireView_modMarks (s : State) (h : HouseId) (f : ReelMarks → ReelMarks) :
    (s.modMarks h f).fireView = s.fireView := s.fireView_modHs h _ rfl rfl

@[simp] theorem State.fireView_modReel (s : State) (h : HouseId) (n : Nat) (f : ReelEntry → ReelEntry) :
    (s.modReel h n f).fireView = s.fireView := s.fireView_setHs h _ rfl rfl

@[simp] theorem State.fireView_setStatus (s : State) (h : HouseId) (n : Nat) (x : ReelStatus) :
    (s.setStatus h n x).fireView = s.fireView := s.fireView_modReel h n _

@[simp] theorem State.fireView_setLiveStatus (s : State) (h : HouseId) (x : ReelStatus) :
    (s.setLiveStatus h x).fireView = s.fireView := by
  unfold State.setLiveStatus
  split <;> simp

@[simp] theorem State.fireView_setHeldStatus (s : State) (p : Proj) (x : ReelStatus) :
    (s.setHeldStatus p x).fireView = s.fireView := by
  unfold State.setHeldStatus
  split <;> simp

@[simp] theorem State.fireView_interrupt (s : State) (h : HouseId) : (s.interrupt h).fireView = s.fireView := by
  unfold State.interrupt
  split <;> simp

@[simp] theorem State.fireView_giveUpEntry (s : State) (p : Proj) : (s.giveUpEntry p).fireView = s.fireView := by
  unfold State.giveUpEntry
  split <;> simp

@[simp] theorem State.fireView_clearBadMark (s : State) (p : Proj) : (s.clearBadMark p).fireView = s.fireView := by
  unfold State.clearBadMark
  dsimp only
  split <;> simp

@[simp] theorem State.fireView_reportBadHead (s : State) (h : HouseId) (p : Proj) (e : CueEntry) :
    (s.reportBadHead h p e).fireView = s.fireView := by
  unfold State.reportBadHead
  split <;> simp

@[simp] theorem State.fireView_selectSide (s : State) (h : HouseId) (sd : Side) : (s.selectSide h sd).fireView = s.fireView := by
  unfold State.selectSide
  split <;> simp

@[simp] theorem State.fireView_selectNone (s : State) (h : HouseId) : (s.selectNone h).fireView = s.fireView :=
  s.fireView_setHs h _ rfl rfl

@[simp] theorem State.fireView_soundWatch (s : State) (p : Proj) : (s.soundWatch p).fireView = s.fireView := by
  unfold State.soundWatch
  split <;> simp

@[simp] theorem State.fireView_closeCommand (s : State) (p : Proj) : (s.closeCommand p).fireView = s.fireView := by
  obtain ⟨x, he | he⟩ := s.closeCommand_cases p <;> simp [he]

@[simp] theorem State.fireView_closeBoth (s : State) (h : HouseId) : (s.closeBoth h).fireView = s.fireView := by
  simp [State.closeBoth]

@[simp] theorem State.fireView_openCommand (s : State) (p : Proj) : (s.openCommand p).fireView = s.fireView := by
  unfold State.openCommand
  dsimp only
  split <;> simp

@[simp] theorem State.fireView_gatingWatch (s : State) (p : Proj) : (s.gatingWatch p).fireView = s.fireView := by
  unfold State.gatingWatch
  split <;> simp

@[simp] theorem State.fireView_endTrial (s : State) (p : Proj) (o : TrialOutcome) : (s.endTrial p o).fireView = s.fireView := by
  unfold State.endTrial
  split <;> simp

@[simp] theorem State.fireView_stopTrials (s : State) (l : List PortId) : (s.stopTrials l).fireView = s.fireView := by
  induction l generalizing s with
  | nil => rfl
  | cons n rest ih =>
    unfold State.stopTrials
    split <;> simp [ih]

@[simp] theorem State.fireView_evalBurst (s : State) (p : Proj) : (s.evalBurst p).fireView = s.fireView := by
  unfold State.evalBurst
  have hlp : (s.lp p).evaluate (s.rd p).assembling s.now = (s.evalBurst p).lp p := by
    rw [State.evalBurst, State.setLp_lp, if_pos rfl]
  refine s.fireView_setLp p _ ?_
  rw [hlp]
  exact ((s.aside_evalBurst p).lamps p).1

@[simp] theorem State.fireView_endBurstFor (s : State) (p : Proj) (reason : StopReason) :
    (s.endBurstFor p reason).fireView = s.fireView := by
  unfold State.endBurstFor State.endBurst
  (repeat' split) <;> simp

@[simp] theorem State.fireView_readerDiscards (s : State) (p : Proj) (x : ReaderState) :
    (s.readerDiscards p x).fireView = s.fireView := by
  unfold State.readerDiscards
  dsimp only
  split <;> simp

@[simp] theorem State.fireView_readerStarts (s : State) (p : Proj) : (s.readerStarts p).fireView = s.fireView := by
  unfold State.readerStarts
  split <;> simp

@[simp] theorem State.fireView_leaveRunning (s : State) (p : Proj) : (s.leaveRunning p).fireView = s.fireView := by
  unfold State.leaveRunning State.dropRunoutCount
  dsimp only
  split <;> simp

/-- R126 to R133: a program target leaves the SAFETY layer. -/
@[simp] theorem State.fireView_programTarget (s : State) (h : HouseId) (n f : Nat) (o : Origin) :
    (s.programTarget h n f o).fireView = s.fireView := by
  refine s.fireView_setLt h _ ?_
  unfold Light.giveProgram
  dsimp only
  (repeat' split)
  · rfl
  · rfl
  · rw [Light.fadeTo_eq]

@[simp] theorem State.fireView_giveCues (s : State) (h : HouseId) (n : Nat) (l : List LightCue) :
    (s.giveCues h n l).fireView = s.fireView := by
  induction l generalizing s with
  | nil => rfl
  | cons c rest ih =>
    unfold State.giveCues
    simp [ih]

@[simp] theorem State.fireView_fireCues (s : State) (h : HouseId) (n : Nat) (cond : CueTrigger → Bool) :
    (s.fireCues h n cond).fireView = s.fireView := by
  unfold State.fireCues
  split <;> simp

@[simp] theorem State.fireView_fireFrameCues (s : State) (h : HouseId) : (s.fireFrameCues h).fireView = s.fireView := by
  unfold State.fireFrameCues
  (repeat' split) <;> simp

@[simp] theorem State.fireView_createChange (s : State) (h : HouseId) (c : Changeover) :
    (s.createChange h c).fireView = s.fireView := by
  unfold State.createChange
  rw [State.fireView_modMarks, State.fireView_modHs _ _ _ rfl rfl]

@[simp] theorem State.fireView_holdChange (s : State) (h : HouseId) (x : CueSource) : (s.holdChange h x).fireView = s.fireView := by
  simp [State.holdChange]

@[simp] theorem State.fireView_crossingAt (s : State) (h : HouseId) (n : Nat) : (s.crossingAt h n).fireView = s.fireView := by
  have hopen (s : State) (c : Changeover) (x : Crossing) : (s.crossingOpen h c x n).fireView = s.fireView := by
    unfold State.crossingOpen
    split <;> simp
  have hclose (s : State) (c : Changeover) (x : Crossing) : (s.crossingClose h c x n).fireView = s.fireView := by
    unfold State.crossingClose
    split <;> simp
  have hsound (s : State) (c : Changeover) (x : Crossing) : (s.crossingSound h c x n).fireView = s.fireView := by
    unfold State.crossingSound
    dsimp only
    (repeat' split) <;> simp
  unfold State.crossingAt
  (repeat' split) <;> simp [hopen, hclose, hsound]

@[simp] theorem State.fireView_endDoused (s : State) (h : HouseId) : (s.endDoused h).fireView = s.fireView := by
  unfold State.endDoused
  split <;> simp

@[simp] theorem State.fireView_endDouserSees (s : State) (p : Proj) : (s.endDouserSees p).fireView = s.fireView := by
  unfold State.endDouserSees
  dsimp only
  split <;> simp

@[simp] theorem State.fireView_lampReturns (s : State) (p : Proj) : (s.lampReturns p).fireView = s.fireView := by
  unfold State.lampReturns
  dsimp only
  (repeat' split) <;> simp

@[simp] theorem State.fireView_lockChange (s : State) (p : Proj) : (s.lockChange p).fireView = s.fireView :=
  s.fireView_modChange _ _

@[simp] theorem State.fireView_writeRecord (s : State) (c : DropCause) (p : Option Proj) (l : List PortId) :
    (s.writeRecord c p l).fireView = s.fireView := by
  have htrim : s.trimLog.fireView = s.fireView := by
    unfold State.trimLog
    (repeat' split)
    · rfl
    · rfl
    · exact State.fireView_links _ _ fun _ => rfl
  exact htrim

@[simp] theorem State.fireView_writeOutcome (s : State) (n : PortId) (o : DropOutcome) :
    (s.writeOutcome n o).fireView = s.fireView := by
  unfold State.writeOutcome
  (repeat' split) <;> rfl

@[simp] theorem State.fireView_judgeSettled (s : State) (l : DropLink) : (s.judgeSettled l).fireView = s.fireView := by
  have hdiscarded : (s.judgeDiscarded l).fireView = s.fireView := by
    unfold State.judgeDiscarded
    split
    · rfl
    · exact State.fireView_links _ _ fun _ => rfl
  unfold State.judgeSettled
  (repeat' split) <;> simp [hdiscarded]

@[simp] theorem Rule.joinCue_fireView (r : Rule) (p : Proj) (e : CueEntry) : (r.joinCue p e).st.fireView = r.st.fireView := by
  unfold Rule.joinCue
  dsimp only
  split <;> simp

@[simp] theorem Rule.joinCues_fireView (r : Rule) (p : Proj) (l : List CueEntry) :
    (r.joinCues p l).st.fireView = r.st.fireView := by
  induction l generalizing r with
  | nil => rfl
  | cons e rest ih => exact (ih _).trans (r.joinCue_fireView p e)

@[simp] theorem Rule.offerCounted_fireView (r : Rule) (p : Proj) (code : CueCode) :
    (r.offerCounted p code).st.fireView = r.st.fireView := by
  unfold Rule.offerCounted
  dsimp only
  (repeat' split) <;> simp

@[simp] theorem Rule.readerStops_fireView (r : Rule) (p : Proj) : (r.readerStops p).st.fireView = r.st.fireView := by
  unfold Rule.readerStops
  dsimp only
  split <;> simp

/-! ## Towards the safe state -/

/-- From `v` to `w` no lamp has been struck, no motor started but where the lamp burns, no reel threaded, no port raised, no fire
cause changed, and no SAFETY layer ended; a house in no show stands as it did, and a show has gone on or been held. -/
structure FireView.Safer (v w : FireView) : Prop where
  lamps : ∀ p, w.lamps p = v.lamps p ∨ w.lamps p = .off
  motors : ∀ p, w.motors p = .starting ∨ w.motors p = .running → v.motors p = .starting ∨ v.motors p = .running ∨
    v.lamps p = .burning
  threaded : ∀ p, w.threaded p = true → v.threaded p = true
  ports : ∀ n, w.ports n = .held ∨ w.ports n = .arming → v.ports n = .held ∨ v.ports n = .arming
  booth : w.booth = v.booth
  safety : ∀ h, v.safety h = true → w.safety h = true
  idle : ∀ h, (v.states h).inShow = false → w.states h = v.states h ∧ w.reasons h = v.reasons h
  shows : ∀ h, (v.states h).inShow = true → (w.states h).inShow = true ∨ w.states h = .hold

theorem FireView.Safer.refl (v : FireView) : v.Safer v :=
  ⟨fun _ => .inl rfl, fun _ h => h.imp_right .inl, fun _ => id, fun _ => id, rfl, fun _ => id, fun _ _ => ⟨rfl, rfl⟩, fun _ => .inl⟩

theorem FireView.Safer.trans {v w x : FireView} (a : v.Safer w) (b : w.Safer x) : v.Safer x where
  lamps p := (b.lamps p).elim (fun h => (a.lamps p).imp h.trans h.trans) .inr
  motors p hp := by
    rcases b.motors p hp with h | h | h
    · exact a.motors p (.inl h)
    · exact a.motors p (.inr h)
    · rcases a.lamps p with ha | ha
      · exact .inr (.inr (ha.symm.trans h))
      · rw [ha] at h
        cases h
  threaded p hp := a.threaded p (b.threaded p hp)
  ports n hn := a.ports n (b.ports n hn)
  booth := b.booth.trans a.booth
  safety h hv := b.safety h (a.safety h hv)
  idle h hv := by
    obtain ⟨hs, hr⟩ := a.idle h hv
    obtain ⟨hs', hr'⟩ := b.idle h (by rw [hs]; exact hv)
    exact ⟨hs'.trans hs, hr'.trans hr⟩
  shows h hv := by
    rcases a.shows h hv with hw | hw
    · exact b.shows h hw
    · exact .inr ((b.idle h (by rw [hw]; rfl)).1.trans hw)

/-- What the blocks are still to see: a transport that has STOPPED is threaded no more, and no film has broken. -/
def Signal.harmless (v : FireView) : Signal → Prop
  | .transport p .stopped => v.threaded p = false
  | .transport _ .broken => False
  | _ => True

theorem Signal.harmless_of {v w : FireView} (a : v.Safer w) {y : Signal} (hy : y.harmless v) : y.harmless w := by
  cases y with
  | transport p x =>
    cases x
    case stopped =>
      have hv : v.threaded p = false := hy
      change w.threaded p = false
      by_contra hw
      rw [Bool.not_eq_false] at hw
      rw [a.threaded p hw] at hv
      cases hv
    case broken => exact hy
    all_goals trivial
  | _ => trivial

/-- From `r` to `r'` the booth has gone towards its safe state, and what has come on the agenda is harmless. -/
structure Rule.Safer (r r' : Rule) : Prop where
  view : r.st.fireView.Safer r'.st.fireView
  agenda : (∀ y ∈ r.agenda, y.harmless r.st.fireView) → ∀ y ∈ r'.agenda, y.harmless r'.st.fireView

section
variable {r r' r'' : Rule}

theorem Rule.Safer.refl (r : Rule) : r.Safer r := ⟨.refl _, id⟩

theorem Rule.Safer.trans (a : r.Safer r') (b : r'.Safer r'') : r.Safer r'' := ⟨a.view.trans b.view, b.agenda ∘ a.agenda⟩

theorem Rule.Safer.upd (a : r.Safer r') {f : State → State} (hf : r'.st.fireView.Safer (f r'.st).fireView) :
    r.Safer (r'.upd f) :=
  ⟨a.view.trans hf, fun h y hy => Signal.harmless_of hf (a.agenda h y hy)⟩

/-- A change of the state that leaves the view. -/
theorem Rule.Safer.calm (a : r.Safer r') {f : State → State} (hf : (f r'.st).fireView = r'.st.fireView) : r.Safer (r'.upd f) :=
  a.upd (by rw [hf]; exact .refl _)

theorem Rule.Safer.emit (a : r.Safer r') {y : Signal} (hy : y.harmless r'.st.fireView) : r.Safer (r'.emit y) := by
  refine ⟨a.view, fun h z hz => ?_⟩
  rcases List.mem_append.1 hz with hz | hz
  · exact a.agenda h z hz
  · rw [List.mem_singleton.1 hz]
    exact hy

end

/-- R30: entries join the queue of a reader. -/
theorem Rule.safer_reads {r r' : Rule} {p : Proj} {n : Nat} (a : r.Reads r' p n) (hv : r'.st.fireView = r.st.fireView) :
    r.Safer r' := by
  obtain ⟨l, hl, -, hcues⟩ := a.agenda
  refine ⟨by rw [hv]; exact .refl _, fun h y hy => ?_⟩
  rw [hl] at hy
  rw [hv]
  rcases List.mem_append.1 hy with hy | hy
  · exact h y hy
  · rw [hcues y hy]
    trivial

end Sys2Proof.Machine
end

section
/-! PROOFS. What the blocks bring about among themselves leads towards the safe state of the booth. -/

namespace Sys2Proof.Machine

/-! ## Transports -/

/-- A transport that is driven no more than before, and threaded no more. -/
theorem State.safer_setTr (s : State) (p : Proj) (x : Transport)
    (hx : x.driven → (s.tr p).driven ∨ (s.lp p).state = .burning) (ha : x.armed = none ∨ x.armed = (s.tr p).armed) :
    s.fireView.Safer (s.setTr p x).fireView := by
  have htr (q : Proj) : (s.setTr p x).tr q = if q = p then x else s.tr q := State.setTr_tr ..
  refine ⟨fun _ => .inl rfl, fun q hq => ?_, fun q hq => ?_, fun _ => id, rfl, fun _ => id, fun _ _ => ⟨rfl, rfl⟩, fun _ => .inl⟩
  · change ((s.setTr p x).tr q).driven at hq
    rw [htr] at hq
    by_cases h : q = p
    · subst h
      rw [if_pos rfl] at hq
      exact (hx hq).elim (fun h => h.imp_right .inl) fun h => .inr (.inr h)
    · rw [if_neg h] at hq
      exact hq.imp_right .inl
  · change ((s.setTr p x).tr q).armed.isSome = true at hq
    change (s.tr q).armed.isSome = true
    rw [htr] at hq
    by_cases h : q = p
    · subst h
      rw [if_pos rfl] at hq
      rcases ha with ha | ha <;> rw [ha] at hq
      · cases hq
      · exact hq
    · rwa [if_neg h] at hq

/-- R3: a motor start of a projector whose lamp burns. -/
theorem Rule.safer_motorStart (r : Rule) (p : Proj) (hb : (r.st.lp p).state = .burning) : r.Safer (r.motorStart p) := by
  unfold Rule.motorStart
  dsimp only
  split
  · refine .emit (.upd (.refl r) ?_) trivial
    rw [State.fireView_readerStarts, State.fireView_endTrial]
    exact r.st.safer_setTr p _ (fun _ => .inr hb) (.inr rfl)
  · exact .refl r

/-- R4: a motor stop. -/
theorem Rule.safer_motorStop (r : Rule) (p : Proj) : r.Safer (r.motorStop p) := by
  have hcut : r.Safer (r.motorCut p) := by
    have hset : r.Safer (r.upd (fun s => s.setTr p ((s.tr p).stoppedAt s.now))) :=
      .upd (.refl r) (r.st.safer_setTr p ((r.st.tr p).stoppedAt r.st.now)
        (by simp [Transport.driven, Transport.stoppedAt]) (.inr rfl))
    exact hset.trans (Rule.safer_reads (Rule.reads_readerStops _ p) (Rule.readerStops_fireView ..))
  rcases r.motorStop_cases p with ⟨-, hr⟩ | ⟨-, hr⟩ | ⟨-, hr⟩ <;> rw [hr]
  · exact hcut.emit (y := .transport p .stopping) trivial
  · exact (hcut.calm (f := fun s => s.leaveRunning p) (State.fireView_leaveRunning ..)).emit (y := .transport p .stopping) trivial
  · exact .refl r

/-- R91: a projector disarmed. -/
theorem State.Disarmed.safer {s t : State} {p : Proj} (a : s.Disarmed t p) : s.fireView.Safer t.fireView := by
  have htr (q : Proj) (hq : q ≠ p) : t.tr q = s.tr q := a.trs q hq
  have hhs (g : HouseId) : (t.hs g).state = (s.hs g).state ∧ (t.hs g).holdReason = (s.hs g).holdReason := by
    obtain ⟨m, hm⟩ := a.plan g
    rw [hm]
    exact ⟨rfl, rfl⟩
  refine ⟨fun q => .inl ?_, fun q hq => ?_, fun q hq => ?_, fun n hn => ?_, ?_, fun g hg => ?_, fun g _ => hhs g, fun g hg => .inl ?_⟩
  · by_cases h : q = p
    · subst h
      exact a.state
    · exact congrArg Lamp.state (a.lps q h)
  · change (t.tr q).driven at hq
    by_cases h : q = p
    · subst h
      rw [a.tr] at hq
      by_cases hb : (s.tr q).state = .broken
      · simp [Transport.driven, hb] at hq
      · have hd : (s.tr q).driven := by simpa [Transport.driven, hb] using hq
        exact hd.imp_right .inl
    · rw [htr q h] at hq
      exact hq.imp_right .inl
  · change (t.tr q).armed.isSome = true at hq
    by_cases h : q = p
    · subst h
      rw [a.tr] at hq
      cases hq
    · rwa [htr q h] at hq
  · change (t.pt n).raised at hn
    rwa [State.pt, a.ports] at hn
  · exact congrArg (fun b : Booth => { b with log := [], nextSeq := 0 }) a.booth
  · exact (congrArg (fun b : Bank Light 4 => (b.cell g).safetyActive) a.lights).trans hg
  · change (t.hs g).state.inShow = true
    rw [(hhs g).1]
    exact hg

theorem Rule.safer_disarm (r : Rule) (p : Proj) : r.Safer (r.disarm p) := by
  obtain ⟨s, l, t⟩ := r
  obtain ⟨u, hu, hdis⟩ := Rule.disarm_cases s l t p
  have hview := hdis.safer
  rw [hu]
  refine ⟨hview, fun h y hy => ?_⟩
  rcases List.mem_append.1 hy with hy | hy
  · exact Signal.harmless_of hview (h y hy)
  · rcases List.mem_cons.1 hy with rfl | hy
    · trivial
    · split at hy
      · rw [List.mem_singleton.1 hy]
        change (u.tr p).armed.isSome = false
        rw [hdis.tr]
        rfl
      · cases hy

/-! ## Lamps and ports -/

/-- R68: a lamp becomes OFF. -/
theorem State.safer_lampOff (s : State) (p : Proj) (x : Lamp) (hx : x.state = .off) :
    s.fireView.Safer (s.setLp p x).fireView := by
  refine ⟨fun q => ?_, fun _ h => h.imp_right .inl, fun _ => id, fun _ => id, rfl, fun _ => id, fun _ _ => ⟨rfl, rfl⟩, fun _ => .inl⟩
  change ((s.setLp p x).lp q).state = (s.lp q).state ∨ ((s.setLp p x).lp q).state = .off
  rw [State.setLp_lp]
  split
  · exact .inr hx
  · exact .inl rfl

theorem Rule.safer_extinguish (r : Rule) (p : Proj) (reason : StopReason) : r.Safer (r.extinguish p reason) := by
  have hoff : r.Safer ((r.upd (fun s => s.endBurstFor p reason)).upd (fun s =>
      s.setLp p { (s.lp p).clearRun with state := .off, stop := some reason })) :=
    .upd (.calm (.refl r) (State.fireView_endBurstFor ..)) (State.safer_lampOff _ p _ rfl)
  have hlast {r' : Rule} (a : r.Safer r') (was : LampState) : r.Safer ((r'.emitLampLeft p was false).emit (.lampOff p)) := by
    refine Rule.Safer.emit ?_ trivial
    unfold Rule.emitLampLeft
    split
    · exact a.emit (y := .lampLeft p false) trivial
    · exact a
  unfold Rule.extinguish
  split
  · exact .refl r
  · unfold Rule.lampStops
    dsimp only
    refine hlast ?_ _
    split
    · exact hoff.calm (State.fireView_closeCommand ..)
    · exact hoff

/-- R142: a port is lowered. -/
theorem State.safer_setPt (s : State) (n : PortId) (x : Port) (hx : x.raised → (s.pt n).raised) :
    s.fireView.Safer (s.setPt n x).fireView := by
  refine ⟨fun _ => .inl rfl, fun _ h => h.imp_right .inl, fun _ => id, fun k hk => ?_, rfl, fun _ => id, fun _ _ => ⟨rfl, rfl⟩,
    fun _ => .inl⟩
  change ((s.setPt n x).pt k).raised at hk
  rw [State.setPt_pt] at hk
  split at hk
  · rename_i h
    subst h
    exact hx hk
  · exact hk

theorem Rule.safer_release (r : Rule) (seq : Nat) (n : PortId) : r.Safer (r.release seq n) := by
  unfold Rule.release
  dsimp only
  split
  · rename_i hup
    let linked : Port := { r.st.pt n with windowEnd := none, link := some ⟨seq, false, false⟩ }
    have hdown : r.st.fireView.Safer
        (((r.st.setPt n linked).writeOutcome n (.closed 0)).setPt n { linked with state := .down, link := none }).fireView := by
      have hkeep : ((r.st.setPt n linked).writeOutcome n (.closed 0)).fireView = r.st.fireView :=
        (State.fireView_writeOutcome ..).trans (State.fireView_setPt _ n linked rfl)
      rw [← hkeep]
      exact State.safer_setPt _ n _ (by simp [Port.raised])
    have hdrop : r.st.fireView.Safer
        (r.st.setPt n { linked with state := .dropping, releasedAt := some r.st.now }).fireView :=
      State.safer_setPt _ n _ (by simp [Port.raised])
    have hset : r.Safer (if (r.st.pt n).downSwitch then
        r.upd (fun s => ((s.setPt n linked).writeOutcome n (.closed 0)).setPt n { linked with state := .down, link := none })
        else r.upd (fun s => s.setPt n { linked with state := .dropping, releasedAt := some s.now })) := by
      split
      · exact .upd (.refl r) hdown
      · exact .upd (.refl r) hdrop
    split
    · split
      · exact (hset.calm (State.fireView_closeCommand ..)).emit trivial
      · exact hset
    · exact hset
  · exact .refl r

theorem Rule.safer_releaseAll (r : Rule) (seq : Nat) (l : List PortId) : r.Safer (r.releaseAll seq l) := by
  induction l generalizing r with
  | nil => exact .refl r
  | cons n rest ih => exact (r.safer_release seq n).trans (ih _)

theorem Rule.safer_activation (r : Rule) (cause : DropCause) (p : Option Proj) (l : List PortId) :
    r.Safer (r.activation cause p l) := by
  have hrecord : r.Safer (r.upd (fun s => s.writeRecord cause p l)) := .calm (.refl r) (State.fireView_writeRecord ..)
  have h : r.Safer ((r.upd (fun s => s.writeRecord cause p l)).releaseAll r.st.booth.nextSeq l) :=
    hrecord.trans (Rule.safer_releaseAll ..)
  unfold Rule.activation Rule.drop
  refine .calm ?_ (State.fireView_stopTrials ..)
  dsimp only
  split
  · exact .calm (.calm h (State.fireView_reportBooth ..)) (State.fireView_judgeSettled ..)
  · exact .calm h (State.fireView_judgeSettled ..)

theorem Rule.safer_douserCause (r : Rule) (p : Proj) : r.Safer (r.douserCause p) := by
  unfold Rule.douserCause
  split
  · exact (r.safer_activation ..).trans (Rule.safer_extinguish ..)
  · exact .refl r

/-! ## Houses -/

/-- A house's record in a show, which goes on or is held. -/
theorem State.safer_setHs (s : State) (h : HouseId) (x : House) (hs : (s.hs h).state.inShow = true)
    (hx : x.state.inShow = true ∨ x.state = .hold) : s.fireView.Safer (s.setHs h x).fireView := by
  have hhs (g : HouseId) : (s.setHs h x).hs g = if g = h then x else s.hs g := State.setHs_hs ..
  refine ⟨fun _ => .inl rfl, fun _ h => h.imp_right .inl, fun _ => id, fun _ => id, rfl, fun _ => id, fun g hg => ?_, fun g hg => ?_⟩
  · change (s.hs g).state.inShow = false at hg
    have hne : g ≠ h := by
      rintro rfl
      rw [hs] at hg
      cases hg
    change ((s.setHs h x).hs g).state = (s.hs g).state ∧ ((s.setHs h x).hs g).holdReason = (s.hs g).holdReason
    rw [hhs, if_neg hne]
    exact ⟨rfl, rfl⟩
  · change ((s.setHs h x).hs g).state.inShow = true ∨ ((s.setHs h x).hs g).state = .hold
    rw [hhs]
    split
    · exact hx
    · exact .inl hg

/-- The same, where other operations come before it. -/
theorem State.safer_out {s w : State} {h : HouseId} (x : House) (hw : w.fireView = s.fireView)
    (hs : (s.hs h).state.inShow = true) (hx : x.state.inShow = true ∨ x.state = .hold) :
    s.fireView.Safer (w.setHs h x).fireView := by
  rw [← hw]
  refine w.safer_setHs h x ?_ hx
  have hst : (w.hs h).state = (s.hs h).state := congrFun (congrArg FireView.states hw) h
  rw [hst]
  exact hs

theorem Rule.safer_dropChange (r : Rule) (h : HouseId) : r.Safer (r.dropChange h) := by
  unfold Rule.dropChange
  split
  · exact .refl r
  · have hmod : r.Safer (r.upd (fun s => s.modHs h (fun x => { x with change := none }))) :=
      .calm (.refl r) (State.fireView_modHs _ h _ rfl rfl)
    dsimp only
    split
    · exact hmod.trans (Rule.safer_disarm ..)
    · exact hmod

theorem State.heldWith_safer (s : State) (h : HouseId) (reason : HoldReason) (lights : Bool)
    (hs : (s.hs h).state.inShow = true) : s.fireView.Safer (s.heldWith h reason lights).fireView := by
  unfold State.heldWith
  dsimp only
  split
  · exact State.safer_out _ ((State.fireView_programTarget ..).trans (State.fireView_interrupt ..)) hs (.inr rfl)
  · exact State.safer_out _ (State.fireView_interrupt ..) hs (.inr rfl)

theorem Rule.safer_holdStops (r : Rule) (h : HouseId) : r.Safer (r.holdStops h) :=
  ((((Rule.Safer.refl r).calm (by rw [State.fireView_selectNone, State.fireView_closeBoth])).trans
    (Rule.safer_motorStop _ _)).trans (Rule.safer_motorStop _ _)).trans (Rule.safer_dropChange _ h)

/-- R97: a show that is held; what stands in the way of a house in no show is nothing to be held. -/
theorem Rule.safer_enterHold (r : Rule) (h : HouseId) (reason : HoldReason) (lights : Bool)
    (hs : (r.st.hs h).state.inShow = true) : r.Safer (r.enterHold h reason lights) := by
  rw [Rule.enterHold_eq]
  refine (r.safer_holdStops h).upd (State.heldWith_safer _ h reason lights ?_)
  have hview : ((r.holdStops h).st.hs h).state = (r.st.hs h).state := by
    have h1 : ((r.st.closeBoth h).selectNone h).showView h = r.st.showView h := by simp
    refine (congrArg ShowView.state (Rule.dropChange_showView_same _ h)).trans ?_
    exact ((Rule.motorStop_record _ _ h).2.trans (Rule.motorStop_record _ _ h).2).trans (congrArg ShowView.state h1)
  rw [hview]
  exact hs

theorem Rule.safer_lossHold (r : Rule) (h : HouseId) (reason : LossReason) (hs : (r.st.hs h).state.inShow = true) :
    r.Safer (r.lossHold h reason) := r.safer_enterHold h _ _ hs

/-- R96: a start abandoned. -/
theorem Rule.safer_abandonStart (r : Rule) (h : HouseId) (p : Proj) (reason : HoldReason)
    (hs : (r.st.hs h).state.inShow = true) : r.Safer (r.abandonStart h p reason) := by
  let f (s : State) : State := ((s.closeBoth h).selectNone h).programTarget h (s.hs h).levels.hold 30 .hold
  have hf (s : State) : (f s).fireView = s.fireView := by
    rw [State.fireView_programTarget, State.fireView_selectNone, State.fireView_closeBoth]
  have hst : ((f (r.motorStop p).st).hs h).state = (r.st.hs h).state :=
    (congrFun (congrArg FireView.states (hf _)) h).trans (r.motorStop_record p h).2
  refine ((r.safer_motorStop p).calm (hf _)).upd (f := fun s => s.modHs h (fun x => { x with
    startingSide := none, state := .hold, holdReason := some reason })) ?_
  exact State.safer_setHs _ h _ (by rw [Rule.upd_st, hst]; exact hs) (.inr rfl)

/-- R100: the end sequence begins in a SHOWING house. -/
theorem Rule.safer_endSequence (r : Rule) (h : HouseId) (hs : (r.st.hs h).state.inShow = true) :
    r.Safer (r.endSequence h) := by
  unfold Rule.endSequence
  split
  · rename_i p e _ _
    refine (r.safer_dropChange h).upd ?_
    have hst : ((r.dropChange h).st.hs h).state = (r.st.hs h).state :=
      congrArg ShowView.state (Rule.dropChange_showView_same r h)
    have hs' : ((r.dropChange h).st.hs h).state.inShow = true := (congrArg HouseState.inShow hst).trans hs
    have hfire : (((r.dropChange h).st.closeCommand p).fireCues h e.reel isEnding).fireView = (r.dropChange h).st.fireView := by
      simp
    dsimp only
    split
    · rw [State.fireView_endDoused]
      exact State.safer_out _ hfire hs' (.inl rfl)
    · exact State.safer_out _ hfire hs' (.inl rfl)
  · exact .refl r

/-- R122: a record dropped at a runout, and in the two losses alike. -/
theorem Rule.safer_runoutDrop (r : Rule) (h : HouseId) : r.Safer (r.runoutDrop h) := by
  unfold Rule.runoutDrop
  split
  · exact .refl r
  · rename_i c _
    have hmod : r.Safer (r.upd (fun s => s.modHs h (fun x => { x with change := none }))) :=
      .calm (.refl r) (State.fireView_modHs _ h _ rfl rfl)
    dsimp only
    split
    · exact ((hmod.trans (Rule.safer_motorStop _ c.incoming)).calm (f := fun s => s.closeCommand c.incoming)
        (State.fireView_closeCommand ..)).trans (Rule.safer_disarm ..)
    · exact hmod

theorem Rule.runoutDrop_state (r : Rule) (h : HouseId) : ((r.runoutDrop h).st.hs h).state = (r.st.hs h).state := by
  unfold Rule.runoutDrop
  split
  · rfl
  · have hmod : ((r.st.modHs h (fun x => { x with change := none })).hs h).state = (r.st.hs h).state := by
      simp [State.modHs]
    dsimp only
    split
    · refine (Rule.disarm_record _ _ h).2.trans ?_
      rw [Rule.upd_st]
      refine (congrArg ShowView.state (State.showView_closeCommand _ _ h)).trans ?_
      exact (Rule.motorStop_record _ _ h).2.trans hmod
    · exact hmod

theorem Rule.safer_runout (r : Rule) (h : HouseId) (hs : (r.st.hs h).state.inShow = true) : r.Safer (r.runout h) := by
  unfold Rule.runout
  split
  · rename_i p e _ _
    let r1 := (r.upd (fun s => (s.closeCommand p).selectNone h)).runoutDrop h
    have h1 : r.Safer r1 := ((Rule.Safer.refl r).calm (f := fun s => (s.closeCommand p).selectNone h) (by simp)).trans
      (Rule.safer_runoutDrop _ h)
    have hst : (r1.st.hs h).state = (r.st.hs h).state := by
      refine (Rule.runoutDrop_state _ h).trans ?_
      exact congrArg ShowView.state (show ((r.st.closeCommand p).selectNone h).showView h = r.st.showView h by simp)
    have hs' : (r1.st.hs h).state.inShow = true := (congrArg HouseState.inShow hst).trans hs
    refine h1.upd ?_
    generalize r1.st = w at hs'
    dsimp only
    rw [State.fireView_reportHouse]
    exact State.safer_out _ (by simp) hs' (.inr rfl)
  · exact .refl r

theorem Rule.safer_tailTest (r : Rule) (h : HouseId) : r.Safer (r.tailTest h) := by
  unfold Rule.tailTest
  split
  · split
    · rename_i hst
      have hs : (r.st.hs h).state.inShow = true := by rw [hst.1]; rfl
      split
      · exact r.safer_endSequence h hs
      · split
        · exact .refl r
        · exact r.safer_runout h hs
    · exact .refl r
  · exact .refl r

/-! ## The changeover -/

theorem Rule.safer_retire (r : Rule) (h : HouseId) (p : Proj) : r.Safer (r.retire h p) := by
  have hmod (x : Retiring) : r.Safer (r.upd (fun s => s.modHs h (fun y => { y with retiring := some x }))) :=
    .calm (.refl r) (State.fireView_modHs _ h _ rfl rfl)
  unfold Rule.retire
  extract_lets t tail make
  split
  · exact r.safer_disarm p
  · split
    · exact hmod _
    · split
      · exact hmod _
      · exact (hmod _).trans (Rule.safer_motorStop ..)

theorem Rule.safer_retireSees (r : Rule) (h : HouseId) (p : Proj) (to1 : TransportState) : r.Safer (r.retireSees h p to1) := by
  have hmod (x : Option Retiring) : r.Safer (r.upd (fun s => s.modHs h (fun y => { y with retiring := x }))) :=
    .calm (.refl r) (State.fireView_modHs _ h _ rfl rfl)
  unfold Rule.retireSees
  split
  · exact .refl r
  · split
    · exact .refl r
    · split
      · exact hmod _
      · exact (hmod none).trans (Rule.safer_disarm ..)
      · exact (hmod none).trans (Rule.safer_disarm ..)
      · exact .refl r
      · exact .refl r

theorem Rule.safer_crossingTest (r : Rule) (h : HouseId) : r.Safer (r.crossingTest h) := by
  unfold Rule.crossingTest Rule.beginCrossing
  split
  · exact .refl r
  · split
    · refine .calm (.refl r) ?_
      dsimp only
      rw [State.fireView_crossingAt]
      split <;> simp
    · exact .refl r

theorem Rule.safer_enterDue (r : Rule) (h : HouseId) (source : ChangeSource) (loss : Option LossReason) :
    r.Safer (r.enterDue h source loss) := by
  unfold Rule.enterDue
  refine .trans (.calm (.refl r) ?_) (Rule.safer_crossingTest _ h)
  simp

/-- R92: the lamp of an incoming that is ready to follow burns. -/
theorem State.readyToFollow_burning {s : State} {h : HouseId} {q : Proj} (hr : s.readyToFollow h q = true) :
    (s.lp q).state = .burning := by
  have hready : s.ready q = true := (Bool.and_eq_true _ _ ▸ hr).1
  have hnone : s.readyFailures q = ReadyFailures.none := of_decide_eq_true hready
  have hburning : decide ((s.lp q).state ≠ .burning) = false := congrArg ReadyFailures.burning hnone
  simpa using hburning

/-- R105: an incoming is started only while it is ready to follow. -/
theorem Rule.safer_startIncoming (r : Rule) (c : Changeover) (hb : (r.st.lp c.incoming).state = .burning) :
    r.Safer (r.startIncoming c) := r.safer_motorStart _ hb

theorem Rule.safer_delayFalls (r : Rule) (h : HouseId) (c : Changeover) : r.Safer (r.delayFalls h c) := by
  unfold Rule.delayFalls
  split
  · rename_i hr
    have hb : (r.st.lp c.incoming).state = .burning := State.readyToFollow_burning hr
    exact .trans (.calm (.refl r) (State.fireView_modChange ..)) (Rule.safer_startIncoming _ c hb)
  · exact .calm (.refl r) (State.fireView_modChange ..)

theorem Rule.safer_align (r : Rule) (h : HouseId) (c : Changeover) : r.Safer (r.align h c) := by
  have hdelay {r' : Rule} (a : r.Safer r') (f : Changeover → Changeover) : r.Safer (r'.upd (fun s => s.modChange h f)) :=
    a.calm (State.fireView_modChange ..)
  have hreport (b : ReportBody) : r.Safer (r.upd (fun s => s.reportHouse h b)) := .calm (.refl r) (State.fireView_reportHouse ..)
  have hrest (r' : Rule) (n : Nat) (a : r.Safer r') : r.Safer (if n = 0 then r'.delayFalls h c else r') := by
    split
    · exact a.trans (Rule.safer_delayFalls ..)
    · exact a
  unfold Rule.align
  dsimp only
  refine hrest _ _ (hdelay ?_ _)
  split
  · exact hreport _
  · exact .refl r

theorem Rule.safer_readinessTest (r : Rule) (h : HouseId) : r.Safer (r.readinessTest h) := by
  unfold Rule.readinessTest
  split
  · exact .refl r
  · rename_i c _
    split
    · rename_i hr
      have hb : (r.st.lp c.incoming).state = .burning := State.readyToFollow_burning hr
      have hstart := r.safer_startIncoming c hb
      have hmod : r.Safer ((r.upd (fun s => s.modChange h (fun c => { c with phase := .runup }))).startIncoming c) :=
        .trans (.calm (.refl r) (State.fireView_modChange ..))
          (Rule.safer_startIncoming _ c hb)
      have hdue (source : ChangeSource) : r.Safer ((r.startIncoming c).enterDue h source none) :=
        hstart.trans (Rule.safer_enterDue ..)
      split
      · exact r.safer_align h _
      · exact hdue _
      · split
        · exact hmod
        · exact .refl r
      · split
        · exact hdue _
        · exact .refl r
      all_goals exact .refl r
    · exact .refl r

/-! ## The live cue queue -/

theorem Rule.safer_takeMotor (r : Rule) (h : HouseId) (p : Proj) (live : ReelEntry) (e : CueEntry) :
    r.Safer (r.takeMotor h p live e) := by
  have hreport (b : ReportBody) : r.Safer (r.upd (fun s => s.reportHouse h b)) := .calm (.refl r) (State.fireView_reportHouse ..)
  have hmake (c : Changeover) : r.Safer (r.upd (fun s => s.createChange h c)) := .calm (.refl r) (State.fireView_createChange ..)
  unfold Rule.takeMotor
  (repeat' split)
  · exact hreport _
  · exact hreport _
  all_goals
    dsimp only
    split
    · exact (hmake _).trans (Rule.safer_align ..)
    · exact hmake _

theorem Rule.safer_takeChange (r : Rule) (h : HouseId) (p : Proj) (live : ReelEntry) (e : CueEntry) :
    r.Safer (r.takeChange h p live e) := by
  have hreport (b : ReportBody) : r.Safer (r.upd (fun s => s.reportHouse h b)) := .calm (.refl r) (State.fireView_reportHouse ..)
  have hmake (c : Changeover) : r.Safer (r.upd (fun s => s.createChange h c)) := .calm (.refl r) (State.fireView_createChange ..)
  have hhold {r' : Rule} (a : r.Safer r') : r.Safer (r'.upd (fun s => s.holdChange h e.source)) :=
    a.calm (State.fireView_holdChange ..)
  have hstart (r : Rule) (c : Changeover) (hr : r.st.readyToFollow h c.incoming = true) :
      r.Safer ((r.startIncoming c).enterDue h e.source.change none) :=
    (r.safer_startIncoming c (State.readyToFollow_burning hr)).trans (Rule.safer_enterDue ..)
  unfold Rule.takeChange
  dsimp only
  split
  · exact hreport _
  · split
    · split
      · exact hreport _
      · split
        · rename_i hr
          exact (hmake _).trans (hstart _ _ hr)
        · exact hhold (hmake _)
    · split
      · split
        · exact hreport _
        · exact hhold (.refl r)
      · split
        · exact hreport _
        · split
          · rename_i hr
            exact hstart r _ hr
          · exact hhold (.refl r)
      · exact r.safer_enterDue ..
      · exact r.safer_enterDue ..
      · exact hreport _
      · exact hreport _

theorem Rule.safer_takeEntry (r : Rule) (h : HouseId) (p : Proj) (live : ReelEntry) (e : CueEntry)
    (hs : (r.st.hs h).state.inShow = true) : r.Safer (r.takeEntry h p live e) := by
  have hreport (b : ReportBody) : r.Safer (r.upd (fun s => s.reportHouse h b)) := .calm (.refl r) (State.fireView_reportHouse ..)
  cases he : e.code with
  | motor =>
    simp only [Rule.takeEntry, he]
    exact r.safer_takeMotor h p live e
  | change =>
    simp only [Rule.takeEntry, he]
    exact r.safer_takeChange h p live e
  | lights =>
    simp only [Rule.takeEntry, he, Rule.takeLights]
    split
    · exact hreport _
    · refine .calm (.refl r) ?_
      simp
  | ending =>
    simp only [Rule.takeEntry, he, Rule.takeEnd]
    split
    · exact r.safer_endSequence h hs
    · exact hreport _
  | bad =>
    simp only [Rule.takeEntry, he]
    exact .refl r

theorem Rule.safer_takeHeads (fuel : Nat) (h : HouseId) (r : Rule) : r.Safer (r.takeHeads fuel h) := by
  induction fuel generalizing r with
  | zero => exact .refl r
  | succ n ih =>
    unfold Rule.takeHeads
    split
    · rename_i hst
      split
      · rename_i p live _ _
        split
        · exact .refl r
        · split
          · exact .calm (.refl r) (State.fireView_reportBadHead ..)
          · rename_i e rest _ _
            have hset : r.Safer (r.upd (fun s => s.setRd p { s.rd p with queue := rest })) :=
              .calm (.refl r) (State.fireView_setRd ..)
            refine (hset.trans (Rule.safer_takeEntry _ h p live e ?_)).trans (ih _)
            rw [Rule.upd_st, State.setRd_hs, hst]
            rfl
      · exact .refl r
    · exact .refl r

theorem Rule.safer_takeCues (r : Rule) (h : HouseId) : r.Safer (r.takeCues h) := by
  unfold Rule.takeCues
  split
  · exact .refl r
  · exact Rule.safer_takeHeads _ h r

theorem Rule.safer_offerCounted (r : Rule) (p : Proj) (code : CueCode) : r.Safer (r.offerCounted p code) := by
  unfold Rule.offerCounted
  dsimp only
  split
  · split
    · exact .calm (.refl r) (State.fireView_setRd ..)
    · exact .calm (.refl r) (State.fireView_reportProj ..)
  · exact Rule.safer_reads (Rule.reads_joinCue r p _) (Rule.joinCue_fireView ..)

theorem Rule.safer_countedFallback (r : Rule) (h : HouseId) : r.Safer (r.countedFallback h) := by
  have hoffer (r : Rule) (p : Proj) (code : CueCode) (f : ReelMarks → ReelMarks) :
      r.Safer (((r.offerCounted p code).upd (fun s => s.modMarks h f)).takeCues h) :=
    ((r.safer_offerCounted p code).calm (f := fun s => s.modMarks h f) (State.fireView_modMarks ..)).trans
      (Rule.safer_takeCues _ h)
  unfold Rule.countedFallback
  split
  · rename_i p e _ _
    extract_lets m r1 m1
    have h1 : r.Safer r1 := by
      change r.Safer (if _ then _ else _)
      split
      · exact hoffer r p .motor _
      · exact .refl r
    split
    · exact h1.trans (hoffer r1 p .change _)
    · exact h1
  · exact .refl r

/-! ## What a house looks at -/

theorem Rule.safer_pictureTest (r : Rule) (h : HouseId) : r.Safer (r.pictureTest h) := by
  unfold Rule.pictureTest
  split
  · rename_i sd hst _
    have hs : (r.st.hs h).state.inShow = true := by rw [hst]; rfl
    dsimp only
    split
    · exact .refl r
    · rename_i e _
      split
      · refine .trans (.trans (.trans (.calm (.upd (.refl r) ?_) (State.fireView_fireFrameCues ..)) (Rule.safer_takeCues _ h))
          (Rule.safer_countedFallback _ h)) (Rule.safer_tailTest _ h)
        exact State.safer_out _ (by simp) hs (.inl rfl)
      · exact .refl r
  · exact .refl r

theorem Rule.safer_completionTest (r : Rule) (h : HouseId) : r.Safer (r.completionTest h) := by
  unfold Rule.completionTest
  split
  · exact .refl r
  · rename_i c _
    split
    · exact .refl r
    · split
      · extract_lets out rep r1 r2
        have h1 : r.Safer r1 := by
          refine .calm (.refl r) ?_
          rw [State.fireView_modHs _ h _ rfl rfl]
          simp
        have h2 : r.Safer r2 := (h1.trans (Rule.safer_retire _ h out)).calm (State.fireView_reportHouse ..)
        exact (h2.calm (State.fireView_fireFrameCues ..)).trans (Rule.safer_takeCues _ h)
      · exact .refl r

theorem Rule.safer_look (r : Rule) (h : HouseId) : r.Safer (r.look h) :=
  (((r.safer_pictureTest h).trans (Rule.safer_readinessTest _ h)).trans (Rule.safer_crossingTest _ h)).trans
    (Rule.safer_completionTest _ h)

/-! ## Failures and losses -/

/-- A house's state read off the view. -/
theorem State.inShow_of_fireView {s t : State} (hv : t.fireView = s.fireView) {h : HouseId}
    (hs : (s.hs h).state.inShow = true) : (t.hs h).state.inShow = true :=
  (congrArg HouseState.inShow (congrFun (congrArg FireView.states hv) h)).trans hs

theorem Rule.safer_incomingFails (r : Rule) (h : HouseId) (c : Changeover) (hs : (r.st.hs h).state.inShow = true) :
    r.Safer (r.incomingFails h c) := by
  unfold Rule.incomingFails
  extract_lets q r1
  have hcut : ((r.motorStop q).st.closeCommand q).fireView = (r.motorStop q).st.fireView := State.fireView_closeCommand ..
  have hdrop : (((r.motorStop q).st.closeCommand q).modHs h (fun x => { x with change := none })).fireView =
      (r.motorStop q).st.fireView := (State.fireView_modHs _ h _ rfl rfl).trans hcut
  have h1 : r.Safer r1 := ((r.safer_motorStop q).calm hdrop).trans (Rule.safer_disarm ..)
  have hs1 : (r1.st.hs h).state.inShow = true := by
    rw [(Rule.disarm_record _ q h).2]
    refine State.inShow_of_fireView hdrop ?_
    rw [(r.motorStop_record q h).2]
    exact hs
  split
  · split
    · exact h1.trans (Rule.safer_lossHold _ h _ hs1)
    · exact h1
  · exact h1

theorem Rule.safer_abandonCrossing (r : Rule) (h : HouseId) (c : Changeover) (hs : (r.st.hs h).state.inShow = true) :
    r.Safer (r.abandonCrossing h c) := by
  unfold Rule.abandonCrossing
  extract_lets q out r1 r2
  let r0 := r.upd (fun s => s.closeCommand q)
  have h0 : r.Safer r0 := .calm (.refl r) (State.fireView_closeCommand ..)
  have h1 : r.Safer r1 := (h0.trans (Rule.safer_motorStop _ q)).calm (State.fireView_modHs _ h _ rfl rfl)
  have h2 : r.Safer r2 := h1.trans (Rule.safer_disarm _ q)
  have hs2 : (r2.st.hs h).state.inShow = true := by
    rw [(Rule.disarm_record _ q h).2]
    refine State.inShow_of_fireView (State.fireView_modHs _ h _ rfl rfl) ?_
    rw [(Rule.motorStop_record _ q h).2]
    exact State.inShow_of_fireView (State.fireView_closeCommand r.st q) hs
  split
  · split
    · exact h2.trans (Rule.safer_runout _ h hs2)
    · refine h2.calm ?_
      simp
  · exact h2.trans (Rule.safer_lossHold _ h _ hs2)

theorem Rule.safer_pictureLoss (r : Rule) (h : HouseId) (p : Proj) (reason : LossReason) (restrike : Bool)
    (hs : (r.st.hs h).state.inShow = true) : r.Safer (r.pictureLoss h p reason restrike) := by
  unfold Rule.pictureLoss
  extract_lets r1
  have hv : r1.st.fireView = r.st.fireView := by
    rw [Rule.upd_st]
    dsimp only
    (repeat' split) <;> simp
  have h1 : r.Safer r1 := .calm (.refl r) hv
  have hs1 : (r1.st.hs h).state.inShow = true := State.inShow_of_fireView hv hs
  clear_value r1
  have hdrop : r.Safer ((r1.upd (fun s => s.modHs h (fun x => { x with change := none }))).lossHold h reason) := by
    refine .trans (h1.calm (State.fireView_modHs _ h _ rfl rfl)) (Rule.safer_lossHold _ h reason ?_)
    exact State.inShow_of_fireView (State.fireView_modHs _ h _ rfl rfl) hs1
  split
  · rename_i c _
    split
    · split
      · rename_i hr
        exact (h1.trans (Rule.safer_startIncoming _ c (State.readyToFollow_burning hr))).trans (Rule.safer_enterDue ..)
      · exact hdrop
    · exact hdrop
    · exact h1.trans (Rule.safer_enterDue ..)
    · exact h1.trans (Rule.safer_enterDue ..)
    · refine h1.calm ?_
      simp
    · exact h1
  · split
    · exact h1.calm (State.fireView_modHs _ h _ rfl rfl)
    · exact h1.trans (Rule.safer_lossHold _ h reason hs1)

theorem Rule.safer_darkLampOff (r : Rule) (p : Proj) : r.Safer (r.darkLampOff p) := by
  unfold Rule.darkLampOff
  dsimp only
  split
  · rename_i hst
    exact r.safer_pictureLoss _ p _ _ (by rw [hst.1]; rfl)
  · exact .refl r

/-- R96, R113, R119, R123: a failure that is no break; a break ends the show of an ENDING house. -/
theorem Rule.safer_failure (r : Rule) (p : Proj) (f : Failure) (hf : f ≠ .brk) : r.Safer (r.failure p f) := by
  have hsees (hs : (r.st.hs (houseOf p)).state.inShow = true) : r.Safer (r.changeSees (houseOf p) p) := by
    unfold Rule.changeSees
    split
    · exact .refl r
    · split
      · exact .refl r
      · split
        · exact r.safer_incomingFails _ _ hs
        · exact r.safer_incomingFails _ _ hs
        · exact r.safer_incomingFails _ _ hs
        · exact r.safer_abandonCrossing _ _ hs
        · exact .refl r
        · exact .refl r
  unfold Rule.failure
  dsimp only
  split
  · rename_i hst
    split
    · exact r.safer_abandonStart _ p _ (by rw [hst]; rfl)
    · exact .refl r
  · rename_i hst
    have hs : (r.st.hs (houseOf p)).state.inShow = true := by rw [hst]; rfl
    split
    · split
      · exact r.safer_pictureLoss _ p _ _ hs
      · exact .refl r
    · exact hsees hs
  · split
    · rename_i h
      exact absurd h.2 hf
    · exact .refl r
  all_goals exact .refl r

/-! ## The agenda -/

/-- R101: a projector that is not threaded ends no show. -/
theorem Rule.endStops_unthreaded (r : Rule) (p : Proj) (h : (r.st.tr p).armed.isSome = false) : r.endStops p = r := by
  have hheld : r.st.heldEntry p = none := by
    rw [State.heldEntry, Option.isSome_eq_false_iff.1 h |> Option.isNone_iff_eq_none.1]
  unfold Rule.endStops Rule.endCompletes
  dsimp only
  split
  · rw [hheld]
  · rfl

theorem Rule.safer_sees (r : Rule) (y : Signal) (hy : y.harmless r.st.fireView) : r.Safer (r.sees y) := by
  have hlook {r' : Rule} (a : r.Safer r') (h : HouseId) : r.Safer (r'.look h) := a.trans (r'.safer_look h)
  have hdouser {r' : Rule} (a : r.Safer r') (p : Proj) : r.Safer (r'.douserCause p) := a.trans (r'.safer_douserCause p)
  have hretire {r' : Rule} (a : r.Safer r') (h : HouseId) (p : Proj) (x : TransportState) : r.Safer (r'.retireSees h p x) :=
    a.trans (r'.safer_retireSees h p x)
  cases y with
  | transport p to1 =>
    cases to1
    case starting => exact .refl r
    case running =>
      change r.Safer ((r.upd (fun s => s.lockChange p)).look (houseOf p))
      exact hlook (.calm (.refl r) (State.fireView_lockChange ..)) _
    case stopping =>
      change r.Safer (((r.retireSees (houseOf p) p .stopping).douserCause p).look (houseOf p))
      exact hlook (hdouser (hretire (.refl r) _ _ _) _) _
    case stopped =>
      change r.Safer ((((r.endStops p).retireSees (houseOf p) p .stopped).douserCause p).look (houseOf p))
      rw [r.endStops_unthreaded p hy]
      exact hlook (hdouser (hretire (.refl r) _ _ _) _) _
    case broken => exact hy.elim
  | runupFailed p =>
    change r.Safer ((r.failure p .runup).look (houseOf p))
    exact hlook (r.safer_failure p .runup nofun) _
  | lampLeft p b =>
    change r.Safer ((r.failure p (.lamp b)).look (houseOf p))
    exact hlook (r.safer_failure p (.lamp b) nofun) _
  | lampOff p => exact r.safer_darkLampOff p
  | lampBurning p =>
    change r.Safer ((r.upd (fun s => s.lampReturns p)).look (houseOf p))
    exact hlook (.calm (.refl r) (State.fireView_lampReturns ..)) _
  | lampStruck p => exact r.safer_douserCause p
  | portLeft p =>
    change r.Safer ((r.failure p .port).look (houseOf p))
    exact hlook (r.safer_failure p .port nofun) _
  | portHeld p => exact r.safer_look _
  | douser p to1 =>
    cases to1
    case closed =>
      change r.Safer ((r.upd (fun s => s.endDouserSees p)).look (houseOf p))
      exact hlook (.calm (.refl r) (State.fireView_endDouserSees ..)) _
    case opened => exact r.safer_look _
    case stuck =>
      change r.Safer ((((r.failure p .stuck).upd (fun s => s.endDouserSees p)).douserCause p).look (houseOf p))
      exact hlook (hdouser ((r.safer_failure p .stuck nofun).calm (f := fun s => s.endDouserSees p)
        (State.fireView_endDouserSees ..)) p) _
    all_goals exact .refl r
  | cues p =>
    change r.Safer (r.cuesJoined p)
    unfold Rule.cuesJoined
    split
    · exact r.safer_takeCues _
    · exact .refl r
  | readiness h => exact r.safer_look h

/-- What the blocks are to see is harmless, and stays so as they see it. -/
def Rule.Harmless (r : Rule) : Prop := ∀ y ∈ r.agenda, y.harmless r.st.fireView

theorem Rule.safer_settle (n : Nat) (r : Rule) (hr : r.Harmless) :
    r.st.fireView.Safer (r.settle n).st.fireView ∧ (r.settle n).Harmless := by
  induction n generalizing r with
  | zero => exact ⟨.refl _, hr⟩
  | succ n ih =>
    obtain ⟨s, l, t⟩ := r
    cases l with
    | nil => exact ⟨.refl _, hr⟩
    | cons y rest =>
      have hrest : Rule.Harmless ⟨s, rest, t⟩ := fun z hz => hr z (List.mem_cons_of_mem y hz)
      have hsees := Rule.safer_sees ⟨s, rest, t⟩ y (hr y List.mem_cons_self)
      rw [Rule.settle_cons]
      obtain ⟨hview, hharmless⟩ := ih _ (hsees.agenda hrest)
      exact ⟨hsees.view.trans hview, hharmless⟩

end Sys2Proof.Machine
end

section
/-! PROOFS. The activation of a lasting fire cause, and the safe state that it leaves in all that the cause reaches. -/

namespace Sys2Proof.Machine

/-! ## What a fire brings about is kept -/

/-- House `h` is in no show, and in HOLD only for `reason`. -/
def FireView.outFor (v : FireView) (reason : HoldReason) (h : HouseId) : Prop :=
  (v.states h).inShow = false ∧ (v.states h = .hold → v.reasons h = some reason)

/-- House `h` is in a show, or in HOLD. -/
def FireView.reached (v : FireView) (h : HouseId) : Prop := (v.states h).inShow = true ∨ v.states h = .hold

/-- Projector `p` has no motor driven, nor a lamp with which one could be started. -/
def FireView.still (v : FireView) (p : Proj) : Prop := v.lamps p = .off ∧ ¬ (v.motors p = .starting ∨ v.motors p = .running)

/-- A port neither HELD nor ARMING. -/
def FireView.lowered (v : FireView) (n : PortId) : Prop := v.ports n ≠ .held ∧ v.ports n ≠ .arming

/-- From `v` to `w` nothing that a fire has put into its safe state has left it. -/
structure FireView.Quelled (reason : HoldReason) (v w : FireView) : Prop where
  lamps : ∀ p, v.lamps p = .off → w.lamps p = .off
  still : ∀ p, v.still p → w.still p
  lowered : ∀ n, v.lowered n → w.lowered n
  booth : w.booth = v.booth
  safety : ∀ h, v.safety h = true → w.safety h = true
  out : ∀ h, v.outFor reason h → w.outFor reason h
  reached : ∀ h, v.reached h → w.reached h

section
variable {reason : HoldReason}

theorem FireView.Quelled.refl (v : FireView) : v.Quelled reason v :=
  ⟨fun _ => id, fun _ => id, fun _ => id, rfl, fun _ => id, fun _ => id, fun _ => id⟩

theorem FireView.Quelled.trans {v w x : FireView} (a : v.Quelled reason w) (b : w.Quelled reason x) : v.Quelled reason x where
  lamps p := b.lamps p ∘ a.lamps p
  still p := b.still p ∘ a.still p
  lowered n := b.lowered n ∘ a.lowered n
  booth := b.booth.trans a.booth
  safety h := b.safety h ∘ a.safety h
  out h := b.out h ∘ a.out h
  reached h := b.reached h ∘ a.reached h

theorem FireView.Safer.quelled {v w : FireView} (a : v.Safer w) : v.Quelled reason w where
  lamps p hp := (a.lamps p).elim (fun h => h.trans hp) id
  still p hp := by
    obtain ⟨hoff, hm⟩ := hp
    refine ⟨(a.lamps p).elim (fun h => h.trans hoff) id, fun hw => ?_⟩
    rcases a.motors p hw with h | h | h
    · exact hm (.inl h)
    · exact hm (.inr h)
    · rw [hoff] at h
      cases h
  lowered n hn := ⟨fun hw => (a.ports n (.inl hw)).elim hn.1 hn.2, fun hw => (a.ports n (.inr hw)).elim hn.1 hn.2⟩
  booth := a.booth
  safety := a.safety
  out h hv := by
    obtain ⟨hout, hreason⟩ := hv
    obtain ⟨hs, hr⟩ := a.idle h hout
    refine ⟨by rw [hs]; exact hout, fun hw => ?_⟩
    rw [hr]
    exact hreason (hs ▸ hw)
  reached h hv := by
    rcases hv with hv | hv
    · exact a.shows h hv
    · exact .inr ((a.idle h (by rw [hv]; rfl)).1.trans hv)

/-- From `r` to `r'` the safe state has been kept, and what has come on the agenda is harmless. -/
structure Rule.Quells (reason : HoldReason) (r r' : Rule) : Prop where
  view : r.st.fireView.Quelled reason r'.st.fireView
  agenda : r.Harmless → r'.Harmless

theorem Rule.Quells.refl (r : Rule) : r.Quells reason r := ⟨.refl _, id⟩

theorem Rule.Quells.trans {r r' r'' : Rule} (a : r.Quells reason r') (b : r'.Quells reason r'') : r.Quells reason r'' :=
  ⟨a.view.trans b.view, b.agenda ∘ a.agenda⟩

theorem Rule.Safer.quells {r r' : Rule} (a : r.Safer r') : r.Quells reason r' := ⟨a.view.quelled, a.agenda⟩

/-! ## The consequences -/

theorem State.heldWith_record (s : State) (h : HouseId) (reason : HoldReason) (lights : Bool) :
    ((s.heldWith h reason lights).hs h).state = .hold ∧ ((s.heldWith h reason lights).hs h).holdReason = some reason := by
  simp [State.heldWith, State.modHs]

/-- R148: the hold of a house that a cause reaches. -/
theorem Rule.fireHold_quells (r : Rule) (h : HouseId) :
    r.Quells reason (r.fireHold h reason) ∧ (r.fireHold h reason).st.fireView.outFor reason h := by
  have hshow (hs : (r.st.hs h).state.inShow = true) :
      r.Quells reason (r.enterHold h reason true) ∧ (r.enterHold h reason true).st.fireView.outFor reason h := by
    obtain ⟨hstate, hreason⟩ := (r.holdStops h).st.heldWith_record h reason true
    refine ⟨(r.safer_enterHold h reason true hs).quells, ?_⟩
    rw [Rule.enterHold_eq, Rule.upd_st]
    generalize (r.holdStops h).st.heldWith h reason true = t at hstate hreason
    exact ⟨(congrArg HouseState.inShow hstate).trans rfl, fun _ => hreason⟩
  unfold Rule.fireHold
  split
  · rename_i hst
    exact hshow (by rw [hst]; rfl)
  · rename_i hst
    exact hshow (by rw [hst]; rfl)
  · rename_i hst
    exact hshow (by rw [hst]; rfl)
  · rename_i hst
    let t := r.st.modHs h (fun x => { x with holdReason := some reason })
    have hhs (g : HouseId) : t.hs g = if g = h then { r.st.hs h with holdReason := some reason } else r.st.hs g :=
      State.setHs_hs ..
    have hstate (g : HouseId) : (t.hs g).state = (r.st.hs g).state := by
      rw [hhs]
      split
      · rename_i hg
        rw [hg]
      · rfl
    refine ⟨⟨⟨fun _ => id, fun _ => id, fun _ => id, rfl, fun _ => id, fun g hg => ⟨?_, fun hw => ?_⟩, fun g hg => ?_⟩, id⟩,
      ⟨?_, fun _ => ?_⟩⟩
    · exact (congrArg HouseState.inShow (hstate g)).trans hg.1
    · change (t.hs g).holdReason = some reason
      rw [hhs]
      split
      · rfl
      · exact hg.2 ((hstate g).symm.trans hw)
    · exact hg.imp (fun h' => (congrArg HouseState.inShow (hstate g)).trans h') (hstate g).trans
    · exact (congrArg HouseState.inShow ((hstate h).trans hst)).trans rfl
    · change (t.hs h).holdReason = some reason
      rw [hhs, if_pos rfl]
  · rename_i hst
    exact ⟨.refl r, (congrArg HouseState.inShow hst).trans rfl, fun hw => absurd (hst.symm.trans hw) nofun⟩
  · rename_i hst
    exact ⟨.refl r, (congrArg HouseState.inShow hst).trans rfl, fun hw => absurd (hst.symm.trans hw) nofun⟩
  · rename_i hst
    exact ⟨.refl r, (congrArg HouseState.inShow hst).trans rfl, fun hw => absurd (hst.symm.trans hw) nofun⟩

/-- A rule carried over a list, whose every step keeps the safe state and, given `J` of it, brings an entry into `P`, which the
steps keep. -/
theorem Rule.each_quells {α : Type} (f : Rule → α → Rule) (J : α → FireView → Prop) (P : α → FireView → Prop)
    (hstep : ∀ r a, Rule.Quells reason r (f r a)) (hmake : ∀ r a, J a r.st.fireView → P a (f r a).st.fireView)
    (hJ : ∀ a v w, v.Quelled reason w → J a v → J a w) (hP : ∀ a v w, v.Quelled reason w → P a v → P a w) (l : List α) (r : Rule)
    (hr : ∀ a ∈ l, J a r.st.fireView) : r.Quells reason (r.each f l) ∧ ∀ a ∈ l, P a (r.each f l).st.fireView := by
  induction l generalizing r with
  | nil => exact ⟨.refl r, nofun⟩
  | cons a rest ih =>
    obtain ⟨hq, hall⟩ := ih (f r a) fun b hb => hJ b _ _ (hstep r a).view (hr b (List.mem_cons_of_mem a hb))
    refine ⟨(hstep r a).trans hq, fun b hb => ?_⟩
    rcases List.mem_cons.1 hb with rfl | hb
    · exact hP b _ _ hq.view (hmake r b (hr b List.mem_cons_self))
    · exact hall b hb

theorem Rule.extinguish_lamp (r : Rule) (p : Proj) (stop : StopReason) : (r.extinguish p stop).st.fireView.lamps p = .off := by
  by_cases hoff : (r.st.lp p).state = .off
  · rw [Rule.extinguish_off r p stop hoff]
    exact hoff
  · rw [Rule.extinguish_on r p stop hoff]
    obtain ⟨s, l, t⟩ := r
    rw [Rule.lampStops_eq]
    exact congrArg Lamp.state (s.lampStopped_lp p stop)

theorem Rule.motorStop_still (r : Rule) (p : Proj) (hoff : r.st.fireView.lamps p = .off) :
    (r.motorStop p).st.fireView.still p := by
  refine ⟨((r.safer_motorStop p).view.lamps p).elim (·.trans hoff) id, ?_⟩
  change ¬ ((r.motorStop p).st.tr p).driven
  rw [Rule.motorStop_tr]
  split
  · simp [Transport.driven, Transport.stoppedAt]
  · rename_i h
    exact fun hd => h ⟨rfl, hd⟩

/-- R133: the SAFETY layer of a house is activated. -/
theorem State.activateSafety_safer (s : State) (h : HouseId) :
    s.fireView.Safer (s.activateSafety h).fireView ∧ (s.activateSafety h).fireView.safety h = true := by
  have hactive : ((s.lt h).activateSafety s.now).safetyActive = true := by
    unfold Light.activateSafety
    split
    · assumption
    · rw [Light.fadeTo_eq]
  have hlt (g : HouseId) : (s.activateSafety h).lt g = if g = h then (s.lt h).activateSafety s.now else s.lt g :=
    State.setLt_lt ..
  refine ⟨⟨fun _ => .inl rfl, fun _ h => h.imp_right .inl, fun _ => id, fun _ => id, rfl, fun g hg => ?_, fun _ _ => ⟨rfl, rfl⟩,
    fun _ => .inl⟩, ?_⟩
  · change ((s.activateSafety h).lt g).safetyActive = true
    rw [hlt]
    split
    · exact hactive
    · exact hg
  · change ((s.activateSafety h).lt h).safetyActive = true
    rw [hlt, if_pos rfl]
    exact hactive

end

/-- R149, R150: after the consequences of a cause every house it reaches is held and has its SAFETY layer active, and no lamp or
motor of it runs. -/
theorem Rule.consequences_safe (r : Rule) (cause : DropCause) (p : Option Proj) :
    r.Quells cause.hold (r.consequences cause p) ∧
      (∀ h ∈ fireHouses cause p, (r.consequences cause p).st.fireView.outFor cause.hold h ∧
        (r.consequences cause p).st.fireView.safety h = true) ∧
      ∀ q ∈ fireProjs cause p, (r.consequences cause p).st.fireView.still q := by
  obtain ⟨hq1, hout⟩ := Rule.each_quells (fun r h => r.fireHold h cause.hold) (fun _ _ => True)
    (fun h v => v.outFor cause.hold h) (fun r h => (r.fireHold_quells h).1) (fun r h _ => (r.fireHold_quells h).2)
    (fun _ _ _ _ => id) (fun h _ _ hq => hq.out h) (fireHouses cause p) r fun _ _ => trivial
  obtain ⟨hq2, hlamps⟩ := Rule.each_quells (reason := cause.hold) (fun r q => r.extinguish q .fire) (fun _ _ => True)
    (fun q v => v.lamps q = .off) (fun r q => (r.safer_extinguish q .fire).quells) (fun r q _ => r.extinguish_lamp q .fire)
    (fun _ _ _ _ => id) (fun q _ _ hq => hq.lamps q) (fireProjs cause p)
    (r.each (fun r h => r.fireHold h cause.hold) (fireHouses cause p)) fun _ _ => trivial
  obtain ⟨hq3, hstill⟩ := Rule.each_quells (reason := cause.hold) (fun r q => r.motorStop q) (fun q v => v.lamps q = .off)
    (fun q v => v.still q) (fun r q => (r.safer_motorStop q).quells) Rule.motorStop_still (fun q _ _ hq => hq.lamps q)
    (fun q _ _ hq => hq.still q) (fireProjs cause p) _ hlamps
  obtain ⟨hq4, hsafety⟩ := Rule.each_quells (reason := cause.hold) (fun r h => r.upd (fun s => s.activateSafety h))
    (fun _ _ => True) (fun h v => v.safety h = true)
    (fun r h => ((Rule.Safer.refl r).upd (f := fun s => s.activateSafety h) (r.st.activateSafety_safer h).1).quells)
    (fun r h _ => (r.st.activateSafety_safer h).2) (fun _ _ _ _ => id) (fun h _ _ hq => hq.safety h) (fireHouses cause p)
    (((r.each (fun r h => r.fireHold h cause.hold) (fireHouses cause p)).each (fun r q => r.extinguish q .fire)
      (fireProjs cause p)).each (fun r q => r.motorStop q) (fireProjs cause p)) fun _ _ => trivial
  exact ⟨((hq1.trans hq2).trans hq3).trans hq4,
    fun h hh => ⟨((hq2.trans hq3).trans hq4).view.out h (hout h hh), hsafety h hh⟩, fun q hp => hq4.view.still q (hstill q hp)⟩

/-! ## The activation -/

theorem Rule.releaseAll_lowered (r : Rule) (seq : Nat) (l : List PortId) (n : PortId) (hn : n ∈ l) :
    (r.releaseAll seq l).st.fireView.lowered n := by
  induction l generalizing r with
  | nil => cases hn
  | cons m rest ih =>
    rcases List.mem_cons.1 hn with rfl | hn
    · have hlow := r.release_lowers seq n
      exact (Rule.safer_releaseAll _ seq rest).view.quelled (reason := .fire) |>.lowered n
        ⟨fun hw => hlow (.inl hw), fun hw => hlow (.inr hw)⟩
    · exact ih _ hn

theorem Rule.activation_lowered (r : Rule) (cause : DropCause) (p : Option Proj) (l : List PortId) (n : PortId) (hn : n ∈ l) :
    (r.activation cause p l).st.fireView.lowered n := by
  have hall := Rule.releaseAll_lowered (r.upd (fun s => s.writeRecord cause p l)) r.st.booth.nextSeq l n hn
  unfold Rule.activation Rule.drop
  dsimp only
  split
  · rw [Rule.upd_st, State.fireView_stopTrials, Rule.upd_st, State.fireView_judgeSettled, Rule.upd_st, State.fireView_reportBooth]
    exact hall
  · rw [Rule.upd_st, State.fireView_stopTrials, Rule.upd_st, State.fireView_judgeSettled]
    exact hall

/-- What the activation of a lasting cause leaves, of the state `s` in which the cause is entered as active. -/
structure State.FireSafe (s t : State) (cause : DropCause) (p : Option Proj) : Prop where
  booth : t.fireView.booth = { s.booth.setActive cause p true with log := [], nextSeq := 0 }
  ports : ∀ n ∈ coverage cause p [], t.fireView.lowered n
  houses : ∀ h ∈ fireHouses cause p, t.fireView.outFor cause.hold h ∧ t.fireView.safety h = true
  projs : ∀ q ∈ fireProjs cause p, t.fireView.still q
  held : ∀ h, (s.hs h).state.inShow = true ∨ (s.hs h).state = .hold → t.fireView.reached h

/-- R148 to R150: the safe state that a fire leaves, before the blocks come to rest. -/
theorem Rule.fire_safe (r : Rule) (cause : DropCause) (p : Option Proj) (hr : r.Harmless) :
    r.st.FireSafe (r.fire cause p).st cause p ∧ (r.fire cause p).Harmless := by
  have hset : Rule.Harmless (r.upd (fun s => s.setBooth (s.booth.setActive cause p true))) := hr
  have hact := Rule.safer_activation (r.upd (fun s => s.setBooth (s.booth.setActive cause p true))) cause p (coverage cause p [])
  have hlow := Rule.activation_lowered (r.upd (fun s => s.setBooth (s.booth.setActive cause p true))) cause p (coverage cause p [])
  unfold Rule.fire
  generalize Rule.activation (r.upd (fun s => s.setBooth (s.booth.setActive cause p true))) cause p (coverage cause p []) = r1
    at hact hlow
  have hharmless := hact.agenda hset
  have hdone (r2 : Rule) (hq : r1.st.fireView.Safer r2.st.fireView) (h2 : r2.Harmless) :
      r.st.FireSafe (r2.consequences cause p).st cause p ∧ (r2.consequences cause p).Harmless := by
    obtain ⟨hcons, hhouses, hprojs⟩ := r2.consequences_safe cause p
    have hkept := hq.quelled.trans hcons.view
    exact ⟨⟨hkept.booth.trans hact.view.booth, fun n hn => hkept.lowered n (hlow n hn), hhouses, hprojs,
      fun h hh => (hact.view.quelled.trans hkept).reached h hh⟩, hcons.agenda h2⟩
  dsimp only
  split
  · have hdraw : Rule.Harmless (r1.upd (fun s => s.setDraws (s.draws + 1))) := hharmless
    split
    · obtain ⟨hsettled, h2⟩ := Rule.safer_settle settleBound _ hdraw
      exact hdone _ hsettled h2
    · exact hdone _ (.refl _) hdraw
  · exact hdone r1 (.refl _) hharmless

/-- The safe state stays as the blocks come to rest. -/
theorem State.FireSafe.safer {s t u : State} {cause : DropCause} {p : Option Proj} (a : s.FireSafe t cause p)
    (hu : t.fireView.Safer u.fireView) : s.FireSafe u cause p where
  booth := hu.booth.trans a.booth
  ports n hn := (hu.quelled (reason := cause.hold)).lowered n (a.ports n hn)
  houses h hh := (a.houses h hh).imp (hu.quelled.out h) (hu.safety h)
  projs q hq := (hu.quelled (reason := cause.hold)).still q (a.projs q hq)
  held h hh := (hu.quelled (reason := cause.hold)).reached h (a.held h hh)

theorem Rule.breakTie_fireView (r : Rule) : r.breakTie.st.fireView = r.st.fireView := by
  unfold Rule.breakTie
  split
  · rw [Rule.upd_st]
    split <;> simp
  · rfl

theorem Rule.finish_fireSafe (s : State) (cause : DropCause) (p : Option Proj) :
    ∃ t, (Rule.fire ⟨s, [], false⟩ cause p).finish = .next t ∧ s.FireSafe t cause p := by
  obtain ⟨hsafe, hharmless⟩ := Rule.fire_safe ⟨s, [], false⟩ cause p nofun
  refine ⟨_, rfl, hsafe.safer ?_⟩
  rw [Rule.breakTie_fireView]
  exact (Rule.safer_settle settleBound _ hharmless).1

/-- What the obligation tells of the ports, the houses and the projectors. -/
theorem State.FireSafe.reaches {s t : State} {cause : DropCause} {p : Option Proj} (a : s.FireSafe t cause p) :
    (∀ n ∈ coverage cause p [], (t.pt n).state ≠ .held ∧ (t.pt n).state ≠ .arming) ∧
      (∀ h ∈ fireHouses cause p, (t.lt h).safetyActive = true ∧ (t.hs h).state.inShow = false ∧
        ((s.hs h).state.inShow = true ∨ (s.hs h).state = .hold →
          (t.hs h).state = .hold ∧ (t.hs h).holdReason = some cause.hold)) ∧
      ∀ q ∈ fireProjs cause p, (t.lp q).state = .off ∧ (t.tr q).state ≠ .starting ∧ (t.tr q).state ≠ .running := by
  refine ⟨a.ports, fun h hh => ?_, fun q hq => ?_⟩
  · obtain ⟨⟨hout, hreason⟩, hsafety⟩ := a.houses h hh
    refine ⟨hsafety, hout, fun hs => ?_⟩
    have hhold : (t.hs h).state = .hold := (a.held h hs).resolve_left fun hin => Bool.noConfusion (hout.symm.trans hin)
    exact ⟨hhold, hreason hhold⟩
  · obtain ⟨hoff, hm⟩ := a.projs q hq
    exact ⟨hoff, fun hw => hm (.inl hw), fun hw => hm (.inr hw)⟩

/-! ## The commands that activate a cause -/

/-- The booth-level state but for its log, as a fire leaves it. -/
theorem State.FireSafe.boothOf {α : Type} {s t : State} {cause : DropCause} {p : Option Proj} (a : s.FireSafe t cause p)
    (f : Booth → α) (hf : ∀ (b : Booth) l n, f { b with log := l, nextSeq := n } = f b) :
    f t.booth = f (s.booth.setActive cause p true) :=
  (hf t.booth [] 0).symm.trans ((congrArg f a.booth).trans (hf _ [] 0))

theorem mem_allPorts (n : PortId) : n ∈ allPorts := by
  revert n
  decide

/-- A cause that reaches the whole booth. -/
theorem mem_fireProjs_all {cause : DropCause} {p : Option Proj} (hc : fireHouses cause p = allHouses) (q : Proj) :
    q ∈ fireProjs cause p := by
  rw [fireProjs, hc, List.mem_flatMap]
  refine ⟨houseOf q, mem_allHouses _, ?_⟩
  rcases (houseOf_eq_iff q _).1 rfl with h | h
  · rw [← h]
    exact List.mem_cons_self
  · rw [← h]
    exact List.mem_cons_of_mem _ List.mem_cons_self

theorem mem_fireProjs_film {p q : Proj} (h : houseOf q = houseOf p) : q ∈ fireProjs .filmFire (some p) := by
  rw [fireProjs, List.mem_flatMap]
  refine ⟨houseOf p, List.mem_singleton.2 rfl, ?_⟩
  rcases (houseOf_eq_iff q _).1 h with h | h <;> rw [h]
  · exact List.mem_cons_self
  · exact List.mem_cons_of_mem _ List.mem_cons_self

/-- R148, R149: a cause that reaches the whole booth leaves all of it in its safe state. -/
theorem State.FireSafe.reaches_all {s t : State} {cause : DropCause} {p : Option Proj} (a : s.FireSafe t cause p)
    (hc : fireHouses cause p = allHouses) (hn : coverage cause p [] = allPorts) :
    (∀ n, (t.pt n).state ≠ .held ∧ (t.pt n).state ≠ .arming) ∧
      (∀ h, (t.lt h).safetyActive = true ∧ (t.hs h).state.inShow = false ∧
        ((s.hs h).state.inShow = true ∨ (s.hs h).state = .hold →
          (t.hs h).state = .hold ∧ (t.hs h).holdReason = some cause.hold)) ∧
      ∀ q, (t.lp q).state = .off ∧ (t.tr q).state ≠ .starting ∧ (t.tr q).state ≠ .running := by
  obtain ⟨hports, hhouses, hprojs⟩ := a.reaches
  exact ⟨fun n => hports n (hn ▸ mem_allPorts n), fun h => hhouses h (hc ▸ mem_allHouses h),
    fun q => hprojs q (mem_fireProjs_all hc q)⟩

theorem exec_fusibleLinkOpens_fire (s : State) (dt : Nat) (hf : s.booth.fusible = false) :
    ∃ t, exec (.fusibleLinkOpens dt) s = .next t ∧
      ((s.elapse dt).setBooth { s.booth with fusibleOpen := true }).FireSafe t .fusible none := by
  have hrule : Rule.fusibleOpens ⟨s.elapse dt, [], false⟩ =
      Rule.fire ⟨(s.elapse dt).setBooth { s.booth with fusibleOpen := true }, [], false⟩ .fusible none := if_neg (by
    change ¬ s.booth.fusible = true
    simp [hf])
  obtain ⟨t, ht, hsafe⟩ := Rule.finish_fireSafe ((s.elapse dt).setBooth { s.booth with fusibleOpen := true }) .fusible none
  exact ⟨t, (congrArg Rule.finish hrule).trans ht, hsafe⟩

theorem exec_emergencyButtonPress_fire (s : State) (dt : Nat) (he : s.booth.emergency = false) :
    ∃ t, exec (.emergencyButtonPress dt) s = .next t ∧
      ((s.elapse dt).setBooth { s.booth with pressed := true }).FireSafe t .emergency none := by
  have hrule : Rule.emergencyPressed ⟨s.elapse dt, [], false⟩ =
      Rule.fire ⟨(s.elapse dt).setBooth { s.booth with pressed := true }, [], false⟩ .emergency none := if_neg (by
    change ¬ s.booth.emergency = true
    simp [he])
  obtain ⟨t, ht, hsafe⟩ := Rule.finish_fireSafe ((s.elapse dt).setBooth { s.booth with pressed := true }) .emergency none
  exact ⟨t, (congrArg Rule.finish hrule).trans ht, hsafe⟩

theorem exec_gateHeatAsserts_fire (s : State) (dt : Nat) (q : Proj) (hq : s.booth.filmFire.cell q = false) :
    ∃ t, exec (.gateHeatAsserts dt q) s = .next t ∧ (s.elapse dt).FireSafe t .filmFire (some q) := by
  have hrule : Rule.gateHeats ⟨s.elapse dt, [], false⟩ q = Rule.fire ⟨s.elapse dt, [], false⟩ .filmFire (some q) := if_neg (by
    change ¬ s.booth.filmFire.cell q = true
    simp [hq])
  obtain ⟨t, ht, hsafe⟩ := Rule.finish_fireSafe (s.elapse dt) .filmFire (some q)
  exact ⟨t, (congrArg Rule.finish hrule).trans ht, hsafe⟩

/-- R155: the state in which a reading that makes the grade CRITICAL activates its cause. -/
def State.criticalRead (s : State) (degrees : Nat) : State :=
  (s.setBooth { s.booth with nextReading := s.booth.nextReading + ms 1000, temperature := degrees, grade := .critical }).reportBooth
    (.tempGrade s.booth.grade .critical degrees)

theorem exec_temperatureReading_fire (s : State) (dt degrees : Nat) (hd : 55 ≤ degrees) (hn : s.booth.nextReading ≤ s.now + dt)
    (hg : s.booth.grade ≠ .critical) (hc : s.booth.critical = false) :
    ∃ t, exec (.temperatureReading dt degrees) s = .next t ∧ ((s.elapse dt).criticalRead degrees).FireSafe t .critical none := by
  have hgrade : gradeAfter s.booth.grade degrees = .critical := by
    rw [gradeAfter_eq, if_pos hd]
  have hread : Rule.gradeReading ⟨(s.elapse dt).setBooth { s.booth with nextReading := s.booth.nextReading + ms 1000 }, [], false⟩
      degrees = Rule.fire ⟨(s.elapse dt).criticalRead degrees, [], false⟩ .critical none := by
    unfold Rule.gradeReading
    dsimp only
    rw [State.setBooth_booth, hgrade, if_neg (Ne.symm hg), if_pos rfl]
    exact if_neg (by change ¬ s.booth.critical = true; simp [hc])
  obtain ⟨t, ht, hsafe⟩ := Rule.finish_fireSafe ((s.elapse dt).criticalRead degrees) .critical none
  exact ⟨t, (exec_temperatureReading_due hn).trans ((congrArg Rule.finish hread).trans ht), hsafe⟩

/-- Settles O47: the activation lowers the ports, `fireHold`, `extinguish`, `motorStop` and `activateSafety` reach each house and
projector, and nothing that the blocks do afterwards undoes it (`Rule.safer_settle`). -/
theorem firePutsTheBoothSafe : Obligations.FirePutsTheBoothSafe := by
  unfold Obligations.FirePutsTheBoothSafe
  intro c s dt t0 q film reason hc
  rcases hc with ⟨rfl, hb, rfl, rfl⟩ | ⟨rfl, hb, rfl, rfl⟩ | ⟨rfl, hd, hn, hg, hb, rfl, rfl⟩ | ⟨rfl, hb, rfl, rfl⟩
  · obtain ⟨t, ht, hsafe⟩ := exec_fusibleLinkOpens_fire s dt hb
    obtain ⟨hports, hhouses, hprojs⟩ := hsafe.reaches_all rfl rfl
    exact ⟨t, ht, nofun, nofun, fun _ => ⟨hsafe.boothOf Booth.fusible fun _ _ _ => rfl, hsafe.boothOf Booth.fusibleOpen fun _ _ _ => rfl⟩,
      nofun, fun n _ => hports n, fun h _ => hhouses h, fun p _ => hprojs p⟩
  · obtain ⟨t, ht, hsafe⟩ := exec_emergencyButtonPress_fire s dt hb
    obtain ⟨hports, hhouses, hprojs⟩ := hsafe.reaches_all rfl rfl
    exact ⟨t, ht, fun _ => ⟨hsafe.boothOf Booth.emergency fun _ _ _ => rfl, hsafe.boothOf Booth.pressed fun _ _ _ => rfl⟩, nofun,
      nofun, nofun, fun n _ => hports n, fun h _ => hhouses h, fun p _ => hprojs p⟩
  · obtain ⟨t, ht, hsafe⟩ := exec_temperatureReading_fire s dt t0 hd hn hg hb
    obtain ⟨hports, hhouses, hprojs⟩ := hsafe.reaches_all rfl rfl
    exact ⟨t, ht, nofun, nofun, nofun, fun _ => ⟨hsafe.boothOf Booth.critical fun _ _ _ => rfl,
      hsafe.boothOf Booth.grade fun _ _ _ => rfl, hsafe.boothOf Booth.temperature fun _ _ _ => rfl⟩, fun n _ => hports n,
      fun h _ => hhouses h, fun p _ => hprojs p⟩
  · obtain ⟨t, ht, hsafe⟩ := exec_gateHeatAsserts_fire s dt q hb
    obtain ⟨hports, hhouses, hprojs⟩ := hsafe.reaches
    have hfilm : t.booth.filmFire.cell q = true := by
      rw [hsafe.boothOf Booth.filmFire fun _ _ _ => rfl]
      exact (Bank.cell_put ..).trans (if_pos rfl)
    refine ⟨t, ht, nofun, fun _ => hfilm, nofun, nofun, fun n hn => hports n ?_, fun h hh => hhouses h ?_, fun p hp =>
      hprojs p (mem_fireProjs_film (hp.resolve_left nofun))⟩
    · rcases hn.resolve_left nofun with rfl | rfl
      · exact List.mem_cons_self
      · exact List.mem_cons_of_mem _ List.mem_cons_self
    · rw [hh.resolve_left nofun]
      exact List.mem_cons_self

end Sys2Proof.Machine
end

section
/-! PROOFS. What a still house sees of one projector: its lamp, its douser and its port at most. -/

namespace Sys2Proof.Machine

/-! ## About one projector -/

/-- From `s` to `t` nothing has changed but the lamp and the douser of projector `p`, the ports, the booth-level state and the
link, and the douser has not been opened. -/
structure State.About (s t : State) (p : Proj) : Prop where
  transports : t.transports = s.transports
  readers : t.readers = s.readers
  houses : t.houses = s.houses
  lights : t.lights = s.lights
  others : ∀ q, q ≠ p → t.lp q = s.lp q ∧ t.ds q = s.ds q
  agape : (t.ds p).agape → (s.ds p).agape

/-- The changes that concern projector `p`, or the readiness of its house. -/
def Signal.concerns (p : Proj) : Signal → Prop
  | .transport q _ | .runupFailed q | .lampLeft q _ | .lampOff q | .lampBurning q | .lampStruck q | .portLeft q
  | .portHeld q | .cues q | .douser q _ => q = p
  | .readiness h => h = houseOf p

section
variable {s t u : State} {p : Proj}

theorem State.About.refl (s : State) (p : Proj) : s.About s p := ⟨rfl, rfl, rfl, rfl, fun _ _ => ⟨rfl, rfl⟩, id⟩

theorem State.About.trans (a : s.About t p) (b : t.About u p) : s.About u p where
  transports := b.transports.trans a.transports
  readers := b.readers.trans a.readers
  houses := b.houses.trans a.houses
  lights := b.lights.trans a.lights
  others q hq := ⟨(b.others q hq).1.trans (a.others q hq).1, (b.others q hq).2.trans (a.others q hq).2⟩
  agape := a.agape ∘ b.agape

theorem State.About.hs (a : s.About t p) (h : HouseId) : t.hs h = s.hs h := congrArg (fun b => b.cell h) a.houses

theorem State.about_setLink (s : State) (k : Link) (p : Proj) : s.About (s.setLink k) p :=
  ⟨rfl, rfl, rfl, rfl, fun _ _ => ⟨rfl, rfl⟩, id⟩

theorem State.about_setPt (s : State) (n : PortId) (x : Port) (p : Proj) : s.About (s.setPt n x) p :=
  ⟨rfl, rfl, rfl, rfl, fun _ _ => ⟨rfl, rfl⟩, id⟩

/-- The ports, the booth-level state and the link. -/
theorem State.about_of (p : Proj) (ht : t.transports = s.transports) (hr : t.readers = s.readers) (hh : t.houses = s.houses)
    (hl : t.lights = s.lights) (hp : t.lamps = s.lamps) (hd : t.dousers = s.dousers) : s.About t p :=
  ⟨ht, hr, hh, hl, fun q _ => ⟨congrArg (fun b => b.cell q) hp, congrArg (fun b => b.cell q) hd⟩,
    fun h => by rwa [State.ds, hd] at h⟩

theorem State.about_setLp (s : State) (p : Proj) (x : Lamp) : s.About (s.setLp p x) p :=
  ⟨rfl, rfl, rfl, rfl, fun _ hq => ⟨(State.setLp_lp ..).trans (if_neg hq), rfl⟩, id⟩

theorem State.about_setDs (s : State) (p : Proj) (x : Douser) (hx : x.agape → (s.ds p).agape) : s.About (s.setDs p x) p := by
  refine ⟨rfl, rfl, rfl, rfl, fun _ hq => ⟨rfl, (State.setDs_ds ..).trans (if_neg hq)⟩, fun h => hx ?_⟩
  rwa [State.setDs_ds, if_pos rfl] at h

theorem State.about_closeCommand (s : State) (p : Proj) : s.About (s.closeCommand p) p := by
  have hby := s.byLamp_closeCommand p
  exact ⟨hby.transports, hby.readers, hby.houses, hby.lights, hby.others, fun h => absurd h (s.closeCommand_shut p)⟩

theorem State.about_gatingWatch (s : State) (p : Proj) : s.About (s.gatingWatch p) p := by
  rcases s.gatingWatch_cases p with h | ⟨h, -⟩ <;> rw [h]
  · exact s.about_closeCommand p
  · exact .refl s p

theorem State.about_endTrial (s : State) (p : Proj) (o : TrialOutcome) : s.About (s.endTrial p o) p := by
  unfold State.endTrial
  split
  · exact .refl s p
  · refine State.About.trans ?_ (State.about_gatingWatch _ p)
    exact (s.about_setDs p { s.ds p with trial := none } id).trans (State.about_setLink _ _ p)

theorem State.about_writeRecord (s : State) (c : DropCause) (q : Option Proj) (l : List PortId) (p : Proj) :
    s.About (s.writeRecord c q l) p := by
  obtain ⟨-, ht, hr, hd, hp, hh, hl, -⟩ := s.writeRecord_keeps c q l
  exact State.about_of p ht hr hh hl hp hd

theorem State.about_writeOutcome (s : State) (n : PortId) (o : DropOutcome) (p : Proj) : s.About (s.writeOutcome n o) p := by
  obtain ⟨-, ht, hr, hd, hp, hh, hl, -⟩ := s.writeOutcome_keeps n o
  exact State.about_of p ht hr hh hl hp hd

theorem State.about_judgeSettled (s : State) (n : Nat) (p : Proj) : s.About (s.judgeSettled ⟨n, false, false⟩) p := by
  rw [s.judgeSettled_eq _ rfl]
  exact s.about_setLink _ p

theorem State.about_endBurstFor (s : State) (p : Proj) (reason : StopReason) : s.About (s.endBurstFor p reason) p := by
  rw [s.endBurstFor_eq]
  exact s.about_setLink _ p

end

/-- From `r` to `r'` what has changed is about projector `p`, and so are the changes that the blocks are still to see. -/
structure Rule.About (r r' : Rule) (p : Proj) : Prop where
  state : r.st.About r'.st p
  agenda : ∀ y ∈ r'.agenda, y ∈ r.agenda ∨ y.concerns p

section
variable {r r' r'' : Rule} {p : Proj}

theorem Rule.About.refl (r : Rule) (p : Proj) : r.About r p := ⟨.refl _ p, fun _ => .inl⟩

theorem Rule.About.trans (a : r.About r' p) (b : r'.About r'' p) : r.About r'' p :=
  ⟨a.state.trans b.state, fun y hy => (b.agenda y hy).elim (a.agenda y) .inr⟩

theorem Rule.About.upd (a : r.About r' p) {f : State → State} (hf : r'.st.About (f r'.st) p) : r.About (r'.upd f) p :=
  ⟨a.state.trans hf, a.agenda⟩

theorem Rule.About.emit (a : r.About r' p) {y : Signal} (hy : y.concerns p) : r.About (r'.emit y) p := by
  refine ⟨a.state, fun z hz => ?_⟩
  rcases List.mem_append.1 hz with hz | hz
  · exact a.agenda z hz
  · rw [List.mem_singleton.1 hz]
    exact .inr hy

/-- R142: the release of the projector's port. -/
theorem Rule.about_release (r : Rule) (seq : Nat) (p : Proj) : r.About (r.release seq (projPort p)) p := by
  unfold Rule.release
  dsimp only
  split
  · have hset : r.About (if (r.st.pt (projPort p)).downSwitch = true then
        r.upd fun s => ((s.setPt (projPort p) { r.st.pt (projPort p) with
          windowEnd := none, link := some ⟨seq, false, false⟩ }).writeOutcome (projPort p) (.closed 0)).setPt (projPort p)
            { r.st.pt (projPort p) with windowEnd := none, link := none, state := .down }
        else r.upd fun s => s.setPt (projPort p) { r.st.pt (projPort p) with
          windowEnd := none, link := some ⟨seq, false, false⟩, state := .dropping, releasedAt := some s.now }) p := by
      split
      · exact .upd (.refl r p) (((State.about_setPt ..).trans (State.about_writeOutcome ..)).trans (State.about_setPt ..))
      · exact .upd (.refl r p) (State.about_setPt ..)
    rw [portProj_projPort]
    dsimp only
    split
    · exact (hset.upd (f := fun s => s.closeCommand p) (State.about_closeCommand _ p)).emit (y := .portLeft p) rfl
    · exact hset
  · exact .refl r p

/-- R147, R151: a drop of the projector's port. -/
theorem Rule.about_drop (r : Rule) (cause : DropCause) (q : Option Proj) (p : Proj) :
    r.About (r.drop cause q [projPort p]) p := by
  have h : r.About ((r.upd (fun s => s.writeRecord cause q [projPort p])).release r.st.booth.nextSeq (projPort p)) p :=
    .trans (.upd (.refl r p) (State.about_writeRecord ..)) (Rule.about_release ..)
  unfold Rule.drop
  dsimp only
  split
  · exact .upd (.upd h (f := fun s => s.reportBooth _) (State.about_setLink ..)) (State.about_judgeSettled ..)
  · exact .upd h (State.about_judgeSettled ..)

theorem Rule.about_lampStops (r : Rule) (p : Proj) (reason : StopReason) : r.About (r.lampStops p reason) p := by
  have hoff : r.About ((r.upd (fun s => s.endBurstFor p reason)).upd (fun s =>
      s.setLp p { (s.lp p).clearRun with state := .off, stop := some reason })) p :=
    .upd (.upd (.refl r p) (State.about_endBurstFor ..)) (State.about_setLp ..)
  have hlast {r' : Rule} (a : r.About r' p) (was : LampState) : r.About ((r'.emitLampLeft p was false).emit (.lampOff p)) p := by
    refine Rule.About.emit ?_ rfl
    unfold Rule.emitLampLeft
    split
    · exact a.emit (y := .lampLeft p false) rfl
    · exact a
  unfold Rule.lampStops
  dsimp only
  refine hlast ?_ _
  split
  · exact hoff.upd (State.about_closeCommand _ p)
  · exact hoff

/-- R151: the DOUSER cause. -/
theorem Rule.about_douserCause (r : Rule) (p : Proj) : r.About (r.douserCause p) p := by
  have hact : r.About (r.activation .douser (some p) (coverage .douser (some p) [])) p := by
    refine (r.about_drop .douser (some p) p).upd (f := fun s => s.stopTrials [projPort p]) ?_
    simp only [State.stopTrials, portProj_projPort]
    exact State.about_endTrial ..
  unfold Rule.douserCause
  split
  · unfold Rule.extinguish
    split
    · exact hact
    · exact hact.trans (Rule.about_lampStops ..)
  · exact .refl r p

/-! ## A still house -/

theorem State.Still.about {s t : State} {h : HouseId} (a : s.Still h) (k : s.About t p) : t.Still h := by
  obtain ⟨hshow, hchange, hretiring⟩ := a
  exact ⟨by rw [k.hs]; exact hshow, by rw [k.hs]; exact hchange, by rw [k.hs]; exact hretiring⟩

/-- R125: what a still house sees of projector `p`. -/
theorem Rule.sees_about (r : Rule) (y : Signal) (hs : r.st.Still (houseOf p)) (hy : y.concerns p) : r.About (r.sees y) p := by
  have hlook {r' : Rule} (a : r.About r' p) : r.About (r'.look (houseOf p)) p := by
    obtain ⟨hshow, hchange, -⟩ := hs.about a.state
    rw [r'.look_noShow _ hshow hchange]
    exact a
  obtain ⟨hshow, hchange, hretiring⟩ := hs
  have hnot (x : HouseState) (hx : x.inShow = true) : (r.st.hs (houseOf p)).state ≠ x := by
    intro he
    rw [he, hx] at hshow
    cases hshow
  have hfail (f : Failure) : r.failure p f = r := r.failure_noShow p f hshow
  cases y with
  | transport q to1 =>
    obtain rfl : q = p := hy
    have hlock : r.upd (fun s => s.lockChange q) = r := by simp [Rule.upd, State.lockChange_none _ _ hchange]
    have hend : r.endStops q = r := if_neg fun ⟨he, _⟩ => hnot .ending rfl he
    have hretire (x : TransportState) : r.retireSees (houseOf q) q x = r := r.retireSees_atRest _ q x hretiring
    cases to1
    case starting => exact .refl r q
    case running =>
      change r.About ((r.upd (fun s => s.lockChange q)).look (houseOf q)) q
      rw [hlock]
      exact hlook (.refl r q)
    case stopping =>
      change r.About (((r.retireSees (houseOf q) q .stopping).douserCause q).look (houseOf q)) q
      rw [hretire]
      exact hlook (r.about_douserCause q)
    case stopped =>
      change r.About ((((r.endStops q).retireSees (houseOf q) q .stopped).douserCause q).look (houseOf q)) q
      rw [hend, hretire]
      exact hlook (r.about_douserCause q)
    case broken =>
      change r.About ((((r.failure q .brk).retireSees (houseOf q) q .broken).douserCause q).look (houseOf q)) q
      rw [hfail, hretire]
      exact hlook (r.about_douserCause q)
  | runupFailed q =>
    obtain rfl : q = p := hy
    change r.About ((r.failure q .runup).look (houseOf q)) q
    rw [hfail]
    exact hlook (.refl r q)
  | lampLeft q b =>
    obtain rfl : q = p := hy
    change r.About ((r.failure q (.lamp b)).look (houseOf q)) q
    rw [hfail]
    exact hlook (.refl r q)
  | lampOff q =>
    obtain rfl : q = p := hy
    change r.About (r.darkLampOff q) q
    rw [r.darkLampOff_notShowing q (hnot .showing rfl)]
    exact .refl r q
  | lampBurning q =>
    obtain rfl : q = p := hy
    have hreturn : r.upd (fun s => s.lampReturns q) = r := by
      simp only [Rule.upd, State.lampReturns]
      rw [if_neg fun ⟨he, _⟩ => hnot .showing rfl he]
    change r.About ((r.upd (fun s => s.lampReturns q)).look (houseOf q)) q
    rw [hreturn]
    exact hlook (.refl r q)
  | lampStruck q =>
    obtain rfl : q = p := hy
    exact r.about_douserCause q
  | portLeft q =>
    obtain rfl : q = p := hy
    change r.About ((r.failure q .port).look (houseOf q)) q
    rw [hfail]
    exact hlook (.refl r q)
  | portHeld q =>
    obtain rfl : q = p := hy
    exact hlook (.refl r q)
  | douser q to1 =>
    obtain rfl : q = p := hy
    have hend : r.upd (fun s => s.endDouserSees q) = r := by
      simp only [Rule.upd, State.endDouserSees]
      rw [if_neg fun ⟨he, _⟩ => hnot .ending rfl he]
    cases to1
    case closed =>
      change r.About ((r.upd (fun s => s.endDouserSees q)).look (houseOf q)) q
      rw [hend]
      exact hlook (.refl r q)
    case opened => exact hlook (.refl r q)
    case stuck =>
      change r.About ((((r.failure q .stuck).upd (fun s => s.endDouserSees q)).douserCause q).look (houseOf q)) q
      rw [hfail, hend]
      exact hlook (r.about_douserCause q)
    all_goals exact .refl r q
  | cues q =>
    obtain rfl : q = p := hy
    change r.About (r.cuesJoined q) q
    rw [r.cuesJoined_notShowing q (hnot .showing rfl)]
    exact .refl r q
  | readiness h =>
    obtain rfl : h = houseOf p := hy
    exact hlook (.refl r p)

/-- R125: what a still house sees of projector `p`, to the end. -/
theorem Rule.settle_about (n : Nat) (r : Rule) (hs : r.st.Still (houseOf p)) (hy : ∀ y ∈ r.agenda, y.concerns p) :
    r.st.About (r.settle n).st p := by
  induction n generalizing r with
  | zero => exact .refl _ p
  | succ n ih =>
    obtain ⟨s, l, t⟩ := r
    cases l with
    | nil => exact .refl _ p
    | cons y rest =>
      have hsees := Rule.sees_about (p := p) ⟨s, rest, t⟩ y hs (hy y List.mem_cons_self)
      rw [Rule.settle_cons]
      refine hsees.state.trans (ih _ (hs.about hsees.state) fun z hz => ?_)
      exact (hsees.agenda z hz).elim (fun hz => hy z (List.mem_cons_of_mem y hz)) id

end
end Sys2Proof.Machine
end

section
/-! PROOFS. A start that is abandoned before the live picture begins. -/

namespace Sys2Proof.Machine

/-! ## One projector and its house -/

/-- From `s` to `t` the changes lie with projector `p`, which keeps its reel, with the dousers and lights of its house, and with
that house's sound gate and runout count. -/
structure State.Affects (s t : State) (p : Proj) : Prop where
  trs : ∀ q, q ≠ p → t.tr q = s.tr q
  rds : ∀ q, q ≠ p → t.rd q = s.rd q
  lps : ∀ q, q ≠ p → t.lp q = s.lp q
  dss : ∀ q, houseOf q ≠ houseOf p → t.ds q = s.ds q
  hss : ∀ g, g ≠ houseOf p → t.hs g = s.hs g
  lts : ∀ g, g ≠ houseOf p → t.lt g = s.lt g
  armed : (t.tr p).armed = (s.tr p).armed
  house : ∃ g c, (c = none ∨ c = (s.hs (houseOf p)).runoutCount) ∧
    t.hs (houseOf p) = { s.hs (houseOf p) with gate := g, runoutCount := c }

section
variable {s t u : State} {p : Proj}

theorem State.Affects.refl (s : State) (p : Proj) : s.Affects s p :=
  ⟨fun _ _ => rfl, fun _ _ => rfl, fun _ _ => rfl, fun _ _ => rfl, fun _ _ => rfl, fun _ _ => rfl, rfl,
    _, _, .inr rfl, rfl⟩

theorem State.Affects.trans (a : s.Affects t p) (b : t.Affects u p) : s.Affects u p where
  trs q hq := (b.trs q hq).trans (a.trs q hq)
  rds q hq := (b.rds q hq).trans (a.rds q hq)
  lps q hq := (b.lps q hq).trans (a.lps q hq)
  dss q hq := (b.dss q hq).trans (a.dss q hq)
  hss g hg := (b.hss g hg).trans (a.hss g hg)
  lts g hg := (b.lts g hg).trans (a.lts g hg)
  armed := b.armed.trans a.armed
  house := by
    obtain ⟨g, c, hc, hh⟩ := a.house
    obtain ⟨g', c', hc', hh'⟩ := b.house
    refine ⟨g', c', hc'.elim .inl fun e => ?_, by rw [hh', hh]⟩
    rw [e, hh]
    exact hc

theorem State.About.affects (a : s.About t p) : s.Affects t p :=
  ⟨fun q _ => congrArg (fun b => b.cell q) a.transports, fun q _ => congrArg (fun b => b.cell q) a.readers,
    fun q hq => (a.others q hq).1, fun q hq => (a.others q fun e => hq (e ▸ rfl)).2, fun g _ => a.hs g,
    fun g _ => congrArg (fun b => b.cell g) a.lights, congrArg (fun b => (b.cell p).armed) a.transports,
    _, _, .inr rfl, a.hs _⟩

theorem State.ByReader.affects (a : s.ByReader t p) : s.Affects t p :=
  ⟨fun q _ => a.tr q, a.readers, a.lamps, fun q _ => a.ds q, fun g _ => a.hs g,
    fun g _ => congrArg (fun b => b.cell g) a.lights, congrArg Transport.armed (a.tr p), _, _, .inr rfl, a.hs _⟩

theorem State.affects_setTr (s : State) (p : Proj) (x : Transport) (hx : x.armed = (s.tr p).armed) : s.Affects (s.setTr p x) p :=
  ⟨fun _ hq => (State.setTr_tr ..).trans (if_neg hq), fun _ _ => rfl, fun _ _ => rfl, fun _ _ => rfl, fun _ _ => rfl,
    fun _ _ => rfl, (congrArg Transport.armed ((State.setTr_tr ..).trans (if_pos rfl))).trans hx, _, _, .inr rfl, rfl⟩

theorem State.affects_leaveRunning (s : State) (p : Proj) : s.Affects (s.leaveRunning p) p := by
  obtain ⟨-, htr, hrd, hlp, hlt, -⟩ := s.leaveRunning_keeps p
  have hds (q : Proj) (hq : houseOf q ≠ houseOf p) : (s.leaveRunning p).ds q = s.ds q := (s.within_leaveRunning rfl).dss q hq
  refine ⟨fun q _ => congrArg (fun b => b.cell q) htr, fun q _ => congrArg (fun b => b.cell q) hrd,
    fun q _ => congrArg (fun b => b.cell q) hlp, hds, fun g hg => (s.leaveRunning_hs p g).trans (if_neg hg),
    fun g _ => congrArg (fun b => b.cell g) hlt, congrArg (fun b => (b.cell p).armed) htr, _, _, ?_,
    (s.leaveRunning_hs p _).trans (if_pos rfl)⟩
  split
  · exact .inl rfl
  · exact .inr rfl

end

/-- R4: the transport and the reader of a motor stop. -/
theorem Rule.motorCut_affects (r : Rule) (p : Proj) : r.st.Affects (r.motorCut p).st p ∧
    ∀ y ∈ (r.motorCut p).agenda, y ∈ r.agenda ∨ y.concerns p := by
  have hset := r.st.affects_setTr p ((r.st.tr p).stoppedAt r.st.now) rfl
  obtain ⟨hread, ⟨l, hl, -, hcues⟩, -⟩ := Rule.reads_readerStops (r.upd (fun s => s.setTr p ((s.tr p).stoppedAt s.now))) p
  refine ⟨hset.trans hread.affects, fun y hy => ?_⟩
  have hl' : (r.motorCut p).agenda = r.agenda ++ l := hl
  rw [hl'] at hy
  rcases List.mem_append.1 hy with hy | hy
  · exact .inl hy
  · rw [hcues y hy]
    exact .inr rfl

/-- R4: a motor stop of projector `p`. -/
theorem Rule.motorStop_affects (r : Rule) (p : Proj) : r.st.Affects (r.motorStop p).st p ∧
    ∀ y ∈ (r.motorStop p).agenda, y ∈ r.agenda ∨ y.concerns p := by
  obtain ⟨hcut, hagenda⟩ := r.motorCut_affects p
  have hcases := r.motorStop_cases p
  generalize r.motorCut p = r1 at hcut hagenda hcases
  have hlast : ∀ y ∈ r1.agenda ++ [.transport p .stopping], y ∈ r.agenda ∨ y.concerns p := fun y hy => by
    rcases List.mem_append.1 hy with hy | hy
    · exact hagenda y hy
    · rw [List.mem_singleton.1 hy]
      exact .inr rfl
  rcases hcases with ⟨-, hr⟩ | ⟨-, hr⟩ | ⟨-, hr⟩ <;> rw [hr]
  · exact ⟨hcut, hlast⟩
  · exact ⟨hcut.trans (r1.st.affects_leaveRunning p), hlast⟩
  · exact ⟨.refl _ p, fun _ => .inl⟩

/-- R22: a reader that stops is OFF. -/
theorem Rule.readerStops_state (r : Rule) (p : Proj) : ((r.readerStops p).st.rd p).state = .off := by
  have hjoin (r : Rule) (e : CueEntry) : ((r.joinCue p e).st.rd p).state = (r.st.rd p).state := by
    unfold Rule.joinCue
    dsimp only
    split <;> simp [Rule.emit, Rule.upd, State.reportProj, State.report]
  have hjoins (l : List CueEntry) (r : Rule) : ((r.joinCues p l).st.rd p).state = (r.st.rd p).state := by
    induction l generalizing r with
    | nil => rfl
    | cons e rest ih => exact (ih _).trans (hjoin r e)
  unfold Rule.readerStops
  dsimp only
  split
  · rw [hjoins]
    simp [Rule.upd, State.evalBurst]
  · simp [Rule.upd]

theorem Rule.motorStop_off (r : Rule) (p : Proj) (h : (r.st.rd p).state = .off ∨ (r.st.tr p).driven) :
    ((r.motorStop p).st.rd p).state = .off := by
  by_cases hd : (r.st.tr p).driven
  · rw [r.motorStop_rd_cut p p hd]
    exact Rule.readerStops_state _ p
  · rcases r.motorStop_cases p with ⟨hs, -⟩ | ⟨hs, -⟩ | ⟨-, hr⟩
    · exact absurd (.inl hs) hd
    · exact absurd (.inr hs) hd
    · rw [hr]
      exact h.resolve_right hd

/-- A close command to both dousers leaves neither OPEN nor OPENING. -/
theorem State.closeBoth_shut (s : State) (h : HouseId) (q : Proj) (hq : houseOf q = h) : ¬ ((s.closeBoth h).ds q).agape := by
  rcases (houseOf_eq_iff q h).1 hq with rfl | rfl
  · have hb : houseOf (projAt h .b) = h := (houseOf_eq_iff _ h).2 (.inr rfl)
    exact fun ha => s.closeCommand_shut _ ((State.within_closeCommand _ hb).agape _ ha)
  · exact State.closeCommand_shut _ _

/-! ## The abandoned start -/

/-- R96: from `s` to `t` the start of projector `p` has been given up: its house is in HOLD for `reason`. -/
structure State.StartGivenUp (s t : State) (p : Proj) (reason : HoldReason) : Prop where
  house : t.hs (houseOf p) = { s.hs (houseOf p) with
    state := .hold
    holdReason := some reason
    startingSide := none
    gate := .none }
  undriven : ¬ (t.tr p).driven
  armed : (t.tr p).armed = (s.tr p).armed
  off : (t.rd p).state = .off
  shut : ∀ q, houseOf q = houseOf p → ¬ (t.ds q).agape
  target : (t.lt (houseOf p)).programTarget = (s.hs (houseOf p)).levels.hold
  fade : (t.lt (houseOf p)).programFade = 30
  trs : ∀ q, q ≠ p → t.tr q = s.tr q
  rds : ∀ q, q ≠ p → t.rd q = s.rd q
  lps : ∀ q, q ≠ p → t.lp q = s.lp q
  dss : ∀ q, houseOf q ≠ houseOf p → t.ds q = s.ds q
  hss : ∀ g, g ≠ houseOf p → t.hs g = s.hs g
  lts : ∀ g, g ≠ houseOf p → t.lt g = s.lt g

section
variable {s t u : State} {p : Proj} {reason : HoldReason}

theorem State.Affects.givenUp (a : s.Affects t p) (hr : (s.hs (houseOf p)).runoutCount = none) (b : t.StartGivenUp u p reason) :
    s.StartGivenUp u p reason := by
  obtain ⟨g, c, hc, hh⟩ := a.house
  obtain rfl : c = none := hc.elim id (·.trans hr)
  refine ⟨?_, b.undriven, b.armed.trans a.armed, b.off, b.shut, b.target.trans (by rw [hh]), b.fade,
    fun q hq => (b.trs q hq).trans (a.trs q hq), fun q hq => (b.rds q hq).trans (a.rds q hq),
    fun q hq => (b.lps q hq).trans (a.lps q hq), fun q hq => (b.dss q hq).trans (a.dss q hq),
    fun g hg => (b.hss g hg).trans (a.hss g hg), fun g hg => (b.lts g hg).trans (a.lts g hg)⟩
  simp [b.house, hh, hr]

theorem State.StartGivenUp.about (a : s.StartGivenUp t p reason) (b : t.About u p) : s.StartGivenUp u p reason where
  house := (b.hs _).trans a.house
  undriven := by
    rw [State.tr, b.transports]
    exact a.undriven
  armed := (congrArg (fun b => (b.cell p).armed) b.transports).trans a.armed
  off := (congrArg (fun b => (b.cell p).state) b.readers).trans a.off
  shut q hq ha := by
    by_cases e : q = p
    · subst e
      exact a.shut q hq (b.agape ha)
    · rw [(b.others q e).2] at ha
      exact a.shut q hq ha
  target := (congrArg (fun b => (b.cell (houseOf p)).programTarget) b.lights).trans a.target
  fade := (congrArg (fun b => (b.cell (houseOf p)).programFade) b.lights).trans a.fade
  trs q hq := (congrArg (fun b => b.cell q) b.transports).trans (a.trs q hq)
  rds q hq := (congrArg (fun b => b.cell q) b.readers).trans (a.rds q hq)
  lps q hq := (b.others q hq).1.trans (a.lps q hq)
  dss q hq := (b.others q fun e => hq (e ▸ rfl)).2.trans (a.dss q hq)
  hss g hg := (b.hs g).trans (a.hss g hg)
  lts g hg := (congrArg (fun b => b.cell g) b.lights).trans (a.lts g hg)

/-- What a start given up leaves of its house brings nothing about. -/
theorem State.StartGivenUp.still (a : s.StartGivenUp t p reason) (hc : (s.hs (houseOf p)).change = none)
    (hr : (s.hs (houseOf p)).retiring = none) : t.Still (houseOf p) := by
  refine ⟨?_, ?_, ?_⟩ <;> rw [a.house]
  · rfl
  · exact hc
  · exact hr

end

theorem Rule.abandonStart_givenUp (r : Rule) (p : Proj) (reason : HoldReason)
    (hrun : (r.st.hs (houseOf p)).runoutCount = none) (hrd : (r.st.rd p).state = .off ∨ (r.st.tr p).driven) :
    r.st.StartGivenUp (r.abandonStart (houseOf p) p reason).st p reason ∧
      ∀ y ∈ (r.abandonStart (houseOf p) p reason).agenda, y ∈ r.agenda ∨ y.concerns p := by
  obtain ⟨hstop, hagenda⟩ := r.motorStop_affects p
  have hoff := r.motorStop_off p hrd
  have hundriven := r.motorStop_stops p
  refine ⟨hstop.givenUp hrun ?_, hagenda⟩
  change ((r.motorStop p).st).StartGivenUp ((((((r.motorStop p).st.closeBoth (houseOf p)).selectNone (houseOf p)).programTarget
    (houseOf p) ((r.motorStop p).st.hs (houseOf p)).levels.hold 30 .hold)).modHs (houseOf p) (fun x => { x with
      startingSide := none, state := .hold, holdReason := some reason })) p reason
  generalize (r.motorStop p).st = v at *
  have hhs (g : HouseId) : (v.closeBoth (houseOf p)).hs g = v.hs g := by
    unfold State.closeBoth
    exact congrArg (fun b => b.cell g) ((State.closeCommand_keeps _ _).2.2.2.2.1.trans (State.closeCommand_keeps _ _).2.2.2.2.1)
  have hw : v.Within (v.closeBoth (houseOf p)) (houseOf p) :=
    (State.within_closeCommand _ ((houseOf_eq_iff _ _).2 (.inl rfl))).trans
      (State.within_closeCommand _ ((houseOf_eq_iff _ _).2 (.inr rfl)))
  have hshut := v.closeBoth_shut (houseOf p)
  have hkept : (v.closeBoth (houseOf p)).transports = v.transports ∧ (v.closeBoth (houseOf p)).readers = v.readers ∧
      (v.closeBoth (houseOf p)).lamps = v.lamps ∧ (v.closeBoth (houseOf p)).lights = v.lights := by
    unfold State.closeBoth
    obtain ⟨-, h1, h2, h3, -, h4, -⟩ := v.closeCommand_keeps (projAt (houseOf p) .a)
    obtain ⟨-, k1, k2, k3, -, k4, -⟩ := (v.closeCommand (projAt (houseOf p) .a)).closeCommand_keeps (projAt (houseOf p) .b)
    exact ⟨k1.trans h1, k2.trans h2, k3.trans h3, k4.trans h4⟩
  obtain ⟨htr, hrdk, hlp, hlt⟩ := hkept
  generalize v.closeBoth (houseOf p) = w at *
  let x := (w.selectNone (houseOf p)).programTarget (houseOf p) (v.hs (houseOf p)).levels.hold 30 .hold
  obtain ⟨htarget, hfade⟩ := (w.selectNone (houseOf p)).programTarget_lt (houseOf p) (v.hs (houseOf p)).levels.hold 30 .hold
  refine ⟨?_, ?_, congrArg (fun b => (b.cell p).armed) htr, (congrArg (fun b => (b.cell p).state) hrdk).trans hoff, hshut, htarget,
    hfade, fun q _ => congrArg (fun b => b.cell q) htr, fun q _ => congrArg (fun b => b.cell q) hrdk,
    fun q _ => congrArg (fun b => b.cell q) hlp, hw.dss, fun g hg => ?_, fun g hg => ?_⟩
  · simp [State.modHs, State.selectNone, State.programTarget, hhs]
  · change ¬ (w.tr p).driven
    rw [State.tr, htr]
    exact hundriven
  · simp [State.modHs, State.selectNone, State.programTarget, hhs, hg]
  · change ((State.programTarget _ _ _ _ _).lt g) = _
    simp only [State.programTarget, State.setLt_lt, if_neg hg]
    exact congrArg (fun b => b.cell g) hlt

/-! ## What the blocks see of a start that fails -/

/-- The signal of a failure of projector `p` before its picture has begun (R96). -/
def Failure.signal (p : Proj) : Failure → Signal
  | .runup => .runupFailed p
  | .brk => .transport p .broken
  | .lamp b => .lampLeft p b
  | .port => .portLeft p
  | .stuck => .douser p .stuck

/-- R95, R96: house of `p` starts `p`, and has nothing else in hand. -/
structure State.StartsWith (s : State) (p : Proj) : Prop where
  starting : (s.hs (houseOf p)).state = .starting
  side : (s.hs (houseOf p)).startingSide = some (sideOf p)
  noChange : (s.hs (houseOf p)).change = none
  noRetiring : (s.hs (houseOf p)).retiring = none
  noRunout : (s.hs (houseOf p)).runoutCount = none

theorem State.Affects.startsWith {s t : State} {p : Proj} (a : s.Affects t p) (h : s.StartsWith p) : t.StartsWith p := by
  obtain ⟨g, c, hc, hh⟩ := a.house
  obtain ⟨h1, h2, h3, h4, h5⟩ := h
  refine ⟨?_, ?_, ?_, ?_, ?_⟩ <;> rw [hh]
  · exact h1
  · exact h2
  · exact h3
  · exact h4
  · exact hc.elim id (·.trans h5)

theorem Rule.look_still (r : Rule) {h : HouseId} (hs : r.st.Still h) : r.look h = r := r.look_noShow h hs.noShow hs.noChange

/-- R96: the failure that the house of a starting projector sees. -/
theorem Rule.sees_givesUp (r : Rule) (p : Proj) (f : Failure) (h : r.st.StartsWith p)
    (hrd : (r.st.rd p).state = .off ∨ (r.st.tr p).driven) :
    r.st.StartGivenUp (r.sees (f.signal p)).st p f.startReason ∧
      ∀ y ∈ (r.sees (f.signal p)).agenda, y ∈ r.agenda ∨ y.concerns p := by
  obtain ⟨hst, hside, hchange, hretiring, hrun⟩ := h
  have hproj : r.st.startingProj (houseOf p) = some p := by
    rw [State.startingProj, hside]
    exact congrArg some (projAt_houseOf_sideOf p)
  have hfail : r.failure p f = r.abandonStart (houseOf p) p f.startReason := by
    unfold Rule.failure
    dsimp only
    rw [hst]
    exact if_pos hproj
  obtain ⟨hup, hagenda⟩ := r.abandonStart_givenUp p f.startReason hrun hrd
  rw [← hfail] at hup hagenda
  have hstill := hup.still hchange hretiring
  suffices habout : (r.failure p f).About (r.sees (f.signal p)) p from
    ⟨hup.about habout.state, fun y hy => (habout.agenda y hy).elim (hagenda y) .inr⟩
  have hcause := (r.failure p f).about_douserCause p
  have hlook := Rule.look_still _ (hstill.about hcause.state)
  cases f with
  | runup =>
    change (r.failure p .runup).About ((r.failure p .runup).look (houseOf p)) p
    rw [Rule.look_still _ hstill]
    exact .refl _ p
  | brk =>
    change (r.failure p .brk).About ((((r.failure p .brk).retireSees (houseOf p) p .broken).douserCause p).look (houseOf p)) p
    rw [Rule.retireSees_atRest _ _ p _ hstill.noRetiring, hlook]
    exact hcause
  | lamp b =>
    change (r.failure p (.lamp b)).About ((r.failure p (.lamp b)).look (houseOf p)) p
    rw [Rule.look_still _ hstill]
    exact .refl _ p
  | port =>
    change (r.failure p .port).About ((r.failure p .port).look (houseOf p)) p
    rw [Rule.look_still _ hstill]
    exact .refl _ p
  | stuck =>
    change (r.failure p .stuck).About ((((r.failure p .stuck).upd (fun s => s.endDouserSees p)).douserCause p).look (houseOf p)) p
    have hend : (r.failure p .stuck).upd (fun s => s.endDouserSees p) = r.failure p .stuck := by
      simp only [Rule.upd, State.endDouserSees]
      rw [if_neg fun ⟨he, _⟩ => absurd ((congrArg HouseState.inShow he).symm.trans hstill.noShow) nofun]
    rw [hend, hlook]
    exact hcause

/-- R96: a rule at whose end the house of a starting projector sees its failure, after entries that have joined its queue. -/
theorem Rule.finish_givesUp {s v : State} {p : Proj} (f : Failure) (l rest : List Signal) (tie : Bool) (h : s.StartsWith p)
    (hv : s.Affects v p) (hrd : (v.rd p).state = .off ∨ (v.tr p).driven) (hl : ∀ y ∈ l, y = .cues p) (hlen : l.length ≤ 8)
    (hrest : ∀ y ∈ rest, y.concerns p) :
    s.StartGivenUp (Rule.settle settleBound ⟨v, l ++ f.signal p :: rest, tie⟩).breakTie.st p f.startReason := by
  have hstart := hv.startsWith h
  obtain ⟨hup, hagenda⟩ := Rule.sees_givesUp ⟨v, rest, tie⟩ p f hstart hrd
  have hstill := hup.still hstart.noChange hstart.noRetiring
  have hcues : ∀ y ∈ l, ∀ l', Rule.sees ⟨v, l', tie⟩ y = ⟨v, l', tie⟩ := fun y hy l' => by
    rw [hl y hy]
    exact Rule.cuesJoined_notShowing _ p (by rw [hstart.starting]; nofun)
  have hsplit : settleBound = l.length + (511 - l.length + 1) := by
    simp only [settleBound]
    omega
  have hsettle : Rule.settle settleBound ⟨v, l ++ f.signal p :: rest, tie⟩ =
      (Rule.sees ⟨v, rest, tie⟩ (f.signal p)).settle (511 - l.length) := by
    rw [hsplit, Rule.settle_append_unheeded _ v l _ tie hcues, Rule.settle_cons]
  rw [hsettle]
  have habout := Rule.settle_about (511 - l.length) _ hstill fun y hy => (hagenda y hy).elim (hrest y) id
  obtain ⟨h1, h2, h3, h4, h5, h6, -, -, -⟩ :=
    Rule.breakTie_byLink ((Rule.sees ⟨v, rest, tie⟩ (f.signal p)).settle (511 - l.length))
  exact hv.givenUp h.noRunout ((hup.about habout).about (State.about_of p h1 h2 h5 h6 h4 h3))

/-! ## The five failures -/

/-- R12, R22: a film that breaks. -/
theorem Rule.filmBreaks_affects (s : State) (p : Proj) (u : Instant) (hst : (s.tr p).state = .running)
    (hu : (s.tr p).lastPulse = some u) (ht : 25000 ≤ (s.now - u) * s.speedOf p) : ∃ v l,
    Rule.filmBreaks ⟨s, [], false⟩ p = ⟨v, l ++ [.transport p .broken], false⟩ ∧ s.Affects v p ∧ (v.rd p).state = .off ∧
      l.length ≤ 8 ∧ ∀ y ∈ l, y = .cues p := by
  let w := (s.setTr p { s.tr p with state := .broken, miss := .normal, lockCount := 0 }).reportProj p (.filmBreak (s.tr p).counter)
  have hw : s.Affects w p := (s.affects_setTr p { s.tr p with state := .broken, miss := .normal, lockCount := 0 } rfl).trans
    (State.about_setLink _ _ p).affects
  obtain ⟨hread, ⟨l, hl, hlen, hcues⟩, htie⟩ := Rule.reads_readerStops ⟨w, [], false⟩ p
  have hoff := Rule.readerStops_state ⟨w, [], false⟩ p
  rw [Rule.filmBreaks_eq s p u hst hu ht]
  change ∃ v l, Rule.emit (Rule.upd (Rule.readerStops ⟨w, [], false⟩ p) _) _ = _ ∧ _
  generalize Rule.readerStops ⟨w, [], false⟩ p = r at *
  obtain ⟨v, l', tie⟩ := r
  obtain rfl : tie = false := htie
  obtain rfl : l' = l := hl
  refine ⟨_, _, rfl, (hw.trans hread.affects).trans (v.affects_leaveRunning p), ?_, hlen, hcues⟩
  exact (congrArg (fun b => (b.cell p).state) (v.leaveRunning_keeps p).2.2.1).trans hoff

/-- R8, R22: a run-up that comes to its limit. -/
theorem Rule.runUpExpires_affects (s : State) (p : Proj) (on : Instant) (hst : (s.tr p).state = .starting)
    (hon : (s.tr p).motorOn = some on) (ht : on + 60000 ≤ s.now) : ∃ v l,
    Rule.runUpExpires ⟨s, [], false⟩ p = ⟨v, l ++ [.runupFailed p, .transport p .stopping], false⟩ ∧ s.Affects v p ∧
      (v.rd p).state = .off ∧ l.length ≤ 8 ∧ ∀ y ∈ l, y = .cues p := by
  let w := (s.setTr p ((s.tr p).ranUp s.now)).reportProj p (.runupFail (s.tr p).lockCount (s.tr p).counter)
  have hw : s.Affects w p := (s.affects_setTr p ((s.tr p).ranUp s.now) rfl).trans (State.about_setLink _ _ p).affects
  obtain ⟨hread, ⟨l, hl, hlen, hcues⟩, htie⟩ := Rule.reads_readerStops ⟨w, [], false⟩ p
  have hoff := Rule.readerStops_state ⟨w, [], false⟩ p
  rw [Rule.runUpExpires_eq s p on hst hon ht]
  change ∃ v l, Rule.emit (Rule.emit (Rule.readerStops ⟨w, [], false⟩ p) _) _ = _ ∧ _
  generalize Rule.readerStops ⟨w, [], false⟩ p = r at *
  obtain ⟨v, l', tie⟩ := r
  obtain rfl : tie = false := htie
  obtain rfl : l' = l := hl
  exact ⟨v, l', by simp [Rule.emit], hw.trans hread.affects, hoff, hlen, hcues⟩

/-- The instant plays no part in what a start given up has done. -/
theorem State.StartGivenUp.of_elapse {s t : State} {dt : Nat} {p : Proj} {reason : HoldReason}
    (a : (s.elapse dt).StartGivenUp t p reason) : s.StartGivenUp t p reason := by
  obtain ⟨a1, a2, a3, a4, a5, a6, a7, a8, a9, a10, a11, a12, a13⟩ := a
  exact ⟨a1, a2, a3, a4, a5, a6, a7, a8, a9, a10, a11, a12, a13⟩

theorem State.StartsWith.elapse {s : State} {p : Proj} (a : s.StartsWith p) (dt : Nat) : (s.elapse dt).StartsWith p := by
  obtain ⟨a1, a2, a3, a4, a5⟩ := a
  exact ⟨a1, a2, a3, a4, a5⟩

/-- R142, R147: the drop of a HELD projection port tells that it has left HELD. -/
theorem Rule.drop_left (r : Rule) (q : Option Proj) (p : Proj) (h : (r.st.pt (projPort p)).state = .held) :
    (r.drop .self q [projPort p]).agenda = r.agenda ++ [.portLeft p] := by
  have hst : ((r.st.writeRecord .self q [projPort p]).pt (projPort p)).state = .held :=
    (congrFun (congrArg FireView.ports (State.fireView_writeRecord ..)) (projPort p)).trans h
  simp only [Rule.drop, DropCause.announced, Rule.releaseAll, Rule.release, Rule.upd_st, hst, portProj_projPort, true_or, if_true,
    Bool.false_eq_true, if_false]
  split <;> rfl

/-- R96: the five failures of a starting projector. -/
theorem exec_startFails (c : Instr) (s : State) (dt : Nat) (b : Byte) (p : Proj) (on u : Instant) (reason : HoldReason)
    (h : s.StartsWith p) (hd : (s.tr p).driven)
    (hc : (c = .runupLimit dt p ∧ (s.tr p).state = .starting ∧ (s.tr p).motorOn = some on ∧ on + 60000 ≤ s.now + dt ∧
        reason = .start) ∨
      (c = .breakDeadline dt p ∧ (s.tr p).state = .running ∧ (s.tr p).lastPulse = some u ∧
        25000 ≤ (s.now + dt - u) * s.speedOf p ∧ reason = .brk) ∨
      (c = .extinguish dt b ∧ b.toNat = p.val + 1 ∧ s.linkReady ∧ (s.lp p).state = .burning ∧ reason = .lamp) ∨
      (c = .douserSwitchCloses dt p .openEnd ∧ (s.ds p).state = .closed ∧ reason = .douser) ∨
      (c = .upSwitchOpens dt (projPort p) ∧ (s.pt (projPort p)).state = .held ∧ reason = .fire)) :
    ∃ t, exec c s = .next t ∧ s.StartGivenUp t p reason := by
  replace h : (s.elapse dt).StartsWith p := h.elapse dt
  suffices hend : ∃ t, exec c s = .next t ∧ (s.elapse dt).StartGivenUp t p reason by
    obtain ⟨t, ht, hup⟩ := hend
    exact ⟨t, ht, hup.of_elapse⟩
  rcases hc with ⟨rfl, hst, hon, ht, rfl⟩ | ⟨rfl, hst, hu, ht, rfl⟩ | ⟨rfl, hb, hs, hlamp, rfl⟩ | ⟨rfl, hds, rfl⟩ |
    ⟨rfl, hpt, rfl⟩
  · obtain ⟨v, l, hr, hv, hoff, hlen, hcues⟩ := Rule.runUpExpires_affects (s.elapse dt) p on hst hon ht
    exact ⟨_, congrArg Rule.finish hr, Rule.finish_givesUp (s := s.elapse dt) .runup l [.transport p .stopping] false h hv
      (.inl hoff) hcues hlen fun y hy => by rw [List.mem_singleton.1 hy]; rfl⟩
  · obtain ⟨v, l, hr, hv, hoff, hlen, hcues⟩ := Rule.filmBreaks_affects (s.elapse dt) p u hst hu ht
    exact ⟨_, congrArg Rule.finish hr, Rule.finish_givesUp (s := s.elapse dt) .brk l [] false h hv
      (.inl hoff) hcues hlen nofun⟩
  · obtain ⟨w, hw⟩ : ∃ w, w = (s.elapse dt).setLink (s.elapse dt).link.claimed := ⟨_, rfl⟩
    have hwlp : w.lp p = s.lp p := by rw [hw]; rfl
    have hask : Rule.ask ⟨w, [], false⟩ (.extinguish b) =
        ⟨.done .nothing, ⟨w.lampStopped p .host, [.lampLeft p false, .lampOff p], false⟩⟩ := by
      have hsig : (w.lp p).offSignals p = [.lampLeft p false, .lampOff p] := by
        simp [Lamp.offSignals, hwlp, hlamp]
      refine (Rule.decideExtinguish_done _ b p hb).trans (congrArg Rule.done ?_)
      rw [Rule.extinguish_on _ p .host (by change ¬ (w.lp p).state = .off; rw [hwlp, hlamp]; nofun), Rule.lampStops_eq, hsig]
      rfl
    obtain ⟨tie, -, hr⟩ := Rule.request_ready (s.elapse dt) (.extinguish b) hs
    rw [Rule.decideRecord_recordOf _ (.extinguish b) rfl, ← hw, hask] at hr
    have hby := (w.byLamp_lampStopped p .host)
    have hup := Rule.finish_givesUp (s := s.elapse dt) (p := p)
      (v := (w.lampStopped p .host).setLink { (w.lampStopped p .host).link with
        slot := some (.done (recordOf (.extinguish b)).kind .nothing) }) (.lamp false) [] [.lampOff p] tie h
      ?_ (.inr ?_) nofun (by simp) fun y hy => by rw [List.mem_singleton.1 hy]; rfl
    · exact ⟨_, congrArg Rule.finish hr, hup⟩
    · have hlp : (Rule.lampStops ⟨w, [], false⟩ p .host).st = w.lampStopped p .host := by rw [Rule.lampStops_eq]
      have habout := (Rule.about_lampStops ⟨w, [], false⟩ p .host).state
      rw [hlp] at habout
      have hclaim : (s.elapse dt).About w p := hw ▸ State.about_setLink ..
      exact (hclaim.trans (habout.trans (State.about_setLink _ _ p))).affects
    · change ((w.lampStopped p .host).tr p).driven
      rw [State.tr, hby.transports, hw]
      exact hd
  · have hr := Rule.switchCloses_uncommanded (s.elapse dt) p .openEnd (.inr ⟨hds, rfl⟩)
    refine ⟨_, congrArg Rule.finish hr, Rule.finish_givesUp (s := s.elapse dt) .stuck [] [] false h ?_ (.inr hd) nofun (by simp) nofun⟩
    exact ((State.about_setDs (s.elapse dt) p { s.ds p with
      state := .stuck
      drive := .closes
      switches := some ⟨switchReading .openEnd, s.now + dt⟩ } (by simp [Douser.agape])).trans (State.about_setLink _ _ p)).affects
  · let w := (s.elapse dt).setPt (projPort p) { s.pt (projPort p) with upSwitch := false }
    have hr : Rule.upOpens ⟨s.elapse dt, [], false⟩ (projPort p) =
        Rule.drop ⟨w, [], false⟩ .self (portProj (projPort p)) [projPort p] := if_pos hpt
    have hheld : (w.pt (projPort p)).state = .held := by
      rw [State.setPt_pt, if_pos rfl]
      exact hpt
    have hagenda := Rule.drop_left ⟨w, [], false⟩ (portProj (projPort p)) p hheld
    have habout := (Rule.about_drop ⟨w, [], false⟩ .self (portProj (projPort p)) p).state
    generalize Rule.drop ⟨w, [], false⟩ .self (portProj (projPort p)) [projPort p] = r at *
    obtain ⟨v, l, tie⟩ := r
    obtain rfl : l = [.portLeft p] := hagenda
    refine ⟨_, congrArg Rule.finish hr, Rule.finish_givesUp (s := s.elapse dt) .port [] [] tie h
      (((s.elapse dt).about_setPt _ _ p).trans habout).affects (.inr ?_) nofun (by simp) nofun⟩

    rw [State.tr, habout.transports]
    exact hd

end Sys2Proof.Machine
end

section
/-! PROOFS. A counted pulse in a show, and the live picture that begins at it. -/

namespace Sys2Proof.Machine

/-! ## Plans and light cues -/

/-- R85: the entry of a reel number is the only one with it. -/
theorem findReel_unique {plan : List ReelEntry} {e x : ReelEntry} (hd : (plan.map (fun e => e.reel)).Nodup)
    (he : findReel plan e.reel = some e) (hx : x ∈ plan) (hr : x.reel = e.reel) : x = e :=
  List.inj_on_of_nodup_map hd hx (List.mem_of_find?_eq_some he) hr

/-- A change that leaves the one entry of its reel number leaves the plan. -/
theorem mapReel_same {plan : List ReelEntry} {e : ReelEntry} {f : ReelEntry → ReelEntry}
    (hd : (plan.map (fun e => e.reel)).Nodup) (he : findReel plan e.reel = some e) (hf : f e = e) : mapReel plan e.reel f = plan := by
  refine (List.map_congr_left fun x hx => ?_).trans (List.map_id _)
  split
  · rename_i hr
    rw [findReel_unique hd he hx hr]
    exact hf
  · rfl

/-- R131: an entry none of whose cues meets the condition unfired fires nothing. -/
theorem State.fireCues_idle {s : State} {h : HouseId} {e : ReelEntry} {cond : CueTrigger → Bool} (hd : s.distinctReels h)
    (he : findReel (s.hs h).plan e.reel = some e) (hc : ∀ c ∈ e.cues, (!c.fired && cond c.trigger) = false) :
    s.fireCues h e.reel cond = s := by
  have hmark : markFired e.cues cond = e.cues := by
    refine (List.map_congr_left fun c hc' => ?_).trans (List.map_id _)
    rw [hc c hc']
    rfl
  have hnone : e.cues.filter (fun c => !c.fired && cond c.trigger) = [] := List.filter_eq_nil_iff.2 fun c hc' => by
    rw [hc c hc']
    exact Bool.false_ne_true
  have hplan : mapReel (s.hs h).plan e.reel (fun x => { x with cues := markFired x.cues cond }) = (s.hs h).plan :=
    mapReel_same hd he (by rw [hmark])
  unfold State.fireCues
  rw [he]
  dsimp only
  rw [hnone, State.modReel, hplan]
  exact s.setHs_self h

/-- R89: the entry that a projector holds, in the plan of its house. -/
theorem State.heldEntry_home {s : State} {p : Proj} {h : HouseId} {e : ReelEntry}
    (ha : (s.tr p).armed.map (fun a => a.house) = some h) (he : s.heldEntry p = some e) :
    ∃ x, (s.tr p).armed = some x ∧ x.house = h ∧ x.reel = e.reel ∧ findReel (s.hs h).plan e.reel = some e := by
  obtain ⟨x, hx, rfl⟩ := Option.map_eq_some_iff.1 ha
  have hfind : findReel (s.hs x.house).plan x.reel = some e := by simpa [State.heldEntry, hx] using he
  have hreel : e.reel = x.reel := by simpa using List.find?_some hfind
  exact ⟨x, hx, rfl, hreel.symm, hreel ▸ hfind⟩

/-- R37: an open command to a CLOSED douser. -/
def Douser.openingFrom (d : Douser) (full : Bool) (now : Instant) : Douser :=
  { d with drive := .opens, state := .opening, travel := some ⟨.opens, now, full, 2 * d.openTime + 100⟩ }

theorem State.openCommand_closed {s : State} {p : Proj} (hg : s.gating p = true) (h : (s.ds p).state = .closed) :
    s.openCommand p = s.setDs p ((s.ds p).openingFrom true s.now) := by
  simp [State.openCommand, hg, h, Douser.openingFrom, travelLimit]

/-! ## The pulse -/

theorem Transport.pulsedRunning_keeps (t : Transport) (prev now : Instant) (speed : Nat) :
    (t.pulsedRunning prev now speed).state = t.state ∧ (t.pulsedRunning prev now speed).counter = min 65535 (t.counter + 1) ∧
      (t.pulsedRunning prev now speed).armed = t.armed := by
  obtain ⟨hstate, hcounter, -, -, -, harmed⟩ := { t with miss := .normal }.speedStep_leaves (inTolerance (now - prev) speed)
  exact ⟨hstate, congrArg (fun n => min 65535 (n + 1)) hcounter, harmed⟩

/-- R5 to R7, R10: a counted pulse that finds projector `p` RUNNING, or locks its speed: the transport is RUNNING with its counter
raised. -/
theorem Rule.pulse_counted (s : State) (p : Proj) (n : Nat) {u : Instant} (hu : (s.tr p).lastPulse = some u)
    (hs : (s.tr p).state = .running ∨ ((s.tr p).state = .starting ∧ (s.tr p).lockCount = 7 ∧
      inTolerance (s.now - u) (s.speedOf p) = true)) :
    ∃ x k l, Rule.pulse ⟨s, [], false⟩ p n = Rule.passPulse ⟨(s.setTr p x).setLink k, l, false⟩ p n ∧ x.state = .running ∧
      x.counter = min 65535 ((s.tr p).counter + 1) ∧ x.armed = (s.tr p).armed ∧
      (((s.tr p).state = .running ∧ l = []) ∨ ((s.tr p).state = .starting ∧ l = [.transport p .running])) := by
  rcases hs with hst | ⟨hst, hlock, htol⟩
  · have hpulse : ∃ k, Rule.pulseRunning ⟨s, [], false⟩ p =
        ⟨(s.setTr p ((s.tr p).pulsedRunning u s.now (s.speedOf p))).setLink k, [], false⟩ := by
      unfold Rule.pulseRunning
      dsimp only
      split
      next hnone => simp [hu] at hnone
      next prev hprev =>
        obtain rfl : u = prev := Option.some.inj (hu.symm.trans hprev)
        split
        · exact ⟨_, rfl⟩
        · exact ⟨s.link, rfl⟩
    obtain ⟨k, hk⟩ := hpulse
    obtain ⟨hstate, hcounter, harmed⟩ := (s.tr p).pulsedRunning_keeps u s.now (s.speedOf p)
    refine ⟨_, k, [], ?_, hstate.trans hst, hcounter, harmed, .inl ⟨hst, rfl⟩⟩
    unfold Rule.pulse
    dsimp only
    rw [hst]
    dsimp only
    rw [hk]
  · have hcount : (((s.tr p).lockStep u s.now (s.speedOf p)).count s.now).lockCount = 8 := by
      simp [Transport.lockStep, htol, Transport.count, hlock]
    have hpulse : ∃ k, Rule.pulseStarting ⟨s, [], false⟩ p =
        ⟨(s.setTr p (((s.tr p).lockStep u s.now (s.speedOf p)).count s.now).lock).setLink k, [.transport p .running], false⟩ := by
      unfold Rule.pulseStarting
      dsimp only
      rw [hu]
      dsimp only
      rw [if_pos hcount]
      exact ⟨_, rfl⟩
    obtain ⟨k, hk⟩ := hpulse
    refine ⟨(((s.tr p).lockStep u s.now (s.speedOf p)).count s.now).lock, k, [.transport p .running], ?_, rfl, ?_, ?_, .inr ⟨hst, rfl⟩⟩
    · unfold Rule.pulse
      dsimp only
      rw [hst]
      dsimp only
      rw [hk]
    · simp [Transport.lockStep, htol, Transport.count, Transport.lock, countFrame]
    · simp [Transport.lockStep, htol, Transport.count, Transport.lock]

/-- R23 to R25: a reading below T leaves a reader that watches, or hunts past its leader, in WATCH. -/
theorem Rule.examine_low (r : Rule) (p : Proj) (n : Nat) (ht : (r.st.tr p).state = .running)
    (hw : (r.st.rd p).state = .watch ∨ ((r.st.rd p).state = .hunt ∧ r.st.leaderOf p ≤ (r.st.tr p).counter))
    (hlow : n < (r.st.rd p).threshold) :
    r.examine p n = r.upd (fun s => s.setRd p { r.st.rd p with state := .watch }) := by
  have hframe : (r.st.rd p).watchFrame (r.st.tr p).counter n = { r.st.rd p with state := .watch } := by
    have hhigh : (r.st.rd p).high n = false := by simpa [Reader.high] using hlow
    rw [Reader.watchFrame, hhigh, if_neg Bool.false_ne_true]
  unfold Rule.examine
  dsimp only
  rw [if_pos (.inr ht)]
  rcases hw with hw | ⟨hw, hl⟩
  · rw [hw]
    dsimp only
    rw [hframe]
  · rw [hw]
    dsimp only
    rw [if_neg (Nat.not_lt.2 hl), hframe]

/-- R5, R80: such a pulse passed on. -/
theorem Rule.passPulse_low (s : State) (l : List Signal) (tie : Bool) (p : Proj) (n : Nat) (ht : (s.tr p).state = .running)
    (hw : (s.rd p).state = .watch ∨ ((s.rd p).state = .hunt ∧ s.leaderOf p ≤ (s.tr p).counter))
    (hlow : n < (s.rd p).threshold) : ∃ l', (l' = [] ∨ l' = [.readiness (houseOf p)]) ∧
      Rule.passPulse ⟨s, l, tie⟩ p n =
        Rule.housePulse ⟨(s.setRd p { s.rd p with state := .watch }).judged p, l ++ l', tie⟩ p := by
  obtain ⟨l', hl', he⟩ := Rule.evalSufficiency_cases (s.setRd p { s.rd p with state := .watch }) l tie p
  refine ⟨l', hl', ?_⟩
  unfold Rule.passPulse
  rw [Rule.examine_low ⟨s, l, tie⟩ p n ht hw hlow, ← he]
  rfl

/-! ## The live picture begins (R95) -/

/-- R95, R104: the house's record as the live picture begins on side `sd` with reel `n`. -/
def House.pictured (x : House) (sd : Side) (n : Nat) : House :=
  { x with
    state := .showing
    liveSide := some sd
    startingSide := none
    gate := .side sd
    marks := ⟨false, false, false, false, false⟩
    plan := x.plan.map (fun w => if w.reel = n then { w with status := .showing } else w) }

/-- R95: the starting projector `p` of house `h`, RUNNING at or past the leader of its entry `e` and short of its tail, with its
douser CLOSED, its lamp BURNING and its port HELD, an entry without light cues or expected frames, and no cue entry waiting. -/
structure State.AtLeader (s : State) (h : HouseId) (p : Proj) (e : ReelEntry) : Prop where
  house : houseOf p = h
  starting : (s.hs h).state = .starting
  side : (s.hs h).startingSide = some (sideOf p)
  distinct : s.distinctReels h
  home : (s.tr p).armed.map (fun a => a.house) = some h
  held : s.heldEntry p = some e
  noLight : e.cues = []
  noMotor : e.motorFrame = none
  noChange : e.changeFrame = none
  leader : e.leader ≤ (s.tr p).counter
  tail : (s.tr p).counter < e.leader + e.picture
  noEntry : (s.rd p).queue = []
  running : (s.tr p).state = .running
  burning : (s.lp p).state = .burning
  raised : (s.pt (projPort p)).state = .held
  closed : (s.ds p).state = .closed

theorem Rule.pictureTest_begins (r : Rule) {h : HouseId} {p : Proj} {e : ReelEntry} (a : r.st.AtLeader h p e) :
    r.pictureTest h = r.upd (fun s => (s.setDs p ((r.st.ds p).openingFrom true r.st.now)).setHs h
      ((r.st.hs h).pictured (sideOf p) e.reel)) := by
  obtain ⟨rfl, hst, hside, hd, hhome, hheld, hlight, hmotor, hchange, hleader, htail, hqueue, hrun, hlamp, hport, hds⟩ := a
  obtain ⟨x, hx, hxh, hxr, hfind⟩ := State.heldEntry_home hhome hheld
  have hproj : projAt (houseOf p) (sideOf p) = p := projAt_houseOf_sideOf p
  have hgate : r.st.gating p = true := by simp [State.gating, hrun, hlamp, hport]
  let w := r.st.setDs p ((r.st.ds p).openingFrom true r.st.now)
  let y := (r.st.hs (houseOf p)).pictured (sideOf p) e.reel
  let u := w.setHs (houseOf p) y
  have hbegins : (((((r.st.openCommand p).selectSide (houseOf p) (sideOf p)).fireCues (houseOf p) e.reel isStart).setStatus
      (houseOf p) e.reel .showing).modHs (houseOf p) (fun x => { x with
        liveSide := some (sideOf p), startingSide := none, state := .showing, marks := ReelMarks.clear })) = u := by
    rw [State.openCommand_closed hgate hds]
    change (((w.selectSide _ _).fireCues _ _ _).setStatus _ _ _).modHs _ _ = u
    have hsel : w.selectSide (houseOf p) (sideOf p) =
        w.setHs (houseOf p) { r.st.hs (houseOf p) with gate := .side (sideOf p) } := by
      unfold State.selectSide
      rw [hproj]
      exact if_pos hrun
    have hfire : (w.selectSide (houseOf p) (sideOf p)).fireCues (houseOf p) e.reel isStart =
        w.selectSide (houseOf p) (sideOf p) := by
      rw [hsel]
      refine State.fireCues_idle (e := e) ?_ ?_ (by simp [hlight])
      · simpa [State.distinctReels] using hd
      · simpa using hfind
    rw [hfire, hsel]
    simp [State.setStatus, State.modReel, State.modHs, u, y, House.pictured, mapReel, ReelMarks.clear]
  have hlive : u.liveProj (houseOf p) = some p := by simp [State.liveProj, u, y, House.pictured, hproj]
  have hnew : u.heldEntry p = some { e with status := .showing } := by
    have hplan : findReel y.plan e.reel = some { e with status := .showing } := by
      have := findReel_mapReel (r.st.hs (houseOf p)).plan e.reel e.reel (fun w => { w with status := .showing }) fun _ => rfl
      rw [hfind] at this
      exact this.trans (by simp)
    have htr : u.tr p = r.st.tr p := rfl
    unfold State.heldEntry
    rw [htr, hx]
    dsimp only
    rw [hxh, hxr]
    simpa [u] using hplan
  have hentry : u.liveEntry (houseOf p) = some { e with status := .showing } := by simp [State.liveEntry, hlive, hnew]
  have hframes : u.fireFrameCues (houseOf p) = u := by
    unfold State.fireFrameCues
    rw [hlive, hentry]
    dsimp only
    have hsame : u.fireCues (houseOf p) e.reel (frameReached (u.tr p).counter) = u := by
      refine State.fireCues_idle (e := { e with status := .showing }) ?_ ?_ (by simp [hlight])
      · have := mapReel_reels (r.st.hs (houseOf p)).plan e.reel (fun w => { w with status := .showing }) fun _ => rfl
        simp only [State.distinctReels, u, State.setHs_hs, if_true]
        exact this ▸ hd
      · obtain ⟨z, hz, hzh, hzr, hzf⟩ := State.heldEntry_home (s := u) hhome hnew
        exact hzf
    split
    · exact hsame
    · rfl
  have hcounted : (⟨u, r.agenda, r.tie⟩ : Rule).countedFallback (houseOf p) = ⟨u, r.agenda, r.tie⟩ := by
    refine Rule.countedFallback_nothing _ _ fun q w hq hw => ?_
    obtain rfl : _ = w := Option.some.inj (hentry.symm.trans hw)
    simp [State.counterPasses, hmotor, hchange]
  have htest : (⟨u, r.agenda, r.tie⟩ : Rule).tailTest (houseOf p) = ⟨u, r.agenda, r.tie⟩ := by
    unfold Rule.tailTest
    rw [hlive, hentry]
    dsimp only
    have hshort : u.atTail p = false := by
      rw [State.atTail, hnew]
      exact decide_eq_false (Nat.not_le.2 htail)
    simp [hshort]
  unfold Rule.pictureTest
  rw [hst, hside]
  dsimp only
  rw [hproj, hheld]
  dsimp only
  rw [if_pos ⟨hrun, hleader⟩]
  simp only [Rule.upd, hbegins, hframes]
  rw [Rule.takeCues_nothing ⟨u, r.agenda, r.tie⟩ hlive hqueue, hcounted, htest]

/-- R113: a house with no changeover record makes nothing of a transport that becomes RUNNING. -/
theorem Rule.sees_running_unmoved (r : Rule) (p : Proj) (hs : (r.st.hs (houseOf p)).state ≠ .starting)
    (hc : (r.st.hs (houseOf p)).change = none) : r.sees (.transport p .running) = r := by
  change (r.upd (fun s => s.lockChange p)).look (houseOf p) = r
  have hlock : r.upd (fun s => s.lockChange p) = r := by simp [Rule.upd, State.lockChange_none _ _ hc]
  rw [hlock]
  exact r.look_unmoved _ ⟨hs, .inl hc⟩

/-- R5: a STARTING house has nothing to do with a counted pulse but the test of its picture. -/
theorem Rule.housePulse_starting (r : Rule) (p : Proj) (hst : (r.st.hs (houseOf p)).state = .starting)
    (hr : (r.st.hs (houseOf p)).retiring = none)
    (hpic : ((r.pictureTest (houseOf p)).st.hs (houseOf p)).change = none) :
    r.housePulse p = r.pictureTest (houseOf p) := by
  have hlive : r.countLivePulse (houseOf p) p = r := by simp [Rule.countLivePulse, hst]
  have hretire : r.countRetirePulse (houseOf p) p = r := by simp [Rule.countRetirePulse, hr]
  have hshow : r.showPulse (houseOf p) p = r := by simp [Rule.showPulse, hst]
  unfold Rule.housePulse
  dsimp only
  rw [hlive, hretire, hshow, Rule.crossingTest, hpic]

/-- Settles O33. A pulse at the leader begins the picture; each of the five failures is seen by the STARTING house, which gives the
start up. -/
theorem pictureBeginsAtTheLeader : Obligations.PictureBeginsAtTheLeader := by
  refine ⟨fun s dt p h e reading u m hh hst hside hc hr hrun hd hphase hu hhome hheld hlight hmotor hchange hlead htail hmax hrd hq hlow
    hds hlp hpt => ?_, fun c s dt b p h on u reason hh hst hside hc hr hrun hd hcmd => ?_⟩
  · subst hh
    obtain ⟨x, k, l, hpulse, hxrun, hxcount, hxarmed, hl⟩ := Rule.pulse_counted (s.elapse dt) p reading.toNat (u := u) hu
      (hphase.imp id fun ⟨h1, h2, h3, h4, h5⟩ => ⟨h1, h2, (inTolerance_iff _ _).2 ⟨h3 ▸ h4, h3 ▸ h5⟩⟩)
    have hcount : x.counter = (s.tr p).counter + 1 := by
      rw [hxcount]
      exact Nat.min_eq_right hmax
    let v := ((s.elapse dt).setTr p x).setLink k
    have hvtr : v.tr p = x := (State.setTr_tr ..).trans (if_pos rfl)
    have hvheld : v.heldEntry p = some e := by
      have hv : v.heldEntry p = s.heldEntry p := by
        unfold State.heldEntry
        rw [hvtr, hxarmed]
        rfl
      exact hv.trans hheld
    have hvlead : v.leaderOf p ≤ (v.tr p).counter := by
      rw [State.leaderOf, hvheld, hvtr, hcount]
      exact hlead
    obtain ⟨l', hl', hpass⟩ := Rule.passPulse_low v l false p reading.toNat (hvtr ▸ hxrun) (hrd.symm.imp id fun h => ⟨h, hvlead⟩) hlow
    let w := (v.setRd p { s.rd p with state := .watch }).judged p
    have hwtr : w.tr p = x := hvtr
    have hwrd (y : Proj) : w.rd y = if y = p then { s.rd p with state := .watch } else s.rd y := State.setRd_rd ..
    let v' := v.setRd p { s.rd p with state := .watch }
    have hwlp (y : Proj) : w.lp y = if y = p then { s.lp p with sufficiency := v'.sufficiencyOf p } else s.lp y :=
      State.setLp_lp ..
    have hleader : w.AtLeader (houseOf p) p e := by
      refine ⟨rfl, hst, hside, hd, ?_, hvheld, hlight, hmotor, hchange, ?_, ?_, ?_, ?_, ?_, hpt, hds⟩
      · rw [hwtr, hxarmed]
        exact hhome
      · rw [hwtr, hcount]
        exact hlead
      · rw [hwtr, hcount]
        exact htail
      · rw [hwrd, if_pos rfl]
        exact hq
      · rw [hwtr]
        exact hxrun
      · rw [hwlp, if_pos rfl]
        exact hlp
    have hbegins := Rule.pictureTest_begins ⟨w, l ++ l', false⟩ hleader
    let t := (w.setDs p ((s.ds p).openingFrom true (s.now + dt))).setHs (houseOf p)
      ((s.hs (houseOf p)).pictured (sideOf p) e.reel)
    have hths : t.hs (houseOf p) = (s.hs (houseOf p)).pictured (sideOf p) e.reel := (State.setHs_hs ..).trans (if_pos rfl)
    have hhouse : Rule.housePulse ⟨w, l ++ l', false⟩ p = ⟨t, l ++ l', false⟩ := by
      rw [Rule.housePulse_starting ⟨w, l ++ l', false⟩ p hst hr (by rw [hbegins, Rule.upd_st, State.setHs_hs, if_pos rfl]; exact hc),
        hbegins]
      rfl
    have htc : (t.hs (houseOf p)).state ≠ .starting ∧ (t.hs (houseOf p)).change = none := by
      rw [hths]
      exact ⟨nofun, hc⟩
    have hrule : Rule.pulse ⟨s.elapse dt, [], false⟩ p reading.toNat = ⟨t, l ++ l', false⟩ := (hpulse.trans hpass).trans hhouse
    refine ⟨t, (congrArg Rule.finish hrule).trans (Rule.finish_settled (Rule.settle_unheeded settleBound t (l ++ l') false ?_ ?_) nofun),
      hths, ?_, ?_, ?_, ?_, fun q hq => ⟨?_, ?_, ?_, ?_⟩, fun g hg => ?_, rfl, rfl, rfl⟩
    · have : l.length ≤ 1 := by rcases hl with ⟨-, rfl⟩ | ⟨-, rfl⟩ <;> simp
      have : l'.length ≤ 1 := by rcases hl' with rfl | rfl <;> simp
      simp only [List.length_append, settleBound]
      omega
    · intro y hy l''
      rcases List.mem_append.1 hy with hy | hy
      · obtain rfl : y = .transport p .running := by
          rcases hl with ⟨-, rfl⟩ | ⟨-, rfl⟩
          · cases hy
          · exact List.mem_singleton.1 hy
        exact Rule.sees_running_unmoved ⟨t, l'', false⟩ p htc.1 htc.2
      · obtain rfl : y = .readiness (houseOf p) := by
          rcases hl' with rfl | rfl
          · cases hy
          · exact List.mem_singleton.1 hy
        exact Rule.look_unmoved ⟨t, l'', false⟩ _ ⟨htc.1, .inl htc.2⟩
    · rw [State.setHs_ds, State.setDs_ds, if_pos rfl]
      rfl
    · exact (hwrd p).trans (if_pos rfl)
    · exact (congrArg Transport.counter hwtr).trans hcount
    · exact (congrArg Transport.state hwtr).trans hxrun
    · exact (State.setTr_tr ..).trans (if_neg hq)
    · rw [State.setHs_ds, State.setDs_ds, if_neg hq]
      rfl
    · exact (hwrd q).trans (if_neg hq)
    · exact (hwlp q).trans (if_neg hq)
    · rw [State.setHs_hs, if_neg hg]
      rfl
  · subst hh
    obtain ⟨t, ht, a⟩ := exec_startFails c s dt b p on u reason ⟨hst, hside, hc, hr, hrun⟩ hd hcmd
    exact ⟨t, ht, a.house, fun h => a.undriven (.inl h), fun h => a.undriven (.inr h), a.armed, a.off,
      fun x hx => not_or.1 (a.shut x hx), a.target, a.fade, fun x hx => ⟨a.trs x hx, a.rds x hx, a.lps x hx⟩, a.dss,
      fun i hi => ⟨a.hss i hi, a.lts i hi⟩⟩

end Sys2Proof.Machine
end

section
/-! PROOFS. A counted pulse that brings no cue, and what a house makes of a projector that runs down. -/

namespace Sys2Proof.Machine

/-! ## A counted pulse that brings no cue -/

/-- From `s` to `t` projector `p`, RUNNING, has counted a frame, its reader watching and its lamp judged afresh; nothing else has
changed but the link. -/
structure State.Pulsed (s t : State) (p : Proj) : Prop where
  running : (t.tr p).state = .running
  counter : (t.tr p).counter = min 65535 ((s.tr p).counter + 1)
  armed : (t.tr p).armed = (s.tr p).armed
  trs : ∀ q, q ≠ p → t.tr q = s.tr q
  rd : t.rd p = { s.rd p with state := .watch }
  rds : ∀ q, q ≠ p → t.rd q = s.rd q
  lp : t.lp p = { s.lp p with sufficiency := t.sufficiencyOf p }
  lps : ∀ q, q ≠ p → t.lp q = s.lp q
  dousers : t.dousers = s.dousers
  houses : t.houses = s.houses
  lights : t.lights = s.lights
  ports : t.ports = s.ports
  booth : t.booth = s.booth
  now : t.now = s.now

section
variable {s t : State} {p : Proj}

theorem State.Pulsed.hs (a : s.Pulsed t p) (h : HouseId) : t.hs h = s.hs h := congrArg (fun b => b.cell h) a.houses
theorem State.Pulsed.ds (a : s.Pulsed t p) (q : Proj) : t.ds q = s.ds q := congrArg (fun b => b.cell q) a.dousers
theorem State.Pulsed.lt (a : s.Pulsed t p) (h : HouseId) : t.lt h = s.lt h := congrArg (fun b => b.cell h) a.lights
theorem State.Pulsed.pt (a : s.Pulsed t p) (n : PortId) : t.pt n = s.pt n := congrArg (fun b => b.cell n) a.ports

theorem State.Pulsed.armed_all (a : s.Pulsed t p) (q : Proj) : (t.tr q).armed = (s.tr q).armed := by
  by_cases hq : q = p
  · rw [hq, a.armed]
  · rw [a.trs q hq]

theorem State.Pulsed.heldEntry (a : s.Pulsed t p) (q : Proj) : t.heldEntry q = s.heldEntry q := by
  unfold State.heldEntry
  rw [a.armed_all]
  cases (s.tr q).armed with
  | none => rfl
  | some x => exact congrArg (fun y : House => findReel y.plan x.reel) (a.hs x.house)

theorem State.Pulsed.liveProj (a : s.Pulsed t p) (h : HouseId) : t.liveProj h = s.liveProj h := by
  rw [State.liveProj, a.hs]
  rfl

theorem State.Pulsed.liveEntry (a : s.Pulsed t p) (h : HouseId) : t.liveEntry h = s.liveEntry h := by
  unfold State.liveEntry
  rw [a.liveProj]
  exact congrArg _ (funext a.heldEntry)

theorem State.Pulsed.queue (a : s.Pulsed t p) (q : Proj) : (t.rd q).queue = (s.rd q).queue := by
  by_cases hq : q = p
  · rw [hq, a.rd]
  · rw [a.rds q hq]

end

/-- R5, R23 to R25, R80: a counted pulse that finds projector `p` RUNNING, or locks its speed, with a reading below T. -/
theorem Rule.pulse_low (s : State) (p : Proj) (n : Nat) {u : Instant} (hu : (s.tr p).lastPulse = some u)
    (hs : (s.tr p).state = .running ∨ ((s.tr p).state = .starting ∧ (s.tr p).lockCount = 7 ∧
      inTolerance (s.now - u) (s.speedOf p) = true))
    (hw : (s.rd p).state = .watch ∨ ((s.rd p).state = .hunt ∧ s.leaderOf p ≤ min 65535 ((s.tr p).counter + 1)))
    (hlow : n < (s.rd p).threshold) :
    ∃ w l, Rule.pulse ⟨s, [], false⟩ p n = Rule.housePulse ⟨w, l, false⟩ p ∧ s.Pulsed w p ∧ l.length ≤ 2 ∧
      (∀ y ∈ l, y = .transport p .running ∨ y = .readiness (houseOf p)) ∧
      ((s.tr p).state = .running → ∀ y ∈ l, y = .readiness (houseOf p)) := by
  obtain ⟨x, k, l, hpulse, hxrun, hxcount, hxarmed, hl⟩ := Rule.pulse_counted s p n hu hs
  let v := (s.setTr p x).setLink k
  have hvtr : v.tr p = x := (State.setTr_tr ..).trans (if_pos rfl)
  have hvlead : v.leaderOf p = s.leaderOf p := by
    unfold State.leaderOf State.heldEntry
    rw [hvtr, hxarmed]
    rfl
  obtain ⟨l', hl', hpass⟩ := Rule.passPulse_low v l false p n (hvtr ▸ hxrun)
    (hw.imp_right fun h => ⟨h.1, by rw [hvlead, hvtr, hxcount]; exact h.2⟩) hlow
  let w := (v.setRd p { s.rd p with state := .watch }).judged p
  have hwlp (y : Proj) : w.lp y = if y = p then { s.lp p with sufficiency := w.sufficiencyOf p } else s.lp y := by
    rw [State.sufficiencyOf_judged]
    exact State.setLp_lp ..
  refine ⟨w, l ++ l', hpulse.trans hpass, ⟨(congrArg Transport.state hvtr).trans hxrun, (congrArg Transport.counter hvtr).trans hxcount,
    (congrArg Transport.armed hvtr).trans hxarmed, fun q hq => (State.setTr_tr ..).trans (if_neg hq),
    (State.setRd_rd ..).trans (if_pos rfl), fun q hq => (State.setRd_rd ..).trans (if_neg hq), (hwlp p).trans (if_pos rfl),
    fun q hq => (hwlp q).trans (if_neg hq), rfl, rfl, rfl, rfl, rfl, rfl⟩, ?_, fun y hy => ?_, fun hst y hy => ?_⟩
  · have : l.length ≤ 1 := by rcases hl with ⟨-, rfl⟩ | ⟨-, rfl⟩ <;> simp
    have : l'.length ≤ 1 := by rcases hl' with rfl | rfl <;> simp
    rw [List.length_append]
    omega
  · rcases List.mem_append.1 hy with hy | hy
    · rcases hl with ⟨-, rfl⟩ | ⟨-, rfl⟩
      · cases hy
      · exact .inl (List.mem_singleton.1 hy)
    · rcases hl' with rfl | rfl
      · cases hy
      · exact .inr (List.mem_singleton.1 hy)
  · rcases List.mem_append.1 hy with hy | hy
    · rcases hl with ⟨-, rfl⟩ | ⟨hst', -⟩
      · cases hy
      · rw [hst] at hst'
        cases hst'
    · rcases hl' with rfl | rfl
      · cases hy
      · exact List.mem_singleton.1 hy

/-! ## What passes a house by -/

/-- R118: a projector that does not retire. -/
theorem Rule.retireSees_other (r : Rule) (h : HouseId) (p : Proj) (x : TransportState)
    (hr : (r.st.hs h).retiring.map (fun y => y.projector) ≠ some p) : r.retireSees h p x = r := by
  unfold Rule.retireSees
  split
  · rfl
  · rename_i y hy
    exact if_pos fun e => hr (by rw [hy, ← e]; rfl)

theorem Rule.countRetirePulse_other (r : Rule) (h : HouseId) (p : Proj)
    (hr : (r.st.hs h).retiring.map (fun y => y.projector) ≠ some p) : r.countRetirePulse h p = r := by
  unfold Rule.countRetirePulse
  split
  · rfl
  · rename_i y hy
    exact if_pos fun e => hr (by rw [hy, ← e]; rfl)

/-- R151: no DOUSER cause. -/
theorem Rule.douserCause_none (r : Rule) (p : Proj) (h : r.st.noDouserCause p ∨ (r.st.tr p).state = .running) :
    r.douserCause p = r := by
  have hno : r.st.douserHazard p = false := by
    unfold State.douserHazard
    rcases h with (h | h) | h <;> simp [h]
  simp [Rule.douserCause, hno]

/-- R95, R112, R114, R117: a house neither STARTING nor with a changeover record looks at nothing. -/
theorem Rule.look_idle (r : Rule) {h : HouseId} (hs : (r.st.hs h).state ≠ .starting) (hc : (r.st.hs h).change = none) :
    r.look h = r := r.look_unmoved h ⟨hs, .inl hc⟩

theorem Rule.pictureTest_idle (r : Rule) {h : HouseId} (hs : (r.st.hs h).state ≠ .starting) : r.pictureTest h = r := by
  unfold Rule.pictureTest
  split
  · contradiction
  · rfl

theorem Rule.crossingTest_idle (r : Rule) {h : HouseId} (hc : (r.st.hs h).change = none) : r.crossingTest h = r := by
  rw [Rule.crossingTest, hc]

/-- R5: a counted pulse of a projector that does not retire, in a house that is neither SHOWING nor STARTING and has no changeover
record, has its live count raised at most. -/
theorem Rule.housePulse_count (r : Rule) (p : Proj) (hr : (r.st.hs (houseOf p)).retiring.map (fun y => y.projector) ≠ some p)
    {r' : Rule} (hr' : r.countLivePulse (houseOf p) p = r') (hret : (r'.st.hs (houseOf p)).retiring = (r.st.hs (houseOf p)).retiring)
    (hs : (r'.st.hs (houseOf p)).state ≠ .showing) (hst : (r'.st.hs (houseOf p)).state ≠ .starting)
    (hc : (r'.st.hs (houseOf p)).change = none) : r.housePulse p = r' := by
  unfold Rule.housePulse
  dsimp only
  rw [hr', Rule.countRetirePulse_other r' _ p (by rw [hret]; exact hr), Rule.showPulse, if_neg fun h => hs h.1,
    Rule.pictureTest_idle _ hst, Rule.crossingTest_idle _ hc]

/-- R104: a live projector, by its side. -/
theorem State.liveProj_side {s : State} {p : Proj} (h : (s.hs (houseOf p)).liveSide = some (sideOf p)) :
    s.liveProj (houseOf p) = some p := by
  rw [State.liveProj, h]
  exact congrArg some (projAt_houseOf_sideOf p)

theorem State.liveEntry_side {s : State} {p : Proj} {e : ReelEntry} (h : (s.hs (houseOf p)).liveSide = some (sideOf p))
    (he : s.heldEntry p = some e) : s.liveEntry (houseOf p) = some e := by
  rw [State.liveEntry, State.liveProj_side h]
  exact he

end Sys2Proof.Machine
end

section
/-! PROOFS. The live reel at its tail: the end of the last reel, and the runout of another. -/

namespace Sys2Proof.Machine

/-! ## The pulse at the tail -/

/-- R132: no FRAME cue of the live entry is due. -/
theorem State.fireFrameCues_idle {s : State} {p : Proj} {e : ReelEntry} (hside : (s.hs (houseOf p)).liveSide = some (sideOf p))
    (hd : s.distinctReels (houseOf p)) (hhome : (s.tr p).armed.map (fun a => a.house) = some (houseOf p))
    (hheld : s.heldEntry p = some e) (hc : ∀ c ∈ e.cues, (!c.fired && frameReached (s.tr p).counter c.trigger) = false) :
    s.fireFrameCues (houseOf p) = s := by
  obtain ⟨x, -, -, -, hfind⟩ := State.heldEntry_home hhome hheld
  unfold State.fireFrameCues
  rw [State.liveProj_side hside, State.liveEntry_side hside hheld]
  dsimp only
  split
  · exact State.fireCues_idle hd hfind hc
  · rfl

/-- R106, R110, R132: with no cue entry waiting, no FRAME cue due and nothing to offer, the live pulse is the test of the tail. -/
theorem Rule.showPulse_tailTest (r : Rule) (p : Proj) (hst : (r.st.hs (houseOf p)).state = .showing)
    (hside : (r.st.hs (houseOf p)).liveSide = some (sideOf p)) (hq : (r.st.rd p).queue = [])
    (hf : r.st.fireFrameCues (houseOf p) = r.st) (hcount : r.countedFallback (houseOf p) = r) :
    r.showPulse (houseOf p) p = r.tailTest (houseOf p) := by
  have hlive := State.liveProj_side hside
  unfold Rule.showPulse
  rw [if_pos ⟨hst, hlive⟩, Rule.takeCues_nothing r hlive hq]
  have hsame : r.upd (fun s => s.fireFrameCues (houseOf p)) = r := by
    obtain ⟨s, l, t⟩ := r
    exact congrArg (fun s => (⟨s, l, t⟩ : Rule)) hf
  rw [hsame, hcount]

/-- R110: an entry with no expected frames offers nothing. -/
theorem Rule.countedFallback_frameless (r : Rule) (h : HouseId) {e : ReelEntry} (he : r.st.liveEntry h = some e)
    (hm : e.motorFrame = none) (hc : e.changeFrame = none) : r.countedFallback h = r := by
  refine Rule.countedFallback_nothing r h fun q w _ hw => ?_
  obtain rfl := Option.some.inj (he.symm.trans hw)
  simp [State.counterPasses, hm, hc]

/-- R5: a counted pulse of the live projector of a SHOWING house, none of whose projectors retires. -/
theorem Rule.housePulse_showing (r : Rule) (p : Proj) (hst : (r.st.hs (houseOf p)).state = .showing)
    (hr : (r.st.hs (houseOf p)).retiring.map (fun y => y.projector) ≠ some p) : r.housePulse p =
      ((r.showPulse (houseOf p) p).pictureTest (houseOf p)).crossingTest (houseOf p) := by
  have hlive : r.countLivePulse (houseOf p) p = r := by simp [Rule.countLivePulse, hst]
  unfold Rule.housePulse
  dsimp only
  rw [hlive, Rule.countRetirePulse_other r _ p hr]

/-- R100: the end sequence of an OPEN douser, for an entry without light cues and a house without a changeover record. -/
theorem Rule.endSequence_opened (r : Rule) (p : Proj) {e : ReelEntry}
    (hside : (r.st.hs (houseOf p)).liveSide = some (sideOf p)) (hd : r.st.distinctReels (houseOf p))
    (hhome : (r.st.tr p).armed.map (fun a => a.house) = some (houseOf p)) (hheld : r.st.heldEntry p = some e) (hcues : e.cues = [])
    (hc : (r.st.hs (houseOf p)).change = none) (hds : (r.st.ds p).state = .opened) :
    r.endSequence (houseOf p) = r.upd (fun s => (s.setDs p ((r.st.ds p).closingFrom true r.st.now)).setHs (houseOf p)
      { r.st.hs (houseOf p) with state := .ending, dark := false, ending := some ⟨.dousing, 0⟩ }) := by
  obtain ⟨x, -, -, -, hfind⟩ := State.heldEntry_home hhome hheld
  have hdrop : r.dropChange (houseOf p) = r := by rw [Rule.dropChange, hc]
  have hfire : (r.st.setDs p ((r.st.ds p).closingFrom true r.st.now)).fireCues (houseOf p) e.reel isEnding =
      r.st.setDs p ((r.st.ds p).closingFrom true r.st.now) := State.fireCues_idle hd hfind (by simp [hcues])
  unfold Rule.endSequence
  rw [State.liveProj_side hside, State.liveEntry_side hside hheld]
  dsimp only
  rw [hdrop]
  simp only [Rule.upd, State.closeCommand_opened hds, hfire]
  rw [if_neg (by simp [State.modHs, Douser.closingFrom])]
  rfl

/-- R122: the runout of an OPEN douser, for an entry without light cues and a house without a changeover record. -/
theorem Rule.runout_opened (s : State) (l : List Signal) (tie : Bool) (p : Proj) {e : ReelEntry}
    (hside : (s.hs (houseOf p)).liveSide = some (sideOf p)) (hd : s.distinctReels (houseOf p))
    (hhome : (s.tr p).armed.map (fun a => a.house) = some (houseOf p)) (hheld : s.heldEntry p = some e) (hcues : e.cues = [])
    (hc : (s.hs (houseOf p)).change = none) (hds : (s.ds p).state = .opened) :
    ∃ k, Rule.runout ⟨s, l, tie⟩ (houseOf p) = ⟨(((s.setDs p ((s.ds p).closingFrom true s.now)).setHs (houseOf p)
      { s.hs (houseOf p) with
        state := .hold
        holdReason := some .runout
        dark := false
        gate := .none
        runoutCount := some 0
        plan := (s.hs (houseOf p)).plan.map (fun w => if w.reel = e.reel then { w with status := .interrupted } else w) }).setLt
          (houseOf p) ((s.lt (houseOf p)).giveProgram s.now (s.hs (houseOf p)).levels.runout 30 .runout)).setLink k, l, tie⟩ := by
  obtain ⟨x, -, -, -, hfind⟩ := State.heldEntry_home hhome hheld
  let v := (s.setDs p ((s.ds p).closingFrom true s.now)).selectNone (houseOf p)
  have hdrop : (⟨v, l, tie⟩ : Rule).runoutDrop (houseOf p) = ⟨v, l, tie⟩ := by
    unfold Rule.runoutDrop
    have hvc : (v.hs (houseOf p)).change = none := by
      simp only [v, State.selectNone, State.setHs_hs, if_true]
      exact hc
    rw [hvc]
  let w := v.setStatus (houseOf p) e.reel .interrupted
  have hwhs : w.hs (houseOf p) = { s.hs (houseOf p) with
      gate := .none
      plan := mapReel (s.hs (houseOf p)).plan e.reel (fun w => { w with status := .interrupted }) } := by
    simp [w, v, State.setStatus, State.modReel, State.selectNone]
  have hfire : w.fireCues (houseOf p) e.reel isEnding = w := by
    have hwfind : findReel (w.hs (houseOf p)).plan e.reel = some { e with status := .interrupted } := by
      rw [hwhs]
      have hm := findReel_mapReel (s.hs (houseOf p)).plan e.reel e.reel (fun w => { w with status := .interrupted }) fun _ => rfl
      rw [hfind] at hm
      exact hm.trans (by simp)
    refine State.fireCues_idle (e := { e with status := .interrupted }) ?_ hwfind (by simp [hcues])
    rw [State.distinctReels, hwhs]
    exact (mapReel_reels (s.hs (houseOf p)).plan e.reel (fun w => { w with status := .interrupted }) fun _ => rfl) ▸ hd
  unfold Rule.runout
  dsimp only
  rw [State.liveProj_side hside, State.liveEntry_side hside hheld]
  dsimp only
  have hfirst : Rule.upd ⟨s, l, tie⟩ (fun s => (s.closeCommand p).selectNone (houseOf p)) = ⟨v, l, tie⟩ := by
    simp only [Rule.upd, State.closeCommand_opened hds]
    rfl
  rw [hfirst, hdrop]
  simp only [Rule.upd]
  rw [show (v.setStatus (houseOf p) e.reel .interrupted).fireCues (houseOf p) e.reel isEnding = w from hfire]
  refine ⟨s.link.enqueue (houseNumber (houseOf p)) (.runout e.reel (s.tr p).counter none), ?_⟩
  have hwst : w = (s.setDs p ((s.ds p).closingFrom true s.now)).setHs (houseOf p) (w.hs (houseOf p)) := by
    simp [w, v, State.setStatus, State.modReel, State.selectNone]
  have hswap (a : State) (x y : House) (z : Light) : ((a.setHs (houseOf p) x).setLt (houseOf p) z).setHs (houseOf p) y =
      (a.setHs (houseOf p) y).setLt (houseOf p) z := by
    simp [State.setHs, State.setLt]
  have hphase : (s.hs (houseOf p)).change.map (fun c => c.phase) = none := by rw [hc]; rfl
  rw [hphase, hwst, State.modHs, State.programTarget, State.setLt_hs, State.setHs_hs, if_pos rfl, hswap, hwhs]
  rfl

/-- A rule at whose end a house that looks at nothing is told of readiness. -/
theorem Rule.finish_readiness (t : State) (l : List Signal) {h : HouseId} (hlen : l.length ≤ 2) (hl : ∀ y ∈ l, y = .readiness h)
    (hs : (t.hs h).state ≠ .starting) (hc : (t.hs h).change = none) : Rule.finish ⟨t, l, false⟩ = .next t := by
  refine Rule.finish_settled (Rule.settle_unheeded settleBound t l false (hlen.trans (by decide)) fun y hy l' => ?_) nofun
  rw [hl y hy]
  exact Rule.look_idle ⟨t, l', false⟩ hs hc

/-- R100, R122: the test of the live reel at its tail. -/
theorem Rule.tailTest_due (r : Rule) (p : Proj) {e : ReelEntry} (hst : (r.st.hs (houseOf p)).state = .showing)
    (hside : (r.st.hs (houseOf p)).liveSide = some (sideOf p)) (hheld : r.st.heldEntry p = some e)
    (htail : e.leader + e.picture ≤ (r.st.tr p).counter) (hc : (r.st.hs (houseOf p)).change = none) :
    r.tailTest (houseOf p) = if e.last = true then r.endSequence (houseOf p) else r.runout (houseOf p) := by
  have hat : r.st.atTail p = true := by
    rw [State.atTail, hheld]
    exact decide_eq_true htail
  unfold Rule.tailTest
  rw [State.liveProj_side hside, State.liveEntry_side hside hheld]
  dsimp only
  rw [if_pos ⟨hst, hat⟩, hc]
  simp

/-- R100, R122: the live frame counter reaches the tail. -/
theorem exec_tachPulse_tail (s : State) (dt : Nat) (p : Proj) (reading : Byte) (u : Instant) (e : ReelEntry)
    (hst : (s.hs (houseOf p)).state = .showing) (hside : (s.hs (houseOf p)).liveSide = some (sideOf p))
    (hc : (s.hs (houseOf p)).change = none) (hr : (s.hs (houseOf p)).retiring = none) (hrun : (s.tr p).state = .running)
    (hu : (s.tr p).lastPulse = some u) (hhome : (s.tr p).armed.map (fun a => a.house) = some (houseOf p))
    (hw : (s.rd p).state = .watch) (hq : (s.rd p).queue = []) (hlow : reading.toNat < (s.rd p).threshold)
    (hheld : s.heldEntry p = some e) (hcues : e.cues = []) (hm : e.motorFrame = none) (hch : e.changeFrame = none)
    (htail : (s.tr p).counter + 1 = e.leader + e.picture) (hmax : (s.tr p).counter < 65535) (hds : (s.ds p).state = .opened)
    (hd : s.distinctReels (houseOf p)) :
    ∃ w k x z, exec (.tachPulse dt p reading) s = .next ((((w.setDs p ((s.ds p).closingFrom true (s.now + dt))).setHs (houseOf p) x).setLt
        (houseOf p) z).setLink k) ∧ (s.elapse dt).Pulsed w p ∧
      (e.last = true → x = { s.hs (houseOf p) with state := .ending, dark := false, ending := some ⟨.dousing, 0⟩ } ∧
        z = s.lt (houseOf p)) ∧
      (e.last = false → x = { s.hs (houseOf p) with
          state := .hold
          holdReason := some .runout
          dark := false
          gate := .none
          runoutCount := some 0
          plan := (s.hs (houseOf p)).plan.map (fun w => if w.reel = e.reel then { w with status := .interrupted } else w) } ∧
        z.programTarget = (s.hs (houseOf p)).levels.runout ∧ z.programFade = 30) := by
  obtain ⟨w, l, hpulse, a, hlen, -, hl⟩ := Rule.pulse_low (s.elapse dt) p reading.toNat hu (.inl hrun) (.inl hw) hlow
  have hl := hl hrun
  have ahs := a.hs (houseOf p)
  have hcount : (w.tr p).counter = e.leader + e.picture := by
    rw [a.counter, ← htail]
    exact Nat.min_eq_right hmax
  have wst : (w.hs (houseOf p)).state = .showing := ahs ▸ hst
  have wside : (w.hs (houseOf p)).liveSide = some (sideOf p) := ahs ▸ hside
  have wc : (w.hs (houseOf p)).change = none := ahs ▸ hc
  have wr : (w.hs (houseOf p)).retiring.map (fun y => y.projector) ≠ some p := by
    rw [ahs]
    exact fun h => by
      rw [show ((s.elapse dt).hs (houseOf p)).retiring = none from hr] at h
      cases h
  have wd : w.distinctReels (houseOf p) := by
    rw [State.distinctReels, ahs]
    exact hd
  have whome : (w.tr p).armed.map (fun a => a.house) = some (houseOf p) := by
    rw [a.armed]
    exact hhome
  have wheld : w.heldEntry p = some e := (a.heldEntry p).trans hheld
  have wds : w.ds p = s.ds p := a.ds p
  have wopened : (w.ds p).state = .opened := wds ▸ hds
  have wnow : w.now = s.now + dt := a.now
  have htest : Rule.showPulse ⟨w, l, false⟩ (houseOf p) p =
      if e.last = true then Rule.endSequence ⟨w, l, false⟩ (houseOf p) else Rule.runout ⟨w, l, false⟩ (houseOf p) := by
    rw [Rule.showPulse_tailTest ⟨w, l, false⟩ p wst wside ((a.queue p).trans hq)
      (State.fireFrameCues_idle wside wd whome wheld (by simp [hcues]))
      (Rule.countedFallback_frameless _ _ (State.liveEntry_side wside wheld) hm hch)]
    exact Rule.tailTest_due ⟨w, l, false⟩ p wst wside wheld hcount.ge wc
  have hend (t : State) (hshown : Rule.showPulse ⟨w, l, false⟩ (houseOf p) p = ⟨t, l, false⟩)
      (ht : (t.hs (houseOf p)).state ≠ .starting) (htc : (t.hs (houseOf p)).change = none) :
      exec (.tachPulse dt p reading) s = .next t := by
    have hhouse : Rule.housePulse ⟨w, l, false⟩ p = ⟨t, l, false⟩ := by
      rw [Rule.housePulse_showing ⟨w, l, false⟩ p wst wr, hshown, Rule.pictureTest_idle ⟨t, l, false⟩ ht,
        Rule.crossingTest_idle ⟨t, l, false⟩ htc]
    exact (congrArg Rule.finish (hpulse.trans hhouse)).trans (Rule.finish_readiness t l hlen hl ht htc)
  cases hlast : e.last with
  | true =>
    rw [if_pos hlast, Rule.endSequence_opened ⟨w, l, false⟩ p wside wd whome wheld hcues wc wopened] at htest
    let x := { s.hs (houseOf p) with state := .ending, dark := false, ending := some ⟨.dousing, 0⟩ }
    have hsame : (((w.setDs p ((s.ds p).closingFrom true (s.now + dt))).setHs (houseOf p) x).setLt (houseOf p)
        (s.lt (houseOf p))).setLink w.link = (w.setDs p ((w.ds p).closingFrom true w.now)).setHs (houseOf p)
        { w.hs (houseOf p) with state := .ending, dark := false, ending := some ⟨.dousing, 0⟩ } := by
      have hlt : s.lt (houseOf p) = ((w.setDs p ((s.ds p).closingFrom true (s.now + dt))).setHs (houseOf p) x).lt (houseOf p) :=
        (a.lt (houseOf p)).symm
      rw [hlt, State.setLt_self, wds, wnow, ahs]
      rfl
    refine ⟨w, w.link, x, s.lt (houseOf p), ?_, a, fun _ => ⟨rfl, rfl⟩, nofun⟩
    rw [hsame]
    refine hend _ htest ?_ ?_
    · rw [State.setHs_hs, if_pos rfl]
      nofun
    · rw [State.setHs_hs, if_pos rfl]
      exact wc
  | false =>
    obtain ⟨k, hk⟩ := Rule.runout_opened w l false p wside wd whome wheld hcues wc wopened
    rw [if_neg (by simp [hlast]), hk, wds, wnow, ahs] at htest
    obtain ⟨ht, hf⟩ := (w.lt (houseOf p)).giveProgram_program (s.now + dt) (s.hs (houseOf p)).levels.runout 30 .runout
    refine ⟨w, k, _, _, hend _ htest ?_ ?_, a, nofun, fun _ => ⟨rfl, ht, hf⟩⟩
    · rw [State.setLink_hs, State.setLt_hs, State.setHs_hs, if_pos rfl]
      nofun
    · rw [State.setLink_hs, State.setLt_hs, State.setHs_hs, if_pos rfl]
      exact hc

end Sys2Proof.Machine
end

section
/-! PROOFS. The end sequence to its completion, and the motor stop of a runout. -/

namespace Sys2Proof.Machine

/-! ## A projector that stops with its douser shut -/

/-- R22, R38, R50, R122: the live projector leaves RUNNING with its douser shut and the sound gate on its side or NONE. -/
theorem State.leaveRunning_liveShut (s : State) (p : Proj) (hd : ¬ (s.ds p).agape)
    (hside : (s.hs (houseOf p)).liveSide = some (sideOf p))
    (hg : (s.hs (houseOf p)).gate = .side (sideOf p) ∨ (s.hs (houseOf p)).gate = .none) :
    s.leaveRunning p = s.setHs (houseOf p) { s.hs (houseOf p) with gate := .none, runoutCount := none } := by
  rw [State.leaveRunning_eq, s.gatingWatch_shut p hd, if_pos (State.liveProj_side hside)]
  rcases hg with hg | hg <;> rw [hg] <;> simp

/-- R4, R22: a motor stop of a RUNNING projector whose reader assembles no group. -/
theorem Rule.motorStop_unassembling (s : State) (l : List Signal) (t : Bool) (p : Proj) (hs : (s.tr p).state = .running)
    (ha : (s.rd p).assembling = false) : Rule.motorStop ⟨s, l, t⟩ p =
      ⟨(((s.setTr p ((s.tr p).stoppedAt s.now)).setRd p { s.rd p with state := .off })).leaveRunning p,
        l ++ [.transport p .stopping], t⟩ := by
  rcases Rule.motorStop_cases ⟨s, l, t⟩ p with ⟨hst, -⟩ | ⟨-, hr⟩ | ⟨hd, -⟩
  · rw [hs] at hst
    cases hst
  · rw [hr, Rule.motorCut, Rule.readerStops_idle _ p ha]
    rfl
  · exact absurd (.inr hs) hd

/-- R12, R22: a break of a RUNNING projector whose reader assembles no group. -/
theorem Rule.filmBreaks_unassembling (s : State) (p : Proj) (u : Instant) (hst : (s.tr p).state = .running)
    (hu : (s.tr p).lastPulse = some u) (ht : 25000 ≤ (s.now - u) * s.speedOf p) (ha : (s.rd p).assembling = false) :
    Rule.filmBreaks ⟨s, [], false⟩ p = ⟨((((s.setTr p { s.tr p with
      state := .broken, miss := .normal, lockCount := 0 }).reportProj p (.filmBreak (s.tr p).counter)).setRd p
        { s.rd p with state := .off })).leaveRunning p, [.transport p .broken], false⟩ := by
  rw [Rule.filmBreaks_eq s p u hst hu ht, Rule.readerStops_idle _ p ha]
  rfl

/-! ## What the house sees of it -/

section
variable (r : Rule) (p : Proj) (hr : (r.st.hs (houseOf p)).retiring.map (fun y => y.projector) ≠ some p)
  (hn : r.st.noDouserCause p) (hs : (r.st.hs (houseOf p)).state ≠ .starting) (hc : (r.st.hs (houseOf p)).change = none)
include hr hn hs hc

/-- R118, R151: a projector that becomes STOPPING, in a house that makes nothing of it. -/
theorem Rule.sees_stopping_idle : r.sees (.transport p .stopping) = r := by
  change ((r.retireSees (houseOf p) p .stopping).douserCause p).look (houseOf p) = r
  rw [r.retireSees_other _ p _ hr, r.douserCause_none p (.inl hn), r.look_idle hs hc]

end

/-- R101, R118, R151: what is left to see of a projector that has become STOPPED or BROKEN once its house has done with it. -/
theorem Rule.seen_idle (r : Rule) (p : Proj) (x : TransportState)
    (hr : (r.st.hs (houseOf p)).retiring.map (fun y => y.projector) ≠ some p)
    (hn : r.st.noDouserCause p) (hs : (r.st.hs (houseOf p)).state ≠ .starting) (hc : (r.st.hs (houseOf p)).change = none) :
    ((r.retireSees (houseOf p) p x).douserCause p).look (houseOf p) = r := by
  rw [r.retireSees_other _ p _ hr, r.douserCause_none p (.inl hn), r.look_idle hs hc]

/-! ## DOUSING (R101) -/

theorem State.endDouserSees_dousing {s : State} {p : Proj} {n : Nat} (hst : (s.hs (houseOf p)).state = .ending)
    (hside : (s.hs (houseOf p)).liveSide = some (sideOf p)) (he : (s.hs (houseOf p)).ending = some ⟨.dousing, n⟩) :
    s.endDouserSees p = s.setHs (houseOf p) { s.hs (houseOf p) with gate := .none, ending := some ⟨.runOut, n⟩ } := by
  unfold State.endDouserSees
  rw [if_pos ⟨hst, State.liveProj_side hside⟩, State.endDoused, he]
  simp [State.selectNone, State.modHs]

/-- R101: the live douser of an ENDING house has reached its closed switch. -/
theorem exec_douserSwitchCloses_dousing (s : State) (dt : Nat) (p : Proj) (n : Nat)
    (hst : (s.hs (houseOf p)).state = .ending) (hside : (s.hs (houseOf p)).liveSide = some (sideOf p))
    (he : (s.hs (houseOf p)).ending = some ⟨.dousing, n⟩) (hc : (s.hs (houseOf p)).change = none)
    (ht : (s.ds p).trial = none) (hds : (s.ds p).state = .closing) :
    exec (.douserSwitchCloses dt p .closedEnd) s = .next (((s.elapse dt).setDs p
      ((s.ds p).ended .closedEnd (s.now + dt) .closed)).setHs (houseOf p)
        { s.hs (houseOf p) with gate := .none, ending := some ⟨.runOut, n⟩ }) := by
  let v := (s.elapse dt).setDs p ((s.ds p).ended .closedEnd (s.now + dt) .closed)
  let t := v.setHs (houseOf p) { s.hs (houseOf p) with gate := .none, ending := some ⟨.runOut, n⟩ }
  have htrial : v.trialTravelEnds p = v := State.trialTravelEnds_untried (by
    change (((s.elapse dt).setDs p _).ds p).trial = none
    rw [State.setDs_ds, if_pos rfl]
    exact (Douser.ended_trial ..).trans ht)
  have hrule : Rule.switchCloses ⟨s.elapse dt, [], false⟩ p .closedEnd = ⟨v, [.douser p .closed], false⟩ :=
    (Rule.switchCloses_closing (s.elapse dt) p hds).trans
      (congrArg (fun s => (⟨s, [.douser p .closed], false⟩ : Rule)) htrial)
  have hsees : Rule.sees ⟨v, [], false⟩ (.douser p .closed) = ⟨t, [], false⟩ := by
    change ((⟨v, [], false⟩ : Rule).upd (fun s => s.endDouserSees p)).look (houseOf p) = _
    have hup : (⟨v, [], false⟩ : Rule).upd (fun s => s.endDouserSees p) = ⟨t, [], false⟩ :=
      congrArg (fun s => (⟨s, [], false⟩ : Rule)) (State.endDouserSees_dousing (s := v) hst hside he)
    rw [hup, Rule.look_idle]
    · rw [State.setHs_hs, if_pos rfl]
      simp [hst]
    · rw [State.setHs_hs, if_pos rfl]
      exact hc
  refine (congrArg Rule.finish hrule).trans (Rule.finish_settled (t := false) ?_ nofun)
  rw [show settleBound = 511 + 1 from rfl, Rule.settle_cons, hsees]
  exact Rule.settle_nil ..

/-- R101: the live douser of an ENDING house has stuck on its way. -/
theorem exec_travelLimit_dousing (s : State) (dt : Nat) (p : Proj) (n : Nat) (x : Travel)
    (hst : (s.hs (houseOf p)).state = .ending) (hside : (s.hs (houseOf p)).liveSide = some (sideOf p))
    (he : (s.hs (houseOf p)).ending = some ⟨.dousing, n⟩) (hc : (s.hs (houseOf p)).change = none)
    (ht : (s.ds p).trial = none) (hds : (s.ds p).state = .closing) (hx : (s.ds p).travel = some x)
    (hrun : (s.tr p).state = .running) (hlim : x.start + 10 * x.limit ≤ s.now + dt) :
    exec (.travelLimit dt p) s = .next ((((s.elapse dt).setDs p { s.ds p with state := .stuck, travel := none }).reportProj p
      (.douserStuck (match x.dir with | .opens => .opening | .closes => .closing) x.limit ((x.limit - 100) / 2))).setHs (houseOf p)
        { s.hs (houseOf p) with gate := .none, ending := some ⟨.runOut, n⟩ }) := by
  have hr := Rule.travelExpires_due (s.elapse dt) p hx (.inr hds) hlim
  let v := ((s.elapse dt).setDs p { s.ds p with state := .stuck, travel := none }).reportProj p
    (.douserStuck (match x.dir with | .opens => .opening | .closes => .closing) x.limit ((x.limit - 100) / 2))
  have htrial : v.trialSticks p = v := State.trialSticks_untried (by
    change (((s.elapse dt).setDs p _).ds p).trial = none
    rw [State.setDs_ds, if_pos rfl]
    exact ht)
  let t := v.setHs (houseOf p) { s.hs (houseOf p) with gate := .none, ending := some ⟨.runOut, n⟩ }
  have hrule : Rule.travelExpires ⟨s.elapse dt, [], false⟩ p = ⟨v, [.douser p .stuck], false⟩ := hr.trans
    (congrArg (fun s => (⟨s, [.douser p .stuck], false⟩ : Rule)) htrial)
  have hfail : (⟨v, [], false⟩ : Rule).failure p .stuck = ⟨v, [], false⟩ := by
    unfold Rule.failure
    dsimp only
    rw [show (v.hs (houseOf p)).state = .ending from hst]
    exact if_neg fun h => nomatch h.2
  have hsees : Rule.sees ⟨v, [], false⟩ (.douser p .stuck) = ⟨t, [], false⟩ := by
    change ((((⟨v, [], false⟩ : Rule).failure p .stuck).upd (fun s => s.endDouserSees p)).douserCause p).look (houseOf p) = _
    have hup : (⟨v, [], false⟩ : Rule).upd (fun s => s.endDouserSees p) = ⟨t, [], false⟩ :=
      congrArg (fun s => (⟨s, [], false⟩ : Rule)) (State.endDouserSees_dousing (s := v) hst hside he)
    rw [hfail, hup, Rule.douserCause_none ⟨t, [], false⟩ p (.inr hrun), Rule.look_idle]
    · rw [State.setHs_hs, if_pos rfl]
      simp [hst]
    · rw [State.setHs_hs, if_pos rfl]
      exact hc
  refine (congrArg Rule.finish hrule).trans (Rule.finish_settled (t := false) ?_ nofun)
  rw [show settleBound = 511 + 1 from rfl, Rule.settle_cons, hsees]
  exact Rule.settle_nil ..

end Sys2Proof.Machine
end

section
/-! PROOFS. The end sequence counted to its completion, and the count of a runout. -/

namespace Sys2Proof.Machine

/-! ## The counted pulses of RUN-OUT and of a runout -/

/-- R101, R122: what the live projector of a house does at the counted pulse of a run-out whose count stands at `n`: the count
rises, the house becoming `x`, or at the forty-eighth pulse the house becomes `y` and the motor is stopped. -/
def Rule.RunsOut (r : Rule) (p : Proj) (n : Nat) (x y : House) : Prop :=
  r.countLivePulse (houseOf p) p = if n < 47 then r.upd (fun s => s.setHs (houseOf p) x)
    else (r.upd (fun s => s.setHs (houseOf p) y)).motorStop p

theorem Rule.runsOut_ending (r : Rule) (p : Proj) (n : Nat) (hst : (r.st.hs (houseOf p)).state = .ending)
    (hside : (r.st.hs (houseOf p)).liveSide = some (sideOf p)) (he : (r.st.hs (houseOf p)).ending = some ⟨.runOut, n⟩) :
    r.RunsOut p n { r.st.hs (houseOf p) with ending := some ⟨.runOut, n + 1⟩ }
      { r.st.hs (houseOf p) with ending := some ⟨.stopping, 48⟩ } := by
  rw [Rule.RunsOut, Rule.countLivePulse, if_pos (State.liveProj_side hside), hst]
  dsimp only
  rw [Rule.countEndPulse, he]
  dsimp only
  by_cases hn : n < 47
  · rw [if_pos hn, if_pos (by omega)]
    rfl
  · rw [if_neg hn, if_neg (by omega)]
    rfl

theorem Rule.runsOut_hold (r : Rule) (p : Proj) (n : Nat) (hst : (r.st.hs (houseOf p)).state = .hold)
    (hside : (r.st.hs (houseOf p)).liveSide = some (sideOf p)) (hn : (r.st.hs (houseOf p)).runoutCount = some n) :
    r.RunsOut p n { r.st.hs (houseOf p) with runoutCount := some (n + 1) } { r.st.hs (houseOf p) with runoutCount := none } := by
  rw [Rule.RunsOut, Rule.countLivePulse, if_pos (State.liveProj_side hside), hst, hn]
  dsimp only
  rw [Rule.countRunoutPulse]
  by_cases hn : n < 47
  · rw [if_pos hn, if_pos (by omega)]
    rfl
  · rw [if_neg hn, if_neg (by omega)]
    rfl

/-- What holds of house `x` while its live projector runs out, and what it has kept of house `y`. -/
structure House.RunningOut (x y : House) (p : Proj) : Prop where
  showing : x.state ≠ .showing
  starting : x.state ≠ .starting
  change : x.change = none
  liveSide : x.liveSide = some (sideOf p)
  notRetiring : x.retiring.map (fun y => y.projector) ≠ some p
  gate : x.gate = .side (sideOf p) ∨ x.gate = .none
  retiring : x.retiring = y.retiring
  plan : x.plan = y.plan
  speed : x.speed = y.speed

/-- R80: what a judgement depends on. -/
theorem State.sufficiencyOf_of {s t : State} {p : Proj} (ha : (t.tr p).armed = (s.tr p).armed)
    (hc : (t.tr p).counter = (s.tr p).counter) (hl : (t.lp p).rate = (s.lp p).rate ∧ (t.lp p).account = (s.lp p).account)
    (hh : ∀ g, (t.hs g).plan = (s.hs g).plan ∧ (t.hs g).speed = (s.hs g).speed) : t.sufficiencyOf p = s.sufficiencyOf p := by
  have hheld : t.heldEntry p = s.heldEntry p := by
    simp only [State.heldEntry, ha, hh]
  simp only [State.sufficiencyOf, hheld, hc, hl, State.speedOf, hh]
  rfl

section
variable (s : State) (l : List Signal) (p : Proj) (x : House) (hx : x.RunningOut (s.hs (houseOf p)) p)
include hx

theorem Rule.housePulse_runsOut {r : Rule} (hcount : Rule.countLivePulse ⟨s, l, false⟩ (houseOf p) p = r)
    (hr : r.st.hs (houseOf p) = x ∨ r.st.hs (houseOf p) = { x with gate := .none, runoutCount := none }) :
    Rule.housePulse ⟨s, l, false⟩ p = r := by
  have hkeep : (r.st.hs (houseOf p)).retiring = x.retiring ∧ (r.st.hs (houseOf p)).state = x.state ∧
      (r.st.hs (houseOf p)).change = x.change := by
    rcases hr with hr | hr <;> rw [hr] <;> exact ⟨rfl, rfl, rfl⟩
  obtain ⟨hret, hst, hc⟩ := hkeep
  exact Rule.housePulse_count ⟨s, l, false⟩ p (hx.retiring ▸ hx.notRetiring) hcount (hret.trans hx.retiring)
    (hst ▸ hx.showing) (hst ▸ hx.starting) (hc.trans hx.change)

section
variable (hlen : l.length ≤ 2) (hl : ∀ y ∈ l, y = .readiness (houseOf p))
include hlen hl

/-- A pulse of the run-out that is counted and no more. -/
theorem Rule.finish_runsOut_counts (hcount : Rule.countLivePulse ⟨s, l, false⟩ (houseOf p) p = ⟨s.setHs (houseOf p) x, l, false⟩) :
    (Rule.housePulse ⟨s, l, false⟩ p).finish = .next (s.setHs (houseOf p) x) := by
  have hhs : (s.setHs (houseOf p) x).hs (houseOf p) = x := by rw [State.setHs_hs, if_pos rfl]
  rw [Rule.housePulse_runsOut s l p x hx hcount (.inl hhs)]
  refine Rule.finish_readiness _ l hlen hl ?_ ?_
  · rw [hhs]
    exact hx.starting
  · rw [hhs]
    exact hx.change

/-- The forty-eighth pulse of the run-out, which stops the motor. -/
theorem Rule.finish_runsOut_stops (hcount : Rule.countLivePulse ⟨s, l, false⟩ (houseOf p) p =
      Rule.motorStop ⟨s.setHs (houseOf p) x, l, false⟩ p) (hrun : (s.tr p).state = .running)
    (ha : (s.rd p).assembling = false) (hd : ¬ (s.ds p).agape) (hn : s.noDouserCause p) :
    (Rule.housePulse ⟨s, l, false⟩ p).finish = .next ((((s.setTr p ((s.tr p).stoppedAt s.now)).setRd p
      { s.rd p with state := .off })).setHs (houseOf p) { x with gate := .none, runoutCount := none }) := by
  let v := ((s.setHs (houseOf p) x).setTr p ((s.tr p).stoppedAt s.now)).setRd p { s.rd p with state := .off }
  have hvhs : v.hs (houseOf p) = x := (State.setHs_hs ..).trans (if_pos rfl)
  let t := v.setHs (houseOf p) { x with gate := .none, runoutCount := none }
  have hths : t.hs (houseOf p) = { x with gate := .none, runoutCount := none } := (State.setHs_hs ..).trans (if_pos rfl)
  have hleave : v.leaveRunning p = t := by
    rw [State.leaveRunning_liveShut v p hd (hvhs ▸ hx.liveSide) (hvhs ▸ hx.gate), hvhs]
  have hstop : Rule.motorStop ⟨s.setHs (houseOf p) x, l, false⟩ p = ⟨t, l ++ [.transport p .stopping], false⟩ :=
    (Rule.motorStop_unassembling (s.setHs (houseOf p) x) l false p hrun ha).trans
      (congrArg (fun u : State => (⟨u, l ++ [Signal.transport p .stopping], false⟩ : Rule)) hleave)
  have hsame : t = ((s.setTr p ((s.tr p).stoppedAt s.now)).setRd p { s.rd p with state := .off }).setHs (houseOf p)
      { x with gate := .none, runoutCount := none } := by
    simp [t, v, State.setHs, State.setTr, State.setRd]
  have htst : (t.hs (houseOf p)).state ≠ .starting := hths ▸ hx.starting
  have htc : (t.hs (houseOf p)).change = none := hths ▸ hx.change
  have hsees (y : Signal) (hy : y ∈ l ++ [.transport p .stopping]) (l' : List Signal) :
      Rule.sees ⟨t, l', false⟩ y = ⟨t, l', false⟩ := by
    rcases List.mem_append.1 hy with hy | hy
    · rw [hl y hy]
      exact Rule.look_idle ⟨t, l', false⟩ htst htc
    · rw [List.mem_singleton.1 hy]
      exact Rule.sees_stopping_idle ⟨t, l', false⟩ p (hths ▸ hx.notRetiring) hn htst htc
  rw [Rule.housePulse_runsOut s l p x hx (hcount.trans hstop) (.inr hths), ← hsame]
  refine Rule.finish_settled (Rule.settle_unheeded settleBound t _ false ?_ hsees) nofun
  rw [List.length_append]
  exact (Nat.add_le_add_right hlen 1).trans (by decide)

end
end

/-- R101, R122: a counted pulse of the run-out of a live projector. -/
theorem exec_tachPulse_runsOut (s : State) (dt : Nat) (p : Proj) (n : Nat) (reading : Byte) (u : Instant) (x y z : House)
    (hu : (s.tr p).lastPulse = some u) (hrun : (s.tr p).state = .running) (hw : (s.rd p).state = .watch)
    (hlow : reading.toNat < (s.rd p).threshold) (hd : ¬ (s.ds p).agape)
    (hout : ∀ r : Rule, r.st.hs (houseOf p) = s.hs (houseOf p) → r.RunsOut p n x y)
    (hx : x.RunningOut (s.hs (houseOf p)) p) (hy : y.RunningOut (s.hs (houseOf p)) p) (hz : { y with gate := .none, runoutCount := none } = z) :
    ∃ t, exec (.tachPulse dt p reading) s = .next t ∧
      (n < 47 → t.hs (houseOf p) = x ∧ (t.tr p).state = .running ∧ t.rd p = s.rd p) ∧
      (n = 47 → s.noDouserCause p → t.hs (houseOf p) = z ∧ (t.tr p).state = .stopping ∧
        (t.tr p).stoppingSince = some (s.now + dt) ∧ t.rd p = { s.rd p with state := .off }) ∧
      (n ≤ 47 → s.noDouserCause p → (t.tr p).counter = min 65535 ((s.tr p).counter + 1) ∧ (t.tr p).armed = (s.tr p).armed ∧
        t.lp p = { s.lp p with sufficiency := t.sufficiencyOf p } ∧
        (∀ q, q ≠ p → t.tr q = s.tr q ∧ t.rd q = s.rd q ∧ t.lp q = s.lp q) ∧ (∀ i, i ≠ houseOf p → t.hs i = s.hs i) ∧
        t.dousers = s.dousers ∧ t.lights = s.lights ∧ t.ports = s.ports ∧ t.booth = s.booth) := by
  obtain ⟨w, l, hpulse, a, hlen, -, hl⟩ := Rule.pulse_low (s.elapse dt) p reading.toNat hu (.inl hrun) (.inl hw) hlow
  have hl := hl hrun
  have hcount := hout ⟨w, l, false⟩ (a.hs _)
  have hexec : exec (.tachPulse dt p reading) s = (Rule.housePulse ⟨w, l, false⟩ p).finish := congrArg Rule.finish hpulse
  have hrd : w.rd p = s.rd p := by
    rw [a.rd]
    exact congrArg (fun x => { s.rd p with state := x }) hw.symm
  have hwhs : w.hs (houseOf p) = s.hs (houseOf p) := a.hs _
  have hjudged (t : State) (i : House) (hi : i.plan = (s.hs (houseOf p)).plan ∧ i.speed = (s.hs (houseOf p)).speed)
      (hths : ∀ g, t.hs g = if g = houseOf p then i else w.hs g) (ha : (t.tr p).armed = (w.tr p).armed)
      (hc : (t.tr p).counter = (w.tr p).counter) (hlp : t.lp p = w.lp p) :
      t.lp p = { s.lp p with sufficiency := t.sufficiencyOf p } := by
    rw [hlp, a.lp, State.sufficiencyOf_of (s := w) (t := t) ha hc (hlp ▸ ⟨rfl, rfl⟩) fun g => ?_]
    · rfl
    · rw [hths]
      split
      next hg => rw [hg, hwhs]; exact hi
      next => exact ⟨rfl, rfl⟩
  by_cases hn : n < 47
  · rw [Rule.RunsOut, if_pos hn] at hcount
    have hfin := Rule.finish_runsOut_counts w l p x (hwhs ▸ hx) hlen hl hcount
    refine ⟨_, hexec.trans hfin, fun _ => ⟨?_, a.running, hrd⟩, fun h => absurd hn (by omega), fun _ _ => ⟨a.counter, a.armed,
      hjudged _ x ⟨hx.plan, hx.speed⟩ (fun g => State.setHs_hs ..) rfl rfl rfl,
      fun q hq => ⟨a.trs q hq, a.rds q hq, a.lps q hq⟩, fun i hi => ?_, a.dousers, a.lights, a.ports, a.booth⟩⟩
    · rw [State.setHs_hs, if_pos rfl]
    · rw [State.setHs_hs, if_neg hi]
      exact a.hs i
  · rw [Rule.RunsOut, if_neg hn] at hcount
    by_cases hcause : s.noDouserCause p
    · have hwds : w.ds p = s.ds p := a.ds p
      have hwlp : (w.lp p).state = (s.lp p).state := (congrArg Lamp.state a.lp).trans rfl
      have hfin := Rule.finish_runsOut_stops w l p y (hwhs ▸ hy) hlen hl hcount a.running
        (by rw [hrd, Reader.assembling, hw]; rfl) (hwds ▸ hd) (by rw [State.noDouserCause, hwds, hwlp]; exact hcause)
      let t := ((w.setTr p ((w.tr p).stoppedAt w.now)).setRd p { w.rd p with state := .off }).setHs (houseOf p)
        { y with gate := .none, runoutCount := none }
      have htr (q : Proj) : t.tr q = if q = p then (w.tr p).stoppedAt w.now else w.tr q := State.setTr_tr ..
      have htrd (q : Proj) : t.rd q = if q = p then { w.rd p with state := .off } else w.rd q := State.setRd_rd ..
      have hths (g : HouseId) : t.hs g = if g = houseOf p then z else w.hs g := hz ▸ State.setHs_hs ..
      have htrp : t.tr p = (w.tr p).stoppedAt w.now := (htr p).trans (if_pos rfl)
      refine ⟨t, hexec.trans hfin, fun h => absurd h hn, fun _ _ => ⟨(hths _).trans (if_pos rfl), congrArg Transport.state htrp, ?_, ?_⟩,
        fun _ _ => ⟨(congrArg Transport.counter htrp).trans a.counter, (congrArg Transport.armed htrp).trans a.armed,
        hjudged t z (hz ▸ ⟨hy.plan, hy.speed⟩) hths ((congrArg Transport.armed htrp).trans rfl)
          ((congrArg Transport.counter htrp).trans rfl) rfl,
        fun q hq => ⟨(htr q).trans ((if_neg hq).trans (a.trs q hq)), (htrd q).trans ((if_neg hq).trans (a.rds q hq)), a.lps q hq⟩,
        fun i hi => (hths i).trans ((if_neg hi).trans (a.hs i)), a.dousers, a.lights, a.ports, a.booth⟩⟩
      · exact (congrArg Transport.stoppingSince htrp).trans (congrArg some a.now)
      · rw [htrd, if_pos rfl, hrd]
    · obtain ⟨t, ht⟩ := Rule.finish_next (Rule.housePulse ⟨w, l, false⟩ p)
      exact ⟨t, hexec.trans ht, fun h => absurd h hn, fun _ h => absurd h hcause, fun _ h => absurd h hcause⟩

end Sys2Proof.Machine
end

section
/-! PROOFS. The end of a show: the run-down and the break of the last reel, and the break of a runout. -/

namespace Sys2Proof.Machine

/-! ## The live projector disarmed -/

/-- R104: the bad mark of the live projector. -/
theorem State.readerDiscards_badReported (s : State) (p : Proj) (x : ReaderState)
    (hside : (s.hs (houseOf p)).liveSide = some (sideOf p)) : (s.readerDiscards p x).hs (houseOf p) =
      { s.hs (houseOf p) with marks := { (s.hs (houseOf p)).marks with badReported := false } } := by
  have hlive : (s.setRd p { s.rd p with state := x, group := none, held := [], queue := [] }).liveProj (houseOf p) = some p :=
    State.liveProj_side hside
  unfold State.readerDiscards
  dsimp only
  rw [State.clearBadMark, if_pos hlive]
  split
  · obtain ⟨l, hl, -⟩ := State.evalBurst_eq _ p
    rw [hl, State.setLp_hs, State.setHs_hs, if_pos rfl]
    rfl
  · rw [State.setHs_hs, if_pos rfl]
    rfl

/-- R91, R104: what a disarmed live projector leaves of its house. -/
theorem Rule.disarm_live (s : State) (l : List Signal) (t : Bool) (p : Proj)
    (hside : (s.hs (houseOf p)).liveSide = some (sideOf p)) : (Rule.disarm ⟨s, l, t⟩ p).st.hs (houseOf p) =
      { s.hs (houseOf p) with
        plan := s.planGivenUp p (houseOf p)
        marks := { (s.hs (houseOf p)).marks with badReported := false } } := by
  have hst : (Rule.disarm ⟨s, l, t⟩ p).st.hs (houseOf p) = (((s.giveUpEntry p).setTr p { s.tr p with
      armed := none
      counter := 0
      state := if (s.tr p).state = .broken then .stopped else (s.tr p).state }).readerDiscards p .off).hs (houseOf p) := by
    unfold Rule.disarm
    dsimp only
    split <;> rfl
  rw [hst, State.readerDiscards_badReported]
  · rw [State.setTr_hs, s.giveUpEntry_hs]
  · rw [State.setTr_hs, s.giveUpEntry_hs]
    exact hside

theorem mapReel_mapReel (plan : List ReelEntry) (n : Nat) (f g : ReelEntry → ReelEntry) (hg : ∀ e, (f e).reel = e.reel) :
    mapReel (mapReel plan n f) n g = mapReel plan n (fun e => g (f e)) := by
  simp only [mapReel, List.map_map]
  refine List.map_congr_left fun e _ => ?_
  simp only [Function.comp_apply]
  split
  · rename_i h
    rw [if_pos ((hg e).trans h)]
  · rfl

/-! ## The end completes -/

/-- R101: the house as the end completes. -/
def House.ended (x : House) (e : ReelEntry) : House :=
  { x with
    state := .finished
    ending := none
    plan := mapReel x.plan e.reel (fun w => { w with status := .finished }) }

/-- R101: the end completes on a break. -/
theorem Rule.endCompletes_break (s : State) (l : List Signal) (p : Proj) {e : ReelEntry} (hheld : s.heldEntry p = some e) :
    Rule.endCompletes ⟨s, l, false⟩ (houseOf p) p true =
    ⟨(s.setHs (houseOf p) ((s.hs (houseOf p)).ended e)).reportHouse (houseOf p) (.showEnd e.reel (s.tr p).counter true), l, false⟩ := by
  unfold Rule.endCompletes
  dsimp only
  rw [hheld]
  simp [Rule.upd, State.setStatus, State.modReel, State.modHs, House.ended]

/-- R91, R101: the end completes with the transport STOPPED. -/
theorem Rule.endCompletes_stopped (s : State) (l : List Signal) (p : Proj) {e : ReelEntry}
    (hhome : (s.tr p).armed.map (fun a => a.house) = some (houseOf p)) (hheld : s.heldEntry p = some e)
    (hside : (s.hs (houseOf p)).liveSide = some (sideOf p)) (hst : (s.tr p).state = .stopped) :
    ∃ u, Rule.endCompletes ⟨s, l, false⟩ (houseOf p) p false =
      ⟨u.reportHouse (houseOf p) (.showEnd e.reel (s.tr p).counter false), l ++ [.readiness (houseOf p)], false⟩ ∧
      (s.setHs (houseOf p) ((s.hs (houseOf p)).ended e)).Disarmed u p ∧
      u.hs (houseOf p) = { (s.hs (houseOf p)).ended e with
        marks := { (s.hs (houseOf p)).marks with badReported := false } } ∧ ∀ i, i ≠ houseOf p → u.hs i = s.hs i := by
  obtain ⟨x, hx, hxh, hxr, -⟩ := State.heldEntry_home hhome hheld
  let v := s.setHs (houseOf p) ((s.hs (houseOf p)).ended e)
  have hvhs (g : HouseId) : v.hs g = if g = houseOf p then (s.hs (houseOf p)).ended e else s.hs g := State.setHs_hs ..
  have hvp : v.hs (houseOf p) = (s.hs (houseOf p)).ended e := (hvhs _).trans (if_pos rfl)
  have hgiven : v.planGivenUp p (houseOf p) = ((s.hs (houseOf p)).ended e).plan := by
    have harm : (v.tr p).armed = some x := hx
    rw [State.planGivenUp, harm]
    dsimp only
    rw [if_pos hxh, hvp, hxr]
    exact mapReel_mapReel _ _ _ _ fun _ => rfl
  obtain ⟨u, hdis, hu⟩ := Rule.disarm_cases v l false p
  have hlive : u.hs (houseOf p) = _ :=
    (congrArg (fun r : Rule => r.st.hs (houseOf p)) hdis).symm.trans (Rule.disarm_live v l false p (hvp ▸ hside))
  refine ⟨u, ?_, hu, ?_, fun i hi => ?_⟩
  · unfold Rule.endCompletes
    dsimp only
    rw [hheld]
    dsimp only
    have hsame : Rule.upd ⟨s, l, false⟩ (fun s => (s.setStatus (houseOf p) e.reel .finished).modHs (houseOf p) (fun x => { x with
        ending := none
        state := .finished })) = ⟨v, l, false⟩ := by
      simp [Rule.upd, State.setStatus, State.modReel, State.modHs, House.ended, v]
    rw [hsame, if_neg (by simp), hdis]
    have hvst : (v.tr p).state = .stopped := hst
    simp [hvst, Rule.upd]
  · rw [hlive, hgiven, hvp]
    rfl
  · have hplan : v.planGivenUp p i = (v.hs i).plan := by
      have harm : (v.tr p).armed = some x := hx
      rw [State.planGivenUp, harm]
      exact if_neg fun h => hi (h.symm.trans hxh)
    rw [hu.houses i hi, hplan, hvhs, if_neg hi]

/-- R101: the projector whose reel has ended runs down. -/
theorem exec_runDownExpiry_ending (s : State) (dt : Nat) (p : Proj) (e : ReelEntry) (n : Nat) (a u : Instant)
    (hst : (s.hs (houseOf p)).state = .ending) (hside : (s.hs (houseOf p)).liveSide = some (sideOf p))
    (he : (s.hs (houseOf p)).ending = some ⟨.stopping, n⟩) (hc : (s.hs (houseOf p)).change = none)
    (hr : (s.hs (houseOf p)).retiring.map (fun y => y.projector) ≠ some p)
    (hhome : (s.tr p).armed.map (fun a => a.house) = some (houseOf p)) (hheld : s.heldEntry p = some e)
    (hstop : (s.tr p).state = .stopping) (ha : (s.tr p).stoppingSince = some a) (hu : (s.tr p).lastPulse = some u)
    (hlate : max a u + 5000 ≤ s.now + dt) (hn : s.noDouserCause p) :
    ∃ t, exec (.runDownExpiry dt p) s = .next t ∧
      t.hs (houseOf p) = { (s.hs (houseOf p)).ended e with marks := { (s.hs (houseOf p)).marks with badReported := false } } ∧
      t.tr p = { s.tr p with state := .stopped, stoppingSince := none, armed := none, counter := 0 } ∧
      t.rd p = { s.rd p with state := .off, group := none, held := [], queue := [] } ∧ (t.lp p).sufficiency = none ∧
      (∀ q, q ≠ p → t.tr q = s.tr q ∧ t.rd q = s.rd q ∧ t.lp q = s.lp q) ∧ (∀ i, i ≠ houseOf p → t.hs i = s.hs i) ∧
      t.dousers = s.dousers ∧ t.lights = s.lights ∧ t.ports = s.ports ∧ t.booth = s.booth ∧
      t.link = s.link.enqueue (houseNumber (houseOf p)) (.showEnd e.reel (s.tr p).counter false) := by
  let v := (s.elapse dt).setTr p { s.tr p with state := .stopped, stoppingSince := none }
  have hvtr (q : Proj) : v.tr q = if q = p then { s.tr p with state := .stopped, stoppingSince := none } else s.tr q :=
    State.setTr_tr ..
  have hvp : v.tr p = { s.tr p with state := .stopped, stoppingSince := none } := (hvtr p).trans (if_pos rfl)
  have hruns : Rule.runsDown ⟨s.elapse dt, [], false⟩ p = ⟨v, [.transport p .stopped], false⟩ := by
    have hdue : due ((s.elapse dt).tr p).runDownEnd (s.elapse dt).now = true := by
      rw [show ((s.elapse dt).tr p).runDownEnd = some (max a u + 5000) from Transport.runDownEnd_eq _ a u ha hu]
      exact due_late hlate
    unfold Rule.runsDown
    dsimp only
    rw [if_pos ⟨hstop, hdue⟩]
    rfl
  have hvheld : v.heldEntry p = some e := by
    rw [State.heldEntry, hvp]
    exact hheld
  obtain ⟨w, hends, hw, hwhs, hwhouses⟩ := Rule.endCompletes_stopped v [] p (e := e) (by rw [hvp]; exact hhome) hvheld hside
    (by rw [hvp])
  let t := w.reportHouse (houseOf p) (.showEnd e.reel (s.tr p).counter false)
  have hcounter : (v.tr p).counter = (s.tr p).counter := by rw [hvp]
  have hendStops : Rule.endStops ⟨v, [], false⟩ p = ⟨t, [.readiness (houseOf p)], false⟩ := by
    unfold Rule.endStops
    dsimp only
    rw [if_pos ⟨hst, State.liveProj_side hside, by rw [show (v.hs (houseOf p)).ending = _ from he]; rfl⟩, hends, hcounter]
    rfl
  have hths : t.hs (houseOf p) = { (s.hs (houseOf p)).ended e with
      marks := { (s.hs (houseOf p)).marks with badReported := false } } := hwhs
  have htn : t.noDouserCause p := by
    rw [State.noDouserCause, show t.ds p = s.ds p from congrArg (fun b => b.cell p) hw.dousers,
      show (t.lp p).state = (s.lp p).state from hw.state]
    exact hn
  have htst : (t.hs (houseOf p)).state ≠ .starting := by
    rw [hths]
    nofun
  have htc : (t.hs (houseOf p)).change = none := by
    rw [hths]
    exact hc
  have hsees : Rule.sees ⟨v, [], false⟩ (.transport p .stopped) = ⟨t, [.readiness (houseOf p)], false⟩ := by
    change (((Rule.endStops ⟨v, [], false⟩ p).retireSees (houseOf p) p .stopped).douserCause p).look (houseOf p) = _
    rw [hendStops]
    exact Rule.seen_idle ⟨t, _, false⟩ p .stopped (by rw [hths]; exact hr) htn htst htc
  have hfin : exec (.runDownExpiry dt p) s = .next t := by
    refine (congrArg Rule.finish hruns).trans (Rule.finish_settled (t := false) ?_ nofun)
    rw [show settleBound = 510 + 1 + 1 from rfl, Rule.settle_cons, hsees, Rule.settle_cons]
    exact (congrArg (Rule.settle 510) (Rule.look_idle ⟨t, [], false⟩ htst htc)).trans (Rule.settle_nil ..)
  refine ⟨t, hfin, hths, ?_, hw.rd, hw.sufficiency, fun q hq => ⟨?_, hw.rds q hq, hw.lps q hq⟩, hwhouses, hw.dousers, hw.lights,
    hw.ports, hw.booth, ?_⟩
  · refine hw.tr.trans ?_
    rw [State.setHs_tr, hvp]
    rfl
  · exact (hw.trs q hq).trans ((hvtr q).trans (if_neg hq))
  · exact congrArg (fun k : Link => k.enqueue (houseNumber (houseOf p)) (.showEnd e.reel (s.tr p).counter false)) hw.link

/-! ## The break of a projector whose douser is shut -/

/-- R12, R22, R50: what a break of the live projector leaves, its douser shut, before the house has seen it. -/
def State.brokenShut (s : State) (dt : Nat) (p : Proj) : State :=
  ((((s.elapse dt).setTr p { s.tr p with state := .broken, miss := .normal, lockCount := 0 }).reportProj p
    (.filmBreak (s.tr p).counter)).setRd p { s.rd p with state := .off }).setHs (houseOf p)
      { s.hs (houseOf p) with gate := .none, runoutCount := none }

section
variable (s : State) (dt : Nat) (p : Proj)

@[simp] theorem State.brokenShut_tr (q : Proj) : (s.brokenShut dt p).tr q =
    if q = p then { s.tr p with state := .broken, miss := .normal, lockCount := 0 } else s.tr q := State.setTr_tr ..
@[simp] theorem State.brokenShut_rd (q : Proj) : (s.brokenShut dt p).rd q =
    if q = p then { s.rd p with state := .off } else s.rd q := State.setRd_rd ..
@[simp] theorem State.brokenShut_hs (h : HouseId) : (s.brokenShut dt p).hs h =
    if h = houseOf p then { s.hs (houseOf p) with gate := .none, runoutCount := none } else s.hs h := State.setHs_hs ..

end

/-- R12, R22, R50: a break of the live projector, its douser shut and its reader assembling no group. -/
theorem exec_breakDeadline_shut (s : State) (dt : Nat) (p : Proj) (u : Instant) (hrun : (s.tr p).state = .running)
    (hu : (s.tr p).lastPulse = some u) (ha : (s.rd p).assembling = false) (hd : ¬ (s.ds p).agape)
    (hside : (s.hs (houseOf p)).liveSide = some (sideOf p))
    (hg : (s.hs (houseOf p)).gate = .side (sideOf p) ∨ (s.hs (houseOf p)).gate = .none)
    (hlim : 25000 ≤ (s.now + dt - u) * s.speedOf p) {t : State}
    (hf : Rule.failure ⟨s.brokenShut dt p, [], false⟩ p .brk = ⟨t, [], false⟩)
    (hr : (t.hs (houseOf p)).retiring.map (fun y => y.projector) ≠ some p)
    (hn : t.noDouserCause p) (hs : (t.hs (houseOf p)).state ≠ .starting) (hc : (t.hs (houseOf p)).change = none) :
    exec (.breakDeadline dt p) s = .next t := by
  have hbreaks : Rule.filmBreaks ⟨s.elapse dt, [], false⟩ p = ⟨s.brokenShut dt p, [.transport p .broken], false⟩ := by
    refine (Rule.filmBreaks_unassembling (s.elapse dt) p u hrun hu hlim ha).trans ?_
    refine congrArg (fun u : State => (⟨u, [Signal.transport p .broken], false⟩ : Rule)) ?_
    exact State.leaveRunning_liveShut _ p hd hside hg
  have hsees : Rule.sees ⟨s.brokenShut dt p, [], false⟩ (.transport p .broken) = ⟨t, [], false⟩ := by
    change (((Rule.failure ⟨s.brokenShut dt p, [], false⟩ p .brk).retireSees (houseOf p) p .broken).douserCause p).look
      (houseOf p) = _
    rw [hf]
    exact Rule.seen_idle ⟨t, [], false⟩ p .broken hr hn hs hc
  refine (congrArg Rule.finish hbreaks).trans (Rule.finish_settled (t := false) ?_ nofun)
  rw [show settleBound = 511 + 1 from rfl, Rule.settle_cons, hsees]
  exact Rule.settle_nil ..

/-- R101: the film of the live projector of an ENDING house breaks. -/
theorem exec_breakDeadline_ending (s : State) (dt : Nat) (p : Proj) (e : ReelEntry) (x : EndRecord) (u : Instant)
    (hends : s.endsReel (houseOf p) p e x) (hu : (s.tr p).lastPulse = some u) (hrun : (s.tr p).state = .running)
    (ha : (s.rd p).assembling = false) (hlim : 25000 ≤ (s.now + dt - u) * s.speedOf p) (hn : s.noDouserCause p) :
    ∃ t, exec (.breakDeadline dt p) s = .next t ∧
      t.hs (houseOf p) = { s.hs (houseOf p) with
        state := .finished
        gate := .none
        ending := none
        plan := mapReel (s.hs (houseOf p)).plan e.reel (fun w => { w with status := .finished }) } ∧
      t.tr p = { s.tr p with state := .broken, miss := .normal, lockCount := 0 } ∧ t.rd p = { s.rd p with state := .off } ∧
      (∀ q, q ≠ p → t.tr q = s.tr q ∧ t.rd q = s.rd q) ∧ (∀ i, i ≠ houseOf p → t.hs i = s.hs i) ∧
      t.dousers = s.dousers ∧ t.lamps = s.lamps ∧ t.lights = s.lights ∧ t.ports = s.ports ∧ t.booth = s.booth ∧
      t.link = (s.link.enqueue (projNumber p) (.filmBreak (s.tr p).counter)).enqueue (houseNumber (houseOf p))
        (.showEnd e.reel (s.tr p).counter true) := by
  obtain ⟨-, hst, hside, he, hc, hcount, hr, hhome, hheld, hd, ho, hoo, ht, hg⟩ := hends
  have hvheld : (s.brokenShut dt p).heldEntry p = some e := by
    obtain ⟨x, hx, hxh, hreel, hfind⟩ := State.heldEntry_home hhome hheld
    simp [State.heldEntry, hx, hxh, hreel, hfind]
  let t := ((s.brokenShut dt p).setHs (houseOf p) (((s.brokenShut dt p).hs (houseOf p)).ended e)).reportHouse (houseOf p)
    (.showEnd e.reel (s.tr p).counter true)
  have hths (i : HouseId) : t.hs i = if i = houseOf p then ((s.brokenShut dt p).hs (houseOf p)).ended e else
    (s.brokenShut dt p).hs i := State.setHs_hs ..
  have hthp : t.hs (houseOf p) = { s.hs (houseOf p) with
      state := .finished
      gate := .none
      ending := none
      plan := mapReel (s.hs (houseOf p)).plan e.reel (fun w => { w with status := .finished }) } := by
    rw [hths, if_pos rfl, State.brokenShut_hs, if_pos rfl, ← hcount]
    rfl
  have hf : Rule.failure ⟨s.brokenShut dt p, [], false⟩ p .brk = ⟨t, [], false⟩ := by
    have hvst : ((s.brokenShut dt p).hs (houseOf p)).state = .ending := by simp [hst]
    have hvl : (s.brokenShut dt p).liveProj (houseOf p) = some p := State.liveProj_side (by simp [hside])
    unfold Rule.failure
    dsimp only
    rw [hvst]
    dsimp only
    rw [if_pos ⟨hvl, rfl⟩, Rule.endCompletes_break _ _ _ hvheld]
    simp [t]
  refine ⟨t, exec_breakDeadline_shut s dt p u hrun hu ha (fun h => h.elim ho hoo) hside hg hlim hf ?_ hn ?_ ?_, hthp,
    (State.brokenShut_tr ..).trans (if_pos rfl), (State.brokenShut_rd ..).trans (if_pos rfl),
    fun q hq => ⟨(State.brokenShut_tr ..).trans (if_neg hq), (State.brokenShut_rd ..).trans (if_neg hq)⟩,
    fun i hi => (hths i).trans ((if_neg hi).trans ((State.brokenShut_hs ..).trans (if_neg hi))), rfl, rfl, rfl, rfl, rfl, rfl⟩
  · rw [hthp]
    exact hr
  · rw [hthp]
    nofun
  · rw [hthp]
    exact hc

/-- R122: the film of a projector that runs out breaks. -/
theorem exec_breakDeadline_runout (s : State) (dt : Nat) (p : Proj) (u : Instant)
    (hst : (s.hs (houseOf p)).state = .hold) (hside : (s.hs (houseOf p)).liveSide = some (sideOf p))
    (hc : (s.hs (houseOf p)).change = none) (hg : (s.hs (houseOf p)).gate = .none)
    (hr : (s.hs (houseOf p)).retiring.map (fun y => y.projector) ≠ some p) (hrun : (s.tr p).state = .running)
    (hu : (s.tr p).lastPulse = some u) (ho : (s.ds p).state ≠ .opened) (hoo : (s.ds p).state ≠ .opening)
    (ha : (s.rd p).assembling = false) (hlim : 25000 ≤ (s.now + dt - u) * s.speedOf p) (hcause : s.noDouserCause p) :
    ∃ t, exec (.breakDeadline dt p) s = .next t ∧
      t.hs (houseOf p) = { s.hs (houseOf p) with runoutCount := none } ∧
      t.tr p = { s.tr p with state := .broken, miss := .normal, lockCount := 0 } ∧ t.rd p = { s.rd p with state := .off } ∧
      (∀ q, q ≠ p → t.tr q = s.tr q ∧ t.rd q = s.rd q) ∧ (∀ i, i ≠ houseOf p → t.hs i = s.hs i) ∧
      t.dousers = s.dousers ∧ t.lamps = s.lamps ∧ t.lights = s.lights ∧ t.ports = s.ports ∧ t.booth = s.booth ∧
      t.link = s.link.enqueue (projNumber p) (.filmBreak (s.tr p).counter) := by
  have hths : (s.brokenShut dt p).hs (houseOf p) = { s.hs (houseOf p) with runoutCount := none } := by
    rw [State.brokenShut_hs, if_pos rfl, ← hg]
  have hf : Rule.failure ⟨s.brokenShut dt p, [], false⟩ p .brk = ⟨s.brokenShut dt p, [], false⟩ := by
    have hvst : ((s.brokenShut dt p).hs (houseOf p)).state = .hold := by simp [hst]
    unfold Rule.failure
    dsimp only
    rw [hvst]
  refine ⟨_, exec_breakDeadline_shut s dt p u hrun hu ha (fun h => h.elim ho hoo) hside (.inr hg) hlim hf ?_ hcause ?_ ?_, hths,
    (State.brokenShut_tr ..).trans (if_pos rfl), (State.brokenShut_rd ..).trans (if_pos rfl),
    fun q hq => ⟨(State.brokenShut_tr ..).trans (if_neg hq), (State.brokenShut_rd ..).trans (if_neg hq)⟩,
    fun i hi => (State.brokenShut_hs ..).trans (if_neg hi), rfl, rfl, rfl, rfl, rfl, rfl⟩
  · rw [hths]
    exact hr
  · rw [hths]
    simp [hst]
  · rw [hths]
    exact hc

/-- Settles O34, by the pulse at the tail, the run-out counted, and the end completed by the run-down or a break. -/
theorem tailEndsTheShowOrRunsOut : Obligations.TailEndsTheShowOrRunsOut := by
  refine ⟨fun s dt h p reading u e hh hst hside hc hr hrun hu hhome hw hq hlow hheld hcues hm hch htail hmax hds hd => ?_,
    fun s dt h p e n x hends hds hx => ?_, fun s dt h p e n phase reading a u hends hu => ⟨?_, ?_, ?_⟩,
    fun s dt h p n reading u hh hst hside hn hc hg hr hrun hu ho hoo => ⟨?_, ?_⟩⟩
  · subst hh
    obtain ⟨w, k, x, z, hexec, b, hlast, hnot⟩ := exec_tachPulse_tail s dt p reading u e hst hside hc (by rw [hr]) hrun hu hhome hw hq
      hlow hheld hcues hm hch htail hmax hds hd
    let t := (((w.setDs p ((s.ds p).closingFrom true (s.now + dt))).setHs (houseOf p) x).setLt (houseOf p) z).setLink k
    have hths (i : HouseId) : t.hs i = if i = houseOf p then x else w.hs i := State.setHs_hs ..
    have htlt (i : HouseId) : t.lt i = if i = houseOf p then z else w.lt i := State.setLt_lt ..
    have htds (q : Proj) : t.ds q = if q = p then (s.ds p).closingFrom true (s.now + dt) else w.ds q := State.setDs_ds ..
    refine ⟨t, hexec, fun h => ?_, fun h => ?_, (htds p).trans (if_pos rfl), b.running, ?_, fun q hq => ⟨b.trs q hq, b.rds q hq,
      (htds q).trans ((if_neg hq).trans (b.ds q)), b.lps q hq⟩, fun i hi => ⟨(hths i).trans ((if_neg hi).trans (b.hs i)),
      (htlt i).trans ((if_neg hi).trans (b.lt i))⟩, b.ports, b.booth⟩
    · obtain ⟨hx, hz⟩ := hlast h
      refine ⟨(hths _).trans ((if_pos rfl).trans hx), ?_⟩
      change w.lights.put (houseOf p) z = s.lights
      rw [hz, b.lights]
      exact congrArg State.lights (s.setLt_self (houseOf p))
    · obtain ⟨hx, ht, hf⟩ := hnot h
      rw [hths, htlt, if_pos rfl, if_pos rfl]
      exact ⟨hx, ht, hf⟩
    · rw [show (t.tr p).counter = (w.tr p).counter from rfl, b.counter]
      exact Nat.min_eq_right hmax
  · obtain ⟨rfl, hst, hside, he, hc, -, -, -, -, -, -, -, ht, -⟩ := hends
    have hclosed := exec_douserSwitchCloses_dousing s dt p n hst hside he hc ht hds
    refine ⟨fun hf => ?_, ⟨_, hclosed, ?_, ?_, fun q hq => ?_, fun i hi => ?_, rfl, rfl, rfl, rfl, rfl, rfl, rfl⟩,
      fun hrun hlim => exec_travelLimit_dousing s dt p n x hst hside he hc ht hds hx hrun hlim⟩
    · rw [hclosed, Douser.ended_partial _ _ _ hx hf]
      rfl
    · rw [State.setHs_hs, if_pos rfl]
    · rw [State.setHs_ds, State.setDs_ds, if_pos rfl]
      rfl
    · rw [State.setHs_ds, State.setDs_ds, if_neg hq]
      rfl
    · rw [State.setHs_hs, if_neg hi]
      rfl
  · rintro rfl hrun hw hlow
    obtain ⟨rfl, hst, hside, he, hc, hcount, hr, -, -, -, ho, hoo, -, hg⟩ := hends
    refine exec_tachPulse_runsOut s dt p n reading u _ _ _ hu hrun hw hlow (fun h => h.elim ho hoo)
      (fun r hr => hr ▸ Rule.runsOut_ending r p n (hr ▸ hst) (hr ▸ hside) (hr ▸ he)) ?_ ?_ (by simp [hcount])
    · exact ⟨by simp [hst], by simp [hst], hc, hside, hr, hg, rfl, rfl, rfl⟩
    · exact ⟨by simp [hst], by simp [hst], hc, hside, hr, hg, rfl, rfl, rfl⟩
  · rintro rfl hstop ha hlate hn
    obtain ⟨rfl, hst, hside, he, hc, -, hr, hhome, hheld, -⟩ := hends
    exact exec_runDownExpiry_ending s dt p e n a u hst hside he hc hr hhome hheld hstop ha hu hlate hn
  · rintro hrun ha hlim hn
    obtain rfl := hends.1
    exact exec_breakDeadline_ending s dt p e _ u hends hu hrun ha hlim hn
  · subst hh
    intro hw hlow
    refine exec_tachPulse_runsOut s dt p n reading u _ _ _ hu hrun hw hlow (fun h => h.elim ho hoo)
      (fun r hr => hr ▸ Rule.runsOut_hold r p n (hr ▸ hst) (hr ▸ hside) (hr ▸ hn)) ?_ ?_ (by rw [← hg])
    · exact ⟨by simp [hst], by simp [hst], hc, hside, hr, .inr hg, rfl, rfl, rfl⟩
    · exact ⟨by simp [hst], by simp [hst], hc, hside, hr, .inr hg, rfl, rfl, rfl⟩
  · subst hh
    exact fun ha hlim hcause => exec_breakDeadline_runout s dt p u hst hside hc hg hr hrun hu ho hoo ha hlim hcause

end Sys2Proof.Machine
end

section
/-! PROOFS. The loss of the live picture: the cut, the breaking of the film, and a house that holds with its live entry
INTERRUPTED. -/

namespace Sys2Proof.Machine

/-! ## The cut (R123) -/

/-- R123: what a loss of the live picture does before the house looks at its changeover record. -/
def State.pictureCut (s : State) (h : HouseId) (p : Proj) (reason : LossReason) : State :=
  let s1 := (s.modHs h (fun x => { x with dark := false })).closeCommand p
  let s2 := if (s1.tr p).state ≠ .running then s1.selectNone h else s1
  if reason = .brk then s2.programTarget h (s2.hs h).levels.brk 10 .brk else s2

/-- R123: from `s` to `t` the douser of `p` has been closed and its house cut off, the record of the change apart. -/
structure State.Cut (s t : State) (p : Proj) (reason : LossReason) : Prop where
  transports : t.transports = s.transports
  readers : t.readers = s.readers
  lamps : t.lamps = s.lamps
  ports : t.ports = s.ports
  booth : t.booth = s.booth
  now : t.now = s.now
  link : t.link = s.link
  ds : ∃ x : Douser, t.ds p = x ∧ ¬ x.agape ∧ ((s.ds p).state ≠ .stuck → x.state ≠ .stuck) ∧
    ((s.ds p).state = .opened ∨ (s.ds p).state = .closing → x.state = .closing)
  dss : ∀ q, q ≠ p → t.ds q = s.ds q
  hs : t.hs (houseOf p) = { s.hs (houseOf p) with
    dark := false
    gate := if (s.tr p).state = .running then (s.hs (houseOf p)).gate else .none }
  hss : ∀ g, g ≠ houseOf p → t.hs g = s.hs g
  lights : reason ≠ .brk → t.lights = s.lights
  lts : ∀ g, g ≠ houseOf p → t.lt g = s.lt g
  target : reason = .brk → (t.lt (houseOf p)).programTarget = (s.hs (houseOf p)).levels.brk ∧ (t.lt (houseOf p)).programFade = 10

theorem State.closeCommand_closing (s : State) (p : Proj) (h : (s.ds p).state = .opened ∨ (s.ds p).state = .closing) :
    ((s.closeCommand p).ds p).state = .closing := by
  rcases h with h | h
  · rw [State.closeCommand_opened h, State.setDs_ds, if_pos rfl]
    rfl
  · simp [State.closeCommand, h]

theorem State.pictureCut_cut (s : State) (p : Proj) (reason : LossReason) : s.Cut (s.pictureCut (houseOf p) p reason) p reason := by
  let v := s.modHs (houseOf p) (fun x => { x with dark := false })
  obtain ⟨hlink, htr, hrd, hlp, hhs, hlt, hpt, hb, hnow, -⟩ := v.closeCommand_keeps p
  have hvhs (g : HouseId) : v.hs g = if g = houseOf p then { s.hs (houseOf p) with dark := false } else s.hs g := State.setHs_hs ..
  let w := (v.closeCommand p).setHs (houseOf p) { s.hs (houseOf p) with
    dark := false
    gate := if (s.tr p).state = .running then (s.hs (houseOf p)).gate else .none }
  have hwhs (g : HouseId) : w.hs g = if g = houseOf p then { s.hs (houseOf p) with
      dark := false
      gate := if (s.tr p).state = .running then (s.hs (houseOf p)).gate else .none } else s.hs g := by
    refine (State.setHs_hs ..).trans ?_
    split
    · rfl
    next hg => exact (congrArg (fun b => b.cell g) hhs).trans ((hvhs g).trans (if_neg hg))
  have hwtr : ((v.closeCommand p).tr p).state = (s.tr p).state := congrArg (fun b => (b.cell p).state) htr
  have hcell : (v.closeCommand p).hs (houseOf p) = { s.hs (houseOf p) with dark := false } :=
    (congrArg (fun b => b.cell (houseOf p)) hhs).trans ((hvhs _).trans (if_pos rfl))
  have hcut : (if ((v.closeCommand p).tr p).state ≠ .running then (v.closeCommand p).selectNone (houseOf p)
      else v.closeCommand p) = w := by
    rw [hwtr]
    by_cases hrun : (s.tr p).state = .running
    · rw [if_neg fun h => h hrun]
      simp only [w, hrun, if_true]
      rw [← hcell]
      exact (State.setHs_self _ _).symm
    · rw [if_pos hrun, State.selectNone]
      simp only [w, hrun, if_false, hcell]
  have hds : ∃ x : Douser, w.ds p = x ∧ ¬ x.agape ∧ ((s.ds p).state ≠ .stuck → x.state ≠ .stuck) ∧
      ((s.ds p).state = .opened ∨ (s.ds p).state = .closing → x.state = .closing) :=
    ⟨_, rfl, v.closeCommand_shut p, v.closeCommand_unstuck p, v.closeCommand_closing p⟩
  have hdss (q : Proj) (hq : q ≠ p) : w.ds q = s.ds q := v.closeCommand_ds_other hq
  have hend : s.pictureCut (houseOf p) p reason =
      if reason = .brk then w.programTarget (houseOf p) (w.hs (houseOf p)).levels.brk 10 .brk else w := by
    unfold State.pictureCut
    dsimp only
    rw [hcut]
  rw [hend]
  by_cases hbrk : reason = .brk
  · rw [if_pos hbrk]
    obtain ⟨ht, hf⟩ := w.programTarget_lt (houseOf p) (w.hs (houseOf p)).levels.brk 10 .brk
    refine ⟨htr, hrd, hlp, hpt, hb, hnow, hlink, hds, hdss, (hwhs _).trans (if_pos rfl), fun g hg => (hwhs g).trans (if_neg hg),
      fun h => absurd hbrk h, fun g hg => (State.setLt_lt ..).trans ((if_neg hg).trans (congrArg (fun b => b.cell g) hlt)),
      fun _ => ⟨ht.trans ?_, hf⟩⟩
    rw [hwhs, if_pos rfl]
  · rw [if_neg hbrk]
    exact ⟨htr, hrd, hlp, hpt, hb, hnow, hlink, hds, hdss, (hwhs _).trans (if_pos rfl), fun g hg => (hwhs g).trans (if_neg hg),
      fun _ => hlt, fun g _ => congrArg (fun b => b.cell g) hlt, fun h => absurd h hbrk⟩

/-! ## The loss, by the changeover record (R123) -/

section
variable (r : Rule) (h : HouseId) (p : Proj) (reason : LossReason) (restrike : Bool) {w : State}
  (hw : r.st.pictureCut h p reason = w)
include hw

/-- R123: with no record, the house goes dark where the lamp restrikes, and holds otherwise. -/
theorem Rule.pictureLoss_recordless (hc : (w.hs h).change = none) : r.pictureLoss h p reason restrike =
    if reason = .lamp ∧ restrike = true ∧ (w.tr p).state = .running then
      ⟨w.setHs h { w.hs h with dark := true }, r.agenda, r.tie⟩
    else Rule.lossHold ⟨w, r.agenda, r.tie⟩ h reason := by
  subst hw
  unfold Rule.pictureLoss
  extract_lets r1
  have hc1 : (r1.st.hs h).change = none := hc
  rw [hc1]
  rfl

variable {y : Changeover} (hy : (w.hs h).change = some y)
include hy

/-- R123: a record whose incoming is started already. -/
theorem Rule.pictureLoss_started (hph : y.phase = .runup ∨ y.phase = .locked) : r.pictureLoss h p reason restrike =
    Rule.enterDue ⟨w, r.agenda, r.tie⟩ h .loss (some reason) := by
  subst hw
  unfold Rule.pictureLoss
  extract_lets r1
  have hy1 : (r1.st.hs h).change = some y := hy
  rw [hy1]
  dsimp only
  rcases hph with hph | hph <;> rw [hph] <;> rfl

/-- R123: a record that is DUE, not by a loss. -/
theorem Rule.pictureLoss_due (hph : y.phase = .due) (hsrc : y.changeSource ≠ some .loss) (hheld : y.held = none)
    (hend : y.delayEnd = none) : r.pictureLoss h p reason restrike =
      ⟨w.setHs h ((w.hs h).called y .loss (some reason)), r.agenda, r.tie⟩ := by
  subst hw
  unfold Rule.pictureLoss
  extract_lets r1
  have hy1 : (r1.st.hs h).change = some y := hy
  have hsame : { y with phase := .due, changeSource := some .loss, loss := some reason, held := none, delayEnd := none } =
      { y with changeSource := some .loss, loss := some reason } := by
    rw [← hph, ← hheld, ← hend]
  rw [hy1]
  dsimp only
  rw [hph]
  have hstate : ((r.st.pictureCut h p reason).modChange h (fun c => { c with
        changeSource := some .loss
        loss := if c.changeSource = some .loss then c.loss else some reason })).modMarks h
          (fun m => { m with changeTaken := true }) =
      (r.st.pictureCut h p reason).setHs h (((r.st.pictureCut h p reason).hs h).called y .loss (some reason)) := by
    simp [State.modMarks, State.modChange, State.modHs, House.called, hy, hsame, hsrc]
  exact congrArg (fun s => (⟨s, r.agenda, r.tie⟩ : Rule)) hstate

/-- R123: a record in DELAY with an incoming that is ready to follow. -/
theorem Rule.pictureLoss_ready (hph : y.phase = .delay) (hr : w.readyToFollow h y.incoming = true) :
    r.pictureLoss h p reason restrike = (Rule.startIncoming ⟨w, r.agenda, r.tie⟩ y).enterDue h .loss (some reason) := by
  subst hw
  unfold Rule.pictureLoss
  extract_lets r1
  have hy1 : (r1.st.hs h).change = some y := hy
  have hr1 : r1.st.readyToFollow h y.incoming = true := hr
  rw [hy1]
  dsimp only
  rw [hph]
  dsimp only
  rw [if_pos hr1]
  rfl

/-- R123: a record that waits for an incoming that is not ready to follow is dropped, and the house holds. -/
theorem Rule.pictureLoss_unready (hph : y.phase = .waitReady ∨ (y.phase = .delay ∧ w.readyToFollow h y.incoming = false)) :
    r.pictureLoss h p reason restrike = Rule.lossHold ⟨w.setHs h { w.hs h with change := none }, r.agenda, r.tie⟩ h reason := by
  subst hw
  unfold Rule.pictureLoss
  extract_lets r1
  have hy1 : (r1.st.hs h).change = some y := hy
  rw [hy1]
  dsimp only
  rcases hph with hph | ⟨hph, hr⟩
  · rw [hph]
    rfl
  · have hr1 : r1.st.readyToFollow h y.incoming = false := hr
    rw [hph]
    dsimp only
    rw [hr1]
    rfl

/-- R123: a crossing goes on. -/
theorem Rule.pictureLoss_crossing (hph : y.phase = .crossing) : r.pictureLoss h p reason restrike = ⟨w, r.agenda, r.tie⟩ := by
  subst hw
  unfold Rule.pictureLoss
  extract_lets r1
  have hy1 : (r1.st.hs h).change = some y := hy
  rw [hy1]
  dsimp only
  rw [hph]
  rfl

end

/-! ## The lamps while motors stop -/

/-- From `s` to `t` no lamp has changed its state or its stop reason. -/
def State.LampsRest (s t : State) : Prop := ∀ q, (t.lp q).state = (s.lp q).state ∧ (t.lp q).stop = (s.lp q).stop

theorem State.LampsRest.trans {s t u : State} (a : s.LampsRest t) (b : t.LampsRest u) : s.LampsRest u :=
  fun q => ⟨(b q).1.trans (a q).1, (b q).2.trans (a q).2⟩

theorem State.lampsRest_of {s t : State} (h : t.lamps = s.lamps) : s.LampsRest t :=
  fun q => ⟨congrArg (fun b => (b.cell q).state) h, congrArg (fun b => (b.cell q).stop) h⟩

theorem Lamp.evaluate_stop (l : Lamp) (b : Bool) (now : Instant) : (l.evaluate b now).stop = l.stop := by
  have hsend (l : Lamp) : (l.trySend now).stop = l.stop := by
    rcases l.trySend_cases now with h | ⟨dir, -, -, -, h⟩
    · rw [h]
    · rw [h]
      simp [Lamp.countSend]
  unfold Lamp.evaluate
  (repeat' split) <;> simp [hsend]

/-- R22, R29: a reader that stops has its lamp evaluate a burst at most. -/
theorem Rule.readerStops_lampsRest (r : Rule) (p : Proj) : r.st.LampsRest (r.readerStops p).st := by
  have hjoin (r : Rule) (e : CueEntry) : r.st.LampsRest (r.joinCue p e).st := by
    refine State.lampsRest_of ?_
    unfold Rule.joinCue
    dsimp only
    split <;> rfl
  have hjoins (l : List CueEntry) (r : Rule) : r.st.LampsRest (r.joinCues p l).st := by
    induction l generalizing r with
    | nil => exact State.lampsRest_of rfl
    | cons e rest ih => exact (hjoin r e).trans (ih _)
  have heval (s : State) : s.LampsRest (s.evalBurst p) := fun q => by
    by_cases hq : q = p
    · subst hq
      have hlp : (s.evalBurst q).lp q = (s.lp q).evaluate (s.rd q).assembling s.now := (State.setLp_lp ..).trans (if_pos rfl)
      rw [hlp]
      exact ⟨((s.lp q).evaluate_aside ..).1, Lamp.evaluate_stop ..⟩
    · have hlp : (s.evalBurst p).lp q = s.lp q := (State.setLp_lp ..).trans (if_neg hq)
      rw [hlp]
      exact ⟨rfl, rfl⟩
  unfold Rule.readerStops
  dsimp only
  split
  · exact (heval (r.st.setRd p _)).trans (hjoins _ _)
  · exact State.lampsRest_of rfl

theorem Rule.motorStop_lampsRest (r : Rule) (p : Proj) : r.st.LampsRest (r.motorStop p).st := by
  have hcut : r.st.LampsRest (r.motorCut p).st :=
    Rule.readerStops_lampsRest (r.upd (fun s => s.setTr p ((s.tr p).stoppedAt s.now))) p
  rcases r.motorStop_cases p with ⟨-, hr⟩ | ⟨-, hr⟩ | ⟨-, hr⟩ <;> rw [hr]
  · exact hcut
  · exact hcut.trans (State.lampsRest_of (State.leaveRunning_keeps _ p).2.2.2.1)
  · exact State.lampsRest_of rfl

/-! ## The house that holds -/

/-- From `s` to `t` every reel is armed as it was, no transport without a motor and no lamp's state or stop reason has changed,
and the other houses have not changed. -/
structure State.Spared (s t : State) (h : HouseId) : Prop where
  armed : ∀ q, (t.tr q).armed = (s.tr q).armed
  undriven : ∀ q, ¬ (s.tr q).driven → t.tr q = s.tr q
  hss : ∀ g, g ≠ h → t.hs g = s.hs g
  lamps : s.LampsRest t

theorem State.Spared.trans {s t u : State} {h : HouseId} (a : s.Spared t h) (b : t.Spared u h) : s.Spared u h :=
  ⟨fun q => (b.armed q).trans (a.armed q), fun q hq => (b.undriven q (a.undriven q hq ▸ hq)).trans (a.undriven q hq), fun g hg => (b.hss g hg).trans (a.hss g hg), a.lamps.trans b.lamps⟩

/-- R97: the first part of a hold of a house without a changeover record. -/
theorem Rule.holdStops_spared (r : Rule) (h : HouseId) (hc : (r.st.hs h).change = none) :
    (∃ c, (r.holdStops h).st.hs h = { r.st.hs h with gate := .none, runoutCount := c }) ∧
      r.st.Spared (r.holdStops h).st h := by
  let r1 := r.upd (fun s => (s.closeBoth h).selectNone h)
  obtain ⟨hhouses, htrs, hlamps⟩ : (r.st.closeBoth h).houses = r.st.houses ∧ (r.st.closeBoth h).transports = r.st.transports ∧
      (r.st.closeBoth h).lamps = r.st.lamps := by
    obtain ⟨-, htr, -, hlp, hhs, -⟩ := r.st.closeCommand_keeps (projAt h .a)
    obtain ⟨-, htr', -, hlp', hhs', -⟩ := (r.st.closeCommand (projAt h .a)).closeCommand_keeps (projAt h .b)
    exact ⟨hhs'.trans hhs, htr'.trans htr, hlp'.trans hlp⟩
  have h1 : r1.st.hs h = { r.st.hs h with gate := .none } := by
    refine (State.setHs_hs ..).trans ((if_pos rfl).trans ?_)
    exact congrArg (fun b => { b.cell h with gate := Gate.none }) hhouses
  have hs1 : r.st.Spared r1.st h := ⟨fun q => congrArg (fun b => (b.cell q).armed) htrs,
    fun q _ => congrArg (fun b => b.cell q) htrs, fun g hg => (State.setHs_hs ..).trans ((if_neg hg).trans (congrArg (fun b => b.cell g) hhouses)), State.lampsRest_of hlamps⟩
  have hstop (r : Rule) (sd : Side) : (∃ g c, (r.motorStop (projAt h sd)).st.hs h = { r.st.hs h with gate := g, runoutCount := c }) ∧
      r.st.Spared (r.motorStop (projAt h sd)).st h := by
    obtain ⟨ha, -⟩ := r.motorStop_affects (projAt h sd)
    have hp : houseOf (projAt h sd) = h := (houseOf_eq_iff _ h).2 (by cases sd <;> simp)
    obtain ⟨g, c, -, hh⟩ := ha.house
    rw [hp] at hh
    refine ⟨⟨g, c, hh⟩, fun q => ?_, fun q hq => (r.motorStop_tr _ q).trans (if_neg fun ⟨e, hd⟩ => hq (e ▸ hd)), fun g hg => ha.hss g (fun e => hg (e.trans hp)), r.motorStop_lampsRest _⟩
    by_cases hq : q = projAt h sd
    · rw [hq, ha.armed]
    · rw [ha.trs q hq]
  obtain ⟨⟨g2, c2, h2⟩, hs2⟩ := hstop r1 .a
  obtain ⟨⟨g3, c3, h3⟩, hs3⟩ := hstop (r1.motorStop (projAt h .a)) .b
  have hdrop : r.holdStops h = (r1.motorStop (projAt h .a)).motorStop (projAt h .b) := by
    unfold Rule.holdStops Rule.dropChange
    have hno : (((r1.motorStop (projAt h .a)).motorStop (projAt h .b)).st.hs h).change = none := by
      rw [h3, h2, h1]
      exact hc
    rw [hno]
  have hgate := (r.holdStops_stopped h (by simp [hc])).gate
  refine ⟨⟨c3, ?_⟩, ?_⟩
  · rw [hdrop] at hgate ⊢
    rw [h3, h2, h1] at hgate ⊢
    obtain rfl : g3 = .none := hgate
    rfl
  · rw [hdrop]
    exact (hs1.trans hs2).trans hs3

/-- R97, R123: the house that loses its live picture holds its live entry INTERRUPTED. -/
theorem Rule.enterHold_interrupts (r : Rule) (p : Proj) (reason : HoldReason) (lights : Bool) {e : ReelEntry}
    (hst : (r.st.hs (houseOf p)).state = .showing) (hc : (r.st.hs (houseOf p)).change = none)
    (hside : (r.st.hs (houseOf p)).liveSide = some (sideOf p))
    (hhome : (r.st.tr p).armed.map (fun a => a.house) = some (houseOf p)) (hheld : r.st.heldEntry p = some e) :
    ((r.enterHold (houseOf p) reason lights).st.hs (houseOf p)).plan = (r.st.hs (houseOf p)).plan.map (fun w =>
        if w.reel = e.reel then { w with status := .interrupted } else w) ∧
      r.st.Spared (r.enterHold (houseOf p) reason lights).st (houseOf p) := by
  obtain ⟨⟨c, hhs⟩, hspared⟩ := r.holdStops_spared (houseOf p) hc
  rw [Rule.enterHold_eq]
  generalize r.holdStops (houseOf p) = r' at *
  obtain ⟨x, hx, hxh, hxr, hfind⟩ := State.heldEntry_home hhome hheld
  have hentry : r'.st.heldEntry p = some e := by
    unfold State.heldEntry
    rw [hspared.armed, hx]
    dsimp only
    rw [hxh, hhs, hxr]
    exact hfind
  have hlive : r'.st.liveEntry (houseOf p) = some e := State.liveEntry_side (by rw [hhs]; exact hside) hentry
  have hint : r'.st.interrupt (houseOf p) = r'.st.setStatus (houseOf p) e.reel .interrupted := by
    unfold State.interrupt
    rw [show (r'.st.hs (houseOf p)).state = .showing by rw [hhs]; exact hst]
    dsimp only
    rw [State.setLiveStatus, hlive]
  have hplan : ((r'.st.setStatus (houseOf p) e.reel .interrupted).hs (houseOf p)).plan =
      mapReel (r'.st.hs (houseOf p)).plan e.reel (fun w => { w with status := .interrupted }) := by
    simp [State.setStatus, State.modReel]
  rw [Rule.upd_st]
  unfold State.heldWith
  rw [hint]
  refine ⟨?_, hspared.trans ⟨fun q => ?_, fun q _ => ?_, fun g hg => ?_, State.lampsRest_of ?_⟩⟩
  · cases lights <;> simp [State.modHs, State.programTarget, hplan, hhs] <;> rfl
  · cases lights <;> rfl
  · cases lights <;> rfl
  · cases lights <;> simp [State.modHs, State.programTarget, State.setStatus, State.modReel, hg]
  · cases lights <;> rfl

end Sys2Proof.Machine
end

section
/-! PROOFS. The loss of the live picture, by a break and by the lamp. -/

namespace Sys2Proof.Machine

/-! ## The film breaks -/

/-- R12, R22, R50, R123: from `s` to `t` the film of the live projector `p` has broken and its picture has been cut. -/
structure State.Lost (s t : State) (p : Proj) : Prop where
  tr : t.tr p = { s.tr p with state := .broken, miss := .normal, lockCount := 0 }
  trs : ∀ q, q ≠ p → t.tr q = s.tr q
  rds : ∀ q, q ≠ p → t.rd q = s.rd q
  lamps : t.lamps = s.lamps
  ports : t.ports = s.ports
  booth : t.booth = s.booth
  now : t.now = s.now
  shut : ¬ (t.ds p).agape
  unstuck : (s.ds p).state ≠ .stuck → (t.ds p).state ≠ .stuck
  dss : ∀ q, q ≠ p → t.ds q = s.ds q
  hs : t.hs (houseOf p) = { s.hs (houseOf p) with dark := false, gate := .none, runoutCount := none }
  hss : ∀ g, g ≠ houseOf p → t.hs g = s.hs g
  lts : ∀ g, g ≠ houseOf p → t.lt g = s.lt g
  target : (t.lt (houseOf p)).programTarget = (s.hs (houseOf p)).levels.brk ∧ (t.lt (houseOf p)).programFade = 10

theorem Rule.filmBreaks_lost (s : State) (p : Proj) (u : Instant) (hst : (s.hs (houseOf p)).state = .showing)
    (hside : (s.hs (houseOf p)).liveSide = some (sideOf p)) (hrun : (s.tr p).state = .running) (hu : (s.tr p).lastPulse = some u)
    (ht : 25000 ≤ (s.now - u) * s.speedOf p) (ha : (s.rd p).assembling = false) :
    ∃ v w, Rule.filmBreaks ⟨s, [], false⟩ p = ⟨v, [.transport p .broken], false⟩ ∧ v.pictureCut (houseOf p) p .brk = w ∧
      Rule.failure ⟨v, [], false⟩ p .brk = Rule.pictureLoss ⟨v, [], false⟩ (houseOf p) p .brk false ∧ s.Lost w p := by
  let x := { s.tr p with state := .broken, miss := .normal, lockCount := 0 }
  let v0 := ((s.setTr p x).reportProj p (.filmBreak (s.tr p).counter)).setRd p { s.rd p with state := .off }
  let v := v0.leaveRunning p
  have hfilm : Rule.filmBreaks ⟨s, [], false⟩ p = ⟨v, [.transport p .broken], false⟩ :=
    Rule.filmBreaks_unassembling s p u hrun hu ht ha
  obtain ⟨-, htr, hrd, hlp, hlt, hpt, hb, hnow, -⟩ := v0.leaveRunning_keeps p
  have hvtr (q : Proj) : v.tr q = if q = p then x else s.tr q := (congrArg (fun b => b.cell q) htr).trans (State.setTr_tr ..)
  have hvrd (q : Proj) (hq : q ≠ p) : v.rd q = s.rd q :=
    (congrArg (fun b => b.cell q) hrd).trans ((State.setRd_rd ..).trans (if_neg hq))
  have hvds (q : Proj) (hq : q ≠ p) : v.ds q = s.ds q := by
    rw [show v = _ from State.leaveRunning_eq v0 p, State.setHs_ds]
    exact ((State.byLamp_gatingWatch v0 p).others q hq).2
  have hvstuck : (v.ds p).state = .stuck → (s.ds p).state = .stuck := (v0.within_leaveRunning rfl).stuck p
  have hlive0 : v0.liveProj (houseOf p) = some p := State.liveProj_side hside
  have hvhs (g : HouseId) : v.hs g = if g = houseOf p then { s.hs (houseOf p) with
      gate := if (s.hs (houseOf p)).gate = .side (sideOf p) then .none else (s.hs (houseOf p)).gate
      runoutCount := none } else s.hs g := by
    rw [show v.hs g = _ from v0.leaveRunning_hs p g, if_pos hlive0]
    rfl
  have hvh : v.hs (houseOf p) = { s.hs (houseOf p) with
      gate := if (s.hs (houseOf p)).gate = .side (sideOf p) then .none else (s.hs (houseOf p)).gate
      runoutCount := none } := (hvhs _).trans (if_pos rfl)
  have hvrun : (v.tr p).state = .broken := congrArg Transport.state ((hvtr p).trans (if_pos rfl))
  have hcut := v.pictureCut_cut p .brk
  refine ⟨v, v.pictureCut (houseOf p) p .brk, hfilm, rfl, ?_, ?_⟩
  · have hvst : (v.hs (houseOf p)).state = .showing := hvh ▸ hst
    have hvlive : v.liveProj (houseOf p) = some p := State.liveProj_side (hvh ▸ hside)
    unfold Rule.failure
    dsimp only
    rw [hvst]
    dsimp only
    rw [if_pos hvlive]
    rfl
  · obtain ⟨y, hy, hshut, hunstuck, -⟩ := hcut.ds
    refine ⟨?_, fun q hq => ?_, fun q hq => ?_, hcut.lamps.trans hlp, hcut.ports.trans hpt, hcut.booth.trans hb,
      hcut.now.trans hnow, hy ▸ hshut, fun h => hy ▸ hunstuck (mt hvstuck h), fun q hq => (hcut.dss q hq).trans (hvds q hq), ?_,
      fun g hg => (hcut.hss g hg).trans ((hvhs g).trans (if_neg hg)),
      fun g hg => (hcut.lts g hg).trans (congrArg (fun b => b.cell g) hlt), ?_⟩
    · exact (congrArg (fun b => b.cell p) hcut.transports).trans ((hvtr p).trans (if_pos rfl))
    · exact (congrArg (fun b => b.cell q) hcut.transports).trans ((hvtr q).trans (if_neg hq))
    · exact (congrArg (fun b => b.cell q) hcut.readers).trans (hvrd q hq)
    · have hno : (v.tr p).state ≠ .running := fun h => nomatch hvrun.symm.trans h
      rw [hcut.hs, if_neg hno, hvh]
    · have htarget := hcut.target rfl
      rw [hvh] at htarget
      exact htarget

/-- R92, R105: what an incoming's readiness to follow depends on. -/
theorem State.readyToFollow_of {s t : State} {h : HouseId} {q : Proj} (ha : ∀ x, (t.tr x).armed = (s.tr x).armed)
    (hh : ∀ g, (t.hs g).plan = (s.hs g).plan ∧ (t.hs g).liveSide = (s.hs g).liveSide) (htr : t.tr q = s.tr q)
    (hl : t.lp q = s.lp q) (hp : t.ports = s.ports) (hd : t.ds q = s.ds q) : t.readyToFollow h q = s.readyToFollow h q := by
  have hheld (x : Proj) : t.heldEntry x = s.heldEntry x := by simp only [State.heldEntry, ha, hh]
  have hpt (n : PortId) : t.pt n = s.pt n := congrArg (fun b => b.cell n) hp
  have hlive : t.liveEntry h = s.liveEntry h := by simp only [State.liveEntry, State.liveProj, hh, funext hheld]
  have hready : t.ready q = s.ready q := by
    simp only [State.ready, State.readyFailures, State.holdsArmed, State.isSufficient, hheld, htr, hl, hpt, hd]
    rfl
  simp only [State.readyToFollow, hready, State.followingEntry, hlive, hh, htr]

theorem State.Lost.readyToFollow {s t : State} {p q : Proj} (a : s.Lost t p) (h : HouseId) (hq : q ≠ p) :
    t.readyToFollow h q = s.readyToFollow h q := by
  refine State.readyToFollow_of (fun x => ?_) (fun g => ?_) (a.trs q hq) (congrArg (fun b => b.cell q) a.lamps) a.ports (a.dss q hq)
  · by_cases hx : x = p
    · rw [hx, a.tr]
    · rw [a.trs x hx]
  · by_cases hg : g = houseOf p
    · rw [hg, a.hs]
      exact ⟨rfl, rfl⟩
    · rw [a.hss g hg]
      exact ⟨rfl, rfl⟩

/-- R118, R151: a break that its house has answered, and whose answer nothing heeds. -/
theorem Rule.finish_broken {v t : State} {l : List Signal} {p : Proj}
    (hf : Rule.failure ⟨v, [], false⟩ p .brk = ⟨t, l, false⟩) (hr : (t.hs (houseOf p)).retiring = none)
    (hd : (t.ds p).state ≠ .stuck) (hlook : Rule.look ⟨t, l, false⟩ (houseOf p) = ⟨t, l, false⟩) (hlen : l.length ≤ 30)
    (hl : ∀ y ∈ l, ∀ l', Rule.sees ⟨t, l', false⟩ y = ⟨t, l', false⟩) :
    Rule.finish ⟨v, [.transport p .broken], false⟩ = .next t := by
  have hsees : Rule.sees ⟨v, [], false⟩ (.transport p .broken) = ⟨t, l, false⟩ := by
    change (((Rule.failure ⟨v, [], false⟩ p .brk).retireSees (houseOf p) p .broken).douserCause p).look (houseOf p) = _
    rw [hf, Rule.retireSees_atRest _ _ p _ hr, Rule.douserCause_unstuck _ p hd, hlook]
  refine Rule.finish_settled (t := false) ?_ nofun
  rw [show settleBound = 511 + 1 from rfl, Rule.settle_cons, hsees]
  exact Rule.settle_unheeded 511 t l false (hlen.trans (by decide)) hl

/-- R112, R114, R117: a house whose record waits in DUE for its incoming looks at nothing. -/
theorem Rule.look_due (s : State) (l : List Signal) (t : Bool) (h : HouseId) {y : Changeover} (hst : (s.hs h).state ≠ .starting)
    (hy : (s.hs h).change = some y) (hph : y.phase = .due)
    (hw : (s.tr y.incoming).state ≠ .running ∨ (s.tr y.incoming).counter < s.leaderOf y.incoming) :
    Rule.look ⟨s, l, t⟩ h = ⟨s, l, t⟩ := by
  have hready : Rule.readinessTest ⟨s, l, t⟩ h = ⟨s, l, t⟩ := by simp [Rule.readinessTest, hy, hph]
  have hdone : Rule.completionTest ⟨s, l, t⟩ h = ⟨s, l, t⟩ := by
    unfold Rule.completionTest
    dsimp only
    rw [hy]
    dsimp only
    split
    · rfl
    · exact if_neg (by simp [State.crossingDone, hph])
  rw [Rule.look, Rule.pictureTest_idle ⟨s, l, t⟩ hst, hready, Rule.crossingTest_waits s l t h hy hw, hdone]

/-! ## The hold of a lost picture -/

/-- R97, R123: from `s` to `t` house `h` of the live projector `p`, which holds entry `e`, has gone to HOLD with its live entry
INTERRUPTED. -/
structure State.HeldLost (s t : State) (p : Proj) (e : ReelEntry) (reason : HoldReason) : Prop where
  held : s.HeldIn t (houseOf p) reason
  spared : s.Spared t (houseOf p)
  plan : (t.hs (houseOf p)).plan =
    (s.hs (houseOf p)).plan.map (fun w => if w.reel = e.reel then { w with status := .interrupted } else w)

theorem Rule.lossHold_held (s : State) (p : Proj) {e : ReelEntry} (reason : LossReason)
    (hst : (s.hs (houseOf p)).state = .showing) (hc : (s.hs (houseOf p)).change = none)
    (hside : (s.hs (houseOf p)).liveSide = some (sideOf p))
    (hhome : (s.tr p).armed.map (fun a => a.house) = some (houseOf p)) (hheld : s.heldEntry p = some e) :
    ∃ t l, Rule.lossHold ⟨s, [], false⟩ (houseOf p) reason = ⟨t, l, false⟩ ∧ l.length ≤ 20 ∧ (∀ y ∈ l, y.house = houseOf p) ∧
      s.HeldLost t p e reason.hold ∧
      t.Holds (houseOf p) (if reason ≠ .brk then (s.hs (houseOf p)).levels.hold else (s.lt (houseOf p)).programTarget)
        (if reason ≠ .brk then 30 else (s.lt (houseOf p)).programFade) := by
  have hrule := Rule.enterHold_held ⟨s, [], false⟩ (houseOf p) reason.hold (decide (reason ≠ .brk)) (by simp [hc])
  have hint := Rule.enterHold_interrupts ⟨s, [], false⟩ p reason.hold (decide (reason ≠ .brk)) hst hc hside hhome hheld
  have hholds := Rule.enterHold_holds ⟨s, [], false⟩ (houseOf p) reason.hold (decide (reason ≠ .brk))
  unfold Rule.lossHold
  generalize Rule.enterHold ⟨s, [], false⟩ (houseOf p) reason.hold (decide (reason ≠ .brk)) = r at *
  obtain ⟨t, l, tie⟩ := r
  obtain ⟨⟨-, ⟨l', hl, hlen, hof⟩, htie⟩, hheldIn⟩ := hrule
  obtain rfl : l = l' := hl
  obtain rfl : tie = false := htie
  refine ⟨t, l, rfl, hlen, hof, ⟨hheldIn, hint.2, hint.1⟩, ?_⟩
  simpa using hholds

/-! ## The break of the live picture -/

section
variable (s : State) (dt : Nat) (p : Proj) (u : Instant) (hst : (s.hs (houseOf p)).state = .showing)
  (hside : (s.hs (houseOf p)).liveSide = some (sideOf p))
  (hrun : (s.tr p).state = .running) (hu : (s.tr p).lastPulse = some u) (ht : 25000 ≤ (s.now + dt - u) * s.speedOf p)
  (ha : (s.rd p).assembling = false)
include hst hside hrun hu ht ha

/-- R12, R123: the break deadline of the live projector, by what the loss brings about. -/
theorem exec_breakDeadline_lost : ∃ v w, (s.elapse dt).Lost w p ∧ v.pictureCut (houseOf p) p .brk = w ∧
    ∀ t l, Rule.pictureLoss ⟨v, [], false⟩ (houseOf p) p .brk false = ⟨t, l, false⟩ → (t.hs (houseOf p)).retiring = none →
      (t.ds p).state ≠ .stuck → Rule.look ⟨t, l, false⟩ (houseOf p) = ⟨t, l, false⟩ → l.length ≤ 20 →
      (∀ y ∈ l, ∀ l', Rule.sees ⟨t, l', false⟩ y = ⟨t, l', false⟩) → exec (.breakDeadline dt p) s = .next t := by
  obtain ⟨v, w, hfilm, hcut, hfail, hlost⟩ := Rule.filmBreaks_lost (s.elapse dt) p u hst hside hrun hu ht ha
  exact ⟨v, w, hlost, hcut, fun t l hloss hr hds hlook hlen hl =>
    (congrArg Rule.finish hfilm).trans (Rule.finish_broken (hfail.trans hloss) hr hds hlook (hlen.trans (by decide)) hl)⟩

variable (hret : (s.hs (houseOf p)).retiring = none) (hd : (s.ds p).state ≠ .stuck)
include hret hd

/-- R123: a break with no changeover record, or with one whose incoming is not ready to follow. -/
theorem exec_breakDeadline_lossHolds {e : ReelEntry} (hhome : (s.tr p).armed.map (fun a => a.house) = some (houseOf p))
    (hheld : s.heldEntry p = some e) (hds : ∀ q, houseOf q = houseOf p → (s.ds q).state ≠ .stuck)
    (hc : (s.hs (houseOf p)).change = none ∨ ∃ y, (s.hs (houseOf p)).change = some y ∧ y.incoming ≠ p ∧
      (y.phase = .waitReady ∨ (y.phase = .delay ∧ s.readyToFollow (houseOf p) y.incoming = false))) :
    ∃ w t, (s.elapse dt).Lost w p ∧ exec (.breakDeadline dt p) s = .next t ∧
      (w.setHs (houseOf p) { w.hs (houseOf p) with change := none }).HeldLost t p e .brk ∧
      t.Holds (houseOf p) (s.hs (houseOf p)).levels.brk 10 := by
  obtain ⟨v, w, hlost, hcut, hexec⟩ := exec_breakDeadline_lost s dt p u hst hside hrun hu ht ha
  let w1 := w.setHs (houseOf p) { w.hs (houseOf p) with change := none }
  have hwhs : w.hs (houseOf p) = { s.hs (houseOf p) with dark := false, gate := .none, runoutCount := none } := hlost.hs
  have hloss : Rule.pictureLoss ⟨v, [], false⟩ (houseOf p) p .brk false = Rule.lossHold ⟨w1, [], false⟩ (houseOf p) .brk := by
    rcases hc with hc | ⟨y, hy, hne, hph⟩
    · have hwc : (w.hs (houseOf p)).change = none := by
        rw [hwhs]
        exact hc
      have hsame : w1 = w := by
        have hrec : { w.hs (houseOf p) with change := none } = w.hs (houseOf p) := by rw [← hwc]
        simp only [w1, hrec]
        exact w.setHs_self _
      rw [hsame, Rule.pictureLoss_recordless ⟨v, [], false⟩ (houseOf p) p .brk false hcut hwc]
      exact if_neg nofun
    · have hwy : (w.hs (houseOf p)).change = some y := by
        rw [hwhs]
        exact hy
      refine Rule.pictureLoss_unready ⟨v, [], false⟩ (houseOf p) p .brk false hcut hwy (hph.imp_right fun h => ⟨h.1, ?_⟩)
      exact (hlost.readyToFollow _ hne).trans h.2
  have hw1hs : w1.hs (houseOf p) = { s.hs (houseOf p) with dark := false, gate := .none, runoutCount := none, change := none } := by
    refine (State.setHs_hs ..).trans ((if_pos rfl).trans ?_)
    rw [hwhs]
  have harmed (q : Proj) : (w1.tr q).armed = (s.tr q).armed := by
    by_cases hq : q = p
    · rw [hq]
      exact (congrArg Transport.armed hlost.tr).trans rfl
    · exact congrArg Transport.armed (hlost.trs q hq)
  have hw1held : w1.heldEntry p = some e := by
    obtain ⟨x, hx, hxh, hxr, hfind⟩ := State.heldEntry_home hhome hheld
    unfold State.heldEntry
    rw [harmed, hx]
    dsimp only
    rw [hxh, hw1hs, hxr]
    exact hfind
  have hw1ds (q : Proj) (hq : houseOf q = houseOf p) : (w1.ds q).state ≠ .stuck := by
    by_cases hqp : q = p
    · rw [hqp]
      exact hlost.unstuck hd
    · rw [show w1.ds q = s.ds q from hlost.dss q hqp]
      exact hds q hq
  have hw1ret : (w1.hs (houseOf p)).retiring = none := by
    rw [hw1hs]
    exact hret
  obtain ⟨t, l, hrule, hlen, hof, hheldLost, hholds⟩ := Rule.lossHold_held w1 p .brk (by rw [hw1hs]; exact hst) (by rw [hw1hs])
    (by rw [hw1hs]; exact hside) (by rw [harmed]; exact hhome) hw1held
  have hheldIn := hheldLost.held
  refine ⟨w, t, hlost, hexec t l (hloss.trans hrule) (hheldIn.within.retiring.trans hw1ret)
    (fun h => hw1ds p rfl (hheldIn.within.stuck p h)) ?_ hlen (fun y hy l' => hheldIn.unheeded hw1ds hw1ret (hof y hy) t.link l' false),
    hheldLost, ?_⟩
  · exact Rule.look_noShow ⟨t, l, false⟩ _ (congrArg HouseState.inShow hheldIn.state) hheldIn.change
  · obtain ⟨htarget, hfade⟩ := hlost.target
    have hlt : w1.lt (houseOf p) = w.lt (houseOf p) := rfl
    simp only [ne_eq, not_true, if_false, hlt, htarget, hfade] at hholds
    exact hholds

/-- R123: a break with a record whose incoming is started: it is DUE by the loss. -/
theorem exec_breakDeadline_called {y : Changeover} (hy : (s.hs (houseOf p)).change = some y) (hne : y.incoming ≠ p)
    (hph : y.phase = .runup ∨ y.phase = .locked ∨
      (y.phase = .due ∧ y.changeSource ≠ some .loss ∧ y.held = none ∧ y.delayEnd = none)) (hshort : s.shortOfPicture y.incoming) :
    ∃ w, (s.elapse dt).Lost w p ∧ exec (.breakDeadline dt p) s =
      .next (w.setHs (houseOf p) ((w.hs (houseOf p)).called y .loss (some .brk))) := by
  obtain ⟨v, w, hlost, hcut, hexec⟩ := exec_breakDeadline_lost s dt p u hst hside hrun hu ht ha
  have hwhs : w.hs (houseOf p) = { s.hs (houseOf p) with dark := false, gate := .none, runoutCount := none } := hlost.hs
  have hwy : (w.hs (houseOf p)).change = some y := by
    rw [hwhs]
    exact hy
  have hlead (x : House) (hx : x.plan = (w.hs (houseOf p)).plan) :
      (w.setHs (houseOf p) x).leaderOf y.incoming = s.leaderOf y.incoming := by
    have hplan (g : HouseId) : ((w.setHs (houseOf p) x).hs g).plan = (s.hs g).plan := by
      rw [State.setHs_hs]
      split
      next hg => rw [hx, hwhs, hg]
      next hg => rw [hlost.hss g hg]; rfl
    have htr : ((w.setHs (houseOf p) x).tr y.incoming).armed = (s.tr y.incoming).armed :=
      congrArg Transport.armed (hlost.trs _ hne)
    simp only [State.leaderOf, State.heldEntry, htr, hplan]
  have hshort1 (x : House) (hx : x.plan = (w.hs (houseOf p)).plan) : (w.setHs (houseOf p) x).shortOfPicture y.incoming := by
    rw [State.shortOfPicture, hlead x hx, show (w.setHs (houseOf p) x).tr y.incoming = s.tr y.incoming from hlost.trs _ hne]
    exact hshort
  let t := w.setHs (houseOf p) ((w.hs (houseOf p)).called y .loss (some .brk))
  have hths : t.hs (houseOf p) = (w.hs (houseOf p)).called y .loss (some .brk) := (State.setHs_hs ..).trans (if_pos rfl)
  have hloss : Rule.pictureLoss ⟨v, [], false⟩ (houseOf p) p .brk false = ⟨t, [], false⟩ := by
    have hwaits := Rule.enterDue_waits w [] false (houseOf p) .loss (some .brk) hwy
      (by have h := hshort1 (w.hs (houseOf p)) rfl; rwa [State.setHs_self] at h)
    rcases hph with hph | hph | ⟨hph, hsrc, hh, he⟩
    · exact (Rule.pictureLoss_started ⟨v, [], false⟩ (houseOf p) p .brk false hcut hwy (.inl hph)).trans hwaits
    · exact (Rule.pictureLoss_started ⟨v, [], false⟩ (houseOf p) p .brk false hcut hwy (.inr hph)).trans hwaits
    · exact Rule.pictureLoss_due ⟨v, [], false⟩ (houseOf p) p .brk false hcut hwy hph hsrc hh he
  refine ⟨w, hlost, hexec t [] hloss ?_ (hlost.unstuck hd) ?_ (by simp) (by simp)⟩
  · rw [hths, hwhs]
    exact hret
  · refine Rule.look_due t [] false (houseOf p) (y := { y with
      phase := .due, changeSource := some .loss, loss := some .brk, held := none, delayEnd := none }) ?_ (by rw [hths]; rfl) rfl (hshort1 _ rfl)
    rw [hths, hwhs]
    exact fun h => nomatch hst.symm.trans h

end

end Sys2Proof.Machine
end

section
/-! PROOFS. The loss of the live picture: the incoming started, a crossing that goes on, and the lamp. -/

namespace Sys2Proof.Machine

/-! ## The break, with an incoming that can follow -/

section
variable (s : State) (dt : Nat) (p : Proj) (u : Instant) (hst : (s.hs (houseOf p)).state = .showing)
  (hside : (s.hs (houseOf p)).liveSide = some (sideOf p))
  (hrun : (s.tr p).state = .running) (hu : (s.tr p).lastPulse = some u) (ht : 25000 ≤ (s.now + dt - u) * s.speedOf p)
  (ha : (s.rd p).assembling = false) (hret : (s.hs (houseOf p)).retiring = none) (hd : (s.ds p).state ≠ .stuck)
  {y : Changeover} (hy : (s.hs (houseOf p)).change = some y) (hne : y.incoming ≠ p)
include hst hside hrun hu ht ha hret hd hy hne

/-- R105, R123: a break with a record in DELAY whose incoming is ready to follow. -/
theorem exec_breakDeadline_starts (hph : y.phase = .delay) (hr : s.readyToFollow (houseOf p) y.incoming = true) :
    ∃ w v, (s.elapse dt).Lost w p ∧ w.MotorOn v y.incoming ∧ exec (.breakDeadline dt p) s =
      .next (v.setHs (houseOf p) ((w.hs (houseOf p)).called y .loss (some .brk))) := by
  obtain ⟨v, w, hlost, hcut, hexec⟩ := exec_breakDeadline_lost s dt p u hst hside hrun hu ht ha
  have hwhs : w.hs (houseOf p) = { s.hs (houseOf p) with dark := false, gate := .none, runoutCount := none } := hlost.hs
  have hwy : (w.hs (houseOf p)).change = some y := by
    rw [hwhs]
    exact hy
  have hwr : w.readyToFollow (houseOf p) y.incoming = true := (hlost.readyToFollow _ hne).trans hr
  obtain ⟨x, hon, hdue⟩ := Rule.startIncoming_due w [] false (houseOf p) .loss (some .brk) hwy y rfl (State.readyToFollow_stopped hwr)
  let t := x.setHs (houseOf p) ((w.hs (houseOf p)).called y .loss (some .brk))
  have hths : t.hs (houseOf p) = (w.hs (houseOf p)).called y .loss (some .brk) := (State.setHs_hs ..).trans (if_pos rfl)
  have hloss : Rule.pictureLoss ⟨v, [], false⟩ (houseOf p) p .brk false = ⟨t, [.transport y.incoming .starting], false⟩ :=
    (Rule.pictureLoss_ready ⟨v, [], false⟩ (houseOf p) p .brk false hcut hwy hph hwr).trans hdue
  refine ⟨w, x, hlost, hon, hexec t _ hloss ?_ ?_ ?_ (by simp) fun z hz l' => ?_⟩
  · rw [hths, hwhs]
    exact hret
  · rw [show t.ds p = w.ds p from hon.dousers p hne.symm]
    exact hlost.unstuck hd
  · refine Rule.look_due t _ false (houseOf p) (y := { y with
      phase := .due, changeSource := some .loss, loss := some .brk, held := none, delayEnd := none }) ?_ (by rw [hths]; rfl) rfl
      (.inl ?_)
    · rw [hths, hwhs]
      exact fun h => nomatch hst.symm.trans h
    · rw [show t.tr y.incoming = _ from hon.tr]
      nofun
  · rw [List.mem_singleton.1 hz]
    rfl

/-- R123: a break with a record in CROSSING, which goes on. -/
theorem exec_breakDeadline_crosses (hph : y.phase = .crossing) (hopen : (s.ds y.incoming).state = .opening) :
    ∃ w, (s.elapse dt).Lost w p ∧ exec (.breakDeadline dt p) s = .next w := by
  obtain ⟨v, w, hlost, hcut, hexec⟩ := exec_breakDeadline_lost s dt p u hst hside hrun hu ht ha
  have hwhs : w.hs (houseOf p) = { s.hs (houseOf p) with dark := false, gate := .none, runoutCount := none } := hlost.hs
  have hwy : (w.hs (houseOf p)).change = some y := by
    rw [hwhs]
    exact hy
  refine ⟨w, hlost, hexec w [] (Rule.pictureLoss_crossing ⟨v, [], false⟩ (houseOf p) p .brk false hcut hwy hph) ?_
    (hlost.unstuck hd) (Rule.look_crossing ⟨w, [], false⟩ _ ?_ hwy hph ?_) (by simp) (by simp)⟩
  · rw [hwhs]
    exact hret
  · rw [hwhs]
    exact fun h => nomatch hst.symm.trans h
  · have hnot : (w.ds y.incoming).state ≠ .opened := by
      rw [show w.ds y.incoming = s.ds y.incoming from hlost.dss _ hne, hopen]
      nofun
    unfold State.crossingDone
    split
    · simp [hnot]
    · rfl

end

/-! ## The live lamp (R124) -/

/-- R38: the watch closes an OPEN douser at most, and leaves a CLOSING one alone. -/
theorem State.gatingWatch_unshut {s : State} {p : Proj} (h : (s.ds p).state = .opened ∨ (s.ds p).state = .closing) :
    ((s.gatingWatch p).ds p).state = .opened ∨ ((s.gatingWatch p).ds p).state = .closing := by
  rcases s.gatingWatch_cases p with hw | ⟨hw, -⟩
  · rw [hw]
    exact .inr (s.closeCommand_closing p h)
  · rw [hw]
    exact h

/-- R65, R66: a burning lamp goes out to a restrike, its douser closing. -/
theorem Rule.arcGoesOut_restrikes (s : State) (p : Proj) (u : Instant)
    (hds : (s.ds p).state = .opened ∨ (s.ds p).state = .closing) (hburn : (s.lp p).state = .burning)
    (hu : (s.lp p).lowStart = some u) (ht : u + 2000 ≤ s.now) (hp : s.restrikePermitted p = true) :
    ∃ v, Rule.arcGoesOut ⟨s, [], false⟩ p = ⟨v, [.lampLeft p true], false⟩ ∧ s.ByLamp v p ∧ (v.ds p).state = .closing ∧
      v.lp p = ({ s.lp p with restrikeUsed := true }).struckAt s.now := by
  have hlit : (s.lp p).lit = true := (Lamp.lit_iff _).2 (.inr hburn)
  have hon : (s.lp p).state ≠ .off := by simp [hburn]
  let w := (s.restriking p).struck p
  let v := w.closeCommand p
  have hby0 : s.ByLamp (s.restriking p) p := s.byLamp_restriking p
  have hbyw : s.ByLamp w p := hby0.trans (State.byLamp_struck _ p)
  have hby : s.ByLamp v p := hbyw.trans (w.byLamp_closeCommand p)
  have hrule : Rule.arcGoesOut ⟨s, [], false⟩ p = ⟨v, [.lampLeft p true], false⟩ :=
    (Rule.arcGoesOut_due s p u hlit hu ht).trans ((if_pos hp).trans
      ((Rule.restrike_eq s p hon).trans (by rw [if_pos hburn])))
  have hrds : (s.restriking p).ds p = s.ds p := by
    unfold State.restriking
    rw [State.endBurst_eq]
    rfl
  have hwds : (w.ds p).state = .opened ∨ (w.ds p).state = .closing := by
    refine State.gatingWatch_unshut ?_
    rw [State.setLp_ds, hrds]
    exact hds
  have hvds : (v.ds p).state = .closing := w.closeCommand_closing p hwds
  have hvlp : v.lp p = ({ s.lp p with restrikeUsed := true }).struckAt s.now := by
    refine (congrArg (fun b => b.cell p) (w.closeCommand_keeps p).2.2.2.1).trans ((State.struck_lp _ p).trans ?_)
    rw [State.restriking_lp, hby0.now]
  exact ⟨v, hrule, hby, hvds, hvlp⟩

section
variable (s : State) (dt : Nat) (p : Proj) (u : Instant) (hst : (s.hs (houseOf p)).state = .showing)
  (hside : (s.hs (houseOf p)).liveSide = some (sideOf p)) (hc : (s.hs (houseOf p)).change = none)
include hst hside hc

/-- R66, R124: the live lamp goes out to a restrike, and the house goes on dark. -/
theorem exec_arcOut_dark (hrun : (s.tr p).state = .running) (hds : (s.ds p).state = .opened ∨ (s.ds p).state = .closing)
    (hburn : (s.lp p).state = .burning) (hu : (s.lp p).lowStart = some u) (ht : u + 2000 ≤ s.now + dt)
    (hp : s.restrikePermitted p = true) : ∃ t : State, exec (.arcOut dt p) s = .next t ∧
      t.hs (houseOf p) = { s.hs (houseOf p) with dark := true } ∧
      t.lp p = ({ s.lp p with restrikeUsed := true }).struckAt (s.now + dt) ∧ (t.ds p).state = .closing ∧
      t.transports = s.transports ∧ t.readers = s.readers ∧ t.lights = s.lights ∧ (∀ i, i ≠ houseOf p → t.hs i = s.hs i) ∧
      t.ports = s.ports ∧ t.booth = s.booth := by
  obtain ⟨v, hrule, hby, hvds, hvlp⟩ := Rule.arcGoesOut_restrikes (s.elapse dt) p u hds hburn hu ht hp
  have hvhs (g : HouseId) : v.hs g = s.hs g := congrArg (fun b => b.cell g) hby.houses
  have hcut := v.pictureCut_cut p .lamp
  let x := v.pictureCut (houseOf p) p .lamp
  have hxhs : x.hs (houseOf p) = { s.hs (houseOf p) with dark := false } := by
    have hvrun : (v.tr p).state = .running := (congrArg (fun b => (b.cell p).state) hby.transports).trans hrun
    rw [show x.hs (houseOf p) = _ from hcut.hs, if_pos hvrun, hvhs]
  let t := x.setHs (houseOf p) { s.hs (houseOf p) with dark := true }
  have hths : t.hs (houseOf p) = { s.hs (houseOf p) with dark := true } := (State.setHs_hs ..).trans (if_pos rfl)
  have hfail : Rule.failure ⟨v, [], false⟩ p (.lamp true) = ⟨t, [], false⟩ := by
    have hvst : (v.hs (houseOf p)).state = .showing := by
      rw [hvhs]
      exact hst
    have hvlive : v.liveProj (houseOf p) = some p := State.liveProj_side (by rw [hvhs]; exact hside)
    have hxrun : (x.tr p).state = .running :=
      (congrArg (fun b => (b.cell p).state) (hcut.transports.trans hby.transports)).trans hrun
    have hloss := Rule.pictureLoss_recordless ⟨v, [], false⟩ (houseOf p) p .lamp true (w := x) rfl (by rw [hxhs]; exact hc)
    rw [if_pos ⟨rfl, rfl, hxrun⟩, hxhs] at hloss
    unfold Rule.failure
    dsimp only
    rw [hvst]
    dsimp only
    rw [if_pos hvlive]
    exact hloss
  have hsees : Rule.sees ⟨v, [], false⟩ (.lampLeft p true) = ⟨t, [], false⟩ := by
    change (Rule.failure ⟨v, [], false⟩ p (.lamp true)).look (houseOf p) = _
    rw [hfail]
    refine Rule.look_idle ⟨t, [], false⟩ ?_ ?_
    · rw [hths]
      exact fun h => nomatch hst.symm.trans h
    · rw [hths]
      exact hc
  have hfin : exec (.arcOut dt p) s = .next t := by
    refine (congrArg Rule.finish hrule).trans (Rule.finish_settled (t := false) ?_ nofun)
    rw [show settleBound = 511 + 1 from rfl, Rule.settle_cons, hsees]
    exact Rule.settle_nil ..
  obtain ⟨d, hd, -, -, hclosing⟩ := hcut.ds
  refine ⟨t, hfin, hths, (congrArg (fun b => b.cell p) hcut.lamps).trans hvlp, ?_, hcut.transports.trans hby.transports,
    hcut.readers.trans hby.readers, (hcut.lights nofun).trans hby.lights, fun i hi => ?_, hcut.ports.trans hby.ports,
    hcut.booth.trans hby.booth⟩
  · rw [show t.ds p = d from hd]
    exact hclosing (.inr hvds)
  · exact (State.setHs_hs ..).trans ((if_neg hi).trans ((hcut.hss i hi).trans (hvhs i)))

/-- R58, R124: the live lamp of a dark house is BURNING again, and its douser is opened. -/
theorem exec_settleEnd_dark (hrun : (s.tr p).state = .running) (hdark : (s.hs (houseOf p)).dark = true)
    (hset : (s.lp p).state = .settling) (hu : (s.lp p).settleStart = some u) (ht : u + 100000 ≤ s.now + dt)
    (hds : (s.ds p).state = .closed) (hport : (s.pt (projPort p)).state = .held) : ∃ w : State, exec (.settleEnd dt p) s =
      .next (w.setDs p ((s.ds p).openingFrom true (s.now + dt))) ∧
      w.hs (houseOf p) = { s.hs (houseOf p) with dark := false } ∧ (w.lp p).state = .burning ∧
      w.transports = s.transports ∧ w.readers = s.readers ∧ w.lights = s.lights ∧ (∀ i, i ≠ houseOf p → w.hs i = s.hs i) ∧
      w.ports = s.ports ∧ w.booth = s.booth := by
  let l := { s.lp p with state := .burning, settleStart := none, minute := some ⟨s.now + dt, 0⟩ }
  let v := ((s.elapse dt).setLp p l).reportProj p
    (.struck (s.lp p).current (s.lp p).voltage (s.lp p).sweepPulses (s.lp p).account (s.lp p).restrikeUsed)
  have hrule : Rule.settles ⟨s.elapse dt, [], false⟩ p = ⟨v, [.lampBurning p], false⟩ := Rule.settles_due (s.elapse dt) p u hset hu ht
  let w := v.setHs (houseOf p) { s.hs (houseOf p) with dark := false }
  have hwlp : w.lp p = l := (State.setLp_lp ..).trans (if_pos rfl)
  have hwhs : w.hs (houseOf p) = { s.hs (houseOf p) with dark := false } := (State.setHs_hs ..).trans (if_pos rfl)
  have hwst : (w.lp p).state = .burning := congrArg Lamp.state hwlp
  have hgate : w.gating p = true := by
    rw [State.gating, hwst, show (w.tr p).state = .running from hrun, show (w.pt (projPort p)).state = .held from hport]
    simp
  have hreturns : v.lampReturns p = w.setDs p ((s.ds p).openingFrom true (s.now + dt)) := by
    unfold State.lampReturns
    dsimp only
    rw [if_pos ⟨show (v.hs (houseOf p)).state = .showing from hst, show (v.hs (houseOf p)).dark = true from hdark,
      State.liveProj_side hside⟩]
    rw [if_neg (by rw [show (v.hs (houseOf p)).change = none from hc]; nofun)]
    exact State.openCommand_closed (s := w) hgate hds
  let t := w.setDs p ((s.ds p).openingFrom true (s.now + dt))
  have hsees : Rule.sees ⟨v, [], false⟩ (.lampBurning p) = ⟨t, [], false⟩ := by
    change (Rule.upd ⟨v, [], false⟩ (fun s => s.lampReturns p)).look (houseOf p) = _
    have hup : Rule.upd ⟨v, [], false⟩ (fun s => s.lampReturns p) = ⟨t, [], false⟩ :=
      congrArg (fun s => (⟨s, [], false⟩ : Rule)) hreturns
    rw [hup]
    refine Rule.look_idle ⟨t, [], false⟩ ?_ ?_
    · rw [State.setDs_hs, hwhs]
      exact fun h => nomatch hst.symm.trans h
    · rw [State.setDs_hs, hwhs]
      exact hc
  refine ⟨w, ?_, hwhs, hwst, rfl, rfl, rfl, fun i hi => (State.setHs_hs ..).trans (if_neg hi), rfl, rfl⟩
  refine (congrArg Rule.finish hrule).trans (Rule.finish_settled (t := false) ?_ nofun)
  rw [show settleBound = 511 + 1 from rfl, Rule.settle_cons, hsees]
  exact Rule.settle_nil ..

/-- R54, R124: the restrike of the live lamp of a dark house fails, and the house holds. -/
theorem exec_supplyLimit_dark {e : ReelEntry} (hdark : (s.hs (houseOf p)).dark = true) (hret : (s.hs (houseOf p)).retiring = none)
    (hhome : (s.tr p).armed.map (fun a => a.house) = some (houseOf p)) (hheld : s.heldEntry p = some e)
    (hds : ∀ q, houseOf q = houseOf p → (s.ds q).state ≠ .stuck) (hstr : (s.lp p).state = .striking)
    (hph : (s.lp p).phase = some .supply) (hu : (s.lp p).phaseStart = some u) (ht : u + 20000 ≤ s.now + dt) :
    ∃ v w t : State, exec (.supplyLimit dt p) s = .next t ∧ v = ((s.elapse dt).setLp p ((s.lp p).stopped .strikeSupply)).reportProj p
        (.strikeFail .strikeSupply (s.lp p).highSupply 0) ∧ v.Cut w p .lamp ∧ w.HeldLost t p e .lamp ∧
      t.Holds (houseOf p) (s.hs (houseOf p)).levels.hold 30 := by
  let v := ((s.elapse dt).setLp p ((s.lp p).stopped .strikeSupply)).reportProj p (.strikeFail .strikeSupply (s.lp p).highSupply 0)
  have hrule : Rule.supplyExpires ⟨s.elapse dt, [], false⟩ p = ⟨v, [.lampOff p], false⟩ := by
    rw [Rule.supplyExpires_due (s.elapse dt) p u hph hu ht, Rule.lampStops_striking (s.elapse dt) [] false p .strikeSupply hstr rfl]
    rfl
  have hcut := v.pictureCut_cut p .lamp
  let w := v.pictureCut (houseOf p) p .lamp
  have hwhs : w.hs (houseOf p) = { s.hs (houseOf p) with
      dark := false
      gate := if (v.tr p).state = .running then (s.hs (houseOf p)).gate else .none } := hcut.hs
  have hwheld : w.heldEntry p = some e := by
    obtain ⟨x, hx, hxh, hxr, hfind⟩ := State.heldEntry_home hhome hheld
    have harm : (w.tr p).armed = some x := (congrArg (fun b => (b.cell p).armed) hcut.transports).trans hx
    unfold State.heldEntry
    rw [harm]
    dsimp only
    rw [hxh, hwhs, hxr]
    exact hfind
  have hwhome : (w.tr p).armed.map (fun a => a.house) = some (houseOf p) := by
    rw [show (w.tr p).armed = (s.tr p).armed from congrArg (fun b => (b.cell p).armed) hcut.transports]
    exact hhome
  have hwds (q : Proj) (hq : houseOf q = houseOf p) : (w.ds q).state ≠ .stuck := by
    by_cases hqp : q = p
    · obtain ⟨d, hd, -, hun, -⟩ := hcut.ds
      rw [hqp, show w.ds p = d from hd]
      exact hun (hds p rfl)
    · rw [show w.ds q = s.ds q from hcut.dss q hqp]
      exact hds q hq
  have hwret : (w.hs (houseOf p)).retiring = none := by
    rw [hwhs]
    exact hret
  obtain ⟨t, l, hhold, hlen, hof, hheldLost, hholds⟩ := Rule.lossHold_held w p .lamp (by rw [hwhs]; exact hst)
    (by rw [hwhs]; exact hc) (by rw [hwhs]; exact hside) hwhome hwheld
  have hsees : Rule.sees ⟨v, [], false⟩ (.lampOff p) = ⟨t, l, false⟩ := by
    have hloss := Rule.pictureLoss_recordless ⟨v, [], false⟩ (houseOf p) p .lamp false (w := w) rfl (by rw [hwhs]; exact hc)
    rw [if_neg (by simp)] at hloss
    have hdarkOff : Rule.darkLampOff ⟨v, [], false⟩ p = Rule.pictureLoss ⟨v, [], false⟩ (houseOf p) p .lamp false :=
      if_pos ⟨hst, hdark, State.liveProj_side hside⟩
    exact hdarkOff.trans (hloss.trans hhold)
  have hheldIn := hheldLost.held
  refine ⟨v, w, t, ?_, rfl, hcut, hheldLost, ?_⟩
  · refine (congrArg Rule.finish hrule).trans (Rule.finish_settled (t := false) ?_ nofun)
    rw [show settleBound = 511 + 1 from rfl, Rule.settle_cons, hsees]
    exact Rule.settle_unheeded 511 t l false (hlen.trans (by decide)) fun y hy l' =>
      hheldIn.unheeded hwds hwret (hof y hy) t.link l' false
  · rw [if_pos nofun, if_pos nofun, hwhs] at hholds
    exact hholds

end

/-! ## The statement -/

/-- What a break leaves of the other projectors and houses, of the ports and of the booth. -/
theorem State.Lost.others {s w : State} {dt : Nat} {p : Proj} (a : (s.elapse dt).Lost w p) (x : House) :
    (∀ q, q ≠ p → (w.setHs (houseOf p) x).tr q = s.tr q ∧ (w.setHs (houseOf p) x).rd q = s.rd q ∧
      (w.setHs (houseOf p) x).ds q = s.ds q ∧ (w.setHs (houseOf p) x).lp q = s.lp q) ∧
    (∀ i, i ≠ houseOf p → (w.setHs (houseOf p) x).hs i = s.hs i ∧ (w.setHs (houseOf p) x).lt i = s.lt i) ∧
    (w.setHs (houseOf p) x).ports = s.ports ∧ (w.setHs (houseOf p) x).booth = s.booth :=
  ⟨fun q hq => ⟨a.trs q hq, a.rds q hq, a.dss q hq, congrArg (fun b => b.cell q) a.lamps⟩,
    fun i hi => ⟨(State.setHs_hs ..).trans ((if_neg hi).trans (a.hss i hi)), a.lts i hi⟩, a.ports, a.booth⟩

/-- A break in a house whose live reel has not run out. -/
theorem State.Lost.hs_showing {s w : State} {dt : Nat} {p : Proj} (a : (s.elapse dt).Lost w p)
    (hcount : (s.hs (houseOf p)).runoutCount = none) :
    w.hs (houseOf p) = { s.hs (houseOf p) with dark := false, gate := .none } := by
  rw [a.hs, State.elapse_hs, ← hcount]

/-- R97, R123: what is read off a house that holds after a loss. -/
theorem State.HeldLost.houses {s w t : State} {p : Proj} {e : ReelEntry} {reason : HoldReason} (a : w.HeldLost t p e reason)
    (hw : ∀ i, i ≠ houseOf p → w.hs i = s.hs i ∧ w.lt i = s.lt i) (i : HouseId) (hi : i ≠ houseOf p) :
    t.hs i = s.hs i ∧ t.lt i = s.lt i :=
  ⟨(a.spared.hss i hi).trans (hw i hi).1, (a.held.within.lts i hi).trans (hw i hi).2⟩

theorem State.HeldIn.stopped {s t : State} {h : HouseId} {reason : HoldReason} (a : s.HeldIn t h reason) (q : Proj)
    (hq : houseOf q = h) : (t.tr q).state ≠ .starting ∧ (t.tr q).state ≠ .running ∧ (t.ds q).state ≠ .opened ∧
      (t.ds q).state ≠ .opening :=
  ⟨fun h => a.undriven q hq (.inl h), fun h => a.undriven q hq (.inr h), fun h => a.shut q hq (.inl h),
    fun h => a.shut q hq (.inr h)⟩

/-- Settles O40, by the changeover record where the film breaks, and by the restrike where the lamp goes out. -/
theorem breakOfTheLivePictureHolds : Obligations.BreakOfTheLivePictureHolds := by
  refine ⟨fun s dt p h u e hh hst hside hc hret hhome hheld ha hds hrun hu ht => ?_,
    fun s dt h p q e y u hshows hq ha hdp hdq hu ht hy hin => ?_, fun s dt h p e u hshows hc hds => ⟨?_, ?_, ?_⟩⟩
  · subst hh
    obtain ⟨w, t, hlost, hexec, hheldLost, hholds⟩ := exec_breakDeadline_lossHolds s dt p u hst hside hrun hu ht ha hret
      (hds p rfl) hhome hheld hds (.inl hc)
    obtain ⟨hothers, hhouses, hpt, hb⟩ := hlost.others { w.hs (houseOf p) with change := none }
    have hheldIn := hheldLost.held
    have hwtr : w.tr p = { s.tr p with state := .broken, miss := .normal, lockCount := 0 } := hlost.tr
    have hne (q : Proj) (hq : houseOf q ≠ houseOf p) : q ≠ p := fun e => hq (e ▸ rfl)
    refine ⟨t, hexec, (hheldLost.spared.undriven p ?_).trans hwtr, hheldIn.state, hheldIn.holdReason, hheldIn.gate, ?_,
      hheldIn.dark, hheldIn.change, ?_, hheldIn.stopped, hholds.target, hholds.fade, fun q hq => ⟨?_, ?_, ?_, ?_⟩,
      hheldLost.houses hhouses, hheldIn.within.ports.trans hpt, hheldIn.within.booth.trans hb⟩
    · rw [State.setHs_tr, hwtr]
      exact fun h => h.elim nofun nofun
    · rw [hheldIn.within.liveSide, State.setHs_hs, if_pos rfl, hlost.hs]
      exact hside
    · rw [hheldLost.plan, State.setHs_hs, if_pos rfl, hlost.hs]
      rfl
    · exact (hheldIn.within.trs q hq).trans (hothers q (hne q hq)).1
    · exact (hheldIn.within.rds q hq).trans (hothers q (hne q hq)).2.1
    · exact (hheldIn.within.dss q hq).trans (hothers q (hne q hq)).2.2.1
    · exact (hheldIn.within.lps q hq).trans (hothers q (hne q hq)).2.2.2
  · obtain ⟨rfl, hst, hside, hret, hcount, hrun, -, hhome, hheld, -⟩ := hshows
    subst hin
    have hne : y.incoming ≠ p := hq ▸ otherProj_ne p
    refine ⟨fun hph hshort => ?_, fun hph hr htrial => ?_, fun hph hr => ?_, fun hph hopen => ?_⟩
    · obtain ⟨w, hlost, hexec⟩ := exec_breakDeadline_called s dt p u hst hside hrun hu ht ha hret hdp hy hne hph hshort
      obtain ⟨hothers, hhouses, hpt, hb⟩ := hlost.others ((w.hs (houseOf p)).called y .loss (some .brk))
      obtain ⟨htarget, hfade⟩ := hlost.target
      refine ⟨_, hexec, ?_, congrArg Transport.state hlost.tr, fun h => hlost.shut (.inl h), fun h => hlost.shut (.inr h), htarget,
        hfade, hothers, hhouses, hpt, hb⟩
      rw [State.setHs_hs, if_pos rfl, hlost.hs_showing hcount]
      rfl
    · obtain ⟨w, v, hlost, hon, hexec⟩ := exec_breakDeadline_starts s dt p u hst hside hrun hu ht ha hret hdp hy hne hph hr
      obtain ⟨htarget, hfade⟩ := hlost.target
      have hlt (g : HouseId) : v.lt g = w.lt g := congrArg (fun b => b.cell g) hon.lights
      have htr : v.tr y.incoming = (s.tr y.incoming).started (s.now + dt) := by
        rw [hon.tr, hlost.trs _ hne, hlost.now]
        rfl
      refine ⟨_, hexec, ?_, ?_, congrArg Transport.state htr, congrArg Transport.motorOn htr, ?_, ?_, fun i hi => ⟨?_, ?_⟩,
        hon.ports.trans hlost.ports, hon.booth.trans hlost.booth⟩
      · rw [State.setHs_hs, if_pos rfl, hlost.hs_showing hcount]
        rfl
      · exact (congrArg Transport.state (hon.trs p hne.symm)).trans (congrArg Transport.state hlost.tr)
      · exact (congrArg Light.programTarget (hlt _)).trans htarget
      · exact (congrArg Light.programFade (hlt _)).trans hfade
      · exact (State.setHs_hs ..).trans ((if_neg hi).trans ((congrArg (fun b => b.cell i) hon.houses).trans (hlost.hss i hi)))
      · exact (hlt i).trans (hlost.lts i hi)
    · have hboth (x : Proj) (hx : houseOf x = houseOf p) : (s.ds x).state ≠ .stuck := by
        rcases eq_or_eq_otherProj hx with rfl | rfl
        · exact hdp
        · exact hq ▸ hdq
      obtain ⟨w, t, hlost, hexec, hheldLost, hholds⟩ := exec_breakDeadline_lossHolds s dt p u hst hside hrun hu ht ha hret hdp
        hhome hheld hboth (.inr ⟨y, hy, hne, hph.imp_right fun h => ⟨h, hr⟩⟩)
      obtain ⟨hothers, hhouses, hpt, hb⟩ := hlost.others { w.hs (houseOf p) with change := none }
      have hheldIn := hheldLost.held
      have hwtr : w.tr p = { s.tr p with state := .broken, miss := .normal, lockCount := 0 } := hlost.tr
      refine ⟨t, hexec, hheldIn.state, hheldIn.holdReason, hheldIn.change, hheldIn.gate, ?_, ?_, ?_, hholds.target, hholds.fade,
        hheldLost.houses hhouses, hheldIn.within.ports.trans hpt, hheldIn.within.booth.trans hb⟩
      · rw [hheldLost.plan, State.setHs_hs, if_pos rfl, hlost.hs]
        rfl
      · refine (congrArg Transport.state (hheldLost.spared.undriven p ?_)).trans (congrArg Transport.state hwtr)
        rw [State.setHs_tr, hwtr]
        exact fun h => h.elim nofun nofun
      · exact (hheldLost.spared.armed _).trans (congrArg Transport.armed (hothers _ hne).1)
    · obtain ⟨w, hlost, hexec⟩ := exec_breakDeadline_crosses s dt p u hst hside hrun hu ht ha hret hdp hy hne hph hopen
      obtain ⟨htarget, hfade⟩ := hlost.target
      refine ⟨w, hexec, ?_, ?_, ?_, congrArg Transport.state hlost.tr, fun h => hlost.shut (.inl h), fun h => hlost.shut (.inr h),
        htarget, hfade, fun x hx => ⟨hlost.trs x hx, hlost.rds x hx, hlost.dss x hx, congrArg (fun b => b.cell x) hlost.lamps⟩,
        fun i hi => ⟨hlost.hss i hi, hlost.lts i hi⟩, hlost.ports, hlost.booth⟩ <;> rw [hlost.hs]
      · exact hst
      · exact hy
      · rfl
  · obtain ⟨rfl, hst, hside, hret, hcount, hrun, -⟩ := hshows
    intro hu ht hdark hds hburn hauto hused hacc hcool hcov
    exact exec_arcOut_dark s dt p u hst hside hc hrun hds hburn hu ht
      ((State.restrikePermitted_iff ..).2 ⟨hauto, hused, hacc, (Booth.coolEnough_iff _).2 hcool, hcov⟩)
  · obtain ⟨rfl, hst, hside, hret, hcount, hrun, -⟩ := hshows
    intro hdark hset hu ht hds hport
    obtain ⟨w, hexec, hhs, hlp, htr, hrd, hlt, hhouses, hpt, hb⟩ :=
      exec_settleEnd_dark s dt p u hst hside hc hrun hdark hset hu ht hds hport
    exact ⟨_, hexec, hhs, hlp, (State.setDs_ds ..).trans (if_pos rfl), htr, hrd, hlt, hhouses, hpt, hb⟩
  · obtain ⟨rfl, hst, hside, hret, hcount, hrun, -, hhome, hheld, -⟩ := hshows
    intro hdark hstr hph hu ht
    obtain ⟨v, w, t, hexec, hv, hcut, hheldLost, hholds⟩ :=
      exec_supplyLimit_dark s dt p u hst hside hc hdark hret hhome hheld hds hstr hph hu ht
    have hheldIn := hheldLost.held
    have hwlp : w.lp p = (s.lp p).stopped .strikeSupply := by
      refine (congrArg (fun b => b.cell p) hcut.lamps).trans ?_
      rw [hv]
      exact (State.setLp_lp ..).trans (if_pos rfl)
    have hvhs (i : HouseId) : v.hs i = s.hs i := by
      rw [hv]
      rfl
    have hvlt : v.lights = s.lights := by
      rw [hv]
      rfl
    refine ⟨t, hexec, ?_, ?_, hheldIn.state, hheldIn.holdReason, hheldIn.dark, hheldIn.gate, ?_, hheldIn.stopped, hholds.target,
      hholds.fade, hheldLost.houses fun i hi => ⟨(hcut.hss i hi).trans (hvhs i), ?_⟩, hheldIn.within.ports.trans (hcut.ports.trans ?_),
      hheldIn.within.booth.trans (hcut.booth.trans ?_)⟩
    · rw [(hheldLost.spared.lamps p).1, hwlp]
      rfl
    · rw [(hheldLost.spared.lamps p).2, hwlp]
      rfl
    · rw [hheldLost.plan, hcut.hs, hvhs]
    · exact congrArg (fun b => b.cell i) ((hcut.lights nofun).trans hvlt)
    · rw [hv]
      rfl
    · rw [hv]
      rfl

end Sys2Proof.Machine
end

section
/-! PROOFS. A crossing: its beginning at the picture, and its three instants. -/

namespace Sys2Proof.Machine

/-! ## What falls at an offset (R116) -/

section
variable {s : State} {h : HouseId} {y : Changeover} {x : Crossing} {n : Nat}

/-- The house whose crossing stands at `x`. -/
def House.crossed (z : House) (y : Changeover) (x : Crossing) : House := { z with change := some { y with crossing := some x } }

/-- A crossing's record changed in its house. -/
theorem State.modChange_crossed {s : State} {h : HouseId} {y : Changeover} {x : Crossing} (hy : (s.hs h).change = some y)
    (hx : y.crossing = some x) (f : Crossing → Crossing) :
    s.modChange h (fun c => { c with crossing := c.crossing.map f }) = s.setHs h ((s.hs h).crossed y (f x)) := by
  simp [State.modChange, State.modHs, House.crossed, hy, hx]

theorem State.crossingOpen_other (h : HouseId) (hno : x.openOffset ≠ n) : s.crossingOpen h y x n = s := if_neg fun hx => hno hx.2
theorem State.crossingClose_other (h : HouseId) (hno : x.closeOffset ≠ some n) : s.crossingClose h y x n = s := if_neg fun hx => hno hx.2
theorem State.crossingSound_other (h : HouseId) (hno : x.soundOffset ≠ n) : s.crossingSound h y x n = s := if_neg fun hx => hno hx.2

variable {z : Changeover} {v : Crossing} (hz : (s.hs h).change = some z) (hv : z.crossing = some v)
include hz hv

/-- R116: the open command of a crossing, to a CLOSED gated douser. -/
theorem State.crossingOpen_given (hg : x.openGiven = false) (ho : x.openOffset = n) (hgate : s.gating y.incoming = true)
    (hd : (s.ds y.incoming).state = .closed) : s.crossingOpen h y x n =
      (s.setDs y.incoming ((s.ds y.incoming).openingFrom true s.now)).setHs h ((s.hs h).crossed z { v with openGiven := true }) := by
  rw [State.crossingOpen, if_pos ⟨hg, ho⟩, State.openCommand_closed hgate hd]
  exact State.modChange_crossed (s := s.setDs _ _) hz hv (fun x => { x with openGiven := true })

/-- R116: the close command of a crossing, to an OPEN douser. -/
theorem State.crossingClose_given (hg : x.closeGiven = false) (ho : x.closeOffset = some n)
    (hd : (s.ds (otherProj y.incoming)).state = .opened) : s.crossingClose h y x n =
      (s.setDs (otherProj y.incoming) ((s.ds (otherProj y.incoming)).closingFrom true s.now)).setHs h
        ((s.hs h).crossed z { v with closeGiven := true }) := by
  rw [State.crossingClose, if_pos ⟨hg, ho⟩, State.closeCommand_opened hd]
  exact State.modChange_crossed (s := s.setDs _ _) hz hv (fun x => { x with closeGiven := true })

/-- R116: what falls at an offset, with its record. -/
theorem State.crossingAt_eq (n : Nat) :
    s.crossingAt h n = ((s.crossingOpen h z v n).crossingClose h z v n).crossingSound h z v n := by
  rw [State.crossingAt, hz]
  dsimp only
  rw [hv]

end

/-! ## The instants -/

/-- R116: before its instant an offset brings nothing about. -/
theorem exec_crossing_early (s : State) (dt : Nat) (h : HouseId) {x : Crossing} {c : Instr} {o : Nat}
    (hc : exec c s = (Rule.crossingInstant ⟨s.elapse dt, [], false⟩ h x.start o).finish) (ht : s.now + dt < x.start + 10 * o) :
    exec c s = .next (s.elapse dt) := by
  have hearly : due (some (x.start + ms o)) (s.elapse dt).now = false := due_early ht
  rw [hc, Rule.crossingInstant]
  dsimp only
  rw [hearly]
  exact Rule.finish_plain _

/-- R116, R117: at its instant an offset falls, here without completing the crossing. -/
theorem exec_crossing_due (s : State) (dt : Nat) (h : HouseId) {x : Crossing} {c : Instr} {o : Nat} {t : State}
    (hc : exec c s = (Rule.crossingInstant ⟨s.elapse dt, [], false⟩ h x.start o).finish) (ht : x.start + 10 * o ≤ s.now + dt)
    (hat : (s.elapse dt).crossingAt h o = t) (hst : (t.hs h).state ≠ .starting) {z : Changeover} (hz : (t.hs h).change = some z)
    (hph : z.phase = .crossing) (hd : t.crossingDone z = false) : exec c s = .next t := by
  have hdue : due (some (x.start + ms o)) (s.elapse dt).now = true := due_late ht
  have hup : Rule.upd ⟨s.elapse dt, [], false⟩ (fun s => s.crossingAt h o) = ⟨t, [], false⟩ :=
    congrArg (fun s => (⟨s, [], false⟩ : Rule)) hat
  rw [hc, Rule.crossingInstant]
  dsimp only
  rw [hdue, if_pos rfl, hup, Rule.look_crossing ⟨t, [], false⟩ h hst hz hph hd]
  exact Rule.finish_plain _

section
variable (s : State) (dt : Nat) (h : HouseId) {y : Changeover} {x : Crossing} (hy : (s.hs h).change = some y)
  (hx : y.crossing = some x)
include hy hx

theorem State.crossing_eq : s.crossing h = some x := by
  rw [State.crossing, hy]
  exact hx

theorem exec_crossingOpenInstant_eq : exec (.crossingOpenInstant dt h) s =
    (Rule.crossingInstant ⟨s.elapse dt, [], false⟩ h x.start x.openOffset).finish := by
  change execCrossingOpenInstant dt h s = _
  unfold execCrossingOpenInstant
  rw [s.crossing_eq h hy hx]
  rfl

theorem exec_crossingCloseInstant_eq {n : Nat} (hn : x.closeOffset = some n) : exec (.crossingCloseInstant dt h) s =
    (Rule.crossingInstant ⟨s.elapse dt, [], false⟩ h x.start n).finish := by
  change execCrossingCloseInstant dt h s = _
  unfold execCrossingCloseInstant
  rw [s.crossing_eq h hy hx]
  dsimp only
  rw [hn]
  rfl

theorem exec_soundInstant_eq : exec (.soundInstant dt h) s =
    (Rule.crossingInstant ⟨s.elapse dt, [], false⟩ h x.start x.soundOffset).finish := by
  change execSoundInstant dt h s = _
  unfold execSoundInstant
  rw [s.crossing_eq h hy hx]
  rfl

end

/-! ## The sound instant -/

/-- R130, R131: the one cue of an entry fires. -/
theorem State.fireCues_single {s : State} {h : HouseId} {e : ReelEntry} {c : LightCue} {cond : CueTrigger → Bool}
    (hfind : findReel (s.hs h).plan e.reel = some e) (hcues : e.cues = [c]) (hf : c.fired = false) (hc : cond c.trigger = true) :
    ∃ l : Light, s.fireCues h e.reel cond = (s.setHs h { s.hs h with
      plan := mapReel (s.hs h).plan e.reel (fun x => { x with cues := markFired x.cues cond }) }).setLt h l ∧
      l.programTarget = c.target ∧ l.programFade = c.fade := by
  refine ⟨(s.lt h).giveProgram s.now c.target c.fade (.cue e.reel c.trigger), ?_, ((s.lt h).giveProgram_program ..).1,
    ((s.lt h).giveProgram_program ..).2⟩
  unfold State.fireCues
  rw [hfind]
  dsimp only
  rw [hcues, List.filter_singleton, hf, hc]
  rfl

/-- R116: the sound instant of a crossing to a RUNNING incoming whose one light cue is a START cue. -/
theorem State.crossingSound_start {s : State} {h : HouseId} {y : Changeover} {x : Crossing} {e : ReelEntry} {n v f : Nat}
    (hy : (s.hs h).change = some y) (hx : y.crossing = some x) (hh : houseOf y.incoming = h) (hsw : x.switched = false)
    (hn : x.soundOffset = n) (hrun : (s.tr y.incoming).state = .running)
    (hhome : (s.tr y.incoming).armed.map (fun a => a.house) = some h) (hheld : s.heldEntry y.incoming = some e)
    (hcues : e.cues = [⟨.start, v, f, false⟩]) :
    ∃ l : Light, s.crossingSound h y x n = (s.setHs h { s.hs h with
        gate := .side (sideOf y.incoming)
        change := some { y with crossing := some { x with switched := true } }
        plan := mapReel (s.hs h).plan e.reel (fun x => { x with cues := markFired x.cues isStart }) }).setLt h l ∧
      l.programTarget = v ∧ l.programFade = f := by
  obtain ⟨a, ha, hah, har, hfind⟩ := State.heldEntry_home hhome hheld
  let s1 := s.setHs h { s.hs h with gate := .side (sideOf y.incoming) }
  have hs1 : s1.hs h = { s.hs h with gate := .side (sideOf y.incoming) } := (State.setHs_hs ..).trans (if_pos rfl)
  have hselect : s.selectSide h (sideOf y.incoming) = s1 := by
    have hproj : projAt h (sideOf y.incoming) = y.incoming := hh ▸ projAt_houseOf_sideOf y.incoming
    unfold State.selectSide
    rw [hproj, if_pos hrun]
  have hheld1 : s1.heldEntry y.incoming = some e := by
    have harm : (s1.tr y.incoming).armed = some a := ha
    unfold State.heldEntry
    rw [harm]
    dsimp only
    rw [hah, har, hs1]
    exact hfind
  obtain ⟨l, hfire, ht, hf⟩ := State.fireCues_single (s := s1) (h := h) (cond := isStart) (by rw [hs1]; exact hfind) hcues rfl rfl
  refine ⟨l, ?_, ht, hf⟩
  rw [State.crossingSound, if_pos ⟨hsw, hn⟩]
  dsimp only
  rw [hselect, hheld1]
  dsimp only
  rw [hfire]
  have hswap (a : State) (z w : House) : ((a.setHs h z).setLt h l).setHs h w = (a.setHs h w).setLt h l := by
    simp [State.setHs, State.setLt]
  simp only [State.modChange, State.modHs, State.setLt_hs, State.setHs_hs, if_true, hswap, hy, hx, s1, State.setHs_setHs,
    Option.map_some]

/-! ## The beginning of a crossing (R115) -/

/-- R117: a crossing whose sound is not switched is not done. -/
theorem State.crossingDone_unswitched {s : State} {y : Changeover} {x : Crossing} (hx : y.crossing = some x)
    (hs : x.switched = false) : s.crossingDone y = false := by
  unfold State.crossingDone
  rw [hx]
  split
  · rename_i hx'
    cases hx'
    simp [hs]
  · rfl

/-- The house whose crossing stands as it stood. -/
theorem House.crossed_same {z : House} {y : Changeover} {x : Crossing} (hy : z.change = some y) (hx : y.crossing = some x) :
    z.crossed y x = z := by
  simp [House.crossed, ← hx, ← hy]

section
variable {s : State} {h : HouseId} {y z : Changeover} {x v : Crossing} (n : Nat) (hz : (s.hs h).change = some z)
  (hv : z.crossing = some v)
include hz hv

/-- R116: the open command at offset `n`, if it falls there. -/
theorem State.crossingOpen_at (hg : x.openGiven = false) (hvg : v.openGiven = false) (hgate : s.gating y.incoming = true)
    (hd : (s.ds y.incoming).state = .closed) : s.crossingOpen h y x n =
      (s.setDs y.incoming (if x.openOffset = n then (s.ds y.incoming).openingFrom true s.now else s.ds y.incoming)).setHs h
        ((s.hs h).crossed z { v with openGiven := decide (x.openOffset = n) }) := by
  by_cases ho : x.openOffset = n
  · rw [State.crossingOpen_given hz hv hg ho hgate hd, if_pos ho, decide_eq_true ho]
  · rw [State.crossingOpen_other h ho, if_neg ho, decide_eq_false ho, State.setDs_self, ← hvg]
    exact (s.setHs_self h).symm.trans (congrArg (s.setHs h) (House.crossed_same hz hv).symm)

/-- R116: the close command at offset `n`, if it falls there. -/
theorem State.crossingClose_at (hg : x.closeGiven = false) (hvg : v.closeGiven = false)
    (hd : x.closeOffset = some n → (s.ds (otherProj y.incoming)).state = .opened) : s.crossingClose h y x n =
      (s.setDs (otherProj y.incoming) (if x.closeOffset = some n then (s.ds (otherProj y.incoming)).closingFrom true s.now
        else s.ds (otherProj y.incoming))).setHs h
        ((s.hs h).crossed z { v with closeGiven := decide (x.closeOffset = some n) }) := by
  by_cases ho : x.closeOffset = some n
  · rw [State.crossingClose_given hz hv hg ho (hd ho), if_pos ho, decide_eq_true ho]
  · rw [State.crossingClose_other h ho, if_neg ho, decide_eq_false ho, State.setDs_self, ← hvg]
    exact (s.setHs_self h).symm.trans (congrArg (s.setHs h) (House.crossed_same hz hv).symm)

end

/-- R115: the crossing as it begins, with its offsets. -/
def crossingFrom (start : Instant) (a : Nat) (c : Option Nat) (sound frame : Nat) : Crossing :=
  { start := start
    openOffset := a
    soundOffset := sound
    closeOffset := c
    switched := false
    openGiven := false
    closeGiven := false
    outFrame := frame }

/-- R115: a crossing begins, to a gated CLOSED douser, from an entry without END light cues. -/
theorem Rule.beginCrossing_eq (s : State) (l : List Signal) (t : Bool) (h : HouseId) {y : Changeover} {g : ReelEntry}
    {a sound : Nat} {c : Option Nat} (hy : (s.hs h).change = some y) (hd : s.distinctReels h)
    (hhome : (s.tr (otherProj y.incoming)).armed.map (fun a => a.house) = some h)
    (hheld : s.heldEntry (otherProj y.incoming) = some g) (hcues : ∀ w ∈ g.cues, w.trigger ≠ .ending)
    (hgate : s.gating y.incoming = true) (hclosed : (s.ds y.incoming).state = .closed)
    (hoff : crossingOffsets (s.ds y.incoming).openTime (s.ds (otherProj y.incoming)).closeTime
      (s.ds (otherProj y.incoming)).state = (a, c, sound)) (hsound : sound ≠ 0)
    (hopen : c = some 0 → (s.ds (otherProj y.incoming)).state = .opened) :
    Rule.beginCrossing ⟨s, l, t⟩ h y = ⟨((s.setDs y.incoming (if a = 0 then (s.ds y.incoming).openingFrom true s.now
        else s.ds y.incoming)).setDs (otherProj y.incoming) (if c = some 0 then
          (s.ds (otherProj y.incoming)).closingFrom true s.now else s.ds (otherProj y.incoming))).setHs h
        ((s.hs h).crossed { y with phase := .crossing }
          { crossingFrom s.now a c sound (s.tr (otherProj y.incoming)).counter with
            openGiven := decide (a = 0), closeGiven := decide (c = some 0) }), l, t⟩ := by
  let x := crossingFrom s.now a c sound (s.tr (otherProj y.incoming)).counter
  let z := { y with phase := .crossing, crossing := some x }
  let v := s.setHs h { s.hs h with change := some z }
  have hvhs : v.hs h = { s.hs h with change := some z } := (State.setHs_hs ..).trans (if_pos rfl)
  have hvheld : v.heldEntry (otherProj y.incoming) = some g :=
    ((s.sameShow_setHs h { s.hs h with change := some z } rfl rfl).heldEntry _).trans hheld
  obtain ⟨w, -, -, -, hfind⟩ := State.heldEntry_home (s := v) hhome hvheld
  have hfire : v.fireCues h g.reel isEnding = v := by
    refine State.fireCues_idle ?_ hfind fun w hw => by simp [isEnding, hcues w hw]
    rw [State.distinctReels, hvhs]
    exact hd
  have hne : y.incoming ≠ otherProj y.incoming := (otherProj_ne _).symm
  let v1 := (v.setDs y.incoming (if a = 0 then (s.ds y.incoming).openingFrom true s.now else s.ds y.incoming)).setHs h
    ((v.hs h).crossed z { x with openGiven := decide (a = 0) })
  have h1 : v.crossingOpen h z x 0 = v1 :=
    State.crossingOpen_at (y := z) (x := x) 0 (s := v) (by rw [hvhs]) rfl rfl rfl hgate hclosed
  have hv1hs : v1.hs h = (v.hs h).crossed z { x with openGiven := decide (a = 0) } := (State.setHs_hs ..).trans (if_pos rfl)
  have hv1ds : v1.ds (otherProj y.incoming) = s.ds (otherProj y.incoming) := (State.setDs_ds ..).trans (if_neg hne.symm)
  have h2 : v1.crossingClose h z x 0 = _ :=
    State.crossingClose_at (y := z) (x := x) 0 (s := v1) (z := { z with crossing := some { x with openGiven := decide (a = 0) } })
      (v := { x with openGiven := decide (a = 0) }) (by rw [hv1hs]; rfl) rfl rfl rfl
      fun hc => (congrArg Douser.state hv1ds).trans (hopen hc)
  have hbegin : Rule.beginCrossing ⟨s, l, t⟩ h y = ⟨v.crossingAt h 0, l, t⟩ := by
    have hmod : s.modChange h (fun c => { c with phase := .crossing, crossing := some x }) = v := by
      simp only [State.modChange, State.modHs, hy, Option.map_some, v, z]
    unfold Rule.beginCrossing
    simp only [Rule.upd, hoff]
    simp only [x, crossingFrom] at hmod
    rw [hmod, hvheld]
    dsimp only
    rw [hfire]
  rw [hbegin, State.crossingAt_eq (z := z) (v := x) (by rw [hvhs]) rfl, h1, h2, State.crossingSound_other h hsound]
  have hswap (w : State) (p : Proj) (d : Douser) (i j : House) : ((w.setHs h i).setDs p d).setHs h j = (w.setDs p d).setHs h j := by
    simp [State.setHs, State.setDs]
  have hz : (v1.hs h).crossed { z with crossing := some { x with openGiven := decide (a = 0) } }
      { x with openGiven := decide (a = 0), closeGiven := decide (c = some 0) } = (s.hs h).crossed { y with phase := .crossing }
        { x with openGiven := decide (a = 0), closeGiven := decide (c = some 0) } := by
    rw [hv1hs, hvhs]
    rfl
  refine congrArg (fun w : State => (⟨w, l, t⟩ : Rule)) ?_
  rw [show otherProj z.incoming = otherProj y.incoming from rfl, hv1ds]
  refine (hswap ..).trans ((congrArg (State.setHs _ h) hz).trans ?_)
  have hbase (p q : Proj) (d1 d2 : Douser) (i j : House) : (((s.setHs h i).setDs p d1).setDs q d2).setHs h j =
      ((s.setDs p d1).setDs q d2).setHs h j := by
    simp [State.setHs, State.setDs]
  exact hbase ..

/-! ## The pulse at the picture (R114) -/

/-- R113: a record that is not in RUNUP is not locked. -/
theorem State.lockChange_past {s : State} {p : Proj} {y : Changeover} (hy : (s.hs (houseOf p)).change = some y)
    (hph : y.phase ≠ .runup) : s.lockChange p = s := by
  have hsame : { s.hs (houseOf p) with change := some y } = s.hs (houseOf p) := by rw [← hy]
  rw [State.lockChange, State.modChange, State.modHs, hy, Option.map_some, if_neg fun h => hph h.2, hsame]
  exact s.setHs_self _

theorem houseOf_otherProj (p : Proj) : houseOf (otherProj p) = houseOf p := by
  revert p
  decide

/-- R114: a counted pulse of the incoming of a SHOWING house is the test of its crossing. -/
theorem Rule.housePulse_incoming (r : Rule) (q : Proj) (hst : (r.st.hs (houseOf q)).state = .showing)
    (hside : (r.st.hs (houseOf q)).liveSide = some (sideOf (otherProj q))) (hret : (r.st.hs (houseOf q)).retiring = none) :
    r.housePulse q = r.crossingTest (houseOf q) := by
  have hlive : r.st.liveProj (houseOf q) ≠ some q := by
    have hother : houseOf (otherProj q) = houseOf q := houseOf_otherProj q
    have h := State.liveProj_side (s := r.st) (p := otherProj q) (by rw [hother]; exact hside)
    rw [hother] at h
    rw [h]
    exact fun e => otherProj_ne q (Option.some.inj e)
  have hcount : r.countLivePulse (houseOf q) q = r := if_neg hlive
  have hshow : r.showPulse (houseOf q) q = r := if_neg fun h => hlive h.2
  have hpicture : r.pictureTest (houseOf q) = r := Rule.pictureTest_idle r (by rw [hst]; nofun)
  have hretire : r.countRetirePulse (houseOf q) q = r := r.countRetirePulse_other _ q (by rw [hret]; nofun)
  unfold Rule.housePulse
  dsimp only
  rw [hcount, hretire, hshow, hpicture]

/-- R114, R115: the pulse that finds the incoming at its picture. -/
theorem exec_tachPulse_crosses (s : State) (dt : Nat) (q : Proj) (reading : Byte) (u : Instant) {y : Changeover} {e g : ReelEntry}
    {a sound : Nat} {c : Option Nat} (hst : (s.hs (houseOf q)).state = .showing)
    (hside : (s.hs (houseOf q)).liveSide = some (sideOf (otherProj q))) (hret : (s.hs (houseOf q)).retiring = none)
    (hy : (s.hs (houseOf q)).change = some y) (hin : y.incoming = q) (hph : y.phase = .due) (hheld : s.heldEntry q = some e)
    (hd : s.distinctReels (houseOf q)) (hhome : (s.tr (otherProj q)).armed.map (fun a => a.house) = some (houseOf q))
    (hout : s.heldEntry (otherProj q) = some g) (hcues : ∀ w ∈ g.cues, w.trigger ≠ .ending) (hu : (s.tr q).lastPulse = some u)
    (hrun : (s.tr q).state = .running ∨ ((s.tr q).state = .starting ∧ (s.tr q).lockCount = 7 ∧
      inTolerance (s.now + dt - u) (s.speedOf q) = true))
    (hlead : e.leader ≤ (s.tr q).counter + 1) (hmax : (s.tr q).counter < 65535)
    (hw : (s.rd q).state = .hunt ∨ (s.rd q).state = .watch) (hlow : reading.toNat < (s.rd q).threshold)
    (hclosed : (s.ds q).state = .closed) (hburn : (s.lp q).state = .burning) (hport : (s.pt (projPort q)).state = .held)
    (hoff : crossingOffsets (s.ds q).openTime (s.ds (otherProj q)).closeTime (s.ds (otherProj q)).state = (a, c, sound))
    (hsound : sound ≠ 0) (hopen : c = some 0 → (s.ds (otherProj q)).state = .opened) :
    ∃ w, (s.elapse dt).Pulsed w q ∧ exec (.tachPulse dt q reading) s =
      .next (((w.setDs q (if a = 0 then (s.ds q).openingFrom true (s.now + dt) else s.ds q)).setDs (otherProj q)
        (if c = some 0 then (s.ds (otherProj q)).closingFrom true (s.now + dt) else s.ds (otherProj q))).setHs (houseOf q)
          ((s.hs (houseOf q)).crossed { y with phase := .crossing }
            { crossingFrom (s.now + dt) a c sound (s.tr (otherProj q)).counter with
              openGiven := decide (a = 0), closeGiven := decide (c = some 0) })) := by
  subst hin
  have hcount : min 65535 ((s.tr y.incoming).counter + 1) = (s.tr y.incoming).counter + 1 := Nat.min_eq_right hmax
  have hlead' : s.leaderOf y.incoming = e.leader := by rw [State.leaderOf, hheld]
  obtain ⟨w, l, hpulse, b, hlen, hl, -⟩ := Rule.pulse_low (s.elapse dt) y.incoming reading.toNat hu hrun
    (hw.symm.imp_right fun h => ⟨h, by
      rw [show (s.elapse dt).leaderOf y.incoming = e.leader from hlead', show ((s.elapse dt).tr y.incoming).counter = _ from rfl]
      exact hlead.trans hcount.ge⟩) hlow
  have hwhs (g : HouseId) : w.hs g = s.hs g := b.hs g
  have hwds (p : Proj) : w.ds p = s.ds p := b.ds p
  have hwnow : w.now = s.now + dt := b.now
  have hwlp : (w.lp y.incoming).state = .burning := (congrArg Lamp.state b.lp).trans hburn
  have hwpt : (w.pt (projPort y.incoming)).state = .held := (congrArg Port.state (b.pt _)).trans hport
  have hwout : w.tr (otherProj y.incoming) = s.tr (otherProj y.incoming) := b.trs _ (otherProj_ne _)
  have hgate : w.gating y.incoming = true := by simp [State.gating, b.running, hwlp, hwpt]
  have hbegin := Rule.beginCrossing_eq w l false (houseOf y.incoming) (y := y) (g := g) (a := a) (sound := sound) (c := c)
    (by rw [hwhs]; exact hy) (by rw [State.distinctReels, hwhs]; exact hd) (by rw [hwout]; exact hhome)
    ((b.heldEntry _).trans hout) hcues hgate (by rw [hwds]; exact hclosed) (by rw [hwds, hwds]; exact hoff) hsound
    (by rw [hwds]; exact hopen)
  rw [hwds, hwds, hwnow, hwhs, hwout] at hbegin
  refine ⟨w, b, ?_⟩
  have htest : Rule.crossingTest ⟨w, l, false⟩ (houseOf y.incoming) = Rule.beginCrossing ⟨w, l, false⟩ (houseOf y.incoming) y := by
    have hwlead : w.leaderOf y.incoming ≤ (w.tr y.incoming).counter := by
      rw [State.leaderOf, b.heldEntry, show (s.elapse dt).heldEntry y.incoming = some e from hheld, b.counter]
      exact hlead.trans hcount.ge
    unfold Rule.crossingTest
    dsimp only
    rw [hwhs, hy]
    dsimp only
    rw [if_pos ⟨hph, b.running, hwlead⟩]
  have hhouse := (Rule.housePulse_incoming ⟨w, l, false⟩ y.incoming (by rw [hwhs]; exact hst) (by rw [hwhs]; exact hside)
    (by rw [hwhs]; exact hret)).trans (htest.trans hbegin)
  refine (congrArg Rule.finish (hpulse.trans hhouse)).trans ?_
  generalize hx : { crossingFrom (s.now + dt) a c sound (s.tr (otherProj y.incoming)).counter with
    openGiven := decide (a = 0), closeGiven := decide (c = some 0) } = x
  have hswitched : x.switched = false := by rw [← hx]; rfl
  generalize hts : ((w.setDs y.incoming _).setDs (otherProj y.incoming) _).setHs (houseOf y.incoming) _ = t
  have hths : t.hs (houseOf y.incoming) = (s.hs (houseOf y.incoming)).crossed { y with phase := .crossing } x := by
    rw [← hts]
    exact (State.setHs_hs ..).trans (if_pos rfl)
  have hlook (l' : List Signal) : Rule.look ⟨t, l', false⟩ (houseOf y.incoming) = ⟨t, l', false⟩ := by
    refine Rule.look_crossing ⟨t, l', false⟩ _ (y := { y with phase := .crossing, crossing := some x }) ?_ ?_ rfl
      (State.crossingDone_unswitched rfl hswitched)
    · rw [hths]
      exact fun h => nomatch hst.symm.trans h
    · rw [hths]
      rfl
  refine Rule.finish_settled (Rule.settle_unheeded settleBound t l false (hlen.trans (by decide)) fun z hz l' => ?_) nofun
  rcases hl z hz with rfl | rfl
  · have hlock : t.lockChange y.incoming = t :=
      State.lockChange_past (y := { y with phase := .crossing, crossing := some x }) (by rw [hths]; rfl) nofun
    change (Rule.upd ⟨t, l', false⟩ (fun s => s.lockChange y.incoming)).look (houseOf y.incoming) = _
    have hup : Rule.upd ⟨t, l', false⟩ (fun s => s.lockChange y.incoming) = ⟨t, l', false⟩ :=
      congrArg (fun s => (⟨s, l', false⟩ : Rule)) hlock
    rw [hup, hlook]
  · exact hlook l'

/-- R115: the offsets of a crossing between learned dousers, case by case. -/
theorem crossingOffsets_cases {to1 tc a snd : Nat} {x : DouserState} {c : Option Nat} (ho : 40 ≤ to1)
    (h : (x = .opened ∧ tc ≤ to1 ∧ a = 0 ∧ c = some ((to1 - tc + 1) / 2) ∧ snd = (to1 + 1) / 2) ∨
      (x = .opened ∧ to1 < tc ∧ a = (tc - to1 + 1) / 2 ∧ c = some 0 ∧ snd = (tc + 1) / 2) ∨
      ((x = .closed ∨ x = .closing ∨ x = .stuck) ∧ a = 0 ∧ c = none ∧ snd = (to1 + 1) / 2)) :
    crossingOffsets to1 tc x = (a, c, snd) ∧ snd ≠ 0 ∧ (c = some 0 → x = .opened) := by
  rcases h with ⟨rfl, hle, rfl, rfl, rfl⟩ | ⟨rfl, hlt, rfl, rfl, rfl⟩ | ⟨hx, rfl, rfl, rfl⟩
  · refine ⟨?_, by omega, fun _ => rfl⟩
    simp only [crossingOffsets]
    rw [if_pos hle, Nat.max_eq_left hle]
  · refine ⟨?_, by omega, fun _ => rfl⟩
    simp only [crossingOffsets]
    rw [if_neg (Nat.not_le.2 hlt), Nat.max_eq_right hlt.le]
  · refine ⟨?_, by omega, nofun⟩
    rcases hx with rfl | rfl | rfl <;> rfl

/-- Settles O38, by the offsets where the crossing begins, and by each of its instants. -/
theorem crossingGivesItsCommands : Obligations.CrossingGivesItsCommands := by
  refine ⟨fun s dt h q out y e g reading u m to1 tc a snd c hch hd hout hhome hheldOut hcues hu hrun hlead hmax hw hlow hclosed hburn
    hport hto htc ho1 hoc hoff => ?_, fun s dt h y x q out n e v f hst hy hph hx hin hh hout hn hon hsn hos => ⟨?_, ?_, ?_, ?_, ?_, ?_⟩⟩
  · obtain ⟨rfl, hst, hside, hret, hy, hin, hphase, hqhome, hheld⟩ := hch
    subst hout hto htc
    obtain ⟨hoffsets, hsound, hopen⟩ := crossingOffsets_cases ho1 hoff
    have hin' : (s.tr q).state = .running ∨ ((s.tr q).state = .starting ∧ (s.tr q).lockCount = 7 ∧
        inTolerance (s.now + dt - u) (s.speedOf q) = true) := hrun.imp_right fun ⟨h1, h2, h3, h4, h5⟩ =>
      ⟨h1, h2, (inTolerance_iff ..).2 (h3 ▸ ⟨h4, h5⟩)⟩
    obtain ⟨w, b, hexec⟩ := exec_tachPulse_crosses s dt q reading u hst hside hret hy hin (List.mem_singleton.1 hphase) hheld hd hhome
      hheldOut hcues hu hin' hlead hmax hw hlow hclosed hburn hport hoffsets hsound hopen
    refine ⟨_, hexec, (State.setHs_hs ..).trans (if_pos rfl), ?_, (State.setDs_ds ..).trans (if_pos rfl), ?_, b.running,
      fun z hz => ⟨b.trs z hz, b.rds z hz, b.lps z hz⟩, fun i hi => (State.setHs_hs ..).trans ((if_neg hi).trans (b.hs i)),
      b.lights, b.ports, b.booth⟩
    · exact (State.setDs_ds ..).trans ((if_neg (otherProj_ne q).symm).trans ((State.setDs_ds ..).trans (if_pos rfl)))
    · exact b.counter.trans (Nat.min_eq_right hmax)
  · exact fun ht => exec_crossing_early s dt h (exec_crossingOpenInstant_eq s dt h hy hx) ht
  · exact fun ht => exec_crossing_early s dt h (exec_crossingCloseInstant_eq s dt h hy hx hn) ht
  · exact fun ht => exec_crossing_early s dt h (exec_soundInstant_eq s dt h hy hx) ht
  · intro ht hg hds hgate
    subst hin
    have hat : (s.elapse dt).crossingAt h x.openOffset = _ := (State.crossingAt_eq (s := s.elapse dt) hy hx x.openOffset).trans
      (by rw [State.crossingOpen_given (s := s.elapse dt) hy hx hg rfl hgate hds,
        State.crossingClose_other h (by rw [hn]; exact fun h => hon (Option.some.inj h).symm), State.crossingSound_other h hos.symm])
    refine exec_crossing_due s dt h (exec_crossingOpenInstant_eq s dt h hy hx) ht hat ?_
      (z := { y with crossing := some { x with openGiven := true } }) ?_ hph ?_
    · rw [State.setHs_hs, if_pos rfl]
      exact fun h => nomatch hst.symm.trans h
    · rw [State.setHs_hs, if_pos rfl]
    · simp [State.crossingDone, hph]
  · intro ht hg hds
    subst hin hout
    have hat : (s.elapse dt).crossingAt h n = _ := (State.crossingAt_eq (s := s.elapse dt) hy hx n).trans
      (by rw [State.crossingOpen_other h hon, State.crossingClose_given (s := s.elapse dt) hy hx hg hn hds,
        State.crossingSound_other h hsn])
    refine exec_crossing_due s dt h (exec_crossingCloseInstant_eq s dt h hy hx hn) ht hat ?_
      (z := { y with crossing := some { x with closeGiven := true } }) ?_ hph ?_
    · rw [State.setHs_hs, if_pos rfl]
      exact fun h => nomatch hst.symm.trans h
    · rw [State.setHs_hs, if_pos rfl]
    · simp [State.crossingDone, hph]
  · intro ht hsw hrun hds hhome hheld hcues
    subst hin
    obtain ⟨l, hsound, hv, hf⟩ := State.crossingSound_start (s := s.elapse dt) (n := x.soundOffset) hy hx hh hsw rfl hrun hhome hheld hcues
    have hat : (s.elapse dt).crossingAt h x.soundOffset = _ := (State.crossingAt_eq (s := s.elapse dt) hy hx x.soundOffset).trans
      (by rw [State.crossingOpen_other h hos, State.crossingClose_other h (by rw [hn]; exact fun h => hsn (Option.some.inj h).symm),
        hsound])
    generalize hz : ((s.elapse dt).setHs h _).setLt h l = t at hat
    have hths (i : HouseId) : t.hs i = if i = h then { s.hs h with
        gate := .side (sideOf y.incoming)
        change := some { y with crossing := some { x with switched := true } }
        plan := mapReel (s.hs h).plan e.reel (fun x => { x with cues := markFired x.cues isStart }) } else s.hs i := by
      rw [← hz]
      exact State.setHs_hs ..
    have htlt (i : HouseId) : t.lt i = if i = h then l else s.lt i := by
      rw [← hz]
      exact State.setLt_lt ..
    have hthp := (hths h).trans (if_pos rfl)
    have hrest : t.transports = s.transports ∧ t.readers = s.readers ∧ t.dousers = s.dousers ∧ t.lamps = s.lamps ∧
        t.ports = s.ports ∧ t.booth = s.booth ∧ t.link = s.link := by
      rw [← hz]
      exact ⟨rfl, rfl, rfl, rfl, rfl, rfl, rfl⟩
    have htds : t.ds y.incoming = s.ds y.incoming := congrArg (fun b => b.cell y.incoming) hrest.2.2.1
    refine ⟨t, exec_crossing_due s dt h (exec_soundInstant_eq s dt h hy hx) ht hat ?_
      (z := { y with crossing := some { x with switched := true } }) ?_ hph ?_, ?_, ?_, ?_, ?_, ?_, ?_, ?_, ?_, fun i hi => ⟨?_, ?_⟩, hrest⟩
    · rw [hthp]
      exact fun h => nomatch hst.symm.trans h
    · rw [hthp]
    · simp [State.crossingDone, hph, htds, hds]
    · rw [hthp]
    · rw [hthp]
    · rw [hthp]
      exact hst
    · rw [hthp]
    · rw [hthp]
    · rw [htlt, if_pos rfl, hv]
    · rw [htlt, if_pos rfl, hf]
    · obtain ⟨a, ha, hah, har, hfind⟩ := State.heldEntry_home hhome hheld
      have harm : (t.tr y.incoming).armed = some a := (congrArg (fun b => (b.cell y.incoming).armed) hrest.1).trans ha
      have hentry : t.heldEntry y.incoming = some { e with cues := markFired e.cues isStart } := by
        unfold State.heldEntry
        rw [harm]
        dsimp only
        rw [hah, har, hthp]
        have hm := findReel_mapReel (s.hs h).plan e.reel e.reel (fun x => { x with cues := markFired x.cues isStart }) fun _ => rfl
        rw [show findReel (s.hs h).plan e.reel = some e from hfind] at hm
        exact hm.trans (by simp)
      rw [hentry, Option.map_some, hcues]
      rfl
    · rw [hths, if_neg hi]
    · rw [htlt, if_neg hi]

end Sys2Proof.Machine
end

section
/-! PROOFS. An incoming that becomes ready to follow, and the delay end: the start of the incoming. -/

namespace Sys2Proof.Machine

/-! ## What the house looks at -/

/-- R114, R117: a record that is neither DUE nor in CROSSING begins and completes nothing. -/
theorem Rule.look_readiness (r : Rule) (h : HouseId) {r' : Rule} (hst : (r.st.hs h).state ≠ .starting)
    (hr : r.readinessTest h = r') {y : Changeover} (hy : (r'.st.hs h).change = some y)
    (hdue : y.phase = .due → (r'.st.tr y.incoming).state ≠ .running) (hcross : y.phase ≠ .crossing) : r.look h = r' := by
  have htest : r'.crossingTest h = r' := by
    unfold Rule.crossingTest
    rw [hy]
    exact if_neg fun ⟨hd, hrun, _⟩ => hdue hd hrun
  have hdone : r'.completionTest h = r' := by
    unfold Rule.completionTest
    rw [hy]
    dsimp only
    split
    · rfl
    · refine if_neg ?_
      unfold State.crossingDone
      split
      · contradiction
      · simp
  rw [Rule.look, Rule.pictureTest_idle r hst, hr, htest, hdone]

/-- R112: an incoming that is not ready to follow. -/
theorem Rule.readinessTest_unready (r : Rule) (h : HouseId) {y : Changeover} (hy : (r.st.hs h).change = some y)
    (hr : r.st.readyToFollow h y.incoming = false) : r.readinessTest h = r := by
  unfold Rule.readinessTest
  rw [hy]
  exact if_neg (by simp [hr])

/-- R92: a projector whose transport is not STOPPED is not ready to follow. -/
theorem State.readyToFollow_moving {s : State} {h : HouseId} {q : Proj} (hs : (s.tr q).state ≠ .stopped) :
    s.readyToFollow h q = false := by
  rw [Bool.eq_false_iff]
  exact fun hr => hs (State.readyToFollow_stopped hr)

/-! ## The start alignment (R111, R112) -/

/-- R111: the time the outgoing of record `y`, timed from frame `m`, takes to the change frame. -/
def State.timeOut (s : State) (h : HouseId) (y : Changeover) (m : Nat) : Nat := Machine.timeOut m y.changeFrame (s.hs h).speed

/-- R111: the time the incoming `q` takes to its first picture frame. -/
def State.timeIn (s : State) (h : HouseId) (q : Proj) : Nat :=
  Machine.timeIn (s.leaderOf q - (s.tr q).counter) (s.tr q).runUp (s.hs h).speed

/-- R111: the link once a lead that is too short is reported. -/
def State.leadTold (s : State) (h : HouseId) (y : Changeover) (m : Nat) : Link :=
  if s.timeOut h y m < s.timeIn h y.incoming then
    s.link.enqueue (houseNumber h) (.shortLead (s.timeIn h y.incoming - s.timeOut h y m) m y.changeFrame
      (s.leaderOf y.incoming - (s.tr y.incoming).counter) (s.tr y.incoming).runUp)
  else s.link

/-- R111: the record once its start has been aligned with delay `d`. -/
def House.aligned (x : House) (y : Changeover) (m d : Nat) (now : Instant) : House :=
  { x with change := some { y with phase := .delay, motorFrame := m, delay := some d, delayEnd := some (now + 10 * d) } }

section
variable (s : State) (l : List Signal) (t : Bool) (h : HouseId) {y : Changeover} (hy : (s.hs h).change = some y)
include hy

/-- R111: what an alignment leaves, before a delay of 0 falls. -/
theorem Rule.align_eq (m : Nat) : Rule.align ⟨s, l, t⟩ h { y with motorFrame := m } =
    if startDelay (s.timeOut h y m) (s.timeIn h y.incoming) = 0 then
      Rule.delayFalls ⟨(s.setLink (s.leadTold h y m)).setHs h ((s.hs h).aligned y m 0 s.now), l, t⟩ h { y with motorFrame := m }
    else ⟨(s.setLink (s.leadTold h y m)).setHs h
      ((s.hs h).aligned y m (startDelay (s.timeOut h y m) (s.timeIn h y.incoming)) s.now), l, t⟩ := by
  have hr : Rule.align ⟨s, l, t⟩ h { y with motorFrame := m } =
      let r : Rule := ⟨(s.setLink (s.leadTold h y m)).setHs h
        ((s.hs h).aligned y m (startDelay (s.timeOut h y m) (s.timeIn h y.incoming)) s.now), l, t⟩
      if startDelay (s.timeOut h y m) (s.timeIn h y.incoming) = 0 then r.delayFalls h { y with motorFrame := m } else r := by
    unfold Rule.align State.leadTold State.timeOut State.timeIn House.aligned
    by_cases hlt : Machine.timeOut m y.changeFrame (s.hs h).speed <
        Machine.timeIn (s.leaderOf y.incoming - (s.tr y.incoming).counter) (s.tr y.incoming).runUp (s.hs h).speed
    all_goals simp [hlt, Rule.upd, State.modChange, State.modHs, State.reportHouse, State.report, hy, ms]
  rw [hr]
  dsimp only
  split
  · rename_i h0
    rw [h0]
  · rfl

/-- R112: the delay falls of a record whose incoming is ready to follow. -/
theorem Rule.delayFalls_starts (hr : s.readyToFollow h y.incoming = true) (c : Changeover) (hc : c.incoming = y.incoming) : ∃ u,
    (s.setHs h { s.hs h with change := some { y with phase := .runup, delayEnd := none, held := none } }).MotorOn u y.incoming ∧
      Rule.delayFalls ⟨s, l, t⟩ h c = ⟨u, l ++ [.transport y.incoming .starting], t⟩ := by
  have hmod : s.modChange h (fun c => { c with phase := .runup, delayEnd := none, held := none }) =
      s.setHs h { s.hs h with change := some { y with phase := .runup, delayEnd := none, held := none } } := by
    simp only [State.modChange, State.modHs, hy, Option.map_some]
  have hstop : (s.tr y.incoming).state = .stopped := State.readyToFollow_stopped hr
  obtain ⟨u, hu, hon⟩ := Rule.motorStart_cases (s.setHs h { s.hs h with
    change := some { y with phase := .runup, delayEnd := none, held := none } }) l t y.incoming hstop
  refine ⟨u, hon, ?_⟩
  unfold Rule.delayFalls
  rw [hc]
  refine (if_pos hr).trans ?_
  rw [Rule.startIncoming, hc, ← hu]
  simp only [Rule.upd, hmod]

/-- R111, R112: an alignment without time to wait. -/
theorem Rule.align_starts (hr : s.readyToFollow h y.incoming = true) {m : Nat}
    (hd : startDelay (s.timeOut h y m) (s.timeIn h y.incoming) = 0) : ∃ u,
    ((s.setLink (s.leadTold h y m)).setHs h { s.hs h with change := some { y with
        phase := .runup, motorFrame := m, delay := some 0, delayEnd := none, held := none } }).MotorOn u y.incoming ∧
      Rule.align ⟨s, l, t⟩ h { y with motorFrame := m } = ⟨u, l ++ [.transport y.incoming .starting], t⟩ := by
  let v := (s.setLink (s.leadTold h y m)).setHs h ((s.hs h).aligned y m 0 s.now)
  have hv : v.hs h = (s.hs h).aligned y m 0 s.now := by rw [State.setHs_hs, if_pos rfl]
  have hready : v.readyToFollow h y.incoming = true :=
    (((s.sameShow_setLink (s.leadTold h y m) h).trans (State.sameShow_setHs _ h ((s.hs h).aligned y m 0 s.now) rfl rfl)).readyToFollow _).trans hr
  obtain ⟨u, hon, hu⟩ := Rule.delayFalls_starts v l t h (congrArg House.change hv) hready { y with motorFrame := m } rfl
  refine ⟨u, ?_, (Rule.align_eq s l t h hy m).trans ((if_pos hd).trans hu)⟩
  rw [hv, State.setHs_setHs] at hon
  exact hon

end

/-! ## What the signals of an event bring about -/

/-- The changes of the records of projector `q` at which its house looks. -/
def Signal.readies (q : Proj) (x : Signal) : Prop :=
  x = .readiness (houseOf q) ∨ x = .portHeld q ∨ x = .lampBurning q ∨ x = .douser q .closed

/-- R112: where `q` is not the live projector of its house, the house only looks. -/
theorem Rule.sees_readies (r : Rule) {q : Proj} {x : Signal} (hx : x.readies q)
    (hlive : r.st.liveProj (houseOf q) ≠ some q) :
    r.sees x = r.look (houseOf q) := by
  rcases hx with rfl | rfl | rfl | rfl
  · rfl
  · rfl
  · have hdark : r.st.lampReturns q = r.st := if_neg fun hc => hlive hc.2.2
    exact congrArg (fun s => Rule.look { r with st := s } (houseOf q)) hdark
  · have hend : r.st.endDouserSees q = r.st := if_neg fun hc => hlive hc.2
    exact congrArg (fun s => Rule.look { r with st := s } (houseOf q)) hend

/-- R112: the house of an incoming looks, and what it leaves brings about nothing more. -/
theorem Rule.finish_readied {w t : State} {q : Proj} {x : Signal} {l ls : List Signal} (hx : ∀ z ∈ x :: l, z.readies q)
    (hlen : l.length ≤ 6) (hlive : w.liveProj (houseOf q) ≠ some q)
    (hlook : Rule.look ⟨w, l, false⟩ (houseOf q) = ⟨t, l ++ ls, false⟩) (hls : ls = [] ∨ ls = [.transport q .starting])
    (hlive' : t.liveProj (houseOf q) ≠ some q)
    (hrest : ∀ l', Rule.look ⟨t, l', false⟩ (houseOf q) = ⟨t, l', false⟩) : Rule.finish ⟨w, x :: l, false⟩ = .next t := by
  refine Rule.finish_settled (t := false) ?_ nofun
  rw [show settleBound = 511 + 1 from rfl, Rule.settle_cons, Rule.sees_readies _ (hx x (by simp)) hlive, hlook]
  refine Rule.settle_unheeded _ t (l ++ ls) false ?_ fun z hz l' => ?_
  · rcases hls with rfl | rfl <;> simp <;> omega
  · rcases List.mem_append.mp hz with hz | hz
    · rw [Rule.sees_readies _ (hx z (by simp [hz])) hlive', hrest]
    · rcases hls with rfl | rfl
      · simp at hz
      · rw [List.mem_singleton.mp hz]
        rfl

/-- R112: projector `q` of house `h` has been started, the house with record `x` and the link with `k`. -/
theorem State.MotorOn.starts {w u : State} {h : HouseId} {q : Proj} {x : House} {k : Link}
    (hon : ((w.setLink k).setHs h x).MotorOn u q) (htrial : (w.ds q).trial = none) :
    w.starts u h q ∧ u.hs h = x ∧ u.link = k := by
  have hhs (g : HouseId) : u.hs g = if g = h then x else w.hs g :=
    (congrArg (fun b => b.cell g) hon.houses).trans (State.setHs_hs ..)
  obtain ⟨hdousers, hlink⟩ := hon.untried htrial
  exact ⟨⟨hon.tr, hon.queue, fun p hp => ⟨hon.trs p hp, hon.rds p hp⟩, fun g hg => (hhs g).trans (if_neg hg), hdousers,
    hon.lamps, hon.lights, hon.ports, hon.booth⟩, (hhs h).trans (if_pos rfl), hlink⟩

/-! ## What a waiting record does (R111, R112) -/

/-- R112: WAIT_READY with no held change. -/
theorem Rule.readinessTest_aligns (r : Rule) (h : HouseId) {y : Changeover} (hy : (r.st.hs h).change = some y)
    (hr : r.st.readyToFollow h y.incoming = true) (hph : y.phase = .waitReady) (hheld : y.held = none) :
    r.readinessTest h = r.align h { y with motorFrame := (r.st.tr (otherProj y.incoming)).counter } := by
  obtain ⟨q, ph, src, m, c, d, de, hd, cs, lo, x⟩ := y
  cases hph
  cases hheld
  simp [Rule.readinessTest, hy, hr]

section
variable {w : State} {h : HouseId} {q : Proj} {y : Changeover} (haw : w.awaits h q y) {l : List Signal}
  {sig : Signal} (hsig : ∀ z ∈ sig :: l, z.readies q) (hlen : l.length ≤ 6) (hr : w.readyToFollow h q = true)

include haw in
theorem State.awaits_live : w.liveProj (houseOf q) ≠ some q := by
  obtain ⟨hq, -, hlive, -, -, -⟩ := haw
  rw [hq, State.liveProj, hlive, ← hq]
  exact fun he => otherProj_ne q ((projAt_houseOf_sideOf (otherProj q)).symm.trans
    ((congrArg (projAt · _) (houseOf_otherProj q)).trans (Option.some.inj he)))

include haw in
/-- R112: a change of the record and the marks leaves the house SHOWING with its live side. -/
theorem Rule.look_started {u : State} {y' : Changeover} {m : ReelMarks} (hu : u.hs h = { w.hs h with change := some y', marks := m })
    (hq : y'.incoming = q) (hph : y'.phase ≠ .crossing) (htr : (u.tr q).state = .starting) (l' : List Signal) :
    Rule.look ⟨u, l', false⟩ h = ⟨u, l', false⟩ := by
  obtain ⟨-, hst, -, -, -, -⟩ := haw
  have hne : (u.hs h).state ≠ .starting := by rw [hu]; exact fun hs => nomatch hst.symm.trans hs
  have hy' : (u.hs h).change = some y' := by rw [hu]
  have hunready : u.readyToFollow h y'.incoming = false := State.readyToFollow_moving (by rw [hq, htr]; exact nofun)
  exact Rule.look_readiness _ h hne (Rule.readinessTest_unready _ h hy' hunready) hy' (fun _ => by rw [hq, htr]; exact nofun) hph

include haw hsig hlen in
/-- R105, R112: the record's incoming is started at once. -/
theorem Rule.finish_started {u : State} {y' : Changeover} {m : ReelMarks} {k : Link}
    (hread : Rule.readinessTest ⟨w, l, false⟩ h = ⟨u, l ++ [.transport q .starting], false⟩)
    (hu : w.starts u h q ∧ u.hs h = { w.hs h with change := some y', marks := m } ∧ u.link = k)
    (hq' : y'.incoming = q) (hph : y'.phase ≠ .crossing) : ∃ t, Rule.finish ⟨w, sig :: l, false⟩ = .next t ∧ w.starts t h q ∧
      t.hs h = { w.hs h with change := some y', marks := m } ∧ t.link = k := by
  obtain ⟨hq, hst, hlive, -, -, -⟩ := id haw
  obtain ⟨hstarts, hhs, hlink⟩ := hu
  have htr : (u.tr q).state = .starting := congrArg Transport.state hstarts.1
  have hne : (u.hs h).state ≠ .starting := by rw [hhs]; exact fun hs => nomatch hst.symm.trans hs
  have hlook : Rule.look ⟨w, l, false⟩ h = ⟨u, l ++ [.transport q .starting], false⟩ :=
    Rule.look_readiness _ h (fun hs => nomatch hst.symm.trans hs) hread (congrArg House.change hhs)
      (fun _ => by dsimp only; rw [hq', htr]; exact nofun) hph
  have hlive' : u.liveProj (houseOf q) ≠ some q := by
    have : u.liveProj (houseOf q) = w.liveProj (houseOf q) := by rw [State.liveProj, hq, hhs]; rfl
    rw [this]
    exact State.awaits_live haw
  exact ⟨u, Rule.finish_readied hsig hlen (State.awaits_live haw) (by rw [hq]; exact hlook) (.inr rfl) hlive'
    (by rw [hq]; exact Rule.look_started haw hhs hq' hph htr), hstarts, hhs, hlink⟩

include haw hsig hlen hr in
/-- R111: WAIT_READY with no held change: the start is aligned, and waits. -/
theorem Rule.finish_aligned {m d : Nat} (hph : y.phase = .waitReady) (hheld : y.held = none)
    (hm : m = (w.tr (otherProj q)).counter) (hd : d = startDelay (w.timeOut h y m) (w.timeIn h q)) (hpos : 0 < d) :
    Rule.finish ⟨w, sig :: l, false⟩ = .next (w.setHs h ((w.hs h).aligned y m d w.now)) := by
  obtain ⟨hq, hst, hlive, hy, hin, -⟩ := id haw
  have htold : w.leadTold h y m = w.link := if_neg (by rw [hin]; simp only [startDelay] at hd; omega)
  let u := w.setHs h ((w.hs h).aligned y m d w.now)
  have hhs : u.hs h = (w.hs h).aligned y m d w.now := by rw [State.setHs_hs, if_pos rfl]
  have hread : Rule.readinessTest ⟨w, l, false⟩ h = ⟨u, l, false⟩ := by
    have halign := Rule.align_eq w l false h hy m
    rw [hin, ← hd, if_neg (Nat.pos_iff_ne_zero.mp hpos), htold] at halign
    rw [Rule.readinessTest_aligns _ h hy (hin.symm ▸ hr) hph hheld, hin, ← hm]
    exact halign
  have hrest (l' : List Signal) : Rule.look ⟨u, l', false⟩ h = ⟨u, l', false⟩ := by
    refine Rule.look_readiness _ h (y := { y with
      phase := .delay, motorFrame := m, delay := some d, delayEnd := some (w.now + 10 * d) }) ?_ ?_ ?_ nofun nofun
    · dsimp only
      rw [hhs]
      exact fun hs => nomatch hst.symm.trans hs
    · unfold Rule.readinessTest
      dsimp only
      rw [hhs]
      simp only [House.aligned, hheld]
      split
      · rfl
      · rfl
    · exact congrArg House.change hhs
  have hlive' : u.liveProj (houseOf q) ≠ some q := by
    have : u.liveProj (houseOf q) = w.liveProj (houseOf q) := by rw [State.liveProj, hq, hhs]; rfl
    rw [this]
    exact State.awaits_live haw
  refine Rule.finish_readied hsig hlen (State.awaits_live haw) (ls := []) ?_ (.inl rfl) hlive' (by rw [hq]; exact hrest)
  rw [hq, List.append_nil]
  refine Rule.look_readiness _ h (fun hs => nomatch hst.symm.trans hs) hread (y := { y with
      phase := .delay, motorFrame := m, delay := some d, delayEnd := some (w.now + 10 * d) }) (congrArg House.change hhs) nofun nofun

include haw hsig hlen hr in
/-- R111, R112: WAIT_READY with no held change and no time to wait. -/
theorem Rule.finish_alignedStart {m : Nat} (htrial : (w.ds q).trial = none) (hph : y.phase = .waitReady) (hheld : y.held = none)
    (hm : m = (w.tr (otherProj q)).counter) (hd : startDelay (w.timeOut h y m) (w.timeIn h q) = 0) :
    ∃ t, Rule.finish ⟨w, sig :: l, false⟩ = .next t ∧ w.starts t h q ∧
      t.hs h = { w.hs h with change := some { y with phase := .runup, motorFrame := m, delay := some 0, delayEnd := none } } ∧
      t.link = w.leadTold h y m := by
  obtain ⟨hq, hst, hlive, hy, hin, -⟩ := id haw
  obtain ⟨u, hon, hu⟩ := Rule.align_starts w l false h hy (hin.symm ▸ hr) (m := m) (hin.symm ▸ hd)
  obtain ⟨hstarts, hhs, hlink⟩ := hon.starts (hin.symm ▸ htrial)
  refine Rule.finish_started haw hsig hlen ?_ ⟨hin ▸ hstarts, hhs.trans (by rw [hheld]), hlink⟩ hin nofun
  rw [Rule.readinessTest_aligns _ h hy (hin.symm ▸ hr) hph hheld]
  dsimp only
  rw [show (w.tr (otherProj y.incoming)).counter = m by rw [hin, hm], hu, hin]

include haw hsig hlen hr in
/-- R112: DELAY with the start withheld. -/
theorem Rule.finish_withheld (htrial : (w.ds q).trial = none) (hph : y.phase = .delay) (hheld : y.held = none) :
    ∃ t, Rule.finish ⟨w, sig :: l, false⟩ = .next t ∧ w.starts t h q ∧
      t.hs h = { w.hs h with change := some { y with phase := .runup } } ∧ t.link = w.link := by
  obtain ⟨hq, hst, hlive, hy, hin, hwait⟩ := id haw
  have hend : y.delayEnd = none := hwait.elim (fun hw => nomatch hw.symm.trans hph) And.right
  have hmod : w.modChange h (fun c => { c with phase := .runup }) =
      w.setHs h { w.hs h with change := some { y with phase := .runup } } := by
    simp only [State.modChange, State.modHs, hy, Option.map_some]
  have hstop : (w.tr q).state = .stopped := State.readyToFollow_stopped hr
  obtain ⟨u, hu, hon⟩ := Rule.motorStart_cases (w.setHs h { w.hs h with change := some { y with phase := .runup } }) l false q hstop
  refine Rule.finish_started haw hsig hlen (k := w.link) ?_ (State.MotorOn.starts hon htrial) hin nofun
  unfold Rule.readinessTest
  dsimp only
  rw [hy]
  refine (if_pos (by rw [hin]; exact hr)).trans ?_
  rw [hph, hheld]
  dsimp only
  refine (if_pos hend).trans ?_
  rw [Rule.startIncoming, hin, ← hu]
  simp only [Rule.upd, hmod]

include haw hsig hlen hr in
/-- R112: a held change. -/
theorem Rule.finish_heldChange {src : CueSource} (htrial : (w.ds q).trial = none) (hheld : y.held = some src) :
    ∃ t, Rule.finish ⟨w, sig :: l, false⟩ = .next t ∧ w.starts t h q ∧
      t.hs h = (w.hs h).called y src.change none ∧ t.link = w.link := by
  obtain ⟨hq, hst, hlive, hy, hin, hwait⟩ := id haw
  have hstop : (w.tr y.incoming).state = .stopped := State.readyToFollow_stopped (hin.symm ▸ hr)
  obtain ⟨u, hon, hu⟩ := Rule.startIncoming_due w l false h src.change none hy y rfl hstop
  have hstarts : w.starts u h q ∧ u.hs h = w.hs h ∧ u.link = w.link := by
    have : ((w.setLink w.link).setHs h (w.hs h)).MotorOn u q :=
      (congrArg (State.MotorOn · u q) (State.setHs_self w h)).mpr (hin ▸ hon)
    exact this.starts htrial
  obtain ⟨⟨htr, hqueue, hothers, hhouses, hrest⟩, hhs, hlink⟩ := hstarts
  refine Rule.finish_started haw hsig hlen (u := u.setHs h ((w.hs h).called y src.change none)) ?_
    ⟨⟨htr, hqueue, hothers, fun g hg => ((State.setHs_hs ..).trans (if_neg hg)).trans (hhouses g hg), hrest⟩,
      (State.setHs_hs ..).trans (if_pos rfl), hlink⟩ hin nofun
  rw [hin] at hu
  unfold Rule.readinessTest
  dsimp only
  rw [hy]
  refine (if_pos (by rw [hin]; exact hr)).trans ?_
  rw [← hu, hheld]
  rcases hwait with hph | ⟨hph, hend⟩
  · rw [hph]
    cases src <;> rfl
  · rw [hph]
    cases src <;> exact if_pos hend

end

end Sys2Proof.Machine
end

section
/-! PROOFS. The events that make an incoming ready to follow, and what each of them puts on the agenda. -/

namespace Sys2Proof.Machine

/-! ## The sufficiency of an incoming (R92) -/

/-- R92: what is READY is sufficient. -/
theorem State.readyToFollow_sufficient {s : State} {h : HouseId} {q : Proj} (hr : s.readyToFollow h q = true) :
    s.isSufficient q = true := by
  have hready : s.ready q = true := (Bool.and_eq_true _ _ ▸ hr).1
  have hnone : s.readyFailures q = ReadyFailures.none := of_decide_eq_true hready
  have hsuf : (!s.isSufficient q) = false := congrArg ReadyFailures.sufficient hnone
  simpa using hsuf

/-- R92: where nothing but the judgement of the lamp changed, it is the judgement that made the incoming ready. -/
theorem State.insufficient_before {s w : State} {h : HouseId} {q : Proj} (ht : w.transports = s.transports)
    (hh : w.houses = s.houses) (hd : w.dousers = s.dousers) (hp : w.ports = s.ports) (hl : (w.lp q).state = (s.lp q).state)
    (hs : s.readyToFollow h q = false) (hw : w.readyToFollow h q = true) : s.isSufficient q = false := by
  rw [Bool.eq_false_iff]
  intro hsuf
  have hequal : w.isSufficient q = s.isSufficient q := (State.readyToFollow_sufficient hw).trans hsuf.symm
  have hheld (x : Proj) : w.heldEntry x = s.heldEntry x := by simp only [State.heldEntry, State.tr, State.hs, ht, hh]
  have hlive : w.liveEntry h = s.liveEntry h := by
    simp only [State.liveEntry, State.liveProj, State.hs, hh, funext hheld]
  have hready : w.ready q = s.ready q := by
    simp only [State.ready, State.readyFailures, State.holdsArmed, hequal, hheld, State.tr, State.pt, State.ds, ht, hd, hp, hl]
    rfl
  have : w.readyToFollow h q = s.readyToFollow h q := by
    simp only [State.readyToFollow, hready, State.followingEntry, hlive, State.hs, State.tr, hh, ht]
  exact nomatch (hs.symm.trans this.symm).trans hw

/-- R80, R92: a judgement that makes a lamp sufficient. -/
theorem Rule.evalSufficiency_becomes (v : State) (q : Proj) (hno : v.isSufficient q = false)
    (hyes : (v.judged q).isSufficient q = true) :
    Rule.evalSufficiency ⟨v, [], false⟩ q = ⟨v.judged q, [.readiness (houseOf q)], false⟩ := by
  have hjudged : v.setLp q { v.lp q with sufficiency := v.judge q } = v.judged q := by
    rw [State.judge_eq_sufficiencyOf]
    rfl
  unfold Rule.evalSufficiency
  simp only [Rule.upd, hjudged, hyes, hno]
  rfl

/-! ## The events -/

/-- Command `c` in `s` leaves `w`, with changes of the records of `q` on the agenda for its house to look at. -/
def State.Brings (s : State) (c : Instr) (q : Proj) (w : State) : Prop :=
  ∃ sig l, exec c s = Rule.finish ⟨w, sig :: l, false⟩ ∧ (∀ z ∈ sig :: l, z.readies q) ∧ l.length ≤ 6

theorem State.Brings.of_single {s w : State} {c : Instr} {q : Proj} {sig : Signal} (hsig : sig.readies q)
    (h : exec c s = Rule.finish ⟨w, [sig], false⟩) : s.Brings c q w :=
  ⟨sig, [], h, fun z hz => by rw [List.mem_singleton.mp hz]; exact hsig, by simp⟩

theorem heldSignals_projPort (p : Proj) : heldSignals (projPort p) = [.portHeld p] := by
  revert p
  decide

/-- R21, R89: an ARM REEL of a projector that is not live and whose reader assembles no group. -/
theorem State.arm_unassembling (s : State) (q : Proj) (e : ReelEntry) (n : Nat) (hlive : s.liveProj (houseOf q) ≠ some q)
    (ha : (s.rd q).assembling = false) : s.arm (houseOf q) q e n =
      (((s.modReel (houseOf q) e.reel ReelEntry.arm).setTr q { s.tr q with
        armed := some ⟨houseOf q, e.reel, n⟩, counter := n }).setRd q { s.rd q with
        state := huntOrWatch n e.leader, group := none, held := [], queue := [] }).setLp q { s.lp q with carbonLow := false } := by
  let v := ((s.modReel (houseOf q) e.reel ReelEntry.arm).setTr q { s.tr q with
    armed := some ⟨houseOf q, e.reel, n⟩, counter := n })
  have hdiscard : v.readerDiscards q (huntOrWatch n e.leader) =
      v.setRd q { s.rd q with state := huntOrWatch n e.leader, group := none, held := [], queue := [] } := by
    have hl : (v.setRd q { v.rd q with state := huntOrWatch n e.leader, group := none, held := [], queue := [] }).liveProj
        (houseOf q) = s.liveProj (houseOf q) := by
      refine (State.setHs_liveProj (s.setTr q { s.tr q with armed := some ⟨houseOf q, e.reel, n⟩, counter := n }) (houseOf q)
        { s.hs (houseOf q) with plan := mapReel (s.hs (houseOf q)).plan e.reel ReelEntry.arm } rfl)
    unfold State.readerDiscards
    dsimp only
    rw [show (v.rd q).assembling = false from ha]
    refine (if_neg nofun).trans ?_
    unfold State.clearBadMark
    dsimp only
    rw [hl]
    exact if_neg hlive
  unfold State.arm
  dsimp only
  rw [show ((s.modReel (houseOf q) e.reel ReelEntry.arm).setTr q { s.tr q with
    armed := some ⟨houseOf q, e.reel, n⟩, counter := n }) = v from rfl, hdiscard]
  rfl

section
variable {s w : State} {h : HouseId} {q : Proj} (hlive : s.liveProj (houseOf q) ≠ some q)
  (hst : (s.hs (houseOf q)).state = .showing) (hs : s.readyToFollow h q = false) (hw : w.readyToFollow h q = true)
  (htrial : (s.ds q).trial = none)

/-- R58: the lamp becomes BURNING. -/
theorem exec_settleEnd_brings {dt : Nat} {u : Instant} (hsettling : (s.lp q).state = .settling)
    (hu : (s.lp q).settleStart = some u) (hdue : u + 100000 ≤ s.now + dt) :
    s.Brings (.settleEnd dt q) q (((s.elapse dt).setLp q { s.lp q with
        state := .burning
        settleStart := none
        minute := some ⟨s.now + dt, 0⟩ }).reportProj q (.struck (s.lp q).current (s.lp q).voltage (s.lp q).sweepPulses
          (s.lp q).account (s.lp q).restrikeUsed)) :=
  .of_single (sig := .lampBurning q) (.inr (.inr (.inl rfl)))
    (congrArg Rule.finish (Rule.settles_due (s.elapse dt) q u hsettling hu hdue))

include hs hw in
/-- R78: the burn rate falls, and the lamp is judged sufficient. -/
theorem exec_minuteEnd_brings {dt : Nat} {m : Minute} {r : Nat} (hburning : (s.lp q).state = .burning)
    (hm : (s.lp q).minute = some m) (hdue : m.start + 600000 ≤ s.now + dt)
    (hr : r = min 255 ((7 * (s.lp q).rate + m.pulses + 4) / 8)) (hnew : r ≠ (s.lp q).rate)
    (hwe : w = (((s.elapse dt).setLp q { s.lp q with
        rate := r
        minute := some ⟨s.now + dt, 0⟩ }).judged q)) : s.Brings (.minuteEnd dt q) q w := by
  subst hwe
  let v := (s.elapse dt).setLp q { s.lp q with rate := r, minute := some ⟨s.now + dt, 0⟩ }
  have hlp : v.lp q = { s.lp q with rate := r, minute := some ⟨s.now + dt, 0⟩ } := (State.setLp_lp ..).trans (if_pos rfl)
  have hwlp : (v.judged q).lp q = { v.lp q with sufficiency := v.sufficiencyOf q } := (State.judged_lp ..).trans (if_pos rfl)
  have hyes : (v.judged q).isSufficient q = true := State.readyToFollow_sufficient hw
  have hno : s.isSufficient q = false := State.insufficient_before (w := v.judged q) rfl rfl rfl rfl (by rw [hwlp, hlp]) hs hw
  have hvno : v.isSufficient q = false := by rw [← hno, State.isSufficient, hlp]; rfl
  have hlow : (v.judged q).carbonLowTest q = v.judged q := by
    rcases (v.judged q).carbonLowTest_cases q with ⟨x, hx, hshort, -, -⟩ | ⟨he, -⟩
    · rw [State.isSufficient, hx] at hyes
      exact nomatch hyes.symm.trans hshort
    · exact he
  refine .of_single (sig := .readiness (houseOf q)) (.inl rfl) (congrArg Rule.finish ?_)
  refine (Rule.minuteEnds_due (s.elapse dt) q m r hburning hm (by rw [filterRate, hr]; rfl) hdue).trans ?_
  refine (congrArg (fun r : Rule => r.upd (fun s => s.carbonLowTest q)) (if_neg hnew)).trans ?_
  refine (congrArg (fun r : Rule => r.upd (fun s => s.carbonLowTest q)) (Rule.evalSufficiency_becomes v q hvno hyes)).trans ?_
  rw [Rule.upd, hlow]

include hs hw in
/-- R71: SET ARC with a new current, and the lamp is judged sufficient. -/
theorem exec_setArc_brings {dt : Nat} {b current : Byte} {voltage : BitVec 16} {auto : Bool} {i v : Nat}
    (hb : b.toNat = q.val + 1) (hlink : s.linkReady) (hbusy : s.link.transmitter ≠ .idle)
    (hi : i = max 40 (min 90 current.toNat)) (hv : v = max 450 (min 700 voltage.toNat)) (hnew : i ≠ (s.lp q).current)
    (hwe : w = ((((s.elapse dt).setLp q { s.lp q with
        current := i
        voltage := v
        autostrike := auto
        rate := 6 * i / 5
        band := if 85 * i ≤ 100 * (s.lp q).amps ∧ 100 * (s.lp q).amps ≤ 115 * i then none
          else (s.lp q).band }).judged q).replied (.done 24 (.arc i v auto)))) :
    s.Brings (.setArc dt b current voltage auto) q w := by
  subst hwe
  let x : Lamp := { s.lp q with
    current := i
    voltage := v
    autostrike := auto
    rate := 6 * i / 5
    band := if 85 * i ≤ 100 * (s.lp q).amps ∧ 100 * (s.lp q).amps ≤ 115 * i then none else (s.lp q).band }
  let k := (s.elapse dt).setLp q x
  have hlp : k.lp q = x := (State.setLp_lp ..).trans (if_pos rfl)
  have hwlp : (k.judged q).lp q = { k.lp q with sufficiency := k.sufficiencyOf q } := (State.judged_lp ..).trans (if_pos rfl)
  have hyes : (k.judged q).isSufficient q = true :=
    State.readyToFollow_sufficient (s := (k.judged q).replied (.done 24 (.arc i v auto))) hw
  have hno : s.isSufficient q = false :=
    State.insufficient_before (w := (k.judged q).replied (.done 24 (.arc i v auto))) rfl rfl rfl rfl
      (show ((k.judged q).lp q).state = (s.lp q).state by rw [hwlp, hlp]) hs hw
  have hkno : k.isSufficient q = false := by rw [← hno, State.isSufficient, hlp]; rfl
  have hx : (s.lp q).setArc i v auto = x := Lamp.setArc_new v auto hnew
  have hask : Rule.ask ⟨s.elapse dt, [], false⟩ (.setArc b current voltage auto) =
      ⟨.done (.arc i v auto), ⟨k.judged q, [.readiness (houseOf q)], false⟩⟩ := by
    refine (Rule.decideSetArc_new _ b current voltage auto q i v hb hi hv hnew).trans ?_
    have hmod : (s.elapse dt).modLp q (fun l => l.setArc i v auto) = k :=
      congrArg ((s.elapse dt).setLp q) hx
    rw [Rule.upd, hmod, Rule.evalSufficiency_becomes k q hkno hyes]
    rfl
  exact .of_single (sig := .readiness (houseOf q)) (.inl rfl) (congrArg Rule.finish
    (Rule.request_sending (s.elapse dt) (k.judged q) (.setArc b current voltage auto) (.done (.arc i v auto)) _ hlink hbusy rfl
      hbusy hask))

/-- R141: the up switch of an ARMING port closes. -/
theorem exec_upSwitchCloses_brings {dt : Nat} (harming : (s.pt (projPort q)).state = .arming) :
    s.Brings (.upSwitchCloses dt (projPort q)) q (((s.elapse dt).setPt (projPort q) { s.pt (projPort q) with
        state := .held
        windowEnd := none
        upSwitch := true }).reportPort (projPort q) .portHeld) := by
  let n := projPort q
  let w := (s.elapse dt).setPt n { s.pt n with upSwitch := true }
  have hpt : w.pt n = { s.pt n with upSwitch := true } := State.setPt_pt_same ..
  have hheld : w.held n =
      ((s.elapse dt).setPt n { s.pt n with state := .held, windowEnd := none, upSwitch := true }).reportPort n .portHeld := by
    rw [State.held, hpt]
    exact congrArg (fun u : State => u.reportPort n .portHeld) ((s.elapse dt).setPt_setPt n _ _)
  refine .of_single (sig := .portHeld q) (.inr (.inl rfl)) ((congrArg Rule.finish (if_pos harming)).trans ?_)
  refine congrArg Rule.finish ((Rule.becomesHeld_eq w [] false n).trans ?_)
  rw [hheld, heldSignals_projPort]
  rfl

/-- R140: ARM PORT of a port whose up switch is closed. -/
theorem exec_armPort_brings {dt : Nat} {b : Byte} (hb : b.toNat = (projPort q).val + 1) (hlink : s.linkReady)
    (hbusy : s.link.transmitter ≠ .idle) (hdown : (s.pt (projPort q)).state = .down)
    (hcov : s.booth.covers (projPort q) = false) (hup : (s.pt (projPort q)).upSwitch = true) :
    s.Brings (.armPort dt b) q ((((s.elapse dt).setPt (projPort q) { s.pt (projPort q) with
        state := .held
        windowEnd := none }).reportPort (projPort q) .portHeld).replied (.done 37 (.portState .held))) := by
  let n := projPort q
  have hfree : ¬ s.booth.covering n ≠ [] := not_not.2 ((s.booth.covering_eq_nil n).2 hcov)
  have hask : Rule.ask ⟨s.elapse dt, [], false⟩ (.armPort b) =
      ⟨.done (.portState .held), ⟨(s.elapse dt).held n, [.portHeld q], false⟩⟩ := by
    refine (((Rule.decideArmPort_down _ b n hb hdown).trans (if_neg hfree)).trans (if_pos hup)).trans ?_
    rw [Rule.becomesHeld_eq (s.elapse dt) [] false n, heldSignals_projPort]
    rfl
  have hbusy' : ((s.elapse dt).held n).link.transmitter ≠ .idle :=
    fun hi => hbusy ((s.link.enqueue_fed _ _).idle hi).1
  exact .of_single (sig := .portHeld q) (.inr (.inl rfl)) (congrArg Rule.finish
    (Rule.request_sending (s.elapse dt) ((s.elapse dt).held n) (.armPort b) (.done (.portState .held)) _ hlink hbusy rfl
      hbusy' hask))

include htrial in
/-- R40: the douser becomes CLOSED. -/
theorem exec_douserCloses_brings {dt : Nat} {x : Travel} (hclosing : (s.ds q).state = .closing)
    (hx : (s.ds q).travel = some x) (hfull : x.full = false) :
    s.Brings (.douserSwitchCloses dt q .closedEnd) q ((s.elapse dt).setDs q { s.ds q with
        state := .closed
        travel := none
        switches := some ⟨⟨false, true⟩, s.now + dt⟩ }) := by
  refine .of_single (sig := .douser q .closed) (.inr (.inr (.inr rfl))) (congrArg Rule.finish ?_)
  refine (Rule.switchCloses_closing (s.elapse dt) q hclosing).trans ?_
  rw [show ((s.elapse dt).ds q).ended .closedEnd (s.elapse dt).now .closed = _ from
    Douser.ended_partial .closedEnd (s.now + dt) .closed hx hfull]
  rw [State.trialTravelEnds_untried (by rw [State.setDs_ds, if_pos rfl]; exact htrial)]
  rfl

include hlive hst hw in
/-- R89: the following entry is ARMED. -/
theorem exec_armReel_brings {dt : Nat} {b reel : Byte} {start : Option (BitVec 16)} {e : ReelEntry} {n : Nat} {k : State}
    (hb : b.toNat = q.val + 1) (hlink : s.linkReady) (hbusy : s.link.transmitter ≠ .idle) (harmed : (s.tr q).armed = none)
    (hstop : (s.tr q).state = .stopped) (ha : (s.rd q).assembling = false)
    (hf : findReel (s.hs (houseOf q)).plan reel.toNat = some e) (hpend : e.status = .pending ∨ e.status = .interrupted)
    (hside : e.side = sideOf q) (hn : n = (match start with | none => 0 | some x => x.toNat)) (hlt : n < e.leader + e.picture)
    (hk : k = ((((s.elapse dt).setHs (houseOf q) { s.hs (houseOf q) with
        plan := (s.hs (houseOf q)).plan.map (fun x => if x.reel = e.reel then
          { x with status := .armed, cues := x.cues.map (fun c => { c with fired := false }) } else x) }).setTr q { s.tr q with
        armed := some ⟨houseOf q, e.reel, n⟩
        counter := n }).setRd q { s.rd q with
        state := if n < e.leader then .hunt else .watch
        group := none
        held := []
        queue := [] }).setLp q { s.lp q with carbonLow := false })
    (hwe : w = (k.judged q).replied (.done 28 (.judged (k.sufficiencyOf q)))) : s.Brings (.armReel dt b reel start) q w := by
  subst hwe
  have harm : (s.elapse dt).arm (houseOf q) q e n = k := (State.arm_unassembling (s.elapse dt) q e n hlive ha).trans hk.symm
  have hwlp : (k.judged q).lp q = { k.lp q with sufficiency := k.sufficiencyOf q } := (State.judged_lp ..).trans (if_pos rfl)
  have hyes : (k.judged q).isSufficient q = true :=
    State.readyToFollow_sufficient (s := (k.judged q).replied (.done 28 (.judged (k.sufficiencyOf q)))) hw
  have hshort : (k.judged q).carbonShort q e.reel = k.judged q := by
    unfold State.carbonShort
    unfold State.isSufficient at hyes
    split
    · rfl
    · rename_i x hx
      rw [hx] at hyes
      exact if_pos hyes
  have hrule : ∃ l, (l = [] ∨ l = [Signal.readiness (houseOf q)]) ∧
      Rule.arm ⟨s.elapse dt, [], false⟩ (houseOf q) q e n = ⟨k.judged q, l ++ [.readiness (houseOf q)], false⟩ := by
    obtain ⟨l, hl, he⟩ := Rule.evalSufficiency_cases k [] false q
    refine ⟨l, hl, ?_⟩
    unfold Rule.arm
    simp only [Rule.upd, Rule.emit, harm, he, hshort]
    rfl
  obtain ⟨l, hl, hrule⟩ := hrule
  have hask : Rule.ask ⟨s.elapse dt, [], false⟩ (.armReel b reel start) =
      ⟨.done (.judged (k.sufficiencyOf q)), ⟨k.judged q, l ++ [.readiness (houseOf q)], false⟩⟩ := by
    refine (Rule.decideArmReel_done ⟨s.elapse dt, [], false⟩ hb harmed hstop (fun hi => nomatch hst.symm.trans hi) hf hpend hside hn hlt).trans ?_
    rw [hrule]
    simp only [hwlp]
    rfl
  have hkbusy : (k.judged q).link.transmitter ≠ .idle := by
    rw [show (k.judged q).link = s.link from by rw [hk]; rfl]
    exact hbusy
  have hrequest := Rule.request_sending (s.elapse dt) (k.judged q) (.armReel b reel start)
    (.done (.judged (k.sufficiencyOf q))) _ hlink hbusy (by cases start <;> rfl) hkbusy hask
  rcases hl with rfl | rfl
  · exact .of_single (sig := .readiness (houseOf q)) (.inl rfl) (congrArg Rule.finish hrequest)
  · exact ⟨_, _, congrArg Rule.finish hrequest, by simp [Signal.readies], by simp⟩

include hlive hst hs hw htrial in
/-- R92, R112: every such event is for the incoming's house to look at. -/
theorem ReadinessEvent.brings {dt : Nat} {c : Instr} (he : ReadinessEvent s dt q c w) : s.Brings c q w := by
  cases he with
  | settleEnd u hsettling hu hdue => exact exec_settleEnd_brings hsettling hu hdue
  | minuteEnd m r hb hm hdue hr hnew => exact exec_minuteEnd_brings hs hw hb hm hdue hr hnew rfl
  | setArc b current voltage auto i v hb hl hbusy hi hv hnew => exact exec_setArc_brings hs hw hb hl hbusy hi hv hnew rfl
  | upSwitchCloses ha => exact exec_upSwitchCloses_brings ha
  | armPort b hb hl hbusy hd hc hu => exact exec_armPort_brings hb hl hbusy hd hc hu
  | douserCloses x hc hx hf => exact exec_douserCloses_brings htrial hc hx hf
  | armReel b reel start e n k hb hl hbusy ha hstop hra hf hp hside hn hlt hk =>
    exact exec_armReel_brings hlive hst hw hb hl hbusy ha hstop hra hf hp hside hn hlt hk rfl

end

end Sys2Proof.Machine
end

section
/-! PROOFS. The delay end, and an incoming that becomes ready to follow: the start of the incoming. -/

namespace Sys2Proof.Machine

/-- R112: what an event that makes an incoming ready leaves of what the alignment reads. -/
theorem ReadinessEvent.keeps {s w : State} {dt : Nat} {q : Proj} {c : Instr} (he : ReadinessEvent s dt q c w) :
    (∀ g, ∃ x, w.hs g = { s.hs g with plan := x }) ∧ w.tr (otherProj q) = s.tr (otherProj q) ∧
      (w.tr q).runUp = (s.tr q).runUp ∧ (w.ds q).trial = (s.ds q).trial ∧ w.now = s.now + dt := by
  cases he with
  | settleEnd u _ _ _ => exact ⟨fun g => ⟨_, rfl⟩, rfl, rfl, rfl, rfl⟩
  | minuteEnd m r _ _ _ _ _ => exact ⟨fun g => ⟨_, rfl⟩, rfl, rfl, rfl, rfl⟩
  | setArc b current voltage auto i v _ _ _ _ _ _ => exact ⟨fun g => ⟨_, rfl⟩, rfl, rfl, rfl, rfl⟩
  | upSwitchCloses _ => exact ⟨fun g => ⟨_, rfl⟩, rfl, rfl, rfl, rfl⟩
  | armPort b _ _ _ _ _ _ => exact ⟨fun g => ⟨_, rfl⟩, rfl, rfl, rfl, rfl⟩
  | douserCloses x _ _ _ =>
    refine ⟨fun g => ⟨_, rfl⟩, rfl, rfl, ?_, rfl⟩
    rw [State.setDs_ds, if_pos rfl]
  | armReel b reel start e n k _ _ _ _ _ _ _ _ _ _ _ hk =>
    subst hk
    refine ⟨fun g => ?_, ?_, ?_, rfl, rfl⟩
    · by_cases hg : g = houseOf q
      · subst hg
        exact ⟨_, (State.setHs_hs ..).trans (if_pos rfl)⟩
      · exact ⟨_, (State.setHs_hs ..).trans (if_neg hg)⟩
    · exact (State.setTr_tr ..).trans (if_neg (otherProj_ne q))
    · refine (congrArg Transport.runUp (State.setTr_tr ..)).trans ?_
      rw [if_pos rfl]

/-- R112: the record still waits after the event. -/
theorem State.awaits.of_plan {s w : State} {h : HouseId} {q : Proj} {y : Changeover} (haw : s.awaits h q y)
    (hh : ∃ x, w.hs h = { s.hs h with plan := x }) : w.awaits h q y := by
  obtain ⟨x, hx⟩ := hh
  rw [State.awaits, hx]
  exact haw

/-! ## The delay end (R112) -/

section
variable {s : State} {dt : Nat} {h : HouseId} {y : Changeover} {d : Instant} (hy : (s.hs h).change = some y)
  (hph : y.phase = .delay) (hd : y.delayEnd = some d)
include hy hph hd

omit hph in
theorem exec_delayEnd_early (hearly : s.now + dt < d) : exec (.delayEnd dt h) s = .next (s.elapse dt) := by
  have hrule : Rule.delayEnds ⟨s.elapse dt, [], false⟩ h = ⟨s.elapse dt, [], false⟩ := by
    unfold Rule.delayEnds
    dsimp only
    rw [show ((s.elapse dt).hs h).change = some y from hy]
    dsimp only
    rw [hd]
    exact if_neg fun hc => Bool.eq_false_iff.mp (due_early hearly) hc.2
  exact (congrArg Rule.finish hrule).trans (Rule.finish_plain _)

theorem Rule.delayEnds_due (hdue : d ≤ s.now + dt) :
    Rule.delayEnds ⟨s.elapse dt, [], false⟩ h = Rule.delayFalls ⟨s.elapse dt, [], false⟩ h y := by
  unfold Rule.delayEnds
  dsimp only
  rw [show ((s.elapse dt).hs h).change = some y from hy]
  dsimp only
  rw [hd]
  exact if_pos ⟨hph, due_late hdue⟩

/-- R112: the start of an incoming that is not ready is withheld. -/
theorem exec_delayEnd_withheld (hdue : d ≤ s.now + dt) (hr : s.readyToFollow h y.incoming = false) : exec (.delayEnd dt h) s =
    .next ((s.elapse dt).setHs h { s.hs h with change := some { y with delayEnd := none } }) := by
  have hfalls : Rule.delayFalls ⟨s.elapse dt, [], false⟩ h y =
      ⟨(s.elapse dt).setHs h { s.hs h with change := some { y with delayEnd := none } }, [], false⟩ := by
    have hmod : (s.elapse dt).modChange h (fun c => { c with delayEnd := none }) =
        (s.elapse dt).setHs h { s.hs h with change := some { y with delayEnd := none } } := by
      simp only [State.modChange, State.modHs, State.elapse_hs, hy, Option.map_some]
    have hno : ¬ (s.elapse dt).readyToFollow h y.incoming = true := fun ht => nomatch hr.symm.trans ht
    unfold Rule.delayFalls
    refine (if_neg hno).trans ?_
    rw [Rule.upd, hmod]
  exact (congrArg Rule.finish ((Rule.delayEnds_due hy hph hd hdue).trans hfalls)).trans (Rule.finish_plain _)

/-- R112: an incoming that is ready is started. -/
theorem exec_delayEnd_starts (hdue : d ≤ s.now + dt) (hr : s.readyToFollow h y.incoming = true)
    (hheld : y.held = none) (htrial : (s.ds y.incoming).trial = none) : ∃ t, exec (.delayEnd dt h) s = .next t ∧
      (s.elapse dt).starts t h y.incoming ∧ t.hs h = { s.hs h with change := some { y with phase := .runup, delayEnd := none } } ∧
      t.link = s.link := by
  obtain ⟨u, hon, hu⟩ := Rule.delayFalls_starts (s.elapse dt) [] false h hy hr y rfl
  have hon' : (((s.elapse dt).setLink s.link).setHs h { s.hs h with
      change := some { y with phase := .runup, delayEnd := none, held := none } }).MotorOn u y.incoming := hon
  obtain ⟨hstarts, hhs, hlink⟩ := hon'.starts htrial
  refine ⟨u, (congrArg Rule.finish ((Rule.delayEnds_due hy hph hd hdue).trans hu)).trans ?_, hstarts,
    hhs.trans (by rw [hheld]), hlink⟩
  refine Rule.finish_settled (t := false) (Rule.settle_unheeded _ u _ false (by simp [settleBound]) fun z hz l' => ?_) nofun
  rw [List.mem_singleton.mp hz]
  rfl

end

/-! ## An incoming that becomes ready to follow (R111, R112) -/

section
variable {c : Instr} {s w : State} {dt : Nat} {h : HouseId} {q : Proj} {y : Changeover} {f : ReelEntry} {m d : Nat}
  (haw : s.awaits h q y) (hs : s.readyToFollow h q = false) (htrial : (s.ds q).trial = none)
  (he : ReadinessEvent s dt q c w) (hw : w.readyToFollow h q = true)

include haw hs htrial he hw in
/-- R112: the event is for the house of the waiting record to look at. -/
theorem ReadinessEvent.waits : s.Brings c q w ∧ w.awaits h q y ∧ (w.ds q).trial = none := by
  obtain ⟨hq, hst, -⟩ := id haw
  obtain ⟨hhs, -, -, htr, -⟩ := he.keeps
  exact ⟨he.brings (State.awaits_live haw) (hq.symm ▸ hst) hs hw htrial, haw.of_plan (hhs h), htr.trans htrial⟩

include he in
/-- R111: what the alignment reads. -/
theorem ReadinessEvent.times (hf : w.heldEntry q = some f) (hm : m = (s.tr (otherProj q)).counter) :
    w.timeOut h y m = ((y.changeFrame - m) * 2000 + (s.hs h).speed) / (2 * (s.hs h).speed) ∧
    w.timeIn h q = (if (s.tr q).runUp * (s.hs h).speed / 2000 < f.leader - (w.tr q).counter then (s.tr q).runUp +
      ((f.leader - (w.tr q).counter - (s.tr q).runUp * (s.hs h).speed / 2000) * 2000 + (s.hs h).speed) / (2 * (s.hs h).speed)
      else (s.tr q).runUp) ∧ w.leaderOf q = f.leader ∧ m = (w.tr (otherProj q)).counter := by
  obtain ⟨hhs, hout, hrun, -, -⟩ := he.keeps
  obtain ⟨x, hx⟩ := hhs h
  have hlead : w.leaderOf q = f.leader := by rw [State.leaderOf, hf]
  have hspeed : (w.hs h).speed = (s.hs h).speed := by rw [hx]
  refine ⟨?_, ?_, hlead, hm.trans (congrArg Transport.counter hout.symm)⟩
  · rw [State.timeOut, hspeed]
    rfl
  · rw [State.timeIn, hspeed, hrun, hlead]
    rfl

end

end Sys2Proof.Machine
end

section
/-! PROOFS. The incoming fails, and is disarmed. -/

namespace Sys2Proof.Machine

/-! ## Disarming a projector that is not live -/

/-- R21: a discard by the reader of a projector that is not live changes no house. -/
theorem State.readerDiscards_houses {s : State} {p : Proj} (x : ReaderState) (hlive : s.liveProj (houseOf p) ≠ some p) :
    (s.readerDiscards p x).houses = s.houses := by
  have hmark : (s.setRd p { s.rd p with state := x, group := none, held := [], queue := [] }).clearBadMark p =
      s.setRd p { s.rd p with state := x, group := none, held := [], queue := [] } := if_neg hlive
  unfold State.readerDiscards
  dsimp only
  rw [hmark]
  split
  · exact (State.evalBurst_keeps _ p).2.2.2.2.1
  · rfl

/-- R91: what a disarmed projector that is not live leaves of the houses. -/
theorem Rule.disarm_unlive (s : State) (l : List Signal) (t : Bool) (p : Proj) (hlive : s.liveProj (houseOf p) ≠ some p)
    (g : HouseId) : (Rule.disarm ⟨s, l, t⟩ p).st.hs g = { s.hs g with plan := s.planGivenUp p g } := by
  let v := (s.giveUpEntry p).setTr p { s.tr p with
    armed := none
    counter := 0
    state := if (s.tr p).state = .broken then .stopped else (s.tr p).state }
  have hst : (Rule.disarm ⟨s, l, t⟩ p).st.hs g = (v.readerDiscards p .off).hs g := by
    unfold Rule.disarm
    by_cases hb : (s.tr p).state = .broken <;> simp only [hb, v, if_true, if_false] <;> rfl
  have hvlive : v.liveProj (houseOf p) ≠ some p := by
    rw [State.liveProj, show v.hs (houseOf p) = _ from s.giveUpEntry_hs p (houseOf p)]
    exact hlive
  rw [hst]
  exact (congrArg (fun b => b.cell g) (State.readerDiscards_houses .off hvlive)).trans (s.giveUpEntry_hs p g)

/-- R91: the entries that a projector ARMED for its own house gives up. -/
theorem State.planGivenUp_home {s : State} {p : Proj} {e : ReelEntry}
    (hhome : (s.tr p).armed.map (fun a => a.house) = some (houseOf p)) (hheld : s.heldEntry p = some e) (g : HouseId) :
    s.planGivenUp p g = if g = houseOf p then (s.hs g).plan.map (fun w => if w.reel = e.reel then
      { w with status := if w.status = .armed then .pending else w.status } else w) else (s.hs g).plan := by
  obtain ⟨x, hx, hxh, hxr, -⟩ := State.heldEntry_home hhome hheld
  have hgiven (w : ReelStatus) : w.given = if w = .armed then .pending else w := by cases w <;> rfl
  unfold State.planGivenUp
  rw [hx]
  dsimp only
  rw [hxh, hxr]
  by_cases hg : g = houseOf p
  · subst hg
    rw [if_pos rfl, if_pos rfl, mapReel]
    simp only [hgiven]
  · rw [if_neg fun h => hg h.symm, if_neg hg]

/-! ## The incoming of a dropped record -/

/-- R113: from `s` to `t` the changeover record of the house of `q` has been dropped, and its incoming `q`, whose motor was not
driven, disarmed, with its douser given a close command. -/
structure State.Dropped (s t : State) (q : Proj) : Prop where
  tr : t.tr q = { s.tr q with
    armed := none
    counter := 0
    state := if (s.tr q).state = .broken then .stopped else (s.tr q).state }
  rd : t.rd q = { s.rd q with state := .off, group := none, held := [], queue := [] }
  others : ∀ x, x ≠ q → t.tr x = s.tr x ∧ t.rd x = s.rd x ∧ t.ds x = s.ds x ∧ t.lp x = s.lp x
  shut : ¬ (t.ds q).agape
  unstuck : (s.ds q).state ≠ .stuck → (t.ds q).state ≠ .stuck
  hs : ∀ g, t.hs g = { s.hs g with
    plan := s.planGivenUp q g
    change := if g = houseOf q then none else (s.hs g).change }
  lights : t.lights = s.lights
  ports : t.ports = s.ports
  booth : t.booth = s.booth
  link : t.link = s.link

/-- R91, R113: the record is dropped and the incoming disarmed. -/
theorem Rule.dropped_cases (s : State) (l : List Signal) (t : Bool) (q : Proj) (hlive : s.liveProj (houseOf q) ≠ some q) : ∃ u,
    Rule.disarm ⟨(s.closeCommand q).modHs (houseOf q) (fun x => { x with change := none }), l, t⟩ q = ⟨u, l ++
      (.readiness (houseOf q) :: if (s.tr q).state = .broken then [.transport q .stopped] else []), t⟩ ∧ s.Dropped u q := by
  let v := (s.closeCommand q).modHs (houseOf q) (fun x => { x with change := none })
  obtain ⟨hlink, htr, hrd, hlp, hhs, hlt, hpt, hb, -⟩ := s.closeCommand_keeps q
  have hvtr (x : Proj) : v.tr x = s.tr x := congrArg (fun b => b.cell x) htr
  have hvrd (x : Proj) : v.rd x = s.rd x := congrArg (fun b => b.cell x) hrd
  have hvlp (x : Proj) : v.lp x = s.lp x := congrArg (fun b => b.cell x) hlp
  have hchs (g : HouseId) : (s.closeCommand q).hs g = s.hs g := congrArg (fun b => b.cell g) hhs
  have hvds (x : Proj) : v.ds x = (s.closeCommand q).ds x := rfl
  have hvhs (g : HouseId) : v.hs g = { s.hs g with change := if g = houseOf q then none else (s.hs g).change } := by
    refine (State.setHs_hs ..).trans ?_
    by_cases hg : g = houseOf q
    · rw [if_pos hg, if_pos hg, hchs, hg]
    · rw [if_neg hg, if_neg hg, hchs]
  have hvlive : v.liveProj (houseOf q) ≠ some q := by
    rw [State.liveProj, hvhs]
    exact hlive
  have hplan (g : HouseId) : v.planGivenUp q g = s.planGivenUp q g := by simp only [State.planGivenUp, hvtr, hvhs]
  obtain ⟨u, hu, a⟩ := Rule.disarm_cases v l t q
  have huhs := Rule.disarm_unlive v l t q hvlive
  rw [hu] at huhs
  rw [hvtr] at hu
  refine ⟨u, hu, ?_, ?_, fun x hx => ⟨(a.trs x hx).trans (hvtr x), (a.rds x hx).trans (hvrd x), ?_, (a.lps x hx).trans (hvlp x)⟩, ?_, ?_,
    fun g => ?_, a.lights.trans hlt, a.ports.trans hpt, a.booth.trans hb, a.link.trans hlink⟩
  · rw [a.tr, hvtr]
  · rw [a.rd, hvrd]
  · exact (congrArg (fun b => b.cell x) a.dousers).trans (s.closeCommand_ds_other hx)
  · rw [show u.ds q = (s.closeCommand q).ds q from congrArg (fun b => b.cell q) a.dousers]
    exact s.closeCommand_shut q
  · rw [show u.ds q = (s.closeCommand q).ds q from congrArg (fun b => b.cell q) a.dousers]
    exact s.closeCommand_unstuck q
  · rw [huhs, hvhs, hplan]

/-- R113: the incoming of a record in RUNUP, LOCKED or DUE fails, its motor not driven any more. -/
theorem Rule.incomingFails_cases (s : State) (l : List Signal) (t : Bool) (q : Proj) {y : Changeover} (hq : y.incoming = q)
    (hlive : s.liveProj (houseOf q) ≠ some q) (hstop : (s.tr q).state = .stopping ∨ (s.tr q).state = .broken) : ∃ u,
    s.Dropped u q ∧ Rule.incomingFails ⟨s, l, t⟩ (houseOf q) y =
      let r : Rule := ⟨u, l ++ (.readiness (houseOf q) :: if (s.tr q).state = .broken then [.transport q .stopped] else []), t⟩
      if y.changeSource = some .loss then
        match y.loss with
        | some reason => r.lossHold (houseOf q) reason
        | none => r
      else r := by
  obtain ⟨u, hu, hdropped⟩ := Rule.dropped_cases s l t q hlive
  refine ⟨u, hdropped, ?_⟩
  have hmotor : Rule.motorStop ⟨s, l, t⟩ q = ⟨s, l, t⟩ := Rule.motorStop_undriven _ q (.inr hstop)
  unfold Rule.incomingFails
  dsimp only
  rw [hq, hmotor, ← hu]
  rfl

end Sys2Proof.Machine
end

section
/-! PROOFS. The failure of an incoming: what its house does, with and without a loss that called for it. -/

namespace Sys2Proof.Machine

/-! ## A hold leaves the projectors ARMED -/

theorem State.interrupt_cases (s : State) (h : HouseId) : ∃ x, s.interrupt h = s.setHs h { s.hs h with plan := x } := by
  have hself : s = s.setHs h { s.hs h with plan := (s.hs h).plan } := (s.setHs_self h).symm
  have hlive : ∃ x, s.setLiveStatus h .interrupted = s.setHs h { s.hs h with plan := x } := by
    unfold State.setLiveStatus
    split
    · exact ⟨_, hself⟩
    · exact ⟨_, rfl⟩
  unfold State.interrupt
  split
  · exact hlive
  · exact hlive
  all_goals exact ⟨_, hself⟩

/-- R97: what a hold leaves of a house without a changeover record, and of the others. -/
theorem Rule.enterHold_spared (r : Rule) (h : HouseId) (reason : HoldReason) (lights : Bool) (hc : (r.st.hs h).change = none) :
    r.st.Spared (r.enterHold h reason lights).st h := by
  refine (r.holdStops_spared h hc).2.trans ?_
  rw [Rule.enterHold_eq]
  generalize (r.holdStops h) = r'
  obtain ⟨x, hx⟩ := r'.st.interrupt_cases h
  rw [Rule.upd_st]
  unfold State.heldWith
  rw [hx]
  refine ⟨fun q => ?_, fun q _ => ?_, fun g hg => ?_, State.lampsRest_of ?_⟩
  · cases lights <;> rfl
  · cases lights <;> rfl
  · cases lights <;> simp [State.modHs, State.programTarget, hg]
  · cases lights <;> rfl

/-! ## The lights at a hold for a break -/

theorem Rule.motorStop_lights (r : Rule) (p : Proj) : (r.motorStop p).st.lights = r.st.lights := by
  have hcut : (r.motorCut p).st.lights = r.st.lights := (Rule.reads_readerStops _ p).state.lights
  rcases r.motorStop_cases p with ⟨-, h⟩ | ⟨-, h⟩ | ⟨-, h⟩ <;> rw [h]
  · exact hcut
  · exact (State.leaveRunning_keeps _ p).2.2.2.2.1.trans hcut

theorem Rule.dropChange_lights (r : Rule) (h : HouseId) : (r.dropChange h).st.lights = r.st.lights := by
  unfold Rule.dropChange
  split
  · rfl
  · dsimp only
    split
    · rename_i c _ _
      obtain ⟨u, hu, a⟩ := Rule.disarm_cases (r.st.modHs h (fun x => { x with change := none })) r.agenda r.tie c.incoming
      exact (congrArg (fun r : Rule => r.st.lights) hu).trans a.lights
    · rfl

/-- R123: a hold for a break leaves the lights to the break level given before it. -/
theorem Rule.enterHold_lights (r : Rule) (h : HouseId) (reason : HoldReason) :
    (r.enterHold h reason false).st.lights = r.st.lights := by
  have hstops : (r.holdStops h).st.lights = r.st.lights := by
    unfold Rule.holdStops
    rw [Rule.dropChange_lights, Rule.motorStop_lights, Rule.motorStop_lights]
    exact ((r.st.closeCommand (projAt h .a)).closeCommand_keeps (projAt h .b)).2.2.2.2.2.1.trans
      (r.st.closeCommand_keeps (projAt h .a)).2.2.2.2.2.1
  rw [Rule.enterHold_eq, Rule.upd_st]
  refine Eq.trans ?_ hstops
  generalize (r.holdStops h).st = v
  obtain ⟨x, hx⟩ := v.interrupt_cases h
  unfold State.heldWith
  rw [hx]
  simp [State.modHs]

/-! ## The house sees the failure -/

section
variable {v : State} {q : Proj} {y : Changeover} (hst : (v.hs (houseOf q)).state = .showing)
  (hlive : v.liveProj (houseOf q) ≠ some q) (hy : (v.hs (houseOf q)).change = some y) (hin : y.incoming = q)
  (hph : y.phase ∈ [ChangePhase.runup, .locked, .due])
  (hret : (v.hs (houseOf q)).retiring = none) (hstop : (v.tr q).state = .stopping ∨ (v.tr q).state = .broken)
  (hd : (v.ds q).state ≠ .stuck)

include hst hlive hy hin hph in
theorem Rule.failure_incoming (l : List Signal) (f : Failure) :
    Rule.failure ⟨v, l, false⟩ q f = Rule.incomingFails ⟨v, l, false⟩ (houseOf q) y := by
  unfold Rule.failure
  dsimp only
  rw [hst]
  dsimp only
  rw [if_neg hlive]
  unfold Rule.changeSees
  dsimp only
  rw [hy]
  dsimp only
  rw [if_neg (not_not.mpr hin)]
  obtain h | h | h : y.phase = .runup ∨ y.phase = .locked ∨ y.phase = .due := by simpa using hph
  all_goals rw [h]

/-- R113: a house in a show without a changeover record sees nothing of the incoming that it has given up. -/
theorem Rule.sees_givenUp {u : State} (hst : (u.hs (houseOf q)).state = .showing) (hc : (u.hs (houseOf q)).change = none)
    (hret : (u.hs (houseOf q)).retiring = none) (hd : (u.ds q).state ≠ .stuck) {z : Signal}
    (hz : z = .readiness (houseOf q) ∨ z = .transport q .stopping ∨ z = .transport q .stopped) (l : List Signal) :
    Rule.sees ⟨u, l, false⟩ z = ⟨u, l, false⟩ := by
  have hlook : Rule.look ⟨u, l, false⟩ (houseOf q) = ⟨u, l, false⟩ :=
    Rule.look_idle ⟨u, l, false⟩ (fun hs => nomatch hst.symm.trans hs) hc
  have hretire (x : TransportState) : ((Rule.retireSees ⟨u, l, false⟩ (houseOf q) q x).douserCause q).look (houseOf q) = ⟨u, l, false⟩ := by
    rw [Rule.retireSees_atRest _ _ q _ hret, Rule.douserCause_unstuck _ q hd, hlook]
  rcases hz with rfl | rfl | rfl
  · exact hlook
  · exact hretire .stopping
  · have hend : Rule.endStops ⟨u, l, false⟩ q = ⟨u, l, false⟩ := by
      unfold Rule.endStops
      exact if_neg fun ⟨he, _⟩ => nomatch hst.symm.trans he
    exact (congrArg (fun r : Rule => ((r.retireSees (houseOf q) q .stopped).douserCause q).look (houseOf q)) hend).trans
      (hretire .stopped)

include hst hlive hy hin hph hstop hret hd in
/-- R113: without a loss the record is dropped, and the outgoing runs on. -/
theorem Rule.failure_dropped (hsrc : y.changeSource ≠ some .loss) (l : List Signal)
    (hl : ∀ z ∈ l, z = .transport q .stopping) (hlen : l.length ≤ 1) (f : Failure) : ∃ u l', v.Dropped u q ∧
      Rule.failure ⟨v, l, false⟩ q f = ⟨u, l', false⟩ ∧ l'.length ≤ 20 ∧ (u.hs (houseOf q)).retiring = none ∧ (u.ds q).state ≠ .stuck ∧
      Rule.look ⟨u, l', false⟩ (houseOf q) = ⟨u, l', false⟩ ∧
      ∀ z ∈ l', ∀ l'', Rule.sees ⟨u, l'', false⟩ z = ⟨u, l'', false⟩ := by
  obtain ⟨u, a, hfails⟩ := Rule.incomingFails_cases v l false q hin hlive hstop
  have hhs := a.hs (houseOf q)
  have hust : (u.hs (houseOf q)).state = .showing := by rw [hhs]; exact hst
  have huc : (u.hs (houseOf q)).change = none := by rw [hhs]; exact if_pos rfl
  have huret : (u.hs (houseOf q)).retiring = none := by rw [hhs]; exact hret
  refine ⟨u, _, a, (Rule.failure_incoming hst hlive hy hin hph l f).trans (hfails.trans (if_neg hsrc)), ?_, huret, a.unstuck hd,
    Rule.look_idle _ (fun hs => nomatch hust.symm.trans hs) huc, fun z hz l'' => ?_⟩
  · simp only [List.length_append, List.length_cons]
    split <;> simp <;> omega
  · refine Rule.sees_givenUp hust huc huret (a.unstuck hd) ?_ l''
    rcases List.mem_append.mp hz with hz | hz
    · exact .inr (.inl (hl z hz))
    · rcases List.mem_cons.mp hz with hz | hz
      · exact .inl hz
      · refine .inr (.inr ?_)
        split at hz
        · exact List.mem_singleton.mp hz
        · simp at hz

/-- R123: a house in a show without a changeover record goes to HOLD for a loss, and nothing more comes of it. -/
theorem Rule.lossHold_rests {u : State} {l : List Signal} {h : HouseId} (reason : LossReason) (huc : (u.hs h).change = none)
    (huret : (u.hs h).retiring = none) (huds : ∀ x, houseOf x = h → (u.ds x).state ≠ .stuck) (hlen : l.length ≤ 3)
    (hl : ∀ z ∈ l, z.house = h) : ∃ t l', u.HeldIn t h reason.hold ∧ u.Spared t h ∧
      t.Holds h (if reason ≠ .brk then (u.hs h).levels.hold else (u.lt h).programTarget)
        (if reason ≠ .brk then 30 else (u.lt h).programFade) ∧ (reason = .brk → t.lights = u.lights) ∧
      Rule.lossHold ⟨u, l, false⟩ h reason = ⟨t, l', false⟩ ∧ l'.length ≤ 30 ∧ (t.hs h).retiring = none ∧
      (∀ x, houseOf x = h → (t.ds x).state ≠ .stuck) ∧ Rule.look ⟨t, l', false⟩ h = ⟨t, l', false⟩ ∧
      ∀ z ∈ l', ∀ l'', Rule.sees ⟨t, l'', false⟩ z = ⟨t, l'', false⟩ := by
  obtain ⟨⟨-, ⟨l', hl', hlen', hof⟩, htie⟩, hheld⟩ := Rule.enterHold_held ⟨u, l, false⟩ h reason.hold (decide (reason ≠ .brk))
    (by dsimp only; rw [huc]; exact nofun)
  have hspared := Rule.enterHold_spared ⟨u, l, false⟩ h reason.hold (decide (reason ≠ .brk)) huc
  have hholds := Rule.enterHold_holds ⟨u, l, false⟩ h reason.hold (decide (reason ≠ .brk))
  have hlights (hb : reason = .brk) : (Rule.enterHold ⟨u, l, false⟩ h reason.hold (decide (reason ≠ .brk))).st.lights = u.lights := by
    subst hb
    exact Rule.enterHold_lights ⟨u, l, false⟩ h LossReason.brk.hold
  unfold Rule.lossHold
  generalize Rule.enterHold ⟨u, l, false⟩ h reason.hold (decide (reason ≠ .brk)) = r' at *
  obtain ⟨t, k, tie⟩ := r'
  obtain rfl : tie = false := htie
  obtain rfl : k = l ++ l' := hl'
  refine ⟨t, l ++ l', hheld, hspared, by simpa using hholds, hlights, rfl, ?_, hheld.within.retiring.trans huret,
    fun x hx h => huds x hx (hheld.within.stuck x h), Rule.look_noShow _ _ (congrArg HouseState.inShow hheld.state) hheld.change,
    fun z hz l'' => hheld.unheeded huds huret ?_ t.link l'' false⟩
  · rw [List.length_append]
    omega
  · exact (List.mem_append.mp hz).elim (hl z) (hof z)

include hst hlive hy hin hph hstop hret hd in
/-- R113, R123: with a loss that called for the change the house goes to HOLD. -/
theorem Rule.failure_lossHold {reason : LossReason} (hsrc : y.changeSource = some .loss) (hloss : y.loss = some reason)
    (hds : ∀ x, houseOf x = houseOf q → x ≠ q → (v.ds x).state ≠ .stuck) (l : List Signal)
    (hl : ∀ z ∈ l, z = .transport q .stopping) (hlen : l.length ≤ 1) (f : Failure) : ∃ u t l', v.Dropped u q ∧
      u.HeldIn t (houseOf q) reason.hold ∧ u.Spared t (houseOf q) ∧
      t.Holds (houseOf q) (if reason ≠ .brk then (u.hs (houseOf q)).levels.hold else (u.lt (houseOf q)).programTarget)
        (if reason ≠ .brk then 30 else (u.lt (houseOf q)).programFade) ∧ (reason = .brk → t.lights = u.lights) ∧
      Rule.failure ⟨v, l, false⟩ q f = ⟨t, l', false⟩ ∧ l'.length ≤ 30 ∧ (t.hs (houseOf q)).retiring = none ∧
      (t.ds q).state ≠ .stuck ∧ Rule.look ⟨t, l', false⟩ (houseOf q) = ⟨t, l', false⟩ ∧
      ∀ z ∈ l', ∀ l'', Rule.sees ⟨t, l'', false⟩ z = ⟨t, l'', false⟩ := by
  obtain ⟨u, a, hfails⟩ := Rule.incomingFails_cases v l false q hin hlive hstop
  have hhs := a.hs (houseOf q)
  have huds (x : Proj) (hx : houseOf x = houseOf q) : (u.ds x).state ≠ .stuck := by
    by_cases hxq : x = q
    · rw [hxq]
      exact a.unstuck hd
    · rw [(a.others x hxq).2.2.1]
      exact hds x hx hxq
  rw [if_pos hsrc, hloss] at hfails
  obtain ⟨t, l', hheld, hspared, hholds, hlights, hrule, hlen', hret', hds', hlook, hsees⟩ := Rule.lossHold_rests (u := u)
    (l := l ++ (.readiness (houseOf q) :: if (v.tr q).state = .broken then [.transport q .stopped] else [])) (h := houseOf q) reason
    (by rw [hhs]; exact if_pos rfl) (by rw [hhs]; exact hret) huds
    (by simp only [List.length_append, List.length_cons]; split <;> simp <;> omega) fun z hz => by
      rcases List.mem_append.mp hz with hz | hz
      · rw [hl z hz]
        rfl
      · rcases List.mem_cons.mp hz with hz | hz
        · rw [hz]
          rfl
        · split at hz
          · rw [List.mem_singleton.mp hz]
            rfl
          · simp at hz
  exact ⟨u, t, l', a, hheld, hspared, hholds, hlights, ((Rule.failure_incoming hst hlive hy hin hph l f).trans hfails).trans hrule,
    hlen', hret', hds' q rfl, hlook, hsees⟩

end

/-- R8, R113: a run-up that fails, seen by the house. -/
theorem Rule.finish_runupFailed {v t : State} {l : List Signal} {q : Proj}
    (hf : Rule.failure ⟨v, [.transport q .stopping], false⟩ q .runup = ⟨t, l, false⟩)
    (hlook : Rule.look ⟨t, l, false⟩ (houseOf q) = ⟨t, l, false⟩) (hlen : l.length ≤ 30)
    (hl : ∀ z ∈ l, ∀ l', Rule.sees ⟨t, l', false⟩ z = ⟨t, l', false⟩) :
    Rule.finish ⟨v, [.runupFailed q, .transport q .stopping], false⟩ = .next t := by
  have hsees : Rule.sees ⟨v, [.transport q .stopping], false⟩ (.runupFailed q) = ⟨t, l, false⟩ := by
    change (Rule.failure ⟨v, [.transport q .stopping], false⟩ q .runup).look (houseOf q) = _
    rw [hf, hlook]
  refine Rule.finish_settled (t := false) ?_ nofun
  rw [show settleBound = 511 + 1 from rfl, Rule.settle_cons, hsees]
  exact Rule.settle_unheeded 511 t l false (hlen.trans (by decide)) hl

end Sys2Proof.Machine
end

section
/-! PROOFS. The run-up limit and the break deadline of an incoming; the delay end settled. -/

namespace Sys2Proof.Machine

/-! ## The state in which the house sees the failure -/

/-- R8, R12: from `s` to `v` the transport of `q`, which is not live, has failed: at its run-up limit (`limit`), or by a break. -/
structure State.Failed (s v : State) (q : Proj) (limit : Bool) : Prop where
  state : (v.tr q).state = if limit then .stopping else .broken
  armed : (v.tr q).armed = (s.tr q).armed
  rd : v.rd q = { s.rd q with state := .off }
  others : ∀ x, x ≠ q → v.tr x = s.tr x ∧ v.rd x = s.rd x ∧ v.ds x = s.ds x ∧ v.lp x = s.lp x
  unstuck : (s.ds q).state ≠ .stuck → (v.ds q).state ≠ .stuck
  hs : ∀ g, v.hs g = { s.hs g with
    gate := if g = houseOf q ∧ (s.hs g).gate = .side (sideOf q) ∧ limit = false then .none else (s.hs g).gate }
  lights : v.lights = s.lights
  ports : v.ports = s.ports
  booth : v.booth = s.booth
  link : v.link = s.link.enqueue (projNumber q) (if limit then .runupFail (s.tr q).lockCount (s.tr q).counter
    else .filmBreak (s.tr q).counter)

section
variable {s : State} {q : Proj} {u : Instant} (ha : (s.rd q).assembling = false)
include ha

/-- R8: the run-up limit. -/
theorem Rule.runUpExpires_failed (hst : (s.tr q).state = .starting) (hu : (s.tr q).motorOn = some u) (ht : u + 60000 ≤ s.now) :
    ∃ v, s.Failed v q true ∧ Rule.runUpExpires ⟨s, [], false⟩ q = ⟨v, [.runupFailed q, .transport q .stopping], false⟩ := by
  let w := (s.setTr q ((s.tr q).ranUp s.now)).reportProj q (.runupFail (s.tr q).lockCount (s.tr q).counter)
  have htr (x : Proj) : (w.setRd q { s.rd q with state := .off }).tr x = if x = q then (s.tr q).ranUp s.now else s.tr x :=
    State.setTr_tr ..
  have hrd (x : Proj) : (w.setRd q { s.rd q with state := .off }).rd x = if x = q then { s.rd q with state := .off } else s.rd x :=
    State.setRd_rd ..
  refine ⟨w.setRd q { s.rd q with state := .off }, ⟨?_, ?_, ?_, fun x hx => ⟨?_, ?_, rfl, rfl⟩, id, fun g => ?_, rfl, rfl, rfl, rfl⟩, ?_⟩
  · rw [htr, if_pos rfl]
    rfl
  · rw [htr, if_pos rfl]
    rfl
  · rw [hrd, if_pos rfl]
  · rw [htr, if_neg hx]
  · rw [hrd, if_neg hx]
  · rw [if_neg (by simp)]
    rfl
  · rw [Rule.runUpExpires_eq s q u hst hu ht, Rule.readerStops_idle _ q ha]
    rfl

/-- R12: the break deadline. -/
theorem Rule.filmBreaks_failed (hlive : s.liveProj (houseOf q) ≠ some q) (hst : (s.tr q).state = .running)
    (hu : (s.tr q).lastPulse = some u) (ht : 25000 ≤ (s.now - u) * s.speedOf q) :
    ∃ v, s.Failed v q false ∧ Rule.filmBreaks ⟨s, [], false⟩ q = ⟨v, [.transport q .broken], false⟩ := by
  let x := { s.tr q with state := .broken, miss := .normal, lockCount := 0 }
  let v0 := ((s.setTr q x).reportProj q (.filmBreak (s.tr q).counter)).setRd q { s.rd q with state := .off }
  obtain ⟨hlink, htr, hrd, hlp, hlt, hpt, hb, -, -⟩ := v0.leaveRunning_keeps q
  have hvtr (z : Proj) : (v0.leaveRunning q).tr z = if z = q then x else s.tr z :=
    (congrArg (fun b => b.cell z) htr).trans (State.setTr_tr ..)
  have hvrd (z : Proj) : (v0.leaveRunning q).rd z = if z = q then { s.rd q with state := .off } else s.rd z :=
    (congrArg (fun b => b.cell z) hrd).trans (State.setRd_rd ..)
  have hlive0 : v0.liveProj (houseOf q) ≠ some q := hlive
  refine ⟨v0.leaveRunning q, ⟨?_, ?_, ?_, fun z hz => ⟨?_, ?_, v0.leaveRunning_ds_other hz, congrArg (fun b => b.cell z) hlp⟩,
    fun h hs => h ((v0.within_leaveRunning rfl).stuck q hs), fun g => ?_, hlt, hpt, hb, hlink⟩, Rule.filmBreaks_unassembling s q u hst hu ht ha⟩
  · rw [hvtr, if_pos rfl]
    rfl
  · rw [hvtr, if_pos rfl]
  · rw [hvrd, if_pos rfl]
  · rw [hvtr, if_neg hz]
  · rw [hvrd, if_neg hz]
  · rw [v0.leaveRunning_hs, if_neg hlive0]
    by_cases hg : g = houseOf q
    · subst hg
      simp only [if_true, true_and, and_true]
      rfl
    · rw [if_neg hg, if_neg fun h => hg h.1]
      rfl

end

/-! ## The incoming of a record in RUNUP, LOCKED or DUE fails -/

section
variable {c : Instr} {s : State} {dt : Nat} {h : HouseId} {q : Proj} {y : Changeover} {e : ReelEntry} {u : Instant} {limit : Bool}
  {phases : List ChangePhase} (hto : s.changesTo h q y e phases) (ha : (s.rd q).assembling = false) (hd : (s.ds q).state ≠ .stuck)
  (hc : c = (if limit then .runupLimit dt q else .breakDeadline dt q))
  (hup : limit = true → (s.tr q).state = .starting ∧ (s.tr q).motorOn = some u ∧ u + 60000 ≤ s.now + dt)
  (hbreak : limit = false → (s.tr q).state = .running ∧ (s.tr q).lastPulse = some u ∧ 25000 ≤ (s.now + dt - u) * s.speedOf q)

include hto in
theorem State.changesTo_live : s.liveProj (houseOf q) ≠ some q := by
  obtain ⟨hq, -, hlive, -⟩ := hto
  rw [hq, State.liveProj, hlive, ← hq]
  exact fun he => otherProj_ne q ((projAt_houseOf_sideOf (otherProj q)).symm.trans
    ((congrArg (projAt · _) (houseOf_otherProj q)).trans (Option.some.inj he)))

include hto ha hc hup hbreak in
/-- R8, R12: either failure is for the house to see. -/
theorem exec_incoming_fails : ∃ v, s.Failed v q limit ∧
    ∀ (f : Failure), f = (if limit then .runup else .brk) → ∀ t l,
      Rule.failure ⟨v, if limit then [.transport q .stopping] else [], false⟩ q f = ⟨t, l, false⟩ →
      (t.hs (houseOf q)).retiring = none → (t.ds q).state ≠ .stuck → Rule.look ⟨t, l, false⟩ (houseOf q) = ⟨t, l, false⟩ →
      l.length ≤ 30 → (∀ z ∈ l, ∀ l', Rule.sees ⟨t, l', false⟩ z = ⟨t, l', false⟩) → exec c s = .next t := by
  cases limit with
  | true =>
    obtain ⟨hst, hu, ht⟩ := hup rfl
    obtain ⟨v, hv, hrule⟩ := Rule.runUpExpires_failed (s := s.elapse dt) (q := q) ha hst hu ht
    subst hc
    refine ⟨v, ⟨hv.state, hv.armed, hv.rd, hv.others, hv.unstuck, hv.hs, hv.lights, hv.ports, hv.booth, hv.link⟩,
      fun f hf t l hfail _ _ hlook hlen hl => ?_⟩
    subst hf
    exact (congrArg Rule.finish hrule).trans (Rule.finish_runupFailed hfail hlook hlen hl)
  | false =>
    obtain ⟨hst, hu, ht⟩ := hbreak rfl
    obtain ⟨v, hv, hrule⟩ := Rule.filmBreaks_failed (s := s.elapse dt) (q := q) ha (State.changesTo_live hto) hst hu ht
    subst hc
    refine ⟨v, ⟨hv.state, hv.armed, hv.rd, hv.others, hv.unstuck, hv.hs, hv.lights, hv.ports, hv.booth, hv.link⟩,
      fun f hf t l hfail hret hds hlook hlen hl => ?_⟩
    subst hf
    exact (congrArg Rule.finish hrule).trans (Rule.finish_broken hfail hret hds hlook hlen hl)

/-- R113: what the house reads of the failed incoming. -/
theorem State.Failed.seen {v : State} (a : s.Failed v q limit) (hto : s.changesTo h q y e phases) :
    (v.hs (houseOf q)).state = .showing ∧ v.liveProj (houseOf q) ≠ some q ∧ (v.hs (houseOf q)).change = some y ∧
      (v.hs (houseOf q)).retiring = none ∧ ((v.tr q).state = .stopping ∨ (v.tr q).state = .broken) := by
  have hlive := State.changesTo_live hto
  obtain ⟨hq, hst, -, hret, hy, -, -, -, -⟩ := hto
  have hhs := a.hs (houseOf q)
  refine ⟨?_, ?_, ?_, ?_, ?_⟩
  · rw [hhs, hq]
    exact hst
  · rw [State.liveProj, hhs]
    exact hlive
  · rw [hhs, hq]
    exact hy
  · rw [hhs, hq]
    exact hret
  · rw [a.state]
    cases limit
    · exact .inr rfl
    · exact .inl rfl

variable (hphases : phases = [.runup, .locked, .due])
include hto ha hd hc hup hbreak hphases

/-- R113: the record is dropped, and the outgoing runs on. -/
theorem exec_incoming_dropped (hsrc : y.changeSource ≠ some .loss) :
    ∃ v t, s.Failed v q limit ∧ v.Dropped t q ∧ exec c s = .next t := by
  obtain ⟨v, hv, hexec⟩ := exec_incoming_fails hto ha hc hup hbreak
  obtain ⟨hst, hlive, hy, hret, hstop⟩ := hv.seen hto
  obtain ⟨-, -, -, -, -, hin, hph, -, -⟩ := id hto
  obtain ⟨t, l, a, hfail, hlen, htret, htd, hlook, hl⟩ := Rule.failure_dropped hst hlive hy hin (hphases ▸ hph) hret hstop (hv.unstuck hd) hsrc
    (if limit then [.transport q .stopping] else []) (by cases limit <;> simp) (by cases limit <;> simp)
    (if limit then .runup else .brk)
  exact ⟨v, t, hv, a, hexec _ rfl t l hfail htret htd hlook (by omega) hl⟩

/-- R113, R123: the house of a change that a loss called for goes to HOLD. -/
theorem exec_incoming_lossHolds {reason : LossReason} (hsrc : y.changeSource = some .loss) (hloss : y.loss = some reason)
    (hds : (s.ds (otherProj q)).state ≠ .stuck) : ∃ v w t, s.Failed v q limit ∧ v.Dropped w q ∧
      w.HeldIn t (houseOf q) reason.hold ∧ w.Spared t (houseOf q) ∧
      t.Holds (houseOf q) (if reason ≠ .brk then (w.hs (houseOf q)).levels.hold else (w.lt (houseOf q)).programTarget)
        (if reason ≠ .brk then 30 else (w.lt (houseOf q)).programFade) ∧ (reason = .brk → t.lights = w.lights) ∧
      exec c s = .next t := by
  obtain ⟨v, hv, hexec⟩ := exec_incoming_fails hto ha hc hup hbreak
  obtain ⟨hst, hlive, hy, hret, hstop⟩ := hv.seen hto
  obtain ⟨-, -, -, -, -, hin, hph, -, -⟩ := id hto
  obtain ⟨w, t, l, a, hheld, hspared, hholds, hlights, hfail, hlen, htret, htd, hlook, hl⟩ :=
    Rule.failure_lossHold hst hlive hy hin (hphases ▸ hph) hret hstop (hv.unstuck hd) hsrc hloss
      (fun x hx hxq => by
        rw [(hv.others x hxq).2.2.1, (eq_or_eq_otherProj hx).resolve_left hxq]
        exact hds)
      (if limit then [.transport q .stopping] else []) (by cases limit <;> simp) (by cases limit <;> simp)
      (if limit then .runup else .brk)
  exact ⟨v, w, t, hv, a, hheld, hspared, hholds, hlights, hexec _ rfl t l hfail htret htd hlook hlen hl⟩

end

/-- R113: the house of an incoming that failed and was given up. -/
theorem State.Failed.dropped_hs {s v t : State} {h : HouseId} {q : Proj} {y : Changeover} {e : ReelEntry} {limit : Bool}
    {phases : List ChangePhase} (hto : s.changesTo h q y e phases) (a : s.Failed v q limit) (b : v.Dropped t q) :
    t.hs h = { s.hs h with
        change := none
        gate := if (s.hs h).gate = .side (sideOf q) ∧ limit = false then .none else (s.hs h).gate
        plan := (s.hs h).plan.map (fun w => if w.reel = e.reel then
          { w with status := if w.status = .armed then .pending else w.status } else w) } ∧ ∀ i, i ≠ h → t.hs i = s.hs i := by
  obtain ⟨rfl, -, -, -, -, -, -, hhome, hheld⟩ := hto
  have hplan (g : HouseId) : v.planGivenUp q g = s.planGivenUp q g := by
    simp only [State.planGivenUp, a.armed, a.hs]
  refine ⟨?_, fun i hi => ?_⟩
  · rw [b.hs, hplan, State.planGivenUp_home hhome hheld, a.hs]
    simp only [if_true, true_and]
  · rw [b.hs, hplan, State.planGivenUp_home hhome hheld, a.hs]
    simp [hi]

end Sys2Proof.Machine
end

section
/-! PROOFS. The delay end, the readiness of a waiting incoming, and its failure. -/

namespace Sys2Proof.Machine

/-- R8, R12, R113: what both failures leave of the projectors. -/
theorem State.Failed.dropped_projs {s v t : State} {q : Proj} {limit : Bool} (a : s.Failed v q limit) (b : v.Dropped t q) :
    (t.tr q).state = (if limit then .stopping else .stopped) ∧ (t.tr q).armed = none ∧ (t.tr q).counter = 0 ∧
      t.rd q = { s.rd q with state := .off, group := none, held := [], queue := [] } ∧
      (∀ x, x ≠ q → t.tr x = s.tr x ∧ t.rd x = s.rd x ∧ t.ds x = s.ds x ∧ t.lp x = s.lp x) := by
  refine ⟨?_, ?_, ?_, ?_, fun x hx => ?_⟩
  · rw [b.tr, a.state]
    cases limit <;> rfl
  · rw [b.tr]
  · rw [b.tr]
  · rw [b.rd, a.rd]
  · obtain ⟨htr, hrd, hds, hlp⟩ := a.others x hx
    obtain ⟨htr', hrd', hds', hlp'⟩ := b.others x hx
    exact ⟨htr'.trans htr, hrd'.trans hrd, hds'.trans hds, hlp'.trans hlp⟩

/-- R112: an incoming that becomes ready while its record waits in WAIT_READY with no held change. -/
theorem ReadinessEvent.aligns {c : Instr} {s w : State} {dt : Nat} {h : HouseId} {q : Proj} {y : Changeover} {f : ReelEntry}
    {m tOut tIn d : Nat} (haw : s.awaits h q y) (hs : s.readyToFollow h q = false) (htrial : (s.ds q).trial = none)
    (he : ReadinessEvent s dt q c w) (hw : w.readyToFollow h q = true) (hf : w.heldEntry q = some f)
    (hm : m = (s.tr (otherProj q)).counter) (hout : tOut = w.timeOut h y m) (hin : tIn = w.timeIn h q)
    (hd : d = min 20000 (tOut - tIn)) (hph : y.phase = .waitReady) (hheld : y.held = none) :
    (0 < d → exec c s = .next (w.setHs h ((w.hs h).aligned y m d (s.now + dt)))) ∧
    (d = 0 → ∃ t, exec c s = .next t ∧ w.starts t h q ∧
      t.hs h = { w.hs h with change := some { y with phase := .runup, motorFrame := m, delay := some 0, delayEnd := none } } ∧
      t.link = if tOut < tIn then w.link.enqueue (houseNumber h) (.shortLead (tIn - tOut) m y.changeFrame
        (f.leader - (w.tr q).counter) (s.tr q).runUp) else w.link) := by
  obtain ⟨⟨sig, l, hexec, hsig, hlen⟩, haw', htrial'⟩ := he.waits haw hs htrial hw
  obtain ⟨-, -, hlead, hm'⟩ := ReadinessEvent.times (y := y) (h := h) he hf hm
  obtain ⟨-, -, hrun, -, hnow⟩ := he.keeps
  subst hout hin
  rw [hexec]
  refine ⟨fun hpos => ?_, fun hzero => ?_⟩
  · have hwaits := Rule.finish_aligned haw' hsig hlen hw hph hheld hm' hd hpos
    rw [hnow] at hwaits
    exact hwaits
  · obtain ⟨t, ht, hstarts, hhs, hlink⟩ := Rule.finish_alignedStart haw' hsig hlen hw htrial' hph hheld hm' (hd.symm.trans hzero)
    refine ⟨t, ht, hstarts, hhs, hlink.trans ?_⟩
    rw [State.leadTold, haw'.2.2.2.2.1, hlead, hrun]

/-- Settles O37: the delay end and the events that make the incoming ready start it by the record's phase; its failure drops
the record. -/
theorem delayEndStartsTheIncoming : Obligations.DelayEndStartsTheIncoming := by
  refine ⟨fun s dt h y d hy hph hd hheld => ⟨exec_delayEnd_early hy hd, exec_delayEnd_withheld hy hph hd, fun hdue hr htrial => ?_⟩,
    fun c s dt h q y e u limit reason hto ha hd harmed hc hup hbreak => ⟨fun hsrc => ?_, fun hsrc hloss hds => ?_⟩,
    fun c s w dt h q y f src m left run speed fu tOut tIn d haw hs htrial he hw hf hm hspeed hrun hleft hfu hout hin hd => ?_⟩
  · obtain ⟨t, ht, ⟨htr, hqueue, hothers, hhouses, hrest⟩, hhs, hlink⟩ := exec_delayEnd_starts hy hph hd hdue hr hheld htrial
    obtain ⟨hds, hlp, hlt, hpt, hb⟩ := hrest
    exact ⟨t, ht, hhs, htr, hqueue, hothers, hhouses, hds, hlp, hlt, hpt, hb, hlink⟩
  · obtain ⟨v, t, a, b, ht⟩ := exec_incoming_dropped hto ha hd hc hup hbreak rfl hsrc
    obtain ⟨hst, harm, hcounter, hrd, hothers⟩ := a.dropped_projs b
    obtain ⟨hhs, hhouses⟩ := a.dropped_hs hto b
    exact ⟨t, ht, hhs, hst, harm, hcounter, hrd, fun h => b.shut (.inl h), fun h => b.shut (.inr h), hothers, hhouses,
      b.lights.trans a.lights, b.ports.trans a.ports, b.booth.trans a.booth, b.link.trans a.link⟩
  · obtain ⟨v, w, t, a, b, hheld, hspared, hholds, hlights, ht⟩ := exec_incoming_lossHolds hto ha hd hc hup hbreak rfl hsrc hloss hds
    obtain ⟨hst, harm, hcounter, hrd, hothers⟩ := a.dropped_projs b
    obtain ⟨hhs, hhouses⟩ := a.dropped_hs hto b
    obtain ⟨rfl, -⟩ := id hto
    have hwlights : w.lights = s.lights := b.lights.trans a.lights
    refine ⟨t, ht, hheld.state, hheld.holdReason, hheld.change, hheld.gate, (hspared.armed q).trans harm,
      fun x hx => ⟨fun h => hheld.undriven x hx (.inl h), fun h => hheld.undriven x hx (.inr h), fun h => hheld.shut x hx (.inl h),
        fun h => hheld.shut x hx (.inr h)⟩, fun hb => (hlights hb).trans hwlights, fun hb => ?_, fun i hi => ⟨?_, ?_⟩,
      hheld.within.ports.trans (b.ports.trans a.ports), hheld.within.booth.trans (b.booth.trans a.booth)⟩
    · have hlevels : (w.hs (houseOf q)).levels = (s.hs (houseOf q)).levels := by rw [hhs]
      have htarget := hholds.target
      have hfade := hholds.fade
      rw [if_pos hb, hlevels] at htarget
      rw [if_pos hb] at hfade
      exact ⟨htarget, hfade⟩
    · exact (hspared.hss i hi).trans (hhouses i hi)
    · exact (hheld.within.lts i hi).trans (congrArg (fun b => b.cell i) hwlights)
  · subst hspeed hrun hleft hfu
    obtain ⟨htOut, htIn, -, -⟩ := ReadinessEvent.times (y := y) (h := h) he hf hm
    have haligns := ReadinessEvent.aligns haw hs htrial he hw hf hm (hout.trans htOut.symm) (hin.trans htIn.symm) hd
    obtain ⟨⟨sig, l, hexec, hsig, hlen⟩, haw', htrial'⟩ := he.waits haw hs htrial hw
    refine ⟨fun hph hheld => (haligns hph hheld).1, fun hph hheld => (haligns hph hheld).2, fun hph hheld => ?_, fun hheld => ?_⟩
    · rw [hexec]
      exact Rule.finish_withheld haw' hsig hlen hw htrial' hph hheld
    · rw [hexec]
      obtain ⟨t, ht, hstarts, hhs, hlink⟩ := Rule.finish_heldChange haw' hsig hlen hw htrial' hheld
      exact ⟨t, ht, hstarts, hhs.trans (by cases src <;> rfl), hlink⟩

end Sys2Proof.Machine
end

section
/-! PROOFS. The retiring projector of a house: its counted pulses, its run-down and its break. -/

namespace Sys2Proof.Machine

/-! ## A house that only looks on (R95, R112, R118) -/

/-- R118: house `houseOf p` has nothing to begin when something of `p` changes: `p` is not live, a STARTING house starts the other
projector, which is not RUNNING, and a changeover record waits for `p`. -/
structure State.LooksOn (t : State) (p : Proj) : Prop where
  side : (t.hs (houseOf p)).liveSide ≠ some (sideOf p)
  start : (t.hs (houseOf p)).state = .starting → (t.hs (houseOf p)).startingSide ≠ some (sideOf p) ∧ (t.tr (otherProj p)).state ≠ .running
  record : ∀ y, (t.hs (houseOf p)).change = some y → y.phase = .waitReady ∧ y.incoming = p

theorem State.LooksOn.of_hs {s t : State} {p : Proj} (a : s.LooksOn p) (ho : t.tr (otherProj p) = s.tr (otherProj p))
    {x : Option Retiring} {g : Machine.Gate} (hh : t.hs (houseOf p) = { s.hs (houseOf p) with retiring := x, gate := g }) :
    t.LooksOn p := by
  refine ⟨?_, fun hs => ?_, fun y hy => ?_⟩
  · rw [hh]
    exact a.side
  · rw [hh] at hs ⊢
    rw [ho]
    exact a.start hs
  · rw [hh] at hy
    exact a.record y hy

/-- A projector of a house is the one of its side, or the other. -/
theorem projAt_ne_side {p : Proj} {sd : Side} : sd ≠ sideOf p → projAt (houseOf p) sd = otherProj p := by
  revert p
  cases sd <;> decide

theorem liveSide_ne {s : State} {p : Proj} (h : (s.hs (houseOf p)).liveSide ≠ some (sideOf p)) :
    s.liveProj (houseOf p) ≠ some p := by
  intro he
  obtain ⟨sd, hsd, hp⟩ := Option.map_eq_some_iff.1 he
  by_cases hs : sd = sideOf p
  · exact h (hsd.trans (congrArg some hs))
  · exact otherProj_ne p ((projAt_ne_side hs).symm.trans hp)

section
variable {t : State} {p : Proj} (a : t.LooksOn p) (l : List Signal)
include a

theorem Rule.pictureTest_looksOn : Rule.pictureTest ⟨t, l, false⟩ (houseOf p) = ⟨t, l, false⟩ := by
  by_cases hst : (t.hs (houseOf p)).state = .starting
  · obtain ⟨hside, hrun⟩ := a.start hst
    unfold Rule.pictureTest
    dsimp only
    split
    next sd _ hsd =>
      have hother : projAt (houseOf p) sd = otherProj p := projAt_ne_side fun h => hside (hsd.trans (congrArg some h))
      rw [hother]
      split
      · rfl
      · exact if_neg fun h => hrun h.1
    · rfl
  · exact Rule.pictureTest_idle _ hst

theorem Rule.crossingTest_looksOn : Rule.crossingTest ⟨t, l, false⟩ (houseOf p) = ⟨t, l, false⟩ := by
  unfold Rule.crossingTest
  dsimp only
  split
  · rfl
  next y hy => exact if_neg fun ⟨hd, _⟩ => nomatch (a.record y hy).1.symm.trans hd

/-- R112, R117: nothing is begun while `p` is not ready to follow. -/
theorem Rule.look_looksOn (hr : t.readyToFollow (houseOf p) p = false) : Rule.look ⟨t, l, false⟩ (houseOf p) = ⟨t, l, false⟩ := by
  have hready : Rule.readinessTest ⟨t, l, false⟩ (houseOf p) = ⟨t, l, false⟩ := by
    unfold Rule.readinessTest
    dsimp only
    split
    · rfl
    next y hy =>
      rw [(a.record y hy).2]
      exact if_neg (by simp [hr])
  have hdone : Rule.completionTest ⟨t, l, false⟩ (houseOf p) = ⟨t, l, false⟩ := by
    unfold Rule.completionTest
    dsimp only
    split
    · rfl
    next y hy =>
      split
      · rfl
      · refine if_neg ?_
        unfold State.crossingDone
        rw [(a.record y hy).1]
        simp
  rw [Rule.look, Rule.pictureTest_looksOn a, hready, Rule.crossingTest_looksOn a, hdone]

/-- R113, R118: the house makes nothing of the failure of such a projector. -/
theorem Rule.failure_looksOn (f : Failure) : Rule.failure ⟨t, l, false⟩ p f = ⟨t, l, false⟩ := by
  have hlive := liveSide_ne a.side
  unfold Rule.failure
  dsimp only
  split
  next hst =>
    refine if_neg fun he => ?_
    obtain ⟨sd, hsd, hp⟩ := Option.map_eq_some_iff.1 he
    refine otherProj_ne p ((projAt_ne_side fun h => (a.start hst).1 (hsd.trans (congrArg some h))).symm.trans hp)
  next =>
    refine (if_neg hlive).trans ?_
    unfold Rule.changeSees
    dsimp only
    split
    · rfl
    next y hy =>
      rw [(a.record y hy).1]
      exact ite_self _
  next => exact if_neg fun h => hlive h.1
  all_goals rfl

end

/-- R92: an EMPTY projector is not ready to follow. -/
theorem State.readyToFollow_unarmed {s : State} {h : HouseId} {q : Proj} (ha : (s.tr q).armed = none) : s.readyToFollow h q = false := by
  unfold State.readyToFollow
  rw [ha]
  cases s.followingEntry h <;> simp

/-! ## The house as the retiring projector goes on (R118) -/

/-- R22, R50: a projector that is not live, its douser shut and the sound gate elsewhere, leaves RUNNING. -/
theorem State.leaveRunning_aside {s : State} {p : Proj} (hd : ¬ (s.ds p).agape) (hlive : s.liveProj (houseOf p) ≠ some p)
    (hg : (s.hs (houseOf p)).gate ≠ .side (sideOf p)) : s.leaveRunning p = s := by
  rw [State.leaveRunning_eq, s.gatingWatch_shut p hd, if_neg hg, if_neg hlive]
  exact s.setHs_self _

/-- R118: the record of a retiring projector after a counted pulse that does not stop the motor. -/
def retireCounted (p : Proj) (phase : RetirePhase) (k : Nat) (tailed : Bool) : Retiring :=
  match phase with
  | .toTail => if tailed then ⟨p, .runOut, 0⟩ else ⟨p, .toTail, k⟩
  | .runOut => ⟨p, .runOut, k + 1⟩
  | .stopping => ⟨p, .stopping, k⟩

/-- R118: the counted pulses of the retiring projector. -/
theorem Rule.countRetirePulse_eq (t : State) (l : List Signal) (p : Proj) {phase : RetirePhase} {k : Nat}
    (hr : (t.hs (houseOf p)).retiring = some ⟨p, phase, k⟩) : Rule.countRetirePulse ⟨t, l, false⟩ (houseOf p) p =
      if phase = .runOut ∧ 47 ≤ k then
        Rule.motorStop ⟨t.setHs (houseOf p) { t.hs (houseOf p) with retiring := some ⟨p, .stopping, 48⟩ }, l, false⟩ p
      else ⟨t.setHs (houseOf p) { t.hs (houseOf p) with retiring := some (retireCounted p phase k (t.atTail p)) }, l, false⟩ := by
  have hself : t.setHs (houseOf p) { t.hs (houseOf p) with retiring := some ⟨p, phase, k⟩ } = t := by
    rw [← hr]
    exact t.setHs_self _
  unfold Rule.countRetirePulse
  dsimp only
  rw [hr]
  refine (if_neg (not_not.mpr rfl)).trans ?_
  cases phase with
  | toTail =>
    refine Eq.trans ?_ (if_neg nofun).symm
    cases t.atTail p with
    | true => exact if_pos rfl
    | false =>
      refine (if_neg nofun).trans ?_
      exact congrArg (fun u : State => (⟨u, l, false⟩ : Rule)) hself.symm
  | runOut =>
    by_cases hk : k + 1 < 48
    · refine Eq.trans ?_ (if_neg fun h => absurd h.2 (by omega)).symm
      exact if_pos hk
    · refine Eq.trans ?_ (if_pos ⟨rfl, by omega⟩).symm
      exact if_neg hk
  | stopping =>
    refine Eq.trans ?_ (if_neg nofun).symm
    exact congrArg (fun u : State => (⟨u, l, false⟩ : Rule)) hself.symm

end Sys2Proof.Machine
end

section
/-! PROOFS. The retiring projector: the counted run-out, the run-down and the break. -/

namespace Sys2Proof.Machine

/-- R5, R118: what a counted pulse of the retiring projector is to its house. -/
theorem Rule.housePulse_retires {w v : State} {l l' : List Signal} {p : Proj} (a : w.LooksOn p)
    (hcount : Rule.countRetirePulse ⟨w, l, false⟩ (houseOf p) p = ⟨v, l', false⟩) (b : v.LooksOn p) :
    Rule.housePulse ⟨w, l, false⟩ p = ⟨v, l', false⟩ := by
  have hlive : Rule.countLivePulse ⟨w, l, false⟩ (houseOf p) p = ⟨w, l, false⟩ := if_neg (liveSide_ne a.side)
  have hshow : Rule.showPulse ⟨v, l', false⟩ (houseOf p) p = ⟨v, l', false⟩ := if_neg fun h => liveSide_ne b.side h.2
  unfold Rule.housePulse
  dsimp only
  rw [hlive, hcount, hshow, Rule.pictureTest_looksOn b, Rule.crossingTest_looksOn b]

/-- R118: a retiring projector that is STOPPING, seen by its house. -/
theorem Rule.sees_stopping_retires {t : State} {p : Proj} {k : Nat} (a : t.LooksOn p)
    (hr : (t.hs (houseOf p)).retiring = some ⟨p, .stopping, k⟩) (hn : t.noDouserCause p) (hst : (t.tr p).state ≠ .stopped) (l : List Signal) :
    Rule.sees ⟨t, l, false⟩ (.transport p .stopping) = ⟨t, l, false⟩ := by
  have hself : t.setHs (houseOf p) { t.hs (houseOf p) with retiring := some ⟨p, .stopping, k⟩ } = t := by
    rw [← hr]
    exact t.setHs_self _
  have hsees : Rule.retireSees ⟨t, l, false⟩ (houseOf p) p .stopping = ⟨t, l, false⟩ := by
    unfold Rule.retireSees
    dsimp only
    rw [hr]
    refine (if_neg (not_not.mpr rfl)).trans ?_
    exact congrArg (fun u : State => (⟨u, l, false⟩ : Rule)) hself
  change ((Rule.retireSees ⟨t, l, false⟩ (houseOf p) p .stopping).douserCause p).look (houseOf p) = _
  rw [hsees, Rule.douserCause_none _ p (.inl hn), Rule.look_looksOn a l (State.readyToFollow_moving hst)]

section
variable {s : State} {dt : Nat} {p : Proj} {phase : RetirePhase} {k : Nat} {u : Instant} (a : s.LooksOn p)
  (hret : (s.hs (houseOf p)).retiring = some ⟨p, phase, k⟩)
include a hret

/-- R118: a counted pulse that does not stop the motor. -/
theorem exec_tachPulse_retires {reading : Byte} (hu : (s.tr p).lastPulse = some u) (hrun : (s.tr p).state = .running)
    (hw : (s.rd p).state = .watch) (hlow : reading.toNat < (s.rd p).threshold) : ∃ w, (s.elapse dt).Pulsed w p ∧
      (¬ (phase = .runOut ∧ 47 ≤ k) → exec (.tachPulse dt p reading) s =
        .next (w.setHs (houseOf p) { s.hs (houseOf p) with retiring := some (retireCounted p phase k (w.atTail p)) })) ∧
      (phase = .runOut ∧ 47 ≤ k → ¬ (s.ds p).agape → (s.hs (houseOf p)).gate ≠ .side (sideOf p) → s.noDouserCause p →
        exec (.tachPulse dt p reading) s = .next (((w.setTr p ((w.tr p).stoppedAt w.now)).setRd p
          { s.rd p with state := .off }).setHs (houseOf p) { s.hs (houseOf p) with retiring := some ⟨p, .stopping, 48⟩ })) := by
  obtain ⟨w, l, hpulse, b, hlen, -, hl⟩ := Rule.pulse_low (s.elapse dt) p reading.toNat hu (.inl hrun) (.inl hw) hlow
  have hl := hl hrun
  have hwhs : w.hs (houseOf p) = s.hs (houseOf p) := b.hs _
  have hexec : exec (.tachPulse dt p reading) s = (Rule.housePulse ⟨w, l, false⟩ p).finish := congrArg Rule.finish hpulse
  have hother : w.tr (otherProj p) = s.tr (otherProj p) := b.trs _ (otherProj_ne p)
  have hwlooks : w.LooksOn p := a.of_hs hother hwhs
  have hcount := Rule.countRetirePulse_eq w l p (hwhs ▸ hret)
  rw [hwhs] at hcount
  refine ⟨w, b, fun hno => ?_, fun hyes hd hg hn => ?_⟩
  · rw [if_neg hno] at hcount
    let v := w.setHs (houseOf p) { s.hs (houseOf p) with retiring := some (retireCounted p phase k (w.atTail p)) }
    have hv : v.LooksOn p := a.of_hs hother ((State.setHs_hs ..).trans (if_pos rfl))
    have hrunv : (v.tr p).state ≠ .stopped := fun h => nomatch b.running.symm.trans h
    rw [hexec, Rule.housePulse_retires hwlooks hcount hv]
    refine Rule.finish_settled (Rule.settle_unheeded settleBound v l false (hlen.trans (by decide)) fun y hy l' => ?_) nofun
    rw [hl y hy]
    exact Rule.look_looksOn hv l' (State.readyToFollow_moving hrunv)
  · rw [if_pos hyes] at hcount
    let x : House := { s.hs (houseOf p) with retiring := some ⟨p, .stopping, 48⟩ }
    let v := ((w.setHs (houseOf p) x).setTr p ((w.tr p).stoppedAt w.now)).setRd p { s.rd p with state := .off }
    have hvhs : v.hs (houseOf p) = x := (State.setHs_hs ..).trans (if_pos rfl)
    have hvtr (q : Proj) : v.tr q = if q = p then (w.tr p).stoppedAt w.now else w.tr q := State.setTr_tr ..
    have hv : v.LooksOn p := a.of_hs ((hvtr _).trans ((if_neg (otherProj_ne p)).trans hother)) hvhs
    have hwrd : w.rd p = s.rd p := b.rd.trans (congrArg (fun x => { s.rd p with state := x }) hw.symm)
    have hleave : v.leaveRunning p = v := by
      refine State.leaveRunning_aside ?_ (liveSide_ne hv.side) ?_
      · rw [show v.ds p = s.ds p from b.ds p]
        exact hd
      · rw [hvhs]
        exact hg
    have hstop : Rule.motorStop ⟨w.setHs (houseOf p) x, l, false⟩ p = ⟨v, l ++ [.transport p .stopping], false⟩ := by
      have hmotor := Rule.motorStop_unassembling (w.setHs (houseOf p) x) l false p b.running
        (show (w.rd p).assembling = false by rw [hwrd, Reader.assembling, hw]; rfl)
      rw [show (w.setHs (houseOf p) x).rd p = s.rd p from hwrd] at hmotor
      exact hmotor.trans (congrArg (fun u : State => (⟨u, l ++ [Signal.transport p .stopping], false⟩ : Rule)) hleave)
    have hstv : (v.tr p).state = .stopping := congrArg Transport.state ((hvtr p).trans (if_pos rfl))
    have hvmoving : (v.tr p).state ≠ .stopped := fun h => nomatch hstv.symm.trans h
    have hvn : v.noDouserCause p := by
      rw [State.noDouserCause, show v.ds p = s.ds p from b.ds p,
        show (v.lp p).state = (s.lp p).state from (congrArg Lamp.state b.lp).trans rfl]
      exact hn
    have hsame : v = ((w.setTr p ((w.tr p).stoppedAt w.now)).setRd p { s.rd p with state := .off }).setHs (houseOf p) x := by
      simp [v, State.setHs, State.setTr, State.setRd]
    rw [hexec, Rule.housePulse_retires hwlooks (hcount.trans hstop) hv, ← hsame]
    refine Rule.finish_settled (Rule.settle_unheeded settleBound v _ false ?_ fun y hy l' => ?_) nofun
    · rw [List.length_append]
      exact (Nat.add_le_add_right hlen 1).trans (by decide)
    · rcases List.mem_append.1 hy with hy | hy
      · rw [hl y hy]
        exact Rule.look_looksOn hv l' (State.readyToFollow_moving hvmoving)
      · rw [List.mem_singleton.1 hy]
        exact Rule.sees_stopping_retires hv (by rw [hvhs]) hvn hvmoving l'

end

/-! ## The retiring projector is disarmed (R118) -/

/-- R118: from `v` to `t` the retiring projector `p`, whose DONE entry stays DONE, has been disarmed. -/
structure State.Retired (v t : State) (p : Proj) : Prop where
  disarmed : (v.setHs (houseOf p) { v.hs (houseOf p) with retiring := none }).Disarmed t p
  hs : t.hs (houseOf p) = { v.hs (houseOf p) with retiring := none }
  hss : ∀ g, g ≠ houseOf p → t.hs g = v.hs g

/-- R118: a retiring projector becomes STOPPED or BROKEN. -/
theorem Rule.retireSees_retired {v : State} {p : Proj} {e : ReelEntry} {phase : RetirePhase} {k : Nat} (l : List Signal) (a : v.LooksOn p)
    (hret : (v.hs (houseOf p)).retiring = some ⟨p, phase, k⟩)
    (hhome : (v.tr p).armed.map (fun a => a.house) = some (houseOf p)) (hheld : v.heldEntry p = some e) (hdone : e.status = .finished)
    (hdistinct : v.distinctReels (houseOf p)) {x : TransportState} (hx : x = .stopped ∨ x = .broken) : ∃ t, v.Retired t p ∧
      Rule.retireSees ⟨v, l, false⟩ (houseOf p) p x = ⟨t, l ++ (.readiness (houseOf p) ::
        if (v.tr p).state = .broken then [.transport p .stopped] else []), false⟩ := by
  let v1 := v.setHs (houseOf p) { v.hs (houseOf p) with retiring := none }
  have hv1 (g : HouseId) : v1.hs g = if g = houseOf p then { v.hs (houseOf p) with retiring := none } else v.hs g := State.setHs_hs ..
  have hv1p : v1.hs (houseOf p) = { v.hs (houseOf p) with retiring := none } := (hv1 _).trans (if_pos rfl)
  have hlive : v1.liveProj (houseOf p) ≠ some p := by
    rw [State.liveProj, hv1p]
    exact liveSide_ne a.side
  obtain ⟨t, ht, b⟩ := Rule.disarm_cases v1 l false p
  have hths := Rule.disarm_unlive v1 l false p hlive
  rw [ht] at hths
  have hplan (g : HouseId) : v1.planGivenUp p g = (v.hs g).plan := by
    obtain ⟨z, hz, hzh, hzr, hfind⟩ := State.heldEntry_home hhome hheld
    unfold State.planGivenUp
    rw [show v1.tr p = v.tr p from rfl, hz]
    dsimp only
    rw [hzh, hzr, hv1]
    by_cases hg : g = houseOf p
    · subst hg
      rw [if_pos rfl, if_pos rfl]
      exact mapReel_same hdistinct hfind (by cases e; cases hdone; rfl)
    · rw [if_neg fun h => hg h.symm, if_neg hg]
  have hsees : Rule.retireSees ⟨v, l, false⟩ (houseOf p) p x = Rule.disarm ⟨v1, l, false⟩ p := by
    unfold Rule.retireSees
    dsimp only
    rw [hret]
    refine (if_neg (not_not.mpr rfl)).trans ?_
    rcases hx with rfl | rfl <;> rfl
  refine ⟨t, ⟨b, ?_, fun g hg => ?_⟩, hsees.trans ht⟩
  · rw [hths, hplan, hv1p]
  · rw [hths, hplan, hv1, if_neg hg]

/-- R118, R151: what is left to see of the projector once it has been disarmed. -/
theorem Rule.sees_retired {t : State} {p : Proj} (a : t.LooksOn p) (hret : (t.hs (houseOf p)).retiring = none)
    (hn : t.noDouserCause p) (harmed : (t.tr p).armed = none) {y : Signal}
    (hy : y = .readiness (houseOf p) ∨ y = .transport p .stopped) (l : List Signal) :
    Rule.sees ⟨t, l, false⟩ y = ⟨t, l, false⟩ := by
  have hlook := Rule.look_looksOn a l (State.readyToFollow_unarmed harmed)
  rcases hy with rfl | rfl
  · exact hlook
  · have hend : Rule.endStops ⟨t, l, false⟩ p = ⟨t, l, false⟩ := by
      unfold Rule.endStops
      exact if_neg fun ⟨_, hlive, _⟩ => liveSide_ne a.side hlive
    change (((Rule.endStops ⟨t, l, false⟩ p).retireSees (houseOf p) p .stopped).douserCause p).look (houseOf p) = _
    rw [hend, Rule.retireSees_atRest _ _ p _ hret, Rule.douserCause_none _ p (.inl hn), hlook]

theorem State.Retired.looksOn {v t : State} {p : Proj} (b : v.Retired t p) (a : v.LooksOn p) : t.LooksOn p :=
  a.of_hs (b.disarmed.trs _ (otherProj_ne p)) b.hs

/-- R118: the blocks see the retiring projector STOPPED or BROKEN, which is then disarmed. -/
theorem Rule.finish_retired {v : State} {p : Proj} {e : ReelEntry} {phase : RetirePhase} {k : Nat} (a : v.LooksOn p)
    (hret : (v.hs (houseOf p)).retiring = some ⟨p, phase, k⟩)
    (hhome : (v.tr p).armed.map (fun a => a.house) = some (houseOf p)) (hheld : v.heldEntry p = some e) (hdone : e.status = .finished)
    (hdistinct : v.distinctReels (houseOf p)) (hn : v.noDouserCause p) {x : TransportState} (hx : x = .stopped ∨ x = .broken) :
    ∃ t, v.Retired t p ∧ Rule.finish ⟨v, [.transport p x], false⟩ = .next t := by
  obtain ⟨t, b, ht⟩ := Rule.retireSees_retired [] a hret hhome hheld hdone hdistinct hx
  have htlooks := b.looksOn a
  have htret : (t.hs (houseOf p)).retiring = none := by rw [b.hs]
  have htarmed : (t.tr p).armed = none := by rw [b.disarmed.tr]
  have htn : t.noDouserCause p := by
    rw [State.noDouserCause, show t.ds p = v.ds p from congrArg (fun b => b.cell p) b.disarmed.dousers,
      show (t.lp p).state = (v.lp p).state from b.disarmed.state]
    exact hn
  generalize hl : (.readiness (houseOf p) :: if (v.tr p).state = .broken then [.transport p .stopped] else [] : List Signal) = l at ht
  have hseen : ((Rule.retireSees ⟨v, [], false⟩ (houseOf p) p x).douserCause p).look (houseOf p) = ⟨t, l, false⟩ := by
    rw [ht, List.nil_append, Rule.douserCause_none _ p (.inl htn), Rule.look_looksOn htlooks l (State.readyToFollow_unarmed htarmed)]
  have hsees : Rule.sees ⟨v, [], false⟩ (.transport p x) = ⟨t, l, false⟩ := by
    rcases hx with rfl | rfl
    · have hend : Rule.endStops ⟨v, [], false⟩ p = ⟨v, [], false⟩ := by
        unfold Rule.endStops
        exact if_neg fun ⟨_, hlive, _⟩ => liveSide_ne a.side hlive
      exact (congrArg (fun r : Rule => ((r.retireSees (houseOf p) p .stopped).douserCause p).look (houseOf p)) hend).trans hseen
    · exact (congrArg (fun r : Rule => ((r.retireSees (houseOf p) p .broken).douserCause p).look (houseOf p))
        (Rule.failure_looksOn a [] .brk)).trans hseen
  refine ⟨t, b, Rule.finish_settled (t := false) ?_ nofun⟩
  rw [show settleBound = 511 + 1 from rfl, Rule.settle_cons, hsees]
  subst hl
  refine Rule.settle_unheeded 511 t _ false ?_ fun y hy l' => Rule.sees_retired htlooks htret htn htarmed ?_ l'
  · simp only [List.length_cons]
    split <;> simp
  · rcases List.mem_cons.1 hy with hy | hy
    · exact .inl hy
    · split at hy
      · exact .inr (List.mem_singleton.1 hy)
      · simp at hy

section
variable {s : State} {dt : Nat} {p : Proj} {e : ReelEntry} {phase : RetirePhase} {k : Nat} {u : Instant} (a : s.LooksOn p)
  (hret : (s.hs (houseOf p)).retiring = some ⟨p, phase, k⟩)
  (hhome : (s.tr p).armed.map (fun a => a.house) = some (houseOf p)) (hheld : s.heldEntry p = some e) (hdone : e.status = .finished)
  (hdistinct : s.distinctReels (houseOf p)) (hn : s.noDouserCause p) (hu : (s.tr p).lastPulse = some u)
include a hret hhome hheld hdone hdistinct hn hu

/-- R13, R118: the retiring projector has run down. -/
theorem exec_runDownExpiry_retires {b : Instant} (hstop : (s.tr p).state = .stopping) (hb : (s.tr p).stoppingSince = some b)
    (hlate : max b u + 5000 ≤ s.now + dt) : ∃ t,
      ((s.elapse dt).setTr p { s.tr p with state := .stopped, stoppingSince := none }).Retired t p ∧
      exec (.runDownExpiry dt p) s = .next t := by
  let v := (s.elapse dt).setTr p { s.tr p with state := .stopped, stoppingSince := none }
  have hvtr (q : Proj) : v.tr q = if q = p then { s.tr p with state := .stopped, stoppingSince := none } else s.tr q :=
    State.setTr_tr ..
  have hvp : v.tr p = { s.tr p with state := .stopped, stoppingSince := none } := (hvtr p).trans (if_pos rfl)
  have hruns : Rule.runsDown ⟨s.elapse dt, [], false⟩ p = ⟨v, [.transport p .stopped], false⟩ := by
    have hdue : due ((s.elapse dt).tr p).runDownEnd (s.elapse dt).now = true := by
      rw [show ((s.elapse dt).tr p).runDownEnd = some (max b u + 5000) from Transport.runDownEnd_eq _ b u hb hu]
      exact due_late hlate
    unfold Rule.runsDown
    dsimp only
    rw [if_pos ⟨hstop, hdue⟩]
    rfl
  have hvheld : v.heldEntry p = some e := by
    rw [State.heldEntry, hvp]
    exact hheld
  have hv : v.LooksOn p := a.of_hs ((hvtr _).trans (if_neg (otherProj_ne p))) rfl
  obtain ⟨t, ht, hfin⟩ := Rule.finish_retired hv hret (by rw [hvp]; exact hhome) hvheld hdone hdistinct hn (.inl rfl)
  exact ⟨t, ht, (congrArg Rule.finish hruns).trans hfin⟩

/-- R12, R118: the film of the retiring projector breaks. -/
theorem exec_breakDeadline_retires (hrun : (s.tr p).state = .running) (ha : (s.rd p).assembling = false)
    (hlim : 25000 ≤ (s.now + dt - u) * s.speedOf p) (hd : ¬ (s.ds p).agape)
    (hg : (s.hs (houseOf p)).gate ≠ .side (sideOf p)) : ∃ t,
      ((((s.elapse dt).setTr p { s.tr p with state := .broken, miss := .normal, lockCount := 0 }).reportProj p
        (.filmBreak (s.tr p).counter)).setRd p { s.rd p with state := .off }).Retired t p ∧
      exec (.breakDeadline dt p) s = .next t := by
  let v := (((s.elapse dt).setTr p { s.tr p with state := .broken, miss := .normal, lockCount := 0 }).reportProj p
        (.filmBreak (s.tr p).counter)).setRd p { s.rd p with state := .off }
  have hvtr (q : Proj) : v.tr q = if q = p then { s.tr p with state := .broken, miss := .normal, lockCount := 0 } else s.tr q :=
    State.setTr_tr ..
  have hvp : v.tr p = { s.tr p with state := .broken, miss := .normal, lockCount := 0 } := (hvtr p).trans (if_pos rfl)
  have hbreaks : Rule.filmBreaks ⟨s.elapse dt, [], false⟩ p = ⟨v, [.transport p .broken], false⟩ := by
    refine (Rule.filmBreaks_unassembling (s.elapse dt) p u hrun hu hlim ha).trans ?_
    exact congrArg (fun u : State => (⟨u, [Signal.transport p .broken], false⟩ : Rule))
      (State.leaveRunning_aside hd (liveSide_ne a.side) hg)
  have hvheld : v.heldEntry p = some e := by
    rw [State.heldEntry, hvp]
    exact hheld
  have hv : v.LooksOn p := a.of_hs ((hvtr _).trans (if_neg (otherProj_ne p))) rfl
  obtain ⟨t, ht, hfin⟩ := Rule.finish_retired hv hret (by rw [hvp]; exact hhome) hvheld hdone hdistinct hn (.inr rfl)
  exact ⟨t, ht, (congrArg Rule.finish hbreaks).trans hfin⟩

end

end Sys2Proof.Machine
end

section
/-! PROOFS. A hold while a projector retires. -/

namespace Sys2Proof.Machine

/-! ## What a hold puts on the agenda -/

/-- R4, R22: what a motor stop puts on the agenda: the entries that the reader lets go, and the transport's change. -/
def Signal.stops (y : Signal) : Prop := (∃ x, y = .cues x) ∨ ∃ x, y = Signal.transport x .stopping

theorem Rule.motorCut_signals (r : Rule) (p : Proj) : ∃ l, (r.motorCut p).agenda = r.agenda ++ l ∧ l.length ≤ 8 ∧
    (∀ y ∈ l, y = .cues p) ∧ (r.motorCut p).tie = r.tie := by
  have hreads := Rule.reads_readerStops (r.upd (fun s => s.setTr p ((s.tr p).stoppedAt s.now))) p
  obtain ⟨l, hl, hlen, hcues⟩ := hreads.agenda
  exact ⟨l, hl, hlen, hcues, hreads.tie⟩

theorem Rule.motorStop_signals (r : Rule) (p : Proj) : ∃ l, (r.motorStop p).agenda = r.agenda ++ l ∧ l.length ≤ 9 ∧
    (∀ y ∈ l, y.stops) ∧ ((r.st.tr p).driven → Signal.transport p .stopping ∈ l) ∧ (r.motorStop p).tie = r.tie := by
  obtain ⟨l, hl, hlen, hcues, htie⟩ := r.motorCut_signals p
  have hall : ∀ y ∈ l ++ [Signal.transport p .stopping], y.stops := fun y hy => by
    rcases List.mem_append.1 hy with hy | hy
    · exact .inl ⟨p, hcues y hy⟩
    · exact .inr ⟨p, List.mem_singleton.1 hy⟩
  have hcount : (l ++ [Signal.transport p .stopping]).length ≤ 9 := by simp; omega
  have hassoc : (r.motorCut p).agenda ++ [Signal.transport p .stopping] = r.agenda ++ (l ++ [.transport p .stopping]) := by
    rw [hl, List.append_assoc]
  rcases r.motorStop_cases p with ⟨-, hr⟩ | ⟨-, hr⟩ | ⟨hd, hr⟩ <;> rw [hr]
  · exact ⟨_, hassoc, hcount, hall, fun _ => by simp, htie⟩
  · exact ⟨_, hassoc, hcount, hall, fun _ => by simp, htie⟩
  · exact ⟨[], by simp, by simp, by simp, fun h => absurd h hd, rfl⟩

/-- R97: from `s` to `t` a hold has stopped the motors of house `h`, whose record had no incoming started. -/
structure State.HoldsOff (s t : State) (h : HouseId) : Prop where
  armed : ∀ q, (t.tr q).armed = (s.tr q).armed
  stops : ∀ q, houseOf q = h → (s.tr q).driven → (t.tr q).state = .stopping ∧ (t.tr q).counter = (s.tr q).counter
  plan : ∀ g, (t.hs g).plan = (s.hs g).plan
  liveSide : (t.hs h).liveSide = (s.hs h).liveSide

theorem Rule.motorStop_keeps (r : Rule) (p : Proj) : (∀ q, ((r.motorStop p).st.tr q).armed = (r.st.tr q).armed) ∧
    (∀ q, ((r.motorStop p).st.tr q).counter = (r.st.tr q).counter) ∧
    (∀ q, (r.st.tr q).state = .stopping → ((r.motorStop p).st.tr q).state = .stopping) ∧
    ∀ g, ((r.motorStop p).st.hs g).plan = (r.st.hs g).plan ∧ ((r.motorStop p).st.hs g).liveSide = (r.st.hs g).liveSide := by
  have ha := (r.motorStop_affects p).1
  refine ⟨fun q => ?_, fun q => ?_, fun q hq => ?_, fun g => ?_⟩
  · rw [r.motorStop_tr]
    split
    · rename_i h
      rw [h.1]
      rfl
    · rfl
  · rw [r.motorStop_tr]
    split
    · rename_i h
      rw [h.1]
      rfl
    · rfl
  · rw [r.motorStop_tr]
    split
    · rfl
    · exact hq
  · by_cases hg : g = houseOf p
    · obtain ⟨x, c, -, hh⟩ := ha.house
      rw [hg, hh]
      exact ⟨rfl, rfl⟩
    · rw [ha.hss g hg]
      exact ⟨rfl, rfl⟩

/-- R97: the first part of a hold of a house whose record has no incoming started. -/
theorem Rule.holdStops_unstarted (r : Rule) (h : HouseId) (hc : ∀ y, (r.st.hs h).change = some y → y.phase.started = false) :
    r.st.HoldsOff (r.holdStops h).st h ∧ ∃ l, (r.holdStops h).agenda = r.agenda ++ l ∧ l.length ≤ 18 ∧ (∀ y ∈ l, y.stops) ∧
      (∀ p, houseOf p = h → (r.st.tr p).driven → Signal.transport p .stopping ∈ l) ∧ (r.holdStops h).tie = r.tie := by
  let r1 := r.upd (fun s => (s.closeBoth h).selectNone h)
  let r2 := r1.motorStop (projAt h .a)
  let r3 := r2.motorStop (projAt h .b)
  obtain ⟨htr, hhs⟩ : (r.st.closeBoth h).transports = r.st.transports ∧ (r.st.closeBoth h).houses = r.st.houses := by
    obtain ⟨-, h1, -, -, h2, -⟩ := r.st.closeCommand_keeps (projAt h .a)
    obtain ⟨-, h3, -, -, h4, -⟩ := (r.st.closeCommand (projAt h .a)).closeCommand_keeps (projAt h .b)
    exact ⟨h3.trans h1, h4.trans h2⟩
  have htr1 (q : Proj) : r1.st.tr q = r.st.tr q := congrArg (fun b => b.cell q) htr
  have hhs1 (g : HouseId) : (r1.st.hs g).plan = (r.st.hs g).plan ∧ (r1.st.hs g).liveSide = (r.st.hs g).liveSide := by
    have hcell (g : HouseId) : (r.st.closeBoth h).hs g = r.st.hs g := congrArg (fun b => b.cell g) hhs
    have hset : r1.st.hs g = if g = h then { (r.st.closeBoth h).hs h with gate := .none } else (r.st.closeBoth h).hs g := State.setHs_hs ..
    rw [hset]
    split
    · rename_i hg
      rw [hcell, hg]
      exact ⟨rfl, rfl⟩
    · rw [hcell]
      exact ⟨rfl, rfl⟩
  obtain ⟨ha2, hc2, hs2, hh2⟩ := r1.motorStop_keeps (projAt h .a)
  obtain ⟨ha3, hc3, hs3, hh3⟩ := r2.motorStop_keeps (projAt h .b)
  obtain ⟨l2, hl2, hlen2, hall2, hin2, htie2⟩ := r1.motorStop_signals (projAt h .a)
  obtain ⟨l3, hl3, hlen3, hall3, hin3, htie3⟩ := r2.motorStop_signals (projAt h .b)
  have hchange : (r3.st.hs h).change = (r.st.hs h).change := by
    have h1 : ((r.st.closeBoth h).selectNone h).showView h = r.st.showView h := by simp
    exact ((r2.motorStop_record _ h).1.trans (r1.motorStop_record _ h).1).trans (congrArg ShowView.change h1)
  have hdrop : r3.dropChange h = r3.upd (fun s => s.modHs h (fun x => { x with change := none })) := by
    unfold Rule.dropChange
    split
    next hn =>
      have hself : r3.st.modHs h (fun x => { x with change := none }) = r3.st := by
        have hx : { r3.st.hs h with change := none } = r3.st.hs h := by rw [← hn]
        exact (congrArg (r3.st.setHs h) hx).trans (r3.st.setHs_self h)
      rw [Rule.upd, hself]
    next y hy =>
      dsimp only
      rw [if_neg (by rw [hc y (hchange ▸ hy)]; exact nofun)]
  have hstops : r.holdStops h = r3.upd (fun s => s.modHs h (fun x => { x with change := none })) := hdrop
  have hmod (g : HouseId) : ((r.holdStops h).st.hs g).plan = (r3.st.hs g).plan ∧ ((r.holdStops h).st.hs g).liveSide = (r3.st.hs g).liveSide := by
    rw [hstops, Rule.upd_st, State.modHs, State.setHs_hs]
    split
    · rename_i hg
      rw [hg]
      exact ⟨rfl, rfl⟩
    · exact ⟨rfl, rfl⟩
  have htr3 (q : Proj) : (r.holdStops h).st.tr q = r3.st.tr q := by rw [hstops]; rfl
  have hdriven2 (hd : (r.st.tr (projAt h .b)).driven) : (r2.st.tr (projAt h .b)).driven := by
    rw [r1.motorStop_tr, if_neg fun h => (projAt_a_ne_b _).symm h.1, htr1]
    exact hd
  refine ⟨⟨fun q => ?_, fun q hq hd => ⟨?_, ?_⟩, fun g => ?_, ?_⟩, l2 ++ l3, ?_, ?_, fun y hy => ?_, fun p hp hd => ?_, ?_⟩
  · rw [htr3, ha3, ha2, htr1]
  · rw [htr3]
    rcases (houseOf_eq_iff q h).1 hq with rfl | rfl
    · refine hs3 _ ?_
      rw [r1.motorStop_tr, if_pos ⟨rfl, by rw [htr1]; exact hd⟩]
      rfl
    · rw [r2.motorStop_tr, if_pos ⟨rfl, hdriven2 hd⟩]
      rfl
  · rw [htr3, hc3, hc2, htr1]
  · rw [(hmod g).1, (hh3 g).1, (hh2 g).1, (hhs1 g).1]
  · rw [(hmod h).2, (hh3 h).2, (hh2 h).2, (hhs1 h).2]
  · rw [hstops]
    exact hl3.trans ((congrArg (· ++ l3) hl2).trans (List.append_assoc ..))
  · rw [List.length_append]
    omega
  · exact (List.mem_append.1 hy).elim (hall2 y) (hall3 y)
  · rcases (houseOf_eq_iff p h).1 hp with rfl | rfl
    · exact List.mem_append.2 (.inl (hin2 (by rw [htr1]; exact hd)))
    · exact List.mem_append.2 (.inr (hin3 (hdriven2 hd)))
  · rw [hstops]
    exact htie3.trans htie2

/-! ## What a held house sees of its retiring projector -/

/-- The house of projector `p` with that projector retiring in phase `phase`. -/
def State.retiringIn (t : State) (p : Proj) (phase : RetirePhase) (k : Nat) : State :=
  t.setHs (houseOf p) { t.hs (houseOf p) with retiring := some ⟨p, phase, k⟩ }

theorem State.retiringIn_retiringIn (t : State) (p : Proj) (a b : RetirePhase) (k : Nat) :
    (t.retiringIn p a k).retiringIn p b k = t.retiringIn p b k := by
  simp [State.retiringIn]

section
variable {t : State} {p : Proj} (k : Nat) (hst : (t.hs (houseOf p)).state = .hold) (hc : (t.hs (houseOf p)).change = none)
  (hd : ∀ q, houseOf q = houseOf p → (t.ds q).state ≠ .stuck)
include hst hc hd

/-- R118: of what a hold has put on the agenda a held house sees its retiring projector STOPPING, and no more. -/
theorem Rule.sees_heldRetiring (phase : RetirePhase) {y : Signal} (hy : y.stops) (hh : y.house = houseOf p) (l : List Signal) :
    Rule.sees ⟨t.retiringIn p phase k, l, false⟩ y =
      ⟨t.retiringIn p (if y = .transport p .stopping then .stopping else phase) k, l, false⟩ := by
  have hhs (x : RetirePhase) : (t.retiringIn p x k).hs (houseOf p) = { t.hs (houseOf p) with retiring := some ⟨p, x, k⟩ } :=
    (State.setHs_hs ..).trans (if_pos rfl)
  rcases hy with ⟨x, rfl⟩ | ⟨x, rfl⟩
  · have hx : houseOf x = houseOf p := hh
    rw [if_neg nofun]
    change Rule.cuesJoined _ x = _
    unfold Rule.cuesJoined
    split
    · refine Rule.takeCues_notShowing _ _ ?_
      dsimp only
      rw [hx, hhs]
      exact fun h => nomatch hst.symm.trans h
    · rfl
  · have hx : houseOf x = houseOf p := hh
    have hrest (ph : RetirePhase) : ((⟨t.retiringIn p ph k, l, false⟩ : Rule).douserCause x).look (houseOf x) =
        ⟨t.retiringIn p ph k, l, false⟩ := by
      rw [Rule.douserCause_unstuck _ x (hd x hx), Rule.look_noShow _ (houseOf x) (by rw [hx, hhs]; exact congrArg HouseState.inShow hst)
        (by rw [hx, hhs]; exact hc)]
    have hretire : Rule.retireSees ⟨t.retiringIn p phase k, l, false⟩ (houseOf x) x .stopping =
        ⟨t.retiringIn p (if x = p then .stopping else phase) k, l, false⟩ := by
      unfold Rule.retireSees
      dsimp only
      rw [hx, hhs]
      dsimp only
      by_cases hxp : x = p
      · subst hxp
        rw [if_neg (not_not.mpr rfl), if_pos rfl]
        refine congrArg (fun u : State => (⟨u, l, false⟩ : Rule)) ?_
        simp [State.modHs, State.retiringIn]
      · rw [if_pos (Ne.symm hxp), if_neg hxp]
    change ((Rule.retireSees ⟨t.retiringIn p phase k, l, false⟩ (houseOf x) x .stopping).douserCause x).look (houseOf x) = _
    rw [hretire, hrest]
    simp

theorem Rule.settle_heldRetiring (l : List Signal) (n : Nat) (hlen : l.length ≤ n) (phase : RetirePhase)
    (hl : ∀ y ∈ l, y.stops ∧ y.house = houseOf p) : Rule.settle n ⟨t.retiringIn p phase k, l, false⟩ =
      ⟨t.retiringIn p (if Signal.transport p .stopping ∈ l then .stopping else phase) k, [], false⟩ := by
  induction l generalizing n phase with
  | nil => simp
  | cons y rest ih =>
    obtain ⟨m, rfl⟩ : ∃ m, n = m + 1 := ⟨n - 1, by simp at hlen; omega⟩
    obtain ⟨hy, hh⟩ := hl y (by simp)
    rw [Rule.settle_cons, Rule.sees_heldRetiring k hst hc hd phase hy hh, ih m (by simpa using hlen) _ fun z hz => hl z (by simp [hz])]
    by_cases hmem : Signal.transport p .stopping ∈ rest
    · simp [hmem]
    · by_cases hyp : y = .transport p .stopping
      · simp [hyp]
      · simp [hmem, hyp, Ne.symm hyp]

end

/-- R97: the second part of a hold leaves the entry of a projector whose reel is not the live one. -/
theorem State.heldWith_heldEntry (s : State) {h : HouseId} (reason : HoldReason) (lights : Bool) {p : Proj} {e : ReelEntry}
    (hp : h = houseOf p) (hhome : (s.tr p).armed.map (fun a => a.house) = some h) (hheld : s.heldEntry p = some e)
    (hside : (s.hs h).liveSide ≠ some (sideOf p)) (hother : (s.tr (otherProj p)).armed.map (fun a => a.reel) ≠ some e.reel) :
    (s.heldWith h reason lights).heldEntry p = some e := by
  obtain ⟨x, hx, hxh, hxr, hfind⟩ := State.heldEntry_home hhome hheld
  have hplan : findReel ((s.interrupt h).hs h).plan e.reel = some e := by
    have hlive : findReel ((s.setLiveStatus h .interrupted).hs h).plan e.reel = some e := by
      unfold State.setLiveStatus
      split
      · exact hfind
      next w hw =>
        obtain ⟨q, hq, hqw⟩ := Option.bind_eq_some_iff.1 (show (s.liveProj h).bind s.heldEntry = some w from hw)
        have hqo : q = otherProj p := by
          subst hp
          obtain ⟨sd, hsd, hsq⟩ := Option.map_eq_some_iff.1 hq
          exact hsq.symm.trans (projAt_ne_side fun h => hside (hsd.trans (congrArg some h)))
        have hreel : w.reel ≠ e.reel := by
          intro hw
          refine hother ?_
          rw [hqo] at hqw
          unfold State.heldEntry at hqw
          split at hqw
          · cases hqw
          next a ha =>
            rw [ha, ← hw, findReel_reel hqw]
            rfl
        have hset : ((s.setStatus h w.reel .interrupted).hs h).plan =
            mapReel (s.hs h).plan w.reel (fun x => { x with status := .interrupted }) := by
          simp [State.setStatus, State.modReel]
        rw [hset, findReel_mapReel _ _ _ (fun x : ReelEntry => { x with status := ReelStatus.interrupted }) fun _ => rfl, hfind]
        simp [Ne.symm hreel]
    unfold State.interrupt
    split
    · exact hlive
    · exact hlive
    all_goals exact hfind
  obtain ⟨z, hz⟩ := s.interrupt_cases h
  have htr : (s.heldWith h reason lights).tr p = s.tr p := by
    unfold State.heldWith
    rw [hz]
    cases lights <;> rfl
  have hfinal : ((s.heldWith h reason lights).hs h).plan = ((s.interrupt h).hs h).plan := by
    unfold State.heldWith
    cases lights <;> simp [State.modHs, State.programTarget]
  unfold State.heldEntry
  rw [htr, hx]
  dsimp only
  rw [hxh, hxr, hfinal]
  exact hplan

end Sys2Proof.Machine
end

section
/-! PROOFS. A retiring projector: the hold, and what the pulses, the run-down and the break leave. -/

namespace Sys2Proof.Machine

theorem State.heldWith_tr (s : State) (h : HouseId) (reason : HoldReason) (lights : Bool) (q : Proj) :
    (s.heldWith h reason lights).tr q = s.tr q := by
  obtain ⟨z, hz⟩ := s.interrupt_cases h
  unfold State.heldWith
  rw [hz]
  cases lights <;> rfl

/-- R97, R118: HOLD by the button while a RUNNING projector of the house retires. -/
theorem exec_holdButton_retires {s : State} {dt : Nat} {p : Proj} {e : ReelEntry} {phase : RetirePhase} {k : Nat} (a : s.LooksOn p)
    (hret : (s.hs (houseOf p)).retiring = some ⟨p, phase, k⟩)
    (hhome : (s.tr p).armed.map (fun a => a.house) = some (houseOf p)) (hheld : s.heldEntry p = some e)
    (hrun : (s.tr p).state = .running) (hshow : (s.hs (houseOf p)).state.inShow = true)
    (hd : ∀ q, houseOf q = houseOf p → (s.ds q).state ≠ .stuck)
    (hother : (s.tr (otherProj p)).armed.map (fun a => a.reel) ≠ some e.reel) :
    ∃ t, exec (.holdButton dt (houseOf p)) s = .next t ∧ (t.hs (houseOf p)).state = .hold ∧
      (t.hs (houseOf p)).retiring = some ⟨p, .stopping, k⟩ ∧ (t.tr p).state = .stopping ∧
      (t.tr p).armed = (s.tr p).armed ∧ (t.tr p).counter = (s.tr p).counter ∧ t.heldEntry p = some e := by
  let r : Rule := ⟨s.elapse dt, [], false⟩
  have hunstarted (y : Changeover) (hy : (s.hs (houseOf p)).change = some y) : y.phase.started = false := by
    rw [(a.record y hy).1]
    rfl
  have hin (q : Proj) (hq : (s.hs (houseOf p)).change.map (fun x => x.incoming) = some q) : houseOf q = houseOf p := by
    obtain ⟨y, hy, rfl⟩ := Option.map_eq_some_iff.1 hq
    rw [(a.record y hy).2]
  obtain ⟨hw, hheldIn⟩ := Rule.enterHold_held r (houseOf p) .panel true hin
  obtain ⟨hoff, l, hl, hlen, hstops, hmem, htie⟩ := r.holdStops_unstarted (houseOf p) hunstarted
  have henter : r.enterHold (houseOf p) .panel true = ⟨(r.holdStops (houseOf p)).st.heldWith (houseOf p) .panel true, l, false⟩ := by
    rw [Rule.enterHold_eq, Rule.upd, hl, htie]
    rfl
  generalize (r.holdStops (houseOf p)).st = u at hoff henter
  let t := u.heldWith (houseOf p) .panel true
  rw [henter] at hw hheldIn
  have hhouse (y : Signal) (hy : y ∈ l) : y.house = houseOf p := by
    obtain ⟨l', hl', -, hof⟩ := hw.agenda
    obtain rfl : l = l' := hl'
    exact hof y hy
  have htret : t.retiringIn p phase k = t := by
    have hr : (t.hs (houseOf p)).retiring = some ⟨p, phase, k⟩ := hheldIn.within.retiring.trans hret
    unfold State.retiringIn
    rw [← hr]
    exact t.setHs_self _
  have hdt (q : Proj) (hq : houseOf q = houseOf p) : (t.ds q).state ≠ .stuck := fun h => hd q hq (hheldIn.within.stuck q h)
  have hsettle := Rule.settle_heldRetiring (t := t) k hheldIn.state hheldIn.change hdt l settleBound (hlen.trans (by decide)) phase
    fun y hy => ⟨hstops y hy, hhouse y hy⟩
  rw [if_pos (hmem p rfl (.inr hrun)), htret] at hsettle
  have hpress : Rule.holdPressed r (houseOf p) = ⟨t, l, false⟩ := (if_pos hshow).trans henter
  obtain ⟨hstop, hcounter⟩ := hoff.stops p rfl (.inr hrun)
  have huheld : u.heldEntry p = some e := by
    unfold State.heldEntry at hheld ⊢
    rw [show (u.tr p).armed = (s.tr p).armed from hoff.armed p]
    simp only [hoff.plan]
    exact hheld
  have hfinal : t.heldEntry p = some e := by
    refine u.heldWith_heldEntry .panel true rfl ?_ huheld ?_ ?_
    · rw [show (u.tr p).armed = (s.tr p).armed from hoff.armed p]
      exact hhome
    · rw [show (u.hs (houseOf p)).liveSide = (s.hs (houseOf p)).liveSide from hoff.liveSide]
      exact a.side
    · rw [show (u.tr (otherProj p)).armed = (s.tr (otherProj p)).armed from hoff.armed _]
      exact hother
  have htr : t.tr p = u.tr p := u.heldWith_tr (houseOf p) .panel true p
  have hhs (g : HouseId) : (t.retiringIn p .stopping k).hs g = if g = houseOf p then
      { t.hs (houseOf p) with retiring := some ⟨p, .stopping, k⟩ } else t.hs g := State.setHs_hs ..
  refine ⟨t.retiringIn p .stopping k, (congrArg Rule.finish hpress).trans (Rule.finish_settled hsettle nofun), ?_, ?_,
    (congrArg Transport.state htr).trans hstop, (congrArg Transport.armed htr).trans (hoff.armed p),
    (congrArg Transport.counter htr).trans hcounter, ?_⟩
  · rw [hhs, if_pos rfl]
    exact hheldIn.state
  · rw [hhs, if_pos rfl]
  · have hplan (g : HouseId) : ((t.retiringIn p .stopping k).hs g).plan = (t.hs g).plan := by
      rw [hhs]
      split
      · rename_i hg
        rw [hg]
      · rfl
    unfold State.heldEntry
    simp only [hplan]
    exact hfinal

/-! ## Part by part -/

section
variable {s : State} {dt : Nat} {p : Proj} {e : ReelEntry} {phase : RetirePhase} {k c : Nat} {a u : Instant}
  (h : s.retires (houseOf p) p e phase k) (hu : (s.tr p).lastPulse = some u) (hn : s.noDouserCause p)
include h

theorem State.retires_looksOn : s.LooksOn p := by
  obtain ⟨-, -, hside, hstart, hrec, -⟩ := h
  exact ⟨hside, hstart, hrec⟩

include hu hn

/-- R118: the counted pulses of the retiring projector. -/
theorem exec_tachPulse_retiring {reading : Byte} (hc : c = min 65535 ((s.tr p).counter + 1)) (hrun : (s.tr p).state = .running)
    (hw : (s.rd p).state = .watch) (hlow : reading.toNat < (s.rd p).threshold) :
      ∃ t, exec (.tachPulse dt p reading) s = .next t ∧
        (phase = .toTail → c < e.leader + e.picture → t.hs (houseOf p) = s.hs (houseOf p)) ∧
        (phase = .toTail → e.leader + e.picture ≤ c → t.hs (houseOf p) = { s.hs (houseOf p) with retiring := some ⟨p, .runOut, 0⟩ }) ∧
        (phase = .runOut → k < 47 → t.hs (houseOf p) = { s.hs (houseOf p) with retiring := some ⟨p, .runOut, k + 1⟩ }) ∧
        (phase = .toTail ∨ (phase = .runOut ∧ k < 47) → (t.tr p).state = .running ∧ t.rd p = s.rd p) ∧
        (phase = .runOut → k = 47 → t.hs (houseOf p) = { s.hs (houseOf p) with retiring := some ⟨p, .stopping, 48⟩ } ∧
          (t.tr p).state = .stopping ∧ (t.tr p).stoppingSince = some (s.now + dt) ∧ t.rd p = { s.rd p with state := .off }) ∧
        (k ≤ 47 → (t.tr p).counter = c ∧ (t.tr p).armed = (s.tr p).armed ∧
          t.lp p = { s.lp p with sufficiency := t.sufficiencyOf p } ∧
          (∀ q, q ≠ p → t.tr q = s.tr q ∧ t.rd q = s.rd q ∧ t.lp q = s.lp q) ∧ (∀ i, i ≠ houseOf p → t.hs i = s.hs i) ∧
          t.dousers = s.dousers ∧ t.lights = s.lights ∧ t.ports = s.ports ∧ t.booth = s.booth) := by
  have hlooks := State.retires_looksOn h
  obtain ⟨-, hret, -, -, -, hhome, hheld, -, -, ho, hoo, hg⟩ := h
  obtain ⟨w, b, hcounts, hstops⟩ := exec_tachPulse_retires (dt := dt) hlooks hret hu hrun hw hlow
  have hwrd : w.rd p = s.rd p := b.rd.trans (congrArg (fun x => { s.rd p with state := x }) hw.symm)
  have hwhs (g : HouseId) : w.hs g = s.hs g := b.hs g
  have hwc : (w.tr p).counter = c := b.counter.trans hc.symm
  have htail : w.atTail p = decide (e.leader + e.picture ≤ c) := by
    have hwheld : w.heldEntry p = some e := by
      unfold State.heldEntry
      rw [b.armed]
      simp only [hwhs]
      exact hheld
    unfold State.atTail
    rw [hwheld]
    dsimp only
    rw [hwc]
    rfl
  have hjudged (t : State) (i : House) (hi : i.plan = (s.hs (houseOf p)).plan ∧ i.speed = (s.hs (houseOf p)).speed)
      (hths : ∀ g, t.hs g = if g = houseOf p then i else w.hs g) (ha : (t.tr p).armed = (w.tr p).armed)
      (hc : (t.tr p).counter = (w.tr p).counter) (hlp : t.lp p = w.lp p) :
      t.lp p = { s.lp p with sufficiency := t.sufficiencyOf p } := by
    rw [hlp, b.lp, State.sufficiencyOf_of (s := w) (t := t) ha hc (hlp ▸ ⟨rfl, rfl⟩) fun g => ?_]
    · rfl
    · rw [hths]
      split
      next hg => rw [hg, hwhs]; exact hi
      next => exact ⟨rfl, rfl⟩
  by_cases hlast : phase = .runOut ∧ 47 ≤ k
  · let x : House := { s.hs (houseOf p) with retiring := some ⟨p, .stopping, 48⟩ }
    let t := ((w.setTr p ((w.tr p).stoppedAt w.now)).setRd p { s.rd p with state := .off }).setHs (houseOf p) x
    have htr (q : Proj) : t.tr q = if q = p then (w.tr p).stoppedAt w.now else w.tr q := State.setTr_tr ..
    have htrd (q : Proj) : t.rd q = if q = p then { s.rd p with state := .off } else w.rd q := State.setRd_rd ..
    have hths (g : HouseId) : t.hs g = if g = houseOf p then x else w.hs g := State.setHs_hs ..
    have htrp : t.tr p = (w.tr p).stoppedAt w.now := (htr p).trans (if_pos rfl)
    refine ⟨t, hstops hlast (fun h => h.elim ho hoo) hg hn, fun hp => ?_, fun hp => ?_, fun _ hk => absurd hlast.2 (by omega), fun hp => ?_,
      fun _ _ => ⟨(hths _).trans (if_pos rfl), congrArg Transport.state htrp, ?_, (htrd p).trans (if_pos rfl)⟩,
      fun _ => ⟨(congrArg Transport.counter htrp).trans hwc, (congrArg Transport.armed htrp).trans b.armed,
        hjudged t x ⟨rfl, rfl⟩ hths ((congrArg Transport.armed htrp).trans rfl) ((congrArg Transport.counter htrp).trans rfl) rfl,
        fun q hq => ⟨(htr q).trans ((if_neg hq).trans (b.trs q hq)), (htrd q).trans ((if_neg hq).trans (b.rds q hq)), b.lps q hq⟩,
        fun i hi => (hths i).trans ((if_neg hi).trans (hwhs i)), b.dousers, b.lights, b.ports, b.booth⟩⟩
    · exact nomatch hp.symm.trans hlast.1
    · exact nomatch hp.symm.trans hlast.1
    · exact hp.elim (fun hp => nomatch hp.symm.trans hlast.1) fun hk => absurd hlast.2 (by omega)
    · exact (congrArg Transport.stoppingSince htrp).trans (congrArg some b.now)
  · let x : House := { s.hs (houseOf p) with retiring := some (retireCounted p phase k (w.atTail p)) }
    let t := w.setHs (houseOf p) x
    have hths (g : HouseId) : t.hs g = if g = houseOf p then x else w.hs g := State.setHs_hs ..
    have hthp : t.hs (houseOf p) = x := (hths _).trans (if_pos rfl)
    refine ⟨t, hcounts hlast, fun hp hlt => ?_, fun hp hle => ?_, fun hp _ => ?_, fun _ => ⟨b.running, hwrd⟩,
      fun hp hk => absurd ⟨hp, hk.ge⟩ hlast,
      fun _ => ⟨hwc, b.armed, hjudged t x ⟨rfl, rfl⟩ hths rfl rfl rfl, fun q hq => ⟨b.trs q hq, b.rds q hq, b.lps q hq⟩,
        fun i hi => (hths i).trans ((if_neg hi).trans (hwhs i)), b.dousers, b.lights, b.ports, b.booth⟩⟩
    · have hsame : retireCounted p phase k (w.atTail p) = ⟨p, phase, k⟩ := by
        rw [htail, hp, decide_eq_false (by omega)]
        rfl
      rw [hthp]
      change { s.hs (houseOf p) with retiring := some (retireCounted p phase k (w.atTail p)) } = _
      rw [hsame, ← hret]
    · rw [hthp]
      change { s.hs (houseOf p) with retiring := some (retireCounted p phase k (w.atTail p)) } = _
      rw [htail, hp, decide_eq_true hle]
      rfl
    · rw [hthp]
      change { s.hs (houseOf p) with retiring := some (retireCounted p phase k (w.atTail p)) } = _
      rw [hp]
      rfl

end

end Sys2Proof.Machine
end

section
/-! PROOFS. The incoming's film breaks in a crossing: what becomes of the outgoing. -/

namespace Sys2Proof.Machine

/-! ## Light cues and runout, whatever the cues -/

theorem State.giveCues_eq (s : State) (h : HouseId) (n : Nat) (l : List LightCue) : ∃ x, s.giveCues h n l = s.setLt h x := by
  induction l generalizing s with
  | nil => exact ⟨s.lt h, (s.setLt_self h).symm⟩
  | cons c rest ih =>
    obtain ⟨x, hx⟩ := ih (s.programTarget h c.target c.fade (.cue n c.trigger))
    exact ⟨x, hx.trans (by simp [State.programTarget])⟩

/-- R131: light cues that fire change the plan's marks and the lights of their house. -/
theorem State.fireCues_eq (s : State) (h : HouseId) (n : Nat) (cond : CueTrigger → Bool) :
    ∃ p x, s.fireCues h n cond = (s.setHs h { s.hs h with plan := p }).setLt h x := by
  unfold State.fireCues
  split
  · refine ⟨(s.hs h).plan, s.lt h, ?_⟩
    have hself : s.setHs h { s.hs h with plan := (s.hs h).plan } = s := s.setHs_self h
    rw [hself]
    exact (s.setLt_self h).symm
  · obtain ⟨x, hx⟩ := (s.modReel h n (fun x => { x with cues := markFired x.cues cond })).giveCues_eq h n _
    exact ⟨_, x, hx⟩

/-- R122: a runout of a house without a changeover record. -/
theorem Rule.runout_recordless (s : State) (l : List Signal) (p : Proj) {e : ReelEntry}
    (hside : (s.hs (houseOf p)).liveSide = some (sideOf p)) (hheld : s.heldEntry p = some e) (hc : (s.hs (houseOf p)).change = none) :
    ∃ n z k, Rule.runout ⟨s, l, false⟩ (houseOf p) = ⟨(((s.closeCommand p).setHs (houseOf p) { s.hs (houseOf p) with
        state := .hold
        holdReason := some .runout
        dark := false
        gate := .none
        runoutCount := some 0
        plan := n }).setLt (houseOf p) z).setLink k, l, false⟩ ∧
      z.programTarget = (s.hs (houseOf p)).levels.runout ∧ z.programFade = 30 := by
  have hchs : (s.closeCommand p).hs (houseOf p) = s.hs (houseOf p) :=
    congrArg (fun b => b.cell (houseOf p)) (s.closeCommand_keeps p).2.2.2.2.1
  let v := (s.closeCommand p).selectNone (houseOf p)
  have hvhs : v.hs (houseOf p) = { s.hs (houseOf p) with gate := .none } := by
    refine (State.setHs_hs ..).trans ((if_pos rfl).trans ?_)
    rw [hchs]
  have hdrop : (⟨v, l, false⟩ : Rule).runoutDrop (houseOf p) = ⟨v, l, false⟩ := by
    unfold Rule.runoutDrop
    rw [show (v.hs (houseOf p)).change = none by rw [hvhs]; exact hc]
  obtain ⟨n, x, hfire⟩ := (v.setStatus (houseOf p) e.reel .interrupted).fireCues_eq (houseOf p) e.reel isEnding
  have hset : ∃ m, v.setStatus (houseOf p) e.reel .interrupted = (s.closeCommand p).setHs (houseOf p)
      { s.hs (houseOf p) with gate := .none, plan := m } := by
    refine ⟨mapReel (s.hs (houseOf p)).plan e.reel (fun w => { w with status := .interrupted }), ?_⟩
    unfold State.setStatus State.modReel
    rw [hvhs]
    exact State.setHs_setHs ..
  obtain ⟨m, hm⟩ := hset
  rw [hm] at hfire
  simp only [State.setHs_setHs, State.setHs_hs, if_true] at hfire
  have hz := Light.giveProgram_program x (s.closeCommand p).now (s.hs (houseOf p)).levels.runout 30 .runout
  have hrule : Rule.runout ⟨s, l, false⟩ (houseOf p) = Rule.upd ⟨v, l, false⟩ (fun s =>
      let s1 := (s.setStatus (houseOf p) e.reel .interrupted).fireCues (houseOf p) e.reel isEnding
      let s2 := s1.programTarget (houseOf p) (s1.hs (houseOf p)).levels.runout 30 .runout
      (s2.modHs (houseOf p) (fun x => { x with
        dark := false
        state := .hold
        holdReason := some .runout
        runoutCount := some 0 })).reportHouse (houseOf p) (.runout e.reel (s2.tr p).counter none)) := by
    unfold Rule.runout
    dsimp only
    rw [State.liveProj_side hside, State.liveEntry_side hside hheld]
    dsimp only
    rw [hc]
    exact congrArg (fun r : Rule => r.upd _) hdrop
  have hswap (a : State) (x y : House) (z : Light) : ((a.setHs (houseOf p) x).setLt (houseOf p) z).setHs (houseOf p) y =
      (a.setHs (houseOf p) y).setLt (houseOf p) z := by
    simp [State.setHs, State.setLt]
  rw [hrule]
  simp only [Rule.upd, hm, hfire]
  generalize s.closeCommand p = c at hz
  refine ⟨n, x.giveProgram c.now (s.hs (houseOf p)).levels.runout 30 .runout,
    c.link.enqueue (houseNumber (houseOf p)) (.runout e.reel (c.tr p).counter none), ?_, hz.1, hz.2⟩
  simp only [State.programTarget, State.modHs, State.setLt_hs, State.setLt_lt, State.setHs_hs, State.setLt_setLt, if_true, hswap]
  rfl

/-! ## The crossing is abandoned (R119) -/

/-- R119: what becomes of the outgoing `out` of an abandoned crossing. -/
def Rule.crossingLeft (r : Rule) (h : HouseId) (out : Proj) (loss : Option LossReason) : Rule :=
  match r.st.outgoingFailure out with
  | none =>
    if r.st.atTail out then r.runout h else r.upd (fun s => (s.openCommand out).selectSide h (sideOf out))
  | some reason => r.lossHold h (match loss with | some l => l | none => reason)

/-- R119: the incoming of a crossing has failed, its motor not driven: the record is dropped, and the outgoing is looked at. -/
theorem Rule.abandonCrossing_cases (v : State) (q : Proj) {y : Changeover} (hin : y.incoming = q)
    (hlive : v.liveProj (houseOf q) ≠ some q) (hbroken : (v.tr q).state = .broken) : ∃ u, v.Dropped u q ∧
      Rule.abandonCrossing ⟨v, [], false⟩ (houseOf q) y =
        Rule.crossingLeft ⟨u, [.readiness (houseOf q), .transport q .stopped], false⟩ (houseOf q) (otherProj q) y.loss := by
  obtain ⟨u, hu, hdropped⟩ := Rule.dropped_cases v [] false q hlive
  rw [if_pos hbroken] at hu
  refine ⟨u, hdropped, ?_⟩
  have htr : ((v.closeCommand q).tr q).state = .broken := by
    rw [show (v.closeCommand q).tr q = v.tr q from congrArg (fun b => b.cell q) (v.closeCommand_keeps q).2.1]
    exact hbroken
  have hmotor : Rule.motorStop ⟨v.closeCommand q, [], false⟩ q = ⟨v.closeCommand q, [], false⟩ :=
    Rule.motorStop_undriven _ q (.inr (.inr htr))
  have hdisarm : ((((⟨v, [], false⟩ : Rule).upd (fun s => s.closeCommand q)).motorStop q).upd
      (fun s => s.modHs (houseOf q) (fun x => { x with change := none }))).disarm q =
        ⟨u, [.readiness (houseOf q), .transport q .stopped], false⟩ :=
    (congrArg (fun r : Rule => (r.upd (fun s => s.modHs (houseOf q) (fun x => { x with change := none }))).disarm q) hmotor).trans hu
  unfold Rule.abandonCrossing
  dsimp only
  rw [hin, hdisarm]
  rfl

section
variable {s : State} {dt : Nat} {h : HouseId} {q : Proj} {y : Changeover} {e : ReelEntry} {u : Instant}
  (hto : s.changesTo h q y e [.crossing]) (ha : (s.rd q).assembling = false)
  (hrun : (s.tr q).state = .running) (hu : (s.tr q).lastPulse = some u) (hlim : 25000 ≤ (s.now + dt - u) * s.speedOf q)
include hto ha hrun hu hlim

/-- R12, R119: the break of a crossing's incoming, by what its abandonment leaves. -/
theorem exec_breakDeadline_crossing : ∃ v w, s.Failed v q false ∧ v.Dropped w q ∧ (∀ t l,
    Rule.crossingLeft ⟨w, [.readiness (houseOf q), .transport q .stopped], false⟩ (houseOf q) (otherProj q) y.loss = ⟨t, l, false⟩ →
    (t.hs (houseOf q)).retiring = none → (t.ds q).state ≠ .stuck → Rule.look ⟨t, l, false⟩ (houseOf q) = ⟨t, l, false⟩ →
    l.length ≤ 30 → (∀ z ∈ l, ∀ l', Rule.sees ⟨t, l', false⟩ z = ⟨t, l', false⟩) → exec (.breakDeadline dt q) s = .next t) := by
  have hslive := State.changesTo_live hto
  obtain ⟨v, hv, hfail⟩ := exec_incoming_fails (c := .breakDeadline dt q) (u := u) (limit := false) hto ha rfl nofun fun _ => ⟨hrun, hu, hlim⟩
  obtain ⟨hst, hlive, hy, hret, hstop⟩ := hv.seen hto
  obtain ⟨-, -, -, -, -, hin, hph, -, -⟩ := id hto
  have hph : y.phase = .crossing := List.mem_singleton.1 hph
  obtain ⟨w, hw, habandon⟩ := Rule.abandonCrossing_cases v q hin hlive hv.state
  refine ⟨v, w, hv, hw, fun t l hrule hret hds hlook hlen hl => hfail .brk rfl t l ?_ hret hds hlook hlen hl⟩
  refine Eq.trans ?_ (habandon.trans hrule)
  unfold Rule.failure
  dsimp only
  rw [hst]
  refine (if_neg hlive).trans ?_
  unfold Rule.changeSees
  dsimp only
  rw [show (v.hs (houseOf q)).change = some y from hy]
  dsimp only
  rw [if_neg (not_not.mpr hin), hph]
  rfl

end

end Sys2Proof.Machine
end

section
/-! PROOFS. The outgoing of a crossing whose incoming breaks: opened again, run out, or held. -/

namespace Sys2Proof.Machine

/-! ## The first failure of the outgoing (R119) -/

theorem State.outgoingFailure_none {s : State} {p : Proj} (hc : s.canShow p) : s.outgoingFailure p = none := by
  obtain ⟨hrun, hburn, hheld, hd⟩ := hc
  simp [State.outgoingFailure, hrun, hburn, hheld, hd]

theorem State.outgoingFailure_some {s : State} {p : Proj} {reason : LossReason}
    (hc : ((s.tr p).state ≠ .running ∧ reason = .brk) ∨
        ((s.tr p).state = .running ∧ (s.lp p).state ≠ .burning ∧ reason = .lamp) ∨
        ((s.tr p).state = .running ∧ (s.lp p).state = .burning ∧ (s.pt (projPort p)).state ≠ .held ∧ reason = .fire)) :
    s.outgoingFailure p = some reason := by
  rcases hc with ⟨hrun, rfl⟩ | ⟨hrun, hburn, rfl⟩ | ⟨hrun, hburn, hheld, rfl⟩
  · simp [State.outgoingFailure, hrun]
  · simp [State.outgoingFailure, hrun, hburn]
  · simp [State.outgoingFailure, hrun, hburn, hheld]

/-- R37: an open command to a douser whose gating condition holds and which is not STUCK. -/
theorem State.openCommand_ungated {s : State} {p : Proj} (hg : s.gating p = true) (hd : (s.ds p).state ≠ .stuck) :
    ((s.ds p).state = .opened → (s.openCommand p).ds p = s.ds p) ∧
      ((s.ds p).state ≠ .opened → ((s.openCommand p).ds p).state = .opening) ∧ ∀ x, x ≠ p → (s.openCommand p).ds x = s.ds x := by
  unfold State.openCommand
  refine ⟨fun h => ?_, fun h => ?_, fun x hx => ?_⟩
  · simp [h]
  · dsimp only
    cases hst : (s.ds p).state
    case opened => exact absurd hst h
    case stuck => exact absurd hst hd
    case opening => simp [hst]
    all_goals simp [hg]
  · dsimp only
    split
    · exact (State.setDs_ds ..).trans (if_neg hx)
    · rfl

section
variable {s v w : State} {h : HouseId} {q : Proj} {y : Changeover} {e g : ReelEntry} {phases : List ChangePhase}
  (hto : s.changesTo h q y e phases) (a : s.Failed v q false) (b : v.Dropped w q)
include a b

/-- R119: the outgoing has not changed. -/
theorem State.Failed.dropped_canShow (hc : s.canShow (otherProj q)) : w.canShow (otherProj q) := by
  obtain ⟨-, -, -, -, hothers⟩ := a.dropped_projs b
  obtain ⟨htr, -, hds, hlp⟩ := hothers _ (otherProj_ne q)
  have hpt : w.pt (projPort (otherProj q)) = s.pt (projPort (otherProj q)) :=
    congrArg (fun b => b.cell (projPort (otherProj q))) (b.ports.trans a.ports)
  rw [State.canShow, htr, hlp, hpt, hds]
  exact hc

include hto in
/-- R119: the outgoing holds its entry still, where that is of another reel. -/
theorem State.Failed.dropped_heldEntry (hg : s.heldEntry (otherProj q) = some g)
    (hhome : (s.tr (otherProj q)).armed.map (fun a => a.house) = some h) (hne : e.reel ≠ g.reel) :
    w.heldEntry (otherProj q) = some g := by
  obtain ⟨-, -, -, -, hothers⟩ := a.dropped_projs b
  obtain ⟨x, hx, hxh, hxr, hfind⟩ := State.heldEntry_home hhome hg
  obtain ⟨hhs, -⟩ := a.dropped_hs hto b
  unfold State.heldEntry
  rw [(hothers _ (otherProj_ne q)).1, hx]
  dsimp only
  rw [hxh, hhs, hxr]
  refine (findReel_mapReel (s.hs h).plan e.reel g.reel
    (fun w => { w with status := if w.status = .armed then .pending else w.status }) fun _ => rfl).trans ?_
  rw [hfind, Option.map_some, if_neg (Ne.symm hne)]

end

section
variable {s : State} {dt : Nat} {h : HouseId} {q : Proj} {y : Changeover} {e g : ReelEntry} {u : Instant}
  (hto : s.changesTo h q y e [.crossing]) (ha : (s.rd q).assembling = false) (hd : (s.ds q).state ≠ .stuck)
  (hg : s.heldEntry (otherProj q) = some g) (hhome : (s.tr (otherProj q)).armed.map (fun a => a.house) = some h)
  (hne : e.reel ≠ g.reel)
  (hrun : (s.tr q).state = .running) (hu : (s.tr q).lastPulse = some u) (hlim : 25000 ≤ (s.now + dt - u) * s.speedOf q)
include hto ha hd hg hhome hne hrun hu hlim

/-- R119: an outgoing that can show picture, short of its tail, is opened again and has the sound. -/
theorem exec_breakDeadline_reopens (hc : s.canShow (otherProj q)) (hshort : (s.tr (otherProj q)).counter < g.leader + g.picture) :
    ∃ v w, s.Failed v q false ∧ v.Dropped w q ∧ w.canShow (otherProj q) ∧ exec (.breakDeadline dt q) s =
      .next ((w.openCommand (otherProj q)).setHs h { w.hs h with gate := .side (sideOf (otherProj q)) }) := by
  obtain ⟨v, w, hv, hw, hexec⟩ := exec_breakDeadline_crossing hto ha hrun hu hlim
  have hshow := hv.dropped_canShow hw hc
  obtain ⟨hhs, -⟩ := hv.dropped_hs hto hw
  obtain ⟨-, -, -, -, hothers⟩ := hv.dropped_projs hw
  have htail : w.atTail (otherProj q) = false := by
    unfold State.atTail
    rw [State.Failed.dropped_heldEntry hto hv hw hg hhome hne]
    dsimp only
    rw [(hothers _ (otherProj_ne q)).1]
    exact decide_eq_false (Nat.not_le.2 hshort)
  obtain ⟨rfl, hst, hside, hret, -⟩ := id hto
  obtain ⟨-, hotr, hord, holp, hohs, -⟩ := w.openCommand_keeps (otherProj q)
  have hcell (g : HouseId) : (w.openCommand (otherProj q)).hs g = w.hs g := congrArg (fun b => b.cell g) hohs
  let t := (w.openCommand (otherProj q)).setHs (houseOf q) { w.hs (houseOf q) with gate := .side (sideOf (otherProj q)) }
  have hths : t.hs (houseOf q) = { w.hs (houseOf q) with gate := .side (sideOf (otherProj q)) } := (State.setHs_hs ..).trans (if_pos rfl)
  have hselect : (w.openCommand (otherProj q)).selectSide (houseOf q) (sideOf (otherProj q)) = t := by
    have hat : projAt (houseOf q) (sideOf (otherProj q)) = otherProj q := by
      have := projAt_houseOf_sideOf (otherProj q)
      rwa [houseOf_otherProj] at this
    unfold State.selectSide
    rw [hat, show (w.openCommand (otherProj q)).tr (otherProj q) = w.tr (otherProj q) from congrArg (fun b => b.cell (otherProj q)) hotr,
      if_pos hshow.1, hcell]
  have hrule : Rule.crossingLeft ⟨w, [.readiness (houseOf q), .transport q .stopped], false⟩ (houseOf q) (otherProj q) y.loss =
      ⟨t, [.readiness (houseOf q), .transport q .stopped], false⟩ := by
    unfold Rule.crossingLeft
    dsimp only
    rw [State.outgoingFailure_none hshow]
    dsimp only
    rw [htail, Rule.upd, hselect]
    rfl
  have htst : (t.hs (houseOf q)).state = .showing := by rw [hths, hhs]; exact hst
  have htc : (t.hs (houseOf q)).change = none := by rw [hths, hhs]
  have htret : (t.hs (houseOf q)).retiring = none := by rw [hths, hhs]; exact hret
  have htd : (t.ds q).state ≠ .stuck := by
    have hgate : w.gating (otherProj q) = true := (w.gating_iff (otherProj q)).2 (.inl ⟨hshow.1, hshow.2.1, hshow.2.2.1⟩)
    rw [show t.ds q = w.ds q from (State.openCommand_ungated hgate hshow.2.2.2).2.2 q (otherProj_ne q).symm]
    exact hw.unstuck (hv.unstuck hd)
  refine ⟨v, w, hv, hw, hshow, hexec t _ hrule htret htd (Rule.look_idle _ (fun h => nomatch htst.symm.trans h) htc) (by simp)
    fun z hz l' => Rule.sees_givenUp htst htc htret htd ?_ l'⟩
  rcases List.mem_pair.1 hz with hz | hz
  · exact .inl hz
  · exact .inr (.inr hz)

/-- R119, R122: at its tail the outgoing runs out. -/
theorem exec_breakDeadline_runsOut (hc : s.canShow (otherProj q)) (hpast : g.leader + g.picture ≤ (s.tr (otherProj q)).counter) :
    ∃ v w n z k, s.Failed v q false ∧ v.Dropped w q ∧ z.programTarget = (s.hs h).levels.runout ∧ z.programFade = 30 ∧
      exec (.breakDeadline dt q) s = .next ((((w.closeCommand (otherProj q)).setHs h { w.hs h with
        state := .hold
        holdReason := some .runout
        dark := false
        gate := .none
        runoutCount := some 0
        plan := n }).setLt h z).setLink k) := by
  obtain ⟨v, w, hv, hw, hexec⟩ := exec_breakDeadline_crossing hto ha hrun hu hlim
  have hshow := hv.dropped_canShow hw hc
  obtain ⟨hhs, -⟩ := hv.dropped_hs hto hw
  obtain ⟨-, -, -, -, hothers⟩ := hv.dropped_projs hw
  have hwheld := State.Failed.dropped_heldEntry hto hv hw hg hhome hne
  have htail : w.atTail (otherProj q) = true := by
    unfold State.atTail
    rw [hwheld]
    dsimp only
    rw [(hothers _ (otherProj_ne q)).1]
    exact decide_eq_true hpast
  obtain ⟨rfl, hst, hside, hret, -⟩ := id hto
  obtain ⟨n, z, k, hrunout, hztarget, hzfade⟩ := Rule.runout_recordless w [.readiness (houseOf q), .transport q .stopped] (otherProj q)
    (by rw [houseOf_otherProj, hhs]; exact hside) hwheld (by rw [houseOf_otherProj, hhs])
  rw [houseOf_otherProj] at hrunout hztarget
  generalize ht : (((w.closeCommand (otherProj q)).setHs (houseOf q) { w.hs (houseOf q) with
        state := .hold
        holdReason := some .runout
        dark := false
        gate := .none
        runoutCount := some 0
        plan := n }).setLt (houseOf q) z).setLink k = t at hrunout
  have hths : t.hs (houseOf q) = { w.hs (houseOf q) with
      state := .hold, holdReason := some .runout, dark := false, gate := .none, runoutCount := some 0, plan := n } := by
    rw [← ht]
    exact (State.setHs_hs ..).trans (if_pos rfl)
  have hrule : Rule.crossingLeft ⟨w, [.readiness (houseOf q), .transport q .stopped], false⟩ (houseOf q) (otherProj q) y.loss =
      ⟨t, [.readiness (houseOf q), .transport q .stopped], false⟩ := by
    unfold Rule.crossingLeft
    dsimp only
    rw [State.outgoingFailure_none hshow]
    dsimp only
    rw [if_pos htail]
    exact hrunout
  have htc : (t.hs (houseOf q)).change = none := by rw [hths, hhs]
  have htret : (t.hs (houseOf q)).retiring = none := by rw [hths, hhs]; exact hret
  have htshow : (t.hs (houseOf q)).state.inShow = false := by rw [hths]; rfl
  have htd (x : Proj) (hx : houseOf x = houseOf q) : (t.ds x).state ≠ .stuck := by
    have hcl : t.ds x = (w.closeCommand (otherProj q)).ds x := by rw [← ht]; rfl
    rw [hcl]
    rcases eq_or_eq_otherProj hx with rfl | rfl
    · rw [w.closeCommand_ds_other (otherProj_ne x).symm]
      exact hw.unstuck (hv.unstuck hd)
    · exact w.closeCommand_unstuck _ hshow.2.2.2
  refine ⟨v, w, n, z, k, hv, hw, ?_, hzfade, ?_⟩
  · rw [hztarget, hhs]
  · rw [ht]
    refine hexec t _ hrule htret (htd q rfl) (Rule.look_noShow _ _ htshow htc) (by simp) fun y hy l' => ?_
    have hhouse : y.house = houseOf q := by
      rcases List.mem_pair.1 hy with rfl | rfl <;> rfl
    exact Rule.sees_still _ y (by rw [hhouse]; exact ⟨htshow, htc, htret⟩) (by rw [hhouse]; exact htd)

omit hg hhome hne in
/-- R119, R123: an outgoing that cannot show picture leaves the house in HOLD. -/
theorem exec_breakDeadline_crossingLost {reason : LossReason}
    (hc : ((s.tr (otherProj q)).state ≠ .running ∧ reason = .brk) ∨
        ((s.tr (otherProj q)).state = .running ∧ (s.lp (otherProj q)).state ≠ .burning ∧ reason = .lamp) ∨
        ((s.tr (otherProj q)).state = .running ∧ (s.lp (otherProj q)).state = .burning ∧
          (s.pt (projPort (otherProj q))).state ≠ .held ∧ reason = .fire)) (hds : (s.ds (otherProj q)).state ≠ .stuck) :
    ∃ v w t, s.Failed v q false ∧ v.Dropped w q ∧
      w.HeldIn t h (match y.loss with | some l => l.hold | none => reason.hold) ∧ w.Spared t h ∧ exec (.breakDeadline dt q) s = .next t := by
  obtain ⟨v, w, hv, hw, hexec⟩ := exec_breakDeadline_crossing hto ha hrun hu hlim
  obtain ⟨hhs, -⟩ := hv.dropped_hs hto hw
  obtain ⟨-, -, -, -, hothers⟩ := hv.dropped_projs hw
  obtain ⟨htr, -, hdso, hlp⟩ := hothers _ (otherProj_ne q)
  have hpt : w.pt (projPort (otherProj q)) = s.pt (projPort (otherProj q)) :=
    congrArg (fun b => b.cell (projPort (otherProj q))) (hw.ports.trans hv.ports)
  have hfail : w.outgoingFailure (otherProj q) = some reason := State.outgoingFailure_some (by rw [htr, hlp, hpt]; exact hc)
  obtain ⟨rfl, hst, hside, hret, -⟩ := id hto
  obtain ⟨t, l, hheld, hspared, -, -, hrule, hlen, htret, htd, hlook, hl⟩ := Rule.lossHold_rests (u := w)
    (l := [.readiness (houseOf q), .transport q .stopped]) (h := houseOf q) (match y.loss with | some l => l | none => reason)
    (by rw [hhs]) (by rw [hhs]; exact hret) (fun x hx => by
      rcases eq_or_eq_otherProj hx with rfl | rfl
      · exact hw.unstuck (hv.unstuck hd)
      · rw [hdso]
        exact hds) (by simp) fun z hz => by rcases List.mem_pair.1 hz with rfl | rfl <;> rfl
  refine ⟨v, w, t, hv, hw, ?_, hspared, hexec t l ?_ htret (htd q rfl) hlook hlen hl⟩
  · cases hy : y.loss <;> rw [hy] at hheld <;> exact hheld
  · unfold Rule.crossingLeft
    dsimp only
    rw [hfail]
    exact hrule

end

end Sys2Proof.Machine
end

section
/-! PROOFS. A crossing completes at the closing of the outgoing douser. -/

namespace Sys2Proof.Machine

/-! ## The house whose crossing is complete (R117) -/

/-- R117: the house once its crossing to `q`, with entry `e`, from the projector with entry `g` is complete. -/
def House.completed (x : House) (q : Proj) (e g : ReelEntry) : House :=
  { x with
    change := none
    liveSide := some (sideOf q)
    marks := ⟨false, false, false, false, false⟩
    dark := false
    plan := x.plan.map (fun w =>
      if w.reel = g.reel then { w with status := .finished }
      else if w.reel = e.reel then { w with status := .showing } else w) }

theorem House.completed_plan (x : House) (q : Proj) {e g : ReelEntry} (hne : e.reel ≠ g.reel) : (x.completed q e g).plan =
    mapReel (mapReel x.plan e.reel (fun w => { w with status := .showing })) g.reel (fun w => { w with status := .finished }) := by
  simp only [House.completed, mapReel, List.map_map]
  refine List.map_congr_left fun w _ => ?_
  simp only [Function.comp_apply]
  by_cases he : w.reel = e.reel
  · simp [he, hne]
  · simp [he]

theorem House.completed_reels (x : House) (q : Proj) {e g : ReelEntry} (hne : e.reel ≠ g.reel) :
    (x.completed q e g).plan.map (fun w => w.reel) = x.plan.map (fun w => w.reel) := by
  rw [House.completed_plan x q hne]
  exact (mapReel_reels _ g.reel (fun w => { w with status := .finished }) fun _ => rfl).trans
    (mapReel_reels _ e.reel (fun w => { w with status := .showing }) fun _ => rfl)

theorem House.completed_find (x : House) (q : Proj) {e g : ReelEntry} (hne : e.reel ≠ g.reel) (he : findReel x.plan e.reel = some e)
    (hg : findReel x.plan g.reel = some g) : findReel (x.completed q e g).plan e.reel = some { e with status := .showing } ∧
      findReel (x.completed q e g).plan g.reel = some { g with status := .finished } := by
  rw [House.completed_plan x q hne]
  refine ⟨?_, ?_⟩
  · rw [findReel_mapReel _ _ _ (fun w : ReelEntry => { w with status := ReelStatus.finished }) fun _ => rfl,
      findReel_mapReel _ _ _ (fun w : ReelEntry => { w with status := ReelStatus.showing }) fun _ => rfl, he]
    simp [hne]
  · rw [findReel_mapReel _ _ _ (fun w : ReelEntry => { w with status := ReelStatus.finished }) fun _ => rfl,
      findReel_mapReel _ _ _ (fun w : ReelEntry => { w with status := ReelStatus.showing }) fun _ => rfl, hg]
    simp [Ne.symm hne]

/-- A projector ARMED for a house and a reel. -/
theorem State.armed_of_map {s : State} {p : Proj} {h : HouseId} {n : Nat}
    (ha : (s.tr p).armed.map (fun a => (a.house, a.reel)) = some (h, n)) : ∃ a, (s.tr p).armed = some a ∧ a.house = h ∧ a.reel = n := by
  obtain ⟨a, hx, he⟩ := Option.map_eq_some_iff.1 ha
  exact ⟨a, hx, congrArg Prod.fst he, congrArg Prod.snd he⟩

theorem State.setHeldStatus_eq {s : State} {p : Proj} {h : HouseId} {n : Nat}
    (ha : (s.tr p).armed.map (fun a => (a.house, a.reel)) = some (h, n)) (x : ReelStatus) :
    s.setHeldStatus p x = s.setHs h { s.hs h with plan := mapReel (s.hs h).plan n (fun w => { w with status := x }) } := by
  obtain ⟨a, hx, rfl, rfl⟩ := State.armed_of_map ha
  unfold State.setHeldStatus
  rw [hx]
  rfl

section
variable {s : State} {q : Proj} {y : Changeover} {x : Crossing} {e g : ReelEntry}

/-- R117: what CHANGEOVER DONE carries. -/
def crossingReport (q : Proj) (y : Changeover) (x : Crossing) (e g : ReelEntry) : ChangeoverReport :=
  { outgoing := otherProj q
    outgoingReel := g.reel
    incoming := q
    incomingReel := e.reel
    motorSource := y.motorSource
    changeSource := y.changeSource
    loss := y.loss
    delay := y.delay
    openOffset := x.openOffset
    closeOffset := x.closeOffset
    soundOffset := x.soundOffset
    outFrame := x.outFrame }

/-- R117: a crossing whose three conditions hold completes. -/
theorem Rule.look_completes (hst : (s.hs (houseOf q)).state = .showing) (hy : (s.hs (houseOf q)).change = some y)
    (hph : y.phase = .crossing) (hx : y.crossing = some x) (hin : y.incoming = q) (hdone : s.crossingDone y = true)
    (hq : (s.tr q).armed.map (fun a => (a.house, a.reel)) = some (houseOf q, e.reel))
    (hout : (s.tr (otherProj q)).armed.map (fun a => (a.house, a.reel)) = some (houseOf q, g.reel)) (hne : e.reel ≠ g.reel) :
    Rule.look ⟨s, [], false⟩ (houseOf q) =
      ((((Rule.retire ⟨s.setHs (houseOf q) ((s.hs (houseOf q)).completed q e g), [], false⟩ (houseOf q) (otherProj q)).upd
        (fun s => s.reportHouse (houseOf q) (.changeoverDone (crossingReport q y x e g)))).upd
        (fun s => s.fireFrameCues (houseOf q)))).takeCues (houseOf q) := by
  have hready : Rule.readinessTest ⟨s, [], false⟩ (houseOf q) = ⟨s, [], false⟩ := by simp [Rule.readinessTest, hy, hph]
  have hcross : Rule.crossingTest ⟨s, [], false⟩ (houseOf q) = ⟨s, [], false⟩ := by simp [Rule.crossingTest, hy, hph]
  have hreport : s.changeoverReport y x = crossingReport q y x e g := by
    obtain ⟨a, ha, -, har⟩ := State.armed_of_map hq
    obtain ⟨b, hb, -, hbr⟩ := State.armed_of_map hout
    simp only [State.changeoverReport, crossingReport, hin, ha, hb, har, hbr]
  have hset : (((s.setHeldStatus q .showing).setHeldStatus (otherProj q) .finished).modHs (houseOf q) (fun y => { y with
      change := none
      liveSide := some (sideOf q)
      marks := ReelMarks.clear
      dark := false })) = s.setHs (houseOf q) ((s.hs (houseOf q)).completed q e g) := by
    have hsecond (w : House) := State.setHeldStatus_eq (s := s.setHs (houseOf q) w) hout .finished
    rw [State.setHeldStatus_eq hq, hsecond]
    simp only [State.modHs, State.setHs_hs, State.setHs_setHs, if_true]
    refine congrArg (s.setHs (houseOf q)) ?_
    have hplan := House.completed_plan (s.hs (houseOf q)) q hne
    unfold House.completed at hplan ⊢
    simp only at hplan
    simp only [hplan]
    rfl
  have hupd : (⟨s, [], false⟩ : Rule).upd (fun s => ((s.setHeldStatus q .showing).setHeldStatus (otherProj q) .finished).modHs
      (houseOf q) (fun y => { y with change := none, liveSide := some (sideOf q), marks := ReelMarks.clear, dark := false })) =
        ⟨s.setHs (houseOf q) ((s.hs (houseOf q)).completed q e g), [], false⟩ :=
    congrArg (fun u : State => (⟨u, [], false⟩ : Rule)) hset
  rw [Rule.look, Rule.pictureTest_idle ⟨s, [], false⟩ (fun h => nomatch hst.symm.trans h), hready, hcross]
  unfold Rule.completionTest
  dsimp only
  rw [hy]
  dsimp only
  rw [hx]
  dsimp only
  rw [if_pos hdone, hin, hreport, hupd]

/-- R106, R131: the new live projector has no light cue to fire and no cue entry waiting. -/
theorem Rule.completed_idle {u : State} {l : List Signal} (k : ReportBody) {z : Option Retiring} {m : House}
    (hhs : u.hs (houseOf q) = { m.completed q e g with retiring := z }) (htr : (u.tr q).armed.map (fun a => (a.house, a.reel)) = some (houseOf q, e.reel))
    (hq : (u.rd q).queue = []) (hd : (m.plan.map (fun w => w.reel)).Nodup) (hne : e.reel ≠ g.reel) (he : findReel m.plan e.reel = some e)
    (hg : findReel m.plan g.reel = some g) (hcues : ∀ w ∈ e.cues, w.fired = true) :
    (((⟨u, l, false⟩ : Rule).upd (fun s => s.reportHouse (houseOf q) k)).upd (fun s => s.fireFrameCues (houseOf q))).takeCues (houseOf q) =
      ⟨u.reportHouse (houseOf q) k, l, false⟩ := by
  obtain ⟨a, ha, hah, har⟩ := State.armed_of_map htr
  let t := u.reportHouse (houseOf q) k
  have hths : t.hs (houseOf q) = { m.completed q e g with retiring := z } := hhs
  have hside : (t.hs (houseOf q)).liveSide = some (sideOf q) := by rw [hths]; rfl
  have hheld : t.heldEntry q = some { e with status := .showing } := by
    unfold State.heldEntry
    rw [show (t.tr q).armed = some a from ha]
    dsimp only
    rw [hah, har, hths]
    exact (House.completed_find m q hne he hg).1
  have hfire : t.fireFrameCues (houseOf q) = t := by
    refine State.fireFrameCues_idle hside ?_ ?_ hheld fun c hc => ?_
    · rw [State.distinctReels, hths]
      exact (House.completed_reels m q hne).symm ▸ hd
    · rw [show (t.tr q).armed = some a from ha]
      exact congrArg some hah
    · rw [hcues c hc]
      rfl
  have hupd : ((⟨u, l, false⟩ : Rule).upd (fun s => s.reportHouse (houseOf q) k)).upd (fun s => s.fireFrameCues (houseOf q)) =
      ⟨t, l, false⟩ := congrArg (fun u : State => (⟨u, l, false⟩ : Rule)) hfire
  rw [hupd]
  exact Rule.takeCues_nothing ⟨t, l, false⟩ (State.liveProj_side hside) hq

end

end Sys2Proof.Machine
end

section
/-! PROOFS. The outgoing of a complete crossing retires. -/

namespace Sys2Proof.Machine

theorem Douser.ended_state (d : Douser) (sw : DouserSwitch) (now : Instant) (to1 : DouserState) : (d.ended sw now to1).state = to1 := rfl

/-- R118: the former outgoing retires by its frame counter, or is disarmed. -/
theorem Rule.retire_counts {s : State} {h : HouseId} {p : Proj} {g : ReelEntry} (hg : s.heldEntry p = some g)
    (hst : (s.tr p).state = .running) : Rule.retire ⟨s, [], false⟩ h p =
      if (s.tr p).counter < g.leader + g.picture then ⟨s.setHs h { s.hs h with retiring := some ⟨p, .toTail, 0⟩ }, [], false⟩
      else if (s.tr p).counter = g.leader + g.picture then ⟨s.setHs h { s.hs h with retiring := some ⟨p, .runOut, 0⟩ }, [], false⟩
      else Rule.motorStop ⟨s.setHs h { s.hs h with retiring := some ⟨p, .stopping, 0⟩ }, [], false⟩ p := by
  unfold Rule.retire
  dsimp only
  rw [hst, hg]
  refine (if_neg (by simp)).trans ?_
  rfl

theorem Rule.retire_disarms {s : State} {h : HouseId} {p : Proj} (hst : (s.tr p).state = .broken ∨ (s.tr p).state = .stopped) :
    Rule.retire ⟨s, [], false⟩ h p = Rule.disarm ⟨s, [], false⟩ p := by
  unfold Rule.retire
  dsimp only
  exact if_pos hst

section
variable {s : State} {dt : Nat} {y : Changeover} {x : Crossing} {q : Proj} {e g : ReelEntry}
  (hn : s.nearlyCrossed (houseOf q) q (otherProj q) y x e g)
include hn

/-- R117: the state in which the crossing of `hn` completes, before the outgoing retires. -/
def State.crossedTo (s : State) (dt : Nat) (q : Proj) (e g : ReelEntry) : State :=
  ((s.elapse dt).setDs (otherProj q) ((s.ds (otherProj q)).ended .closedEnd (s.now + dt) .closed)).setHs (houseOf q)
    ((s.hs (houseOf q)).completed q e g)

omit hn in
theorem State.crossedTo_hs (g' : HouseId) : (s.crossedTo dt q e g).hs g' =
    if g' = houseOf q then (s.hs (houseOf q)).completed q e g else s.hs g' := State.setHs_hs ..

omit hn in
theorem State.crossedTo_ds (p : Proj) : (s.crossedTo dt q e g).ds p =
    if p = otherProj q then (s.ds (otherProj q)).ended .closedEnd (s.now + dt) .closed else s.ds p := State.setDs_ds ..

/-- R117: the entries of the two projectors. -/
theorem State.crossedTo_finds : findReel (s.hs (houseOf q)).plan e.reel = some e ∧ findReel (s.hs (houseOf q)).plan g.reel = some g := by
  obtain ⟨-, -, -, -, -, -, -, -, -, -, -, -, -, hq, hout, -, he, hg, -, -, -⟩ := hn
  obtain ⟨a, ha, hah, har⟩ := State.armed_of_map hq
  obtain ⟨b, hb, hbh, hbr⟩ := State.armed_of_map hout
  unfold State.heldEntry at he hg
  rw [ha] at he
  rw [hb] at hg
  dsimp only at he hg
  rw [hah, har] at he
  rw [hbh, hbr] at hg
  exact ⟨he, hg⟩

theorem State.crossedTo_heldEntry : (s.crossedTo dt q e g).heldEntry (otherProj q) = some { g with status := .finished } := by
  obtain ⟨he, hg⟩ := State.crossedTo_finds hn
  obtain ⟨-, -, -, -, -, -, -, -, -, -, -, -, -, -, hout, hne, -⟩ := hn
  obtain ⟨b, hb, hbh, hbr⟩ := State.armed_of_map hout
  unfold State.heldEntry
  rw [show (s.crossedTo dt q e g).tr (otherProj q) = s.tr (otherProj q) from rfl, hb]
  dsimp only
  rw [hbh, hbr, State.crossedTo_hs, if_pos rfl]
  exact (House.completed_find _ q hne he hg).2

/-- R117: the closing of the outgoing douser completes the crossing. -/
theorem exec_douserCloses_completes {u : State} {l : List Signal} {z : Option Retiring}
    (hretire : Rule.retire ⟨s.crossedTo dt q e g, [], false⟩ (houseOf q) (otherProj q) = ⟨u, l, false⟩)
    (hhs : u.hs (houseOf q) = { (s.hs (houseOf q)).completed q e g with retiring := z }) (htr : u.tr q = s.tr q) (hrd : u.rd q = s.rd q)
    (hlen : l.length ≤ 10) (hl : ∀ y ∈ l, ∀ k l', Rule.sees ⟨u.setLink k, l', false⟩ y = ⟨u.setLink k, l', false⟩) :
    exec (.douserSwitchCloses dt (otherProj q) .closedEnd) s =
      .next (u.reportHouse (houseOf q) (.changeoverDone (crossingReport q y x e g))) := by
  obtain ⟨he, hg⟩ := State.crossedTo_finds hn
  obtain ⟨hst, hy, hph, hx, hsw, hin, -, -, hlive, hopen, hclosing, htrial, -, hq, hout, hne, -, -, hcues, hqueue, hd⟩ := hn
  let w := (s.elapse dt).setDs (otherProj q) ((s.ds (otherProj q)).ended .closedEnd (s.now + dt) .closed)
  have hwds (p : Proj) : w.ds p = if p = otherProj q then (s.ds (otherProj q)).ended .closedEnd (s.now + dt) .closed else s.ds p :=
    State.setDs_ds ..
  have hrule : Rule.switchCloses ⟨s.elapse dt, [], false⟩ (otherProj q) .closedEnd = ⟨w, [.douser (otherProj q) .closed], false⟩ := by
    rw [Rule.switchCloses_closing (s.elapse dt) (otherProj q) hclosing]
    refine congrArg (fun u : State => (⟨u, [Signal.douser (otherProj q) .closed], false⟩ : Rule)) (State.trialTravelEnds_untried ?_)
    refine (congrArg Douser.trial ((hwds _).trans (if_pos rfl))).trans ?_
    rw [Douser.ended_trial]
    exact htrial
  have hdone : w.crossingDone y = true := by
    unfold State.crossingDone
    rw [hph, hx]
    simp only [hin, hwds, if_neg (otherProj_ne q).symm, if_true, Douser.ended_state, hopen, hsw]
    decide
  have hlook := Rule.look_completes (s := w) (q := q) hst hy hph hx hin hdone hq hout hne
  have hw1 : w.setHs (houseOf q) ((w.hs (houseOf q)).completed q e g) = s.crossedTo dt q e g := rfl
  rw [hw1, hretire, Rule.completed_idle (.changeoverDone (crossingReport q y x e g)) hhs (by rw [htr]; exact hq) (by rw [hrd]; exact hqueue)
    hd hne he hg hcues] at hlook
  have hsees : Rule.sees ⟨w, [], false⟩ (.douser (otherProj q) .closed) =
      ⟨u.reportHouse (houseOf q) (.changeoverDone (crossingReport q y x e g)), l, false⟩ := by
    have hend : w.endDouserSees (otherProj q) = w := by
      unfold State.endDouserSees
      refine if_neg fun ⟨hs, _⟩ => ?_
      rw [houseOf_otherProj] at hs
      exact nomatch hst.symm.trans hs
    change Rule.look ⟨w.endDouserSees (otherProj q), [], false⟩ (houseOf (otherProj q)) = _
    rw [hend, houseOf_otherProj, hlook]
  refine (congrArg Rule.finish hrule).trans (Rule.finish_settled (t := false) ?_ nofun)
  rw [show settleBound = 511 + 1 from rfl, Rule.settle_cons, hsees]
  exact Rule.settle_unheeded 511 _ l false (hlen.trans (by decide)) fun y hy l' => hl y hy _ l'

/-- R118: short of its tail, or at it, the outgoing retires and runs on. -/
theorem exec_douserCloses_retires (hrun : (s.tr (otherProj q)).state = .running)
    (hle : (s.tr (otherProj q)).counter ≤ g.leader + g.picture) :
    exec (.douserSwitchCloses dt (otherProj q) .closedEnd) s = .next (((s.crossedTo dt q e g).setHs (houseOf q)
      { (s.hs (houseOf q)).completed q e g with retiring := some ⟨otherProj q,
        if (s.tr (otherProj q)).counter < g.leader + g.picture then .toTail else .runOut, 0⟩ }).reportHouse (houseOf q)
          (.changeoverDone (crossingReport q y x e g))) := by
  have hcounts := Rule.retire_counts (h := houseOf q) (State.crossedTo_heldEntry (dt := dt) hn) hrun
  have hhs : (s.crossedTo dt q e g).hs (houseOf q) = (s.hs (houseOf q)).completed q e g := by rw [State.crossedTo_hs, if_pos rfl]
  refine exec_douserCloses_completes (l := []) hn ?_ ((State.setHs_hs ..).trans (if_pos rfl)) rfl rfl (by simp) (by simp)
  rw [hcounts, hhs]
  by_cases hlt : (s.tr (otherProj q)).counter < g.leader + g.picture
  · rw [if_pos hlt]
    exact if_pos hlt
  · rw [if_neg hlt]
    exact (if_neg hlt).trans (if_pos (Nat.le_antisymm hle (Nat.not_lt.1 hlt)))

omit hn in
theorem sideOf_otherProj (p : Proj) : sideOf (otherProj p) ≠ sideOf p := by
  revert p
  decide

/-- R118: past its tail the outgoing is stopped. -/
theorem exec_douserCloses_stops (hrun : (s.tr (otherProj q)).state = .running)
    (hlt : g.leader + g.picture < (s.tr (otherProj q)).counter) (hgate : (s.hs (houseOf q)).gate ≠ .side (sideOf (otherProj q)))
    (ha : (s.rd (otherProj q)).assembling = false) :
    exec (.douserSwitchCloses dt (otherProj q) .closedEnd) s = .next (((((s.crossedTo dt q e g).setHs (houseOf q)
      { (s.hs (houseOf q)).completed q e g with retiring := some ⟨otherProj q, .stopping, 0⟩ }).setTr (otherProj q)
        ((s.tr (otherProj q)).stoppedAt (s.now + dt))).setRd (otherProj q) { s.rd (otherProj q) with state := .off }).reportHouse
          (houseOf q) (.changeoverDone (crossingReport q y x e g))) := by
  have hst : (s.hs (houseOf q)).state = .showing := hn.1
  have hcounts := Rule.retire_counts (h := houseOf q) (State.crossedTo_heldEntry (dt := dt) hn) hrun
  have hhs : (s.crossedTo dt q e g).hs (houseOf q) = (s.hs (houseOf q)).completed q e g := by rw [State.crossedTo_hs, if_pos rfl]
  let v := (s.crossedTo dt q e g).setHs (houseOf q)
      { (s.hs (houseOf q)).completed q e g with retiring := some ⟨otherProj q, .stopping, 0⟩ }
  let u := (v.setTr (otherProj q) ((s.tr (otherProj q)).stoppedAt (s.now + dt))).setRd (otherProj q) { s.rd (otherProj q) with state := .off }
  have huhs : u.hs (houseOf q) = { (s.hs (houseOf q)).completed q e g with retiring := some ⟨otherProj q, .stopping, 0⟩ } :=
    (State.setHs_hs ..).trans (if_pos rfl)
  have huhs' : u.hs (houseOf (otherProj q)) = { (s.hs (houseOf q)).completed q e g with retiring := some ⟨otherProj q, .stopping, 0⟩ } := by
    rw [houseOf_otherProj]
    exact huhs
  have hutr (p : Proj) : u.tr p = if p = otherProj q then (s.tr (otherProj q)).stoppedAt (s.now + dt) else s.tr p := State.setTr_tr ..
  have hurd (p : Proj) : u.rd p = if p = otherProj q then { s.rd (otherProj q) with state := .off } else s.rd p := State.setRd_rd ..
  have huds : (u.ds (otherProj q)).state = .closed := congrArg Douser.state ((State.crossedTo_ds (s := s) (dt := dt) (q := q) (e := e) (g := g) (otherProj q)).trans (if_pos rfl))
  have hlooks : u.LooksOn (otherProj q) := by
    refine ⟨?_, fun h => ?_, fun y hy => ?_⟩
    · rw [huhs']
      exact fun h => sideOf_otherProj q (Option.some.inj h).symm
    · rw [huhs'] at h
      exact nomatch hst.symm.trans h
    · rw [huhs'] at hy
      cases hy
  have hleave : u.leaveRunning (otherProj q) = u := by
    refine State.leaveRunning_aside (fun h => ?_) (liveSide_ne hlooks.side) ?_
    · rcases h with h | h <;> exact nomatch huds.symm.trans h
    · rw [huhs']
      exact hgate
  have hretire : Rule.retire ⟨s.crossedTo dt q e g, [], false⟩ (houseOf q) (otherProj q) =
      ⟨u, [.transport (otherProj q) .stopping], false⟩ := by
    rw [hcounts, hhs]
    refine ((if_neg (Nat.not_lt.2 hlt.le)).trans (if_neg hlt.ne')).trans ?_
    exact (Rule.motorStop_unassembling v [] false (otherProj q) hrun ha).trans
      (congrArg (fun u : State => (⟨u, [Signal.transport (otherProj q) .stopping], false⟩ : Rule)) hleave)
  refine exec_douserCloses_completes hn hretire huhs ((hutr q).trans (if_neg (otherProj_ne q).symm))
    ((hurd q).trans (if_neg (otherProj_ne q).symm)) (by simp) fun y hy k l' => ?_
  rw [List.mem_singleton.1 hy]
  have hlooks' : (u.setLink k).LooksOn (otherProj q) := ⟨hlooks.side, hlooks.start, hlooks.record⟩
  refine Rule.sees_stopping_retires (k := 0) hlooks' ?_ (.inl fun h => nomatch huds.symm.trans h) (fun h => ?_) l'
  · exact congrArg House.retiring huhs'
  · exact nomatch (congrArg Transport.state ((hutr (otherProj q)).trans (if_pos rfl))).symm.trans h

/-- R118: an outgoing whose transport is BROKEN or STOPPED is disarmed. -/
theorem exec_douserCloses_disarms (hst' : (s.tr (otherProj q)).state = .broken ∨ (s.tr (otherProj q)).state = .stopped)
    (hret : (s.hs (houseOf q)).retiring = none) : ∃ u, (s.crossedTo dt q e g).Disarmed u (otherProj q) ∧
      u.hs (houseOf q) = (s.hs (houseOf q)).completed q e g ∧ (∀ i, i ≠ houseOf q → u.hs i = s.hs i) ∧
      exec (.douserSwitchCloses dt (otherProj q) .closedEnd) s =
        .next (u.reportHouse (houseOf q) (.changeoverDone (crossingReport q y x e g))) := by
  have hst : (s.hs (houseOf q)).state = .showing := hn.1
  have hne : e.reel ≠ g.reel := (by obtain ⟨-, -, -, -, -, -, -, -, -, -, -, -, -, -, -, hne, -⟩ := hn; exact hne)
  have hhs : (s.crossedTo dt q e g).hs (houseOf q) = (s.hs (houseOf q)).completed q e g := by rw [State.crossedTo_hs, if_pos rfl]
  obtain ⟨he, hg⟩ := State.crossedTo_finds hn
  obtain ⟨-, -, -, -, -, -, -, -, -, -, -, -, -, -, hout, -, -, -, -, -, hd⟩ := id hn
  obtain ⟨b, hb, hbh, hbr⟩ := State.armed_of_map hout
  obtain ⟨u, hu, a⟩ := Rule.disarm_cases (s.crossedTo dt q e g) [] false (otherProj q)
  have hlive : (s.crossedTo dt q e g).liveProj (houseOf (otherProj q)) ≠ some (otherProj q) := by
    refine liveSide_ne ?_
    rw [houseOf_otherProj, hhs]
    exact fun h => sideOf_otherProj q (Option.some.inj h).symm
  have hunlive := Rule.disarm_unlive (s.crossedTo dt q e g) [] false (otherProj q) hlive
  rw [hu] at hunlive
  have hplan (i : HouseId) : (s.crossedTo dt q e g).planGivenUp (otherProj q) i = ((s.crossedTo dt q e g).hs i).plan := by
    unfold State.planGivenUp
    rw [show ((s.crossedTo dt q e g).tr (otherProj q)).armed = some b from hb]
    dsimp only
    rw [hbh, hbr]
    by_cases hi : houseOf q = i
    · subst hi
      rw [if_pos rfl, hhs]
      refine mapReel_same (e := { g with status := .finished }) ?_ (House.completed_find _ q hne he hg).2 rfl
      rw [House.completed_reels _ q hne]
      exact hd
    · rw [if_neg hi]
  have huhs (i : HouseId) : u.hs i = (s.crossedTo dt q e g).hs i := by
    rw [hunlive i, hplan]
  have huh : u.hs (houseOf q) = (s.hs (houseOf q)).completed q e g := (huhs _).trans hhs
  have huds : (u.ds (otherProj q)).state = .closed := by
    rw [show u.ds (otherProj q) = (s.crossedTo dt q e g).ds (otherProj q) from congrArg (fun b => b.cell (otherProj q)) a.dousers,
      State.crossedTo_ds, if_pos rfl]
    rfl
  have hretire : Rule.retire ⟨s.crossedTo dt q e g, [], false⟩ (houseOf q) (otherProj q) = ⟨u, _, false⟩ :=
    (Rule.retire_disarms (s := s.crossedTo dt q e g) hst').trans hu
  have hself : { (s.hs (houseOf q)).completed q e g with retiring := none } = (s.hs (houseOf q)).completed q e g := by
    rw [← hret]
    rfl
  refine ⟨u, a, huh, fun i hi => (huhs i).trans ((State.crossedTo_hs i).trans (if_neg hi)),
    exec_douserCloses_completes (z := none) hn hretire (huh.trans hself.symm)
    (a.trs q (otherProj_ne q).symm) (a.rds q (otherProj_ne q).symm) ?_ fun y hy k l' => ?_⟩
  · simp only [List.nil_append, List.length_cons]
    split <;> simp
  · have hh : (u.setLink k).hs (houseOf (otherProj q)) = (s.hs (houseOf q)).completed q e g := by
      rw [houseOf_otherProj]
      exact huh
    refine Rule.sees_givenUp (q := otherProj q) (u := u.setLink k) ?_ ?_ ?_ (fun h => nomatch huds.symm.trans h) ?_ l'
    · rw [hh]
      exact hst
    · rw [hh]
      rfl
    · rw [hh]
      exact hret
    · rcases List.mem_cons.1 hy with hy | hy
      · exact .inl hy
      · split at hy
        · exact .inr (.inr (List.mem_singleton.1 hy))
        · simp at hy

end

end Sys2Proof.Machine
end

section
/-! PROOFS. Settles O39: a crossing completes, its outgoing retires, or its incoming breaks. -/

namespace Sys2Proof.Machine

/-! ## The completion, by what the outgoing does (R117, R118) -/

section
variable {s : State} {dt : Nat} {y : Changeover} {x : Crossing} {q : Proj} {e g : ReelEntry}
  (hn : s.nearlyCrossed (houseOf q) q (otherProj q) y x e g)

/-- R117: in the state in which the crossing of `q` completes, its outgoing douser is CLOSED and the other projector unchanged. -/
theorem State.crossedTo_projs (s : State) (dt : Nat) (q : Proj) (e g : ReelEntry) : ((s.crossedTo dt q e g).ds (otherProj q)).state = .closed ∧
    ∀ r, r ≠ otherProj q → (s.crossedTo dt q e g).ds r = s.ds r := by
  refine ⟨?_, fun r hr => (State.crossedTo_ds r).trans (if_neg hr)⟩
  rw [State.crossedTo_ds, if_pos rfl]
  rfl

theorem State.crossedTo_setHs (i : HouseId) (z : House) : ((s.crossedTo dt q e g).setHs (houseOf q) z).hs i =
    if i = houseOf q then z else s.hs i := by
  rw [State.setHs_hs]
  split
  · rfl
  · rename_i hi
    exact (State.crossedTo_hs i).trans (if_neg hi)

include hn

/-- R118: what a crossing that completes with a RUNNING outgoing, not past its tail, leaves. -/
theorem exec_douserCloses_runsOn (hrun : (s.tr (otherProj q)).state = .running)
    (hle : (s.tr (otherProj q)).counter ≤ g.leader + g.picture) :
    ∃ t, exec (.douserSwitchCloses dt (otherProj q) .closedEnd) s = .next t ∧
      t.hs (houseOf q) = { (s.hs (houseOf q)).completed q e g with retiring := some ⟨otherProj q,
        if (s.tr (otherProj q)).counter < g.leader + g.picture then .toTail else .runOut, 0⟩ } ∧
      t.transports = s.transports ∧ t.readers = s.readers ∧ t.lamps = s.lamps ∧ (t.ds (otherProj q)).state = .closed ∧
      (∀ r, r ≠ otherProj q → t.ds r = s.ds r) ∧ t.lights = s.lights ∧ t.ports = s.ports ∧ t.booth = s.booth ∧
      (∀ i, i ≠ houseOf q → t.hs i = s.hs i) ∧
      t.link = s.link.enqueue (houseNumber (houseOf q)) (.changeoverDone (crossingReport q y x e g)) :=
  ⟨_, exec_douserCloses_retires hn hrun hle, (State.crossedTo_setHs _ _).trans (if_pos rfl), rfl, rfl, rfl,
    (s.crossedTo_projs dt q e g).1, (s.crossedTo_projs dt q e g).2, rfl, rfl, rfl, fun i hi => (State.crossedTo_setHs i _).trans (if_neg hi), rfl⟩

/-- R118: what a crossing that completes with a RUNNING outgoing past its tail leaves. -/
theorem exec_douserCloses_stopped (hrun : (s.tr (otherProj q)).state = .running)
    (hlt : g.leader + g.picture < (s.tr (otherProj q)).counter) (hgate : (s.hs (houseOf q)).gate ≠ .side (sideOf (otherProj q)))
    (ha : (s.rd (otherProj q)).assembling = false) :
    ∃ t, exec (.douserSwitchCloses dt (otherProj q) .closedEnd) s = .next t ∧
      t.hs (houseOf q) = { (s.hs (houseOf q)).completed q e g with retiring := some ⟨otherProj q, .stopping, 0⟩ } ∧
      t.tr (otherProj q) = (s.tr (otherProj q)).stoppedAt (s.now + dt) ∧
      t.rd (otherProj q) = { s.rd (otherProj q) with state := .off } ∧ t.lamps = s.lamps ∧ (t.ds (otherProj q)).state = .closed ∧
      (∀ r, r ≠ otherProj q → t.ds r = s.ds r ∧ t.tr r = s.tr r ∧ t.rd r = s.rd r) ∧ t.lights = s.lights ∧ t.ports = s.ports ∧
      t.booth = s.booth ∧ (∀ i, i ≠ houseOf q → t.hs i = s.hs i) ∧
      t.link = s.link.enqueue (houseNumber (houseOf q)) (.changeoverDone (crossingReport q y x e g)) :=
  ⟨_, exec_douserCloses_stops hn hrun hlt hgate ha, (State.crossedTo_setHs _ _).trans (if_pos rfl),
    (State.setTr_tr ..).trans (if_pos rfl), (State.setRd_rd ..).trans (if_pos rfl), rfl, (s.crossedTo_projs dt q e g).1,
    fun r hr => ⟨(s.crossedTo_projs dt q e g).2 r hr, (State.setTr_tr ..).trans (if_neg hr), (State.setRd_rd ..).trans (if_neg hr)⟩,
    rfl, rfl, rfl, fun i hi => (State.crossedTo_setHs i _).trans (if_neg hi), rfl⟩

/-- R118: what a crossing that completes with an outgoing BROKEN or STOPPED leaves. -/
theorem exec_douserCloses_disarmed (hst : (s.tr (otherProj q)).state = .broken ∨ (s.tr (otherProj q)).state = .stopped)
    (hret : (s.hs (houseOf q)).retiring = none) :
    ∃ t, exec (.douserSwitchCloses dt (otherProj q) .closedEnd) s = .next t ∧
      t.hs (houseOf q) = (s.hs (houseOf q)).completed q e g ∧
      t.tr (otherProj q) = { s.tr (otherProj q) with state := .stopped, armed := none, counter := 0 } ∧
      t.rd (otherProj q) = { s.rd (otherProj q) with state := .off, group := none, held := [], queue := [] } ∧
      (t.lp (otherProj q)).sufficiency = none ∧ (t.ds (otherProj q)).state = .closed ∧
      (∀ r, r ≠ otherProj q → t.ds r = s.ds r ∧ t.tr r = s.tr r ∧ t.rd r = s.rd r ∧ t.lp r = s.lp r) ∧ t.lights = s.lights ∧
      t.ports = s.ports ∧ t.booth = s.booth ∧ (∀ i, i ≠ houseOf q → t.hs i = s.hs i) ∧
      t.link = s.link.enqueue (houseNumber (houseOf q)) (.changeoverDone (crossingReport q y x e g)) := by
  obtain ⟨u, a, hhs, hhouses, hexec⟩ := exec_douserCloses_disarms (dt := dt) hn hst hret
  have hds (r : Proj) : u.ds r = (s.crossedTo dt q e g).ds r := congrArg (fun b => b.cell r) a.dousers
  refine ⟨_, hexec, hhs, a.tr.trans ?_, a.rd, a.sufficiency, (congrArg Douser.state (hds _)).trans (s.crossedTo_projs dt q e g).1,
    fun r hr => ⟨(hds r).trans ((s.crossedTo_projs dt q e g).2 r hr), a.trs r hr, a.rds r hr, a.lps r hr⟩, a.lights, a.ports, a.booth,
    hhouses, congrArg (fun k : Link => k.enqueue _ _) a.link⟩
  change { s.tr (otherProj q) with
    armed := none
    counter := 0
    state := if (s.tr (otherProj q)).state = TransportState.broken then TransportState.stopped else (s.tr (otherProj q)).state } = _
  rcases hst with h | h <;> simp [h]

end

/-! ## The retiring projector disarmed (R118) -/

/-- R118: what a run-down or a break of the retiring projector leaves, `v` being the state in which its house sees it. -/
theorem State.Retired.leaves {s v t : State} {p : Proj} (b : v.Retired t p) (hhs : ∀ i, v.hs i = s.hs i)
    (hothers : ∀ q, q ≠ p → v.tr q = s.tr q ∧ v.rd q = s.rd q) (hlps : v.lamps = s.lamps) (hds : v.dousers = s.dousers)
    (hlt : v.lights = s.lights) (hpt : v.ports = s.ports) (hb : v.booth = s.booth) :
    t.hs (houseOf p) = { s.hs (houseOf p) with retiring := none } ∧
      t.rd p = { v.rd p with state := .off, group := none, held := [], queue := [] } ∧ (t.lp p).sufficiency = none ∧
      (∀ q, q ≠ p → t.tr q = s.tr q ∧ t.rd q = s.rd q ∧ t.lp q = s.lp q) ∧ (∀ i, i ≠ houseOf p → t.hs i = s.hs i) ∧
      t.dousers = s.dousers ∧ t.lights = s.lights ∧ t.ports = s.ports ∧ t.booth = s.booth ∧ t.link = v.link :=
  ⟨b.hs.trans (by rw [hhs]), b.disarmed.rd, b.disarmed.sufficiency,
    fun q hq => ⟨(b.disarmed.trs q hq).trans (hothers q hq).1, (b.disarmed.rds q hq).trans (hothers q hq).2,
      (b.disarmed.lps q hq).trans (congrArg (fun l => l.cell q) hlps)⟩,
    fun i hi => (b.hss i hi).trans (hhs i), b.disarmed.dousers.trans hds, b.disarmed.lights.trans hlt,
    b.disarmed.ports.trans hpt, b.disarmed.booth.trans hb, b.disarmed.link⟩

/-- R118: the transport and the reader of the retiring projector, once it has been disarmed. -/
theorem State.Retired.unarmed {v t : State} {p : Proj} {x : Transport} {z : Reader} (b : v.Retired t p) (hx : v.tr p = x) (hz : v.rd p = z) :
    t.tr p = { x with armed := none, counter := 0, state := if x.state = .broken then .stopped else x.state } ∧
      t.rd p = { z with state := .off, group := none, held := [], queue := [] } := by
  subst hx hz
  exact ⟨b.disarmed.tr, b.disarmed.rd⟩

/-! ## Part by part -/

/-- R118: the retiring projector, by its counted pulses, its run-down, a break and a HOLD. -/
theorem retiring_leaves {s : State} {dt : Nat} {p : Proj} {e : ReelEntry} {phase : RetirePhase} {k : Nat} {a u : Instant}
    (h : s.retires (houseOf p) p e phase k) (hu : (s.tr p).lastPulse = some u) (hn : s.noDouserCause p) :
    ((s.tr p).state = .stopping → (s.tr p).stoppingSince = some a → max a u + 5000 ≤ s.now + dt →
      ∃ t, exec (.runDownExpiry dt p) s = .next t ∧ t.hs (houseOf p) = { s.hs (houseOf p) with retiring := none } ∧
        t.tr p = { s.tr p with state := .stopped, stoppingSince := none, armed := none, counter := 0 } ∧
        t.rd p = { s.rd p with state := .off, group := none, held := [], queue := [] } ∧ (t.lp p).sufficiency = none ∧
        (∀ q, q ≠ p → t.tr q = s.tr q ∧ t.rd q = s.rd q ∧ t.lp q = s.lp q) ∧ (∀ i, i ≠ houseOf p → t.hs i = s.hs i) ∧
        t.dousers = s.dousers ∧ t.lights = s.lights ∧ t.ports = s.ports ∧ t.booth = s.booth ∧ t.link = s.link) ∧
    ((s.tr p).state = .running → (s.rd p).assembling = false → 25000 ≤ (s.now + dt - u) * s.speedOf p →
      ∃ t, exec (.breakDeadline dt p) s = .next t ∧ t.hs (houseOf p) = { s.hs (houseOf p) with retiring := none } ∧
        t.tr p = { s.tr p with state := .stopped, miss := .normal, lockCount := 0, armed := none, counter := 0 } ∧
        t.rd p = { s.rd p with state := .off, group := none, held := [], queue := [] } ∧ (t.lp p).sufficiency = none ∧
        (∀ q, q ≠ p → t.tr q = s.tr q ∧ t.rd q = s.rd q ∧ t.lp q = s.lp q) ∧ (∀ i, i ≠ houseOf p → t.hs i = s.hs i) ∧
        t.dousers = s.dousers ∧ t.lights = s.lights ∧ t.ports = s.ports ∧ t.booth = s.booth ∧
        t.link = s.link.enqueue (projNumber p) (.filmBreak (s.tr p).counter)) := by
  have hlooks := State.retires_looksOn h
  obtain ⟨-, hret, -, -, -, hhome, hheld, hdone, hdistinct, ho, hoo, hg⟩ := h
  refine ⟨fun hst hb hlate => ?_, fun hst ha hlim => ?_⟩
  · obtain ⟨t, b, hexec⟩ := exec_runDownExpiry_retires (dt := dt) hlooks hret hhome hheld hdone hdistinct hn hu hst hb hlate
    obtain ⟨hhs, hrd, hsuff, hothers, hhouses, hds, hlt, hpt, hbooth, hlink⟩ := b.leaves (s := s) (fun _ => rfl)
      (fun q hq => ⟨(State.setTr_tr ..).trans (if_neg hq), rfl⟩) rfl rfl rfl rfl rfl
    obtain ⟨htr, -⟩ := b.unarmed ((State.setTr_tr ..).trans (if_pos rfl)) rfl
    exact ⟨t, hexec, hhs, htr, hrd, hsuff, hothers, hhouses, hds, hlt, hpt, hbooth, hlink⟩
  · obtain ⟨t, b, hexec⟩ := exec_breakDeadline_retires (dt := dt) hlooks hret hhome hheld hdone hdistinct hn hu hst ha hlim
      (fun h => h.elim ho hoo) hg
    obtain ⟨hhs, -, hsuff, hothers, hhouses, hds, hlt, hpt, hbooth, hlink⟩ := b.leaves (s := s) (fun _ => rfl)
      (fun q hq => ⟨(State.setTr_tr ..).trans (if_neg hq), (State.setRd_rd ..).trans (if_neg hq)⟩) rfl rfl rfl rfl rfl
    obtain ⟨htr, hrd⟩ := b.unarmed ((State.setTr_tr ..).trans (if_pos rfl)) ((State.setRd_rd ..).trans (if_pos rfl))
    exact ⟨t, hexec, hhs, htr, hrd, hsuff, hothers, hhouses, hds, hlt, hpt, hbooth, hlink⟩

/-- R119: the incoming of a crossing breaks, by what the outgoing can do. -/
theorem crossingBreaks_leaves {s : State} {dt : Nat} {q : Proj} {y : Changeover} {e g : ReelEntry} {u : Instant} {reason : LossReason}
    (hto : s.changesTo (houseOf q) q y e [.crossing]) (ha : (s.rd q).assembling = false) (hd : (s.ds q).state ≠ .stuck)
    (hg : s.heldEntry (otherProj q) = some g) (hhome : (s.tr (otherProj q)).armed.map (fun a => a.house) = some (houseOf q))
    (hne : e.reel ≠ g.reel) (hrun : (s.tr q).state = .running) (hu : (s.tr q).lastPulse = some u)
    (hlim : 25000 ≤ (s.now + dt - u) * s.speedOf q) :
    (s.canShow (otherProj q) → (s.tr (otherProj q)).counter < g.leader + g.picture →
      ∃ t, exec (.breakDeadline dt q) s = .next t ∧
        t.hs (houseOf q) = { s.hs (houseOf q) with
          change := none
          gate := .side (sideOf (otherProj q))
          plan := (s.hs (houseOf q)).plan.map (fun w => if w.reel = e.reel then
            { w with status := if w.status = .armed then .pending else w.status } else w) } ∧
        ((s.ds (otherProj q)).state = .opened → t.ds (otherProj q) = s.ds (otherProj q)) ∧
        ((s.ds (otherProj q)).state ≠ .opened → (t.ds (otherProj q)).state = .opening) ∧
        (t.ds q).state ≠ .opened ∧ (t.ds q).state ≠ .opening ∧
        (t.tr q).state = .stopped ∧ (t.tr q).armed = none ∧ (t.tr q).counter = 0 ∧ (t.rd q).state = .off ∧
        (∀ z, z ≠ q → t.tr z = s.tr z ∧ t.rd z = s.rd z ∧ t.lp z = s.lp z) ∧ (∀ i, i ≠ houseOf q → t.hs i = s.hs i) ∧
        t.lights = s.lights ∧ t.ports = s.ports ∧ t.booth = s.booth) ∧
    (s.canShow (otherProj q) → g.leader + g.picture ≤ (s.tr (otherProj q)).counter → ∃ t, exec (.breakDeadline dt q) s = .next t ∧
        (t.hs (houseOf q)).state = .hold ∧ (t.hs (houseOf q)).holdReason = some .runout ∧
        (t.hs (houseOf q)).runoutCount = some 0 ∧ (t.hs (houseOf q)).change = none ∧ (t.hs (houseOf q)).gate = .none ∧
        t.tr (otherProj q) = s.tr (otherProj q) ∧ (t.tr q).armed = none ∧
        (t.ds (otherProj q)).state ≠ .opened ∧ (t.ds (otherProj q)).state ≠ .opening ∧
        (t.lt (houseOf q)).programTarget = (s.hs (houseOf q)).levels.runout ∧ (t.lt (houseOf q)).programFade = 30 ∧
        (∀ i, i ≠ houseOf q → t.hs i = s.hs i ∧ t.lt i = s.lt i) ∧ t.ports = s.ports ∧ t.booth = s.booth) ∧
    (((s.tr (otherProj q)).state ≠ .running ∧ reason = .brk) ∨
        ((s.tr (otherProj q)).state = .running ∧ (s.lp (otherProj q)).state ≠ .burning ∧ reason = .lamp) ∨
        ((s.tr (otherProj q)).state = .running ∧ (s.lp (otherProj q)).state = .burning ∧
          (s.pt (projPort (otherProj q))).state ≠ .held ∧ reason = .fire) →
      (s.ds (otherProj q)).state ≠ .stuck → ∃ t, exec (.breakDeadline dt q) s = .next t ∧
        (t.hs (houseOf q)).state = .hold ∧
        (t.hs (houseOf q)).holdReason = some (match y.loss with | some l => l.hold | none => reason.hold) ∧
        (t.hs (houseOf q)).change = none ∧ (t.hs (houseOf q)).gate = .none ∧ (t.tr q).armed = none ∧
        (∀ z, houseOf z = houseOf q → (t.tr z).state ≠ .starting ∧ (t.tr z).state ≠ .running ∧
          (t.ds z).state ≠ .opened ∧ (t.ds z).state ≠ .opening) ∧
        (∀ i, i ≠ houseOf q → t.hs i = s.hs i ∧ t.lt i = s.lt i) ∧ t.ports = s.ports ∧ t.booth = s.booth) := by
  refine ⟨fun hc hshort => ?_, fun hc hpast => ?_, fun hc hds => ?_⟩
  · obtain ⟨v, w, a, b, hshow, hexec⟩ := exec_breakDeadline_reopens hto ha hd hg hhome hne hrun hu hlim hc hshort
    obtain ⟨hst, harm, hcounter, hrd, hothers⟩ := a.dropped_projs b
    obtain ⟨hhs, hhouses⟩ := a.dropped_hs hto b
    obtain ⟨-, hotr, hord, holp, hohs, holt, hopt, hob, -⟩ := w.openCommand_keeps (otherProj q)
    have hgate : w.gating (otherProj q) = true := (w.gating_iff (otherProj q)).2 (.inl ⟨hshow.1, hshow.2.1, hshow.2.2.1⟩)
    obtain ⟨hopened, hopening, hdss⟩ := State.openCommand_ungated hgate hshow.2.2.2
    have hwds : w.ds (otherProj q) = s.ds (otherProj q) := (hothers _ (otherProj_ne q)).2.2.1
    have htr (z : Proj) : (w.openCommand (otherProj q)).tr z = w.tr z := congrArg (fun b => b.cell z) hotr
    have hrdc (z : Proj) : (w.openCommand (otherProj q)).rd z = w.rd z := congrArg (fun b => b.cell z) hord
    have hlpc (z : Proj) : (w.openCommand (otherProj q)).lp z = w.lp z := congrArg (fun b => b.cell z) holp
    have hhsc (z : HouseId) : (w.openCommand (otherProj q)).hs z = w.hs z := congrArg (fun b => b.cell z) hohs
    have hdsq : (w.openCommand (otherProj q)).ds q = w.ds q := hdss q (otherProj_ne q).symm
    refine ⟨_, hexec, (State.setHs_hs ..).trans ((if_pos rfl).trans (by rw [hhs])), fun h => (hopened (hwds ▸ h)).trans hwds,
      fun h => hopening (hwds ▸ h), fun h => b.shut (.inl (hdsq ▸ h)), fun h => b.shut (.inr (hdsq ▸ h)),
      (congrArg Transport.state (htr q)).trans hst, (congrArg Transport.armed (htr q)).trans harm,
      (congrArg Transport.counter (htr q)).trans hcounter, (congrArg Reader.state ((hrdc q).trans hrd)),
      fun z hz => ⟨(htr z).trans (hothers z hz).1, (hrdc z).trans (hothers z hz).2.1, (hlpc z).trans (hothers z hz).2.2.2⟩,
      fun i hi => (State.setHs_hs ..).trans ((if_neg hi).trans ((hhsc i).trans (hhouses i hi))),
      holt.trans (b.lights.trans a.lights), hopt.trans (b.ports.trans a.ports), hob.trans (b.booth.trans a.booth)⟩
  · obtain ⟨v, w, n, z, k, a, b, htarget, hfade, hexec⟩ := exec_breakDeadline_runsOut hto ha hd hg hhome hne hrun hu hlim hc hpast
    obtain ⟨hst, harm, hcounter, hrd, hothers⟩ := a.dropped_projs b
    obtain ⟨hhs, hhouses⟩ := a.dropped_hs hto b
    obtain ⟨-, hctr, -, -, hchs, hclt, hcpt, hcb, -⟩ := w.closeCommand_keeps (otherProj q)
    have htr (z : Proj) : (w.closeCommand (otherProj q)).tr z = w.tr z := congrArg (fun b => b.cell z) hctr
    have hshut := w.closeCommand_shut (otherProj q)
    have hlt (i : HouseId) : w.lt i = s.lt i := congrArg (fun b => b.cell i) (b.lights.trans a.lights)
    generalize ht : (((w.closeCommand (otherProj q)).setHs (houseOf q) { w.hs (houseOf q) with
        state := .hold
        holdReason := some .runout
        dark := false
        gate := .none
        runoutCount := some 0
        plan := n }).setLt (houseOf q) z).setLink k = t at hexec
    have hths (i : HouseId) : t.hs i = if i = houseOf q then { w.hs (houseOf q) with
        state := .hold, holdReason := some .runout, dark := false, gate := .none, runoutCount := some 0, plan := n } else w.hs i := by
      rw [← ht]
      refine (State.setHs_hs ..).trans ?_
      rw [show (w.closeCommand (otherProj q)).hs i = w.hs i from congrArg (fun b => b.cell i) hchs]
    have htlt (i : HouseId) : t.lt i = if i = houseOf q then z else w.lt i := by
      rw [← ht]
      refine (State.setLt_lt ..).trans ?_
      rw [State.setHs_lt, show (w.closeCommand (otherProj q)).lt i = w.lt i from congrArg (fun b => b.cell i) hclt]
    have httr (i : Proj) : t.tr i = w.tr i := by
      rw [← ht]
      exact htr i
    have htds (i : Proj) : t.ds i = (w.closeCommand (otherProj q)).ds i := by
      rw [← ht]
      rfl
    have hthq := (hths (houseOf q)).trans (if_pos rfl)
    have htltq := (htlt (houseOf q)).trans (if_pos rfl)
    refine ⟨t, hexec, by rw [hthq], by rw [hthq], by rw [hthq], by rw [hthq, hhs], by rw [hthq],
      (httr _).trans (hothers _ (otherProj_ne q)).1, (congrArg Transport.armed (httr q)).trans harm,
      fun h => hshut (.inl (htds _ ▸ h)), fun h => hshut (.inr (htds _ ▸ h)), by rw [htltq, htarget], by rw [htltq, hfade],
      fun i hi => ⟨(hths i).trans ((if_neg hi).trans (hhouses i hi)), (htlt i).trans ((if_neg hi).trans (hlt i))⟩, ?_, ?_⟩
    · rw [← ht]
      exact hcpt.trans (b.ports.trans a.ports)
    · rw [← ht]
      exact hcb.trans (b.booth.trans a.booth)
  · obtain ⟨v, w, t, a, b, hheld, hspared, hexec⟩ := exec_breakDeadline_crossingLost hto ha hd hrun hu hlim hc hds
    obtain ⟨hst, harm, hcounter, hrd, hothers⟩ := a.dropped_projs b
    obtain ⟨hhs, hhouses⟩ := a.dropped_hs hto b
    refine ⟨t, hexec, hheld.state, hheld.holdReason, hheld.change, hheld.gate, (hspared.armed q).trans harm,
      fun z hz => ⟨fun h => hheld.undriven z hz (.inl h), fun h => hheld.undriven z hz (.inr h), fun h => hheld.shut z hz (.inl h),
        fun h => hheld.shut z hz (.inr h)⟩, fun i hi => ⟨(hspared.hss i hi).trans (hhouses i hi), ?_⟩,
      hheld.within.ports.trans (b.ports.trans a.ports), hheld.within.booth.trans (b.booth.trans a.booth)⟩
    exact (hheld.within.lts i hi).trans (congrArg (fun b => b.cell i) (b.lights.trans a.lights))

/-- Settles O39: the crossing completes by what the outgoing can do; the retiring projector runs out; the incoming breaks. -/
theorem crossingCompletes : Obligations.CrossingCompletes := by
  refine ⟨fun s dt h y x q out e g l hn hl => ?_, fun s dt h p e phase k c reading a u h hu hn hc => ?_,
    fun s dt h q out y x e g u reason hto hx hout ha hd hstatus hg hhome hne hrun hu hlim => ?_⟩
  · subst hl
    obtain ⟨-, -, -, -, -, -, rfl, rfl, -⟩ := id hn
    cases hst : (s.tr (otherProj q)).state
    case running =>
      rcases Nat.lt_or_ge (g.leader + g.picture) (s.tr (otherProj q)).counter with hlt | hle
      · by_cases hok : (s.hs (houseOf q)).gate ≠ .side (sideOf (otherProj q)) ∧ (s.rd (otherProj q)).assembling = false
        · obtain ⟨t, hexec, hhs, htr, hrd, hlp, hdo, hothers, hlts, hpts, hb, hhouses, hlink⟩ :=
            exec_douserCloses_stopped (dt := dt) hn hst hlt hok.1 hok.2
          exact ⟨t, hexec, fun _ h => absurd h (by omega), fun _ h => absurd h (by omega), fun _ _ _ _ => ⟨hhs, htr, hrd, hlp⟩,
            fun h => by simp at h, fun _ _ _ _ => ⟨hdo, fun r hr => ⟨(hothers r hr).1, (hothers r hr).2.1, (hothers r hr).2.2,
              congrArg (fun b => b.cell r) hlp⟩, hlts, hpts, hb, hhouses, hlink⟩⟩
        · obtain ⟨t, ht⟩ := Rule.finish_next (Rule.switchCloses ⟨s.elapse dt, [], false⟩ (otherProj q) .closedEnd)
          exact ⟨t, ht, fun _ h => absurd h (by omega), fun _ h => absurd h (by omega), fun _ _ h1 h2 => absurd ⟨h1, h2⟩ hok,
            fun h => by simp at h, fun _ _ h _ => absurd (h rfl hlt) hok⟩
      · obtain ⟨t, hexec, hhs, htr, hrd, hlp, hdo, hothers, hlts, hpts, hb, hhouses, hlink⟩ :=
          exec_douserCloses_runsOn (dt := dt) hn hst hle
        refine ⟨t, hexec, fun _ h => ⟨hhs.trans (by rw [if_pos h]; rfl), htr, hrd, hlp⟩,
          fun _ h => ⟨hhs.trans (by rw [if_neg (by omega)]; rfl), htr, hrd, hlp⟩, fun _ h => absurd h (by omega),
          fun h => by simp at h, fun _ _ _ _ => ⟨hdo, fun r hr => ⟨hothers r hr, congrArg (fun b => b.cell r) htr,
            congrArg (fun b => b.cell r) hrd, congrArg (fun b => b.cell r) hlp⟩, hlts, hpts, hb, hhouses, hlink⟩⟩
    case starting =>
      obtain ⟨t, ht⟩ := Rule.finish_next (Rule.switchCloses ⟨s.elapse dt, [], false⟩ (otherProj q) .closedEnd)
      exact ⟨t, ht, nofun, nofun, nofun, by simp, fun h => absurd rfl h⟩
    case stopping =>
      obtain ⟨t, ht⟩ := Rule.finish_next (Rule.switchCloses ⟨s.elapse dt, [], false⟩ (otherProj q) .closedEnd)
      exact ⟨t, ht, nofun, nofun, nofun, by simp, fun _ h => absurd rfl h⟩
    all_goals
      by_cases hret : (s.hs (houseOf q)).retiring = none
      · obtain ⟨t, hexec, hhs, htr, hrd, hsuff, hdo, hothers, hlts, hpts, hb, hhouses, hlink⟩ :=
          exec_douserCloses_disarmed (dt := dt) hn (by simp [hst]) hret
        exact ⟨t, hexec, nofun, nofun, nofun, fun _ _ => ⟨hhs, htr, hrd, hsuff⟩,
          fun _ _ _ _ => ⟨hdo, hothers, hlts, hpts, hb, hhouses, hlink⟩⟩
      · obtain ⟨t, ht⟩ := Rule.finish_next (Rule.switchCloses ⟨s.elapse dt, [], false⟩ (otherProj q) .closedEnd)
        exact ⟨t, ht, nofun, nofun, nofun, fun _ h => absurd h hret, fun _ _ _ h => absurd (h nofun) hret⟩
  · obtain ⟨rfl, hret, -, -, -, hhome, hheld, -⟩ := id h
    obtain ⟨hdown, hbreak⟩ := retiring_leaves (dt := dt) (a := a) h hu hn
    refine ⟨exec_tachPulse_retiring h hu hn hc, hdown, hbreak, fun hrun hshow hd hdo hother => ?_⟩
    obtain ⟨t, hexec, rest⟩ := exec_holdButton_retires (dt := dt) (State.retires_looksOn h) hret hhome hheld
      hrun hshow (fun z hz => (eq_or_eq_otherProj hz).elim (fun h => h ▸ hd) fun h => h ▸ hdo) hother
    exact ⟨t, hexec, rest⟩
  · subst hout
    obtain ⟨rfl, -⟩ := id hto
    obtain ⟨hreopen, hrunout, hlost⟩ := crossingBreaks_leaves (reason := reason) hto ha hd hg hhome hne hrun hu hlim
    exact ⟨fun hc _ hshort => hreopen hc hshort, hrunout, hlost⟩

end Sys2Proof.Machine
end

section
/-! PROOFS. A counted pulse of the live reel: the closing of its group, and the house that comes to rest after it. -/

namespace Sys2Proof.Machine

/-! ## A counted pulse (R5) -/

/-- R5, R80: from `s` to `t` projector `p` has had a counted pulse while RUNNING, which only its reader and its lamp have seen. -/
structure State.Counted (s t : State) (p : Proj) : Prop where
  running : (t.tr p).state = .running
  counter : (t.tr p).counter = min 65535 ((s.tr p).counter + 1)
  armed : (t.tr p).armed = (s.tr p).armed
  trs : ∀ q, q ≠ p → t.tr q = s.tr q
  rds : ∀ q, q ≠ p → t.rd q = s.rd q
  lps : ∀ q, q ≠ p → t.lp q = s.lp q
  dousers : t.dousers = s.dousers
  houses : t.houses = s.houses
  lights : t.lights = s.lights
  ports : t.ports = s.ports
  booth : t.booth = s.booth
  now : t.now = s.now

section
variable {s t : State} {p : Proj}

theorem State.Pulsed.counted (a : s.Pulsed t p) : s.Counted t p :=
  ⟨a.running, a.counter, a.armed, a.trs, a.rds, a.lps, a.dousers, a.houses, a.lights, a.ports, a.booth, a.now⟩

theorem State.Counted.hs (a : s.Counted t p) (h : HouseId) : t.hs h = s.hs h := congrArg (fun b => b.cell h) a.houses

theorem State.Counted.ds (a : s.Counted t p) (q : Proj) : t.ds q = s.ds q := congrArg (fun b => b.cell q) a.dousers

theorem State.Counted.armed_all (a : s.Counted t p) (q : Proj) : (t.tr q).armed = (s.tr q).armed := by
  by_cases hq : q = p
  · rw [hq, a.armed]
  · rw [a.trs q hq]

theorem State.Counted.heldEntry (a : s.Counted t p) (q : Proj) : t.heldEntry q = s.heldEntry q := by
  simp only [State.heldEntry, a.armed_all, a.hs]

theorem State.Counted.liveEntry (a : s.Counted t p) (h : HouseId) : t.liveEntry h = s.liveEntry h := by
  simp only [State.liveEntry, State.liveProj, a.hs, funext a.heldEntry]

theorem State.Counted.followingEntry (a : s.Counted t p) (h : HouseId) : t.followingEntry h = s.followingEntry h := by
  simp only [State.followingEntry, a.liveEntry, a.hs]

theorem State.Counted.readyToFollow (a : s.Counted t p) (h : HouseId) {q : Proj} (hq : q ≠ p) :
    t.readyToFollow h q = s.readyToFollow h q :=
  State.readyToFollow_of a.armed_all (fun g => by rw [a.hs]; exact ⟨rfl, rfl⟩) (a.trs q hq) (a.lps q hq) a.ports (a.ds q)

theorem State.Counted.leaderOf (a : s.Counted t p) (q : Proj) : t.leaderOf q = s.leaderOf q := by
  simp only [State.leaderOf, a.heldEntry]

theorem State.Counted.setRd (a : s.Counted t p) (d : Reader) : s.Counted (t.setRd p d) p :=
  ⟨a.running, a.counter, a.armed, a.trs, fun q hq => (State.setRd_rd ..).trans ((if_neg hq).trans (a.rds q hq)), a.lps, a.dousers,
    a.houses, a.lights, a.ports, a.booth, a.now⟩

end

/-- R10: an interval that is not the twenty-fourth out of tolerance sets no speed-fault mark. -/
theorem Transport.speedStep_unmarked (t : Transport) (good : Bool) (hn : t.outCount < 23) (hm : (t.speedStep good).speedFault = true) :
    t.speedFault = true := by
  by_contra hf
  have hmore : t.outCount ≠ 23 := by omega
  unfold Transport.speedStep at hm
  cases good <;> simp [hf, hmore] at hm

/-- R9, R10: a counted pulse while RUNNING reports at most a speed fault, whose twenty-fourth interval it ends. -/
theorem Rule.pulseRunning_link (s : State) (p : Proj) {u : Instant} (hu : (s.tr p).lastPulse = some u) :
    ∃ k, Rule.pulseRunning ⟨s, [], false⟩ p =
      ⟨(s.setTr p ((s.tr p).pulsedRunning u s.now (s.speedOf p))).setLink k, [], false⟩ ∧
        ((s.tr p).outCount < 23 → k = s.link) := by
  unfold Rule.pulseRunning
  dsimp only
  split
  next hnone => simp [hu] at hnone
  next prev hprev =>
    obtain rfl : u = prev := Option.some.inj (hu.symm.trans hprev)
    split
    next hm =>
      obtain ⟨hset, hclear⟩ := hm
      exact ⟨_, rfl, fun hn => absurd (Transport.speedStep_unmarked { s.tr p with miss := .normal } _ hn hset) hclear⟩
    next => exact ⟨s.link, rfl, fun _ => rfl⟩

/-! ## A group that closes (R27, R28) -/

/-- R27: the eighth gap frame closes the group. -/
theorem Rule.examine_closes (r : Rule) (p : Proj) (n : Nat) {g : TabGroup} (ht : (r.st.tr p).state = .running)
    (hst : (r.st.rd p).state = .gap) (hg : (r.st.rd p).group = some g) (hgap : g.gapFrames = 7) (hlow : n < (r.st.rd p).threshold) :
    r.examine p n = r.closeGroup p g := by
  have hhigh : ¬ (r.st.rd p).high n = true := by simpa [Reader.high] using hlow
  unfold Rule.examine
  dsimp only
  rw [if_pos (.inr ht), hst, hg]
  exact (if_neg hhigh).trans (if_pos (by omega))

/-- R28, R30: a group that closes behind an empty queue, with no entry held. -/
theorem Rule.closeGroup_joins (s : State) (p : Proj) (g : TabGroup) (hq : (s.rd p).queue = []) (hh : (s.rd p).held = []) :
    ∃ x, Rule.closeGroup ⟨s, [], false⟩ p g = ⟨((s.setRd p { s.rd p with
      state := .watch
      group := none
      queue := [g.entry] }).reportProj p (.cueSeen g.entry)).setLp p x, [.cues p], false⟩ := by
  have hjoin : Rule.joinCue ⟨s, [], false⟩ p g.entry =
      ⟨(s.setRd p { s.rd p with queue := [g.entry] }).reportProj p (.cueSeen g.entry), [.cues p], false⟩ := by
    unfold Rule.joinCue
    dsimp only
    rw [if_pos (by rw [hq]; decide), hq]
    rfl
  let u := (s.setRd p { s.rd p with queue := [g.entry] }).reportProj p (.cueSeen g.entry)
  have hrd : u.rd p = { s.rd p with queue := [g.entry] } := (State.setRd_rd ..).trans (if_pos rfl)
  have hheld : (u.rd p).held = [] := (congrArg Reader.held hrd).trans hh
  have hput : u.setRd p { u.rd p with state := .watch, group := none, held := [] } =
      (s.setRd p { s.rd p with state := .watch, group := none, queue := [g.entry] }).reportProj p (.cueSeen g.entry) := by
    rw [hrd, ← hh]
    exact congrArg (fun v : State => v.reportProj p (.cueSeen g.entry)) (State.setRd_setRd ..)
  have hclose : Rule.closeGroup ⟨s, [], false⟩ p g =
      Rule.joinCues ⟨(u.setRd p { u.rd p with state := .watch, group := none, held := [] }).evalBurst p, [.cues p], false⟩ p
        (u.rd p).held := by
    unfold Rule.closeGroup
    dsimp only
    rw [hjoin]
    rfl
  rw [hclose, hheld, hput]
  exact ⟨_, rfl⟩

/-- R5, R27, R28: the counted pulse of a RUNNING projector that closes a group, up to its house. -/
theorem Rule.pulse_closes (s : State) (p : Proj) (n : Nat) {u : Instant} {g : TabGroup} (hu : (s.tr p).lastPulse = some u)
    (hrun : (s.tr p).state = .running) (hst : (s.rd p).state = .gap) (hg : (s.rd p).group = some g) (hgap : g.gapFrames = 7)
    (hlow : n < (s.rd p).threshold) (hq : (s.rd p).queue = []) (hh : (s.rd p).held = []) :
    ∃ w l, Rule.pulse ⟨s, [], false⟩ p n = Rule.housePulse ⟨w, l, false⟩ p ∧ s.Counted w p ∧
      w.rd p = { s.rd p with state := .watch, group := none, queue := [g.entry] } ∧ l.length ≤ 2 ∧
      (∀ y ∈ l, y = .cues p ∨ y = .readiness (houseOf p)) ∧
      ((s.tr p).outCount < 23 → w.link = s.link.enqueue (projNumber p) (.cueSeen g.entry)) := by
  obtain ⟨k, hpulse, hk⟩ := Rule.pulseRunning_link s p hu
  obtain ⟨hxrun, hxcount, hxarmed⟩ := (s.tr p).pulsedRunning_keeps u s.now (s.speedOf p)
  let v := (s.setTr p ((s.tr p).pulsedRunning u s.now (s.speedOf p))).setLink k
  have hvtr (q : Proj) : v.tr q = if q = p then (s.tr p).pulsedRunning u s.now (s.speedOf p) else s.tr q := State.setTr_tr ..
  have hvp : v.tr p = (s.tr p).pulsedRunning u s.now (s.speedOf p) := (hvtr p).trans (if_pos rfl)
  have hvrun : (v.tr p).state = .running := by
    rw [hvp, hxrun, hrun]
  obtain ⟨x, hclose⟩ := Rule.closeGroup_joins v p g hq hh
  have hexamine := (Rule.examine_closes ⟨v, [], false⟩ p n hvrun hst hg hgap hlow).trans hclose
  let d : Reader := { s.rd p with state := .watch, group := none, queue := [g.entry] }
  let w := ((v.setRd p d).reportProj p (.cueSeen g.entry)).setLp p x
  obtain ⟨l, hl, hjudge⟩ := Rule.evalSufficiency_cases w [.cues p] false p
  have hlp (q : Proj) (hq : q ≠ p) : (w.judged p).lp q = s.lp q :=
    (State.setLp_lp ..).trans ((if_neg hq).trans ((State.setLp_lp ..).trans (if_neg hq)))
  refine ⟨w.judged p, [.cues p] ++ l, ?_, ⟨hvrun, (congrArg Transport.counter hvp).trans hxcount,
    (congrArg Transport.armed hvp).trans hxarmed, fun q hq => (hvtr q).trans (if_neg hq),
    fun q hq => (State.setRd_rd ..).trans (if_neg hq), hlp, rfl, rfl, rfl, rfl, rfl, rfl⟩,
    (State.setRd_rd ..).trans (if_pos rfl), ?_, fun y hy => ?_, fun hn => ?_⟩
  · unfold Rule.pulse Rule.passPulse
    dsimp only
    rw [hrun]
    dsimp only
    rw [hpulse, hexamine]
    exact congrArg (fun r : Rule => r.housePulse p) hjudge
  · rcases hl with rfl | rfl <;> simp
  · rcases List.mem_append.1 hy with hy | hy
    · exact .inl (List.mem_singleton.1 hy)
    · rcases hl with rfl | rfl
      · cases hy
      · exact .inr (List.mem_singleton.1 hy)
  · exact congrArg (fun k : Link => k.enqueue (projNumber p) (.cueSeen g.entry)) (hk hn)

end Sys2Proof.Machine
end

section
/-! PROOFS. A house that comes to rest after a counted pulse of its live reel. -/

namespace Sys2Proof.Machine

/-- R112, R114, R117: the changeover record of house `h`, if there is one, waits: its incoming is not ready to follow, or its delay
runs, or its incoming is started and stands short of its picture, or its crossing is not complete. -/
def State.ChangeWaits (t : State) (h : HouseId) : Prop :=
  ∀ y, (t.hs h).change = some y →
    (t.readyToFollow h y.incoming = false ∨ (y.phase = .delay ∧ y.held = none ∧ y.delayEnd ≠ none) ∨ y.phase.started = true) ∧
    (y.phase = .due → t.shortOfPicture y.incoming) ∧ (y.phase = .crossing → t.crossingDone y = false)

theorem State.changeWaits_none {t : State} {h : HouseId} (hc : (t.hs h).change = none) : t.ChangeWaits h :=
  fun _ hy => nomatch hc.symm.trans hy

section
variable {t : State} {h : HouseId} (a : t.ChangeWaits h) (l : List Signal)
include a

theorem Rule.readinessTest_waits : Rule.readinessTest ⟨t, l, false⟩ h = ⟨t, l, false⟩ := by
  unfold Rule.readinessTest
  cases hy : (t.hs h).change with
  | none => rfl
  | some y =>
    obtain ⟨hready, -, -⟩ := a y hy
    dsimp only
    split
    · rename_i hr
      rcases hready with hready | ⟨hph, hheld, hend⟩ | hstarted
      · exact nomatch hr.symm.trans hready
      · rw [hph, hheld]
        exact if_neg hend
      · cases hph : y.phase
        case waitReady => exact nomatch (congrArg ChangePhase.started hph).symm.trans hstarted
        case delay => exact nomatch (congrArg ChangePhase.started hph).symm.trans hstarted
        all_goals rfl
    · rfl

theorem Rule.crossingTest_short : Rule.crossingTest ⟨t, l, false⟩ h = ⟨t, l, false⟩ := by
  unfold Rule.crossingTest
  cases hy : (t.hs h).change with
  | none => rfl
  | some y =>
    obtain ⟨-, hdue, -⟩ := a y hy
    refine if_neg fun ⟨hph, hrun, hlead⟩ => ?_
    rcases hdue hph with hno | hlt
    · exact hno hrun
    · exact absurd hlead (Nat.not_le.2 hlt)

theorem Rule.completionTest_unfinished : Rule.completionTest ⟨t, l, false⟩ h = ⟨t, l, false⟩ := by
  unfold Rule.completionTest
  cases hy : (t.hs h).change with
  | none => rfl
  | some y =>
    obtain ⟨-, -, hcross⟩ := a y hy
    dsimp only
    split
    · rfl
    · refine if_neg fun hdone => ?_
      by_cases hph : y.phase = .crossing
      · exact nomatch hdone.symm.trans (hcross hph)
      · unfold State.crossingDone at hdone
        split at hdone
        · contradiction
        · cases hdone

theorem Rule.look_waits (hst : (t.hs h).state ≠ .starting) : Rule.look ⟨t, l, false⟩ h = ⟨t, l, false⟩ := by
  rw [Rule.look, Rule.pictureTest_idle _ hst, Rule.readinessTest_waits a, Rule.crossingTest_short a, Rule.completionTest_unfinished a]

end

/-- R5, R106: the house of projector `p`, whose side is live, has nothing more to do in this rule. -/
structure State.Rests (t : State) (p : Proj) : Prop where
  idle : (t.hs (houseOf p)).state ≠ .starting
  side : (t.hs (houseOf p)).liveSide = some (sideOf p)
  queue : (t.rd p).queue = []
  frames : t.fireFrameCues (houseOf p) = t
  fallback : ∀ l, Rule.countedFallback ⟨t, l, false⟩ (houseOf p) = ⟨t, l, false⟩
  tail : ∀ l, Rule.tailTest ⟨t, l, false⟩ (houseOf p) = ⟨t, l, false⟩
  waits : t.ChangeWaits (houseOf p)

section
variable {t : State} {p : Proj} {e : ReelEntry} (hside : (t.hs (houseOf p)).liveSide = some (sideOf p)) (hq : (t.rd p).queue = [])
  (hheld : t.heldEntry p = some e)
include hside hq hheld

/-- R106, R110, R122, R132: a SHOWING house short of the tail, past no expected frame, and with no FRAME cue due. -/
theorem State.rests_showing (hst : (t.hs (houseOf p)).state = .showing) (hd : t.distinctReels (houseOf p))
    (hhome : (t.tr p).armed.map (fun a => a.house) = some (houseOf p))
    (hcues : ∀ c ∈ e.cues, (!c.fired && frameReached (t.tr p).counter c.trigger) = false)
    (hm : t.noCountedMotor p e (t.hs (houseOf p)).marks) (hc : t.noCountedChange p e (t.hs (houseOf p)).marks)
    (hshort : (t.tr p).counter < e.leader + e.picture) (hw : t.ChangeWaits (houseOf p)) : t.Rests p := by
  have hlive := State.liveProj_side hside
  have hentry := State.liveEntry_side hside hheld
  refine ⟨fun h => (nomatch hst.symm.trans h), hside, hq, State.fireFrameCues_idle hside hd hhome hheld hcues,
    fun l => Rule.countedFallback_untaken ⟨t, l, false⟩ hlive hentry hm hc, fun l => ?_, hw⟩
  unfold Rule.tailTest
  rw [hlive, hentry]
  refine if_neg fun ⟨_, hat⟩ => ?_
  rw [State.atTail, hheld] at hat
  exact absurd (of_decide_eq_true hat) (Nat.not_le.2 hshort)

/-- R100: a house that is no longer SHOWING. -/
theorem State.rests_ending (hst : (t.hs (houseOf p)).state = .ending) (hc : (t.hs (houseOf p)).change = none) : t.Rests p := by
  have hlive := State.liveProj_side hside
  have hentry := State.liveEntry_side hside hheld
  have hno : (t.hs (houseOf p)).state ≠ .showing := fun h => nomatch hst.symm.trans h
  refine ⟨fun h => (nomatch hst.symm.trans h), hside, hq, ?_, fun l => ?_, fun l => ?_, State.changeWaits_none hc⟩
  · unfold State.fireFrameCues
    rw [hlive, hentry]
    exact if_neg hno
  · refine Rule.countedFallback_nothing ⟨t, l, false⟩ _ fun q v _ _ => ?_
    simp only [State.counterPasses_iff]
    exact ⟨fun ⟨_, _, hs, _⟩ => absurd hs hno, fun ⟨_, _, hs, _⟩ => absurd hs hno⟩
  · unfold Rule.tailTest
    rw [hlive, hentry]
    exact if_neg fun ⟨hs, _⟩ => hno hs

end

section
variable {t : State} {p : Proj} (a : t.Rests p)
include a

theorem State.Rests.takes (l : List Signal) : Rule.takeCues ⟨t, l, false⟩ (houseOf p) = ⟨t, l, false⟩ :=
  Rule.takeCues_nothing _ (State.liveProj_side a.side) a.queue

/-- R5, R106, R110: what the house of the live projector does at its counted pulse. -/
theorem Rule.housePulse_rests {w u : State} {l l1 l' : List Signal} (hst : (w.hs (houseOf p)).state = .showing)
    (hside : (w.hs (houseOf p)).liveSide = some (sideOf p)) (hr : (w.hs (houseOf p)).retiring = none)
    (htake : Rule.takeCues ⟨w, l, false⟩ (houseOf p) = ⟨u, l1, false⟩) (hframes : u.fireFrameCues (houseOf p) = u)
    (hfall : Rule.countedFallback ⟨u, l1, false⟩ (houseOf p) = ⟨t, l', false⟩) :
    Rule.housePulse ⟨w, l, false⟩ p = ⟨t, l', false⟩ := by
  have hshow : Rule.showPulse ⟨w, l, false⟩ (houseOf p) p = ⟨t, l', false⟩ := by
    unfold Rule.showPulse
    rw [if_pos ⟨hst, State.liveProj_side hside⟩, htake]
    dsimp only [Rule.upd]
    rw [hframes, hfall, a.tail]
  rw [Rule.housePulse_showing ⟨w, l, false⟩ p hst (by rw [hr]; nofun), hshow, Rule.pictureTest_idle _ a.idle,
    Rule.crossingTest_short a.waits]

/-- R106: what a counted pulse of the live reel leaves on the agenda brings about nothing more. -/
theorem Rule.finish_rests {l : List Signal} (hlen : l.length ≤ 8)
    (hl : ∀ y ∈ l, y = .cues p ∨ y = .readiness (houseOf p) ∨ ∃ q, y = .transport q .starting) :
    Rule.finish ⟨t, l, false⟩ = .next t := by
  refine Rule.finish_settled (Rule.settle_unheeded settleBound t l false (hlen.trans (by decide)) fun y hy l' => ?_) nofun
  rcases hl y hy with rfl | rfl | ⟨q, rfl⟩
  · exact (if_pos (State.liveProj_side a.side)).trans (a.takes l')
  · exact Rule.look_waits a.waits l' a.idle
  · rfl

end

/-! ## The closing of a group of the live reel -/

/-- R106: the only entry of the live queue. -/
theorem Rule.takeCues_single {w t : State} {l l' : List Signal} {h : HouseId} {p : Proj} {e : ReelEntry} {y : CueEntry}
    (hst : (w.hs h).state = .showing) (hlive : w.liveProj h = some p) (hentry : w.liveEntry h = some e) (hq : (w.rd p).queue = [y])
    (hy : y.code ≠ .bad) (htake : Rule.takeEntry ⟨w.setRd p { w.rd p with queue := [] }, l, false⟩ h p e y = ⟨t, l', false⟩)
    (htlive : t.liveProj h = some p) (htq : (t.rd p).queue = []) : Rule.takeCues ⟨w, l, false⟩ h = ⟨t, l', false⟩ := by
  unfold Rule.takeCues
  rw [hlive]
  dsimp only
  rw [hq]
  refine (Rule.takeHeads_head 1 ⟨w, l, false⟩ hst hlive hentry hq).trans ((if_neg hy).trans ?_)
  refine (congrArg (Rule.takeHeads 1 h) htake).trans ?_
  exact Rule.takeHeads_empty 1 ⟨t, l', false⟩ htlive htq

/-- R5, R27, R28, R106: the counted pulse that closes a group of the live reel: its entry is taken, in the state `v`. -/
theorem exec_tachPulse_closes {s : State} {dt : Nat} {p : Proj} {reading : Byte} {e : ReelEntry} {g : TabGroup} {u : Instant}
    (hst : (s.hs (houseOf p)).state = .showing) (hside : (s.hs (houseOf p)).liveSide = some (sideOf p))
    (hr : (s.hs (houseOf p)).retiring = none) (hrun : (s.tr p).state = .running) (hu : (s.tr p).lastPulse = some u)
    (hheld : s.heldEntry p = some e) (hgap : (s.rd p).state = .gap) (hg : (s.rd p).group = some g) (hframes : g.gapFrames = 7)
    (hcode : g.code ≠ .bad) (hlow : reading.toNat < (s.rd p).threshold) (hq : (s.rd p).queue = []) (hh : (s.rd p).held = []) :
    ∃ v l, (s.elapse dt).Counted v p ∧ v.rd p = { s.rd p with state := .watch, group := none } ∧
      ((s.tr p).outCount < 23 → v.link = s.link.enqueue (projNumber p) (.cueSeen g.entry)) ∧
      ∀ t ls, Rule.takeEntry ⟨v, l, false⟩ (houseOf p) p e g.entry = ⟨t, l ++ ls, false⟩ → t.Rests p →
        (ls = [] ∨ ∃ q, ls = [.transport q .starting]) → exec (.tachPulse dt p reading) s = .next t := by
  obtain ⟨w, l, hpulse, a, hrd, hlen, hl, hlink⟩ := Rule.pulse_closes (s.elapse dt) p reading.toNat hu hrun hgap hg hframes hlow hq hh
  have hqueue : ({ w.rd p with queue := [] } : Reader) = { s.rd p with state := .watch, group := none } := by
    rw [hrd]
    exact congrArg (fun q => { s.rd p with state := .watch, group := none, queue := q }) hq.symm
  have hwhs : w.hs (houseOf p) = s.hs (houseOf p) := a.hs _
  refine ⟨w.setRd p { w.rd p with queue := [] }, l, a.setRd _, ((State.setRd_rd ..).trans (if_pos rfl)).trans hqueue,
    fun hn => hlink hn, fun t ls htake ht hls => ?_⟩
  have htakes := Rule.takeCues_single (w := w) (by rw [hwhs]; exact hst) (State.liveProj_side (by rw [hwhs]; exact hside))
    (State.liveEntry_side (by rw [hwhs]; exact hside) ((a.heldEntry p).trans hheld)) (congrArg Reader.queue hrd) hcode htake
    (State.liveProj_side ht.side) ht.queue
  have hhouse := Rule.housePulse_rests ht (w := w) (by rw [hwhs]; exact hst) (by rw [hwhs]; exact hside) (by rw [hwhs]; exact hr)
    htakes ht.frames (ht.fallback _)
  refine (congrArg Rule.finish (hpulse.trans hhouse)).trans (Rule.finish_rests ht ?_ fun y hy => ?_)
  · rw [List.length_append]
    rcases hls with rfl | ⟨q, rfl⟩ <;> simp <;> omega
  · rcases List.mem_append.1 hy with hy | hy
    · exact (hl y hy).imp_right .inl
    · rcases hls with rfl | ⟨q, rfl⟩
      · cases hy
      · exact .inr (.inr ⟨q, List.mem_singleton.1 hy⟩)

end Sys2Proof.Machine
end

section
/-! PROOFS. What a cue entry of the live reel brings about, by its code and the changeover record. -/

namespace Sys2Proof.Machine

/-- R107: the house once a record has been created. -/
def House.recorded (x : House) (c : Changeover) : House :=
  { x with change := some c, marks := { x.marks with motorTaken := true } }

theorem State.createChange_eq (s : State) (h : HouseId) (c : Changeover) :
    s.createChange h c = s.setHs h ((s.hs h).recorded c) := by
  simp [State.createChange, State.modHs, State.modMarks, House.recorded]

section
variable {v : State} {l : List Signal} {h : HouseId} {p : Proj} {e : ReelEntry} {y : CueEntry}

/-! ## MOTOR (R107) -/

/-- R107, R109: an entry with no following entry. -/
theorem Rule.takeEntry_noFollowing (hy : y.code = .motor ∨ y.code = .change) (hf : v.followingEntry h = none) :
    Rule.takeEntry ⟨v, l, false⟩ h p e y = ⟨v.reportHouse h (.unexpected y .noFollowing), l, false⟩ := by
  unfold Rule.takeEntry
  rcases hy with hy | hy <;> rw [hy]
  · exact if_pos hf
  · exact if_pos hf

/-- R107, R111: a MOTOR entry whose incoming is ready to follow is aligned, the lead not too short. -/
theorem Rule.takeEntry_aligns {d : Nat} (hy : y.code = .motor) (hf : v.followingEntry h ≠ none) (hc : (v.hs h).change = none)
    (hm : (v.hs h).marks.motorTaken = false) (hr : v.readyToFollow h (otherProj p) = true)
    (hd : d = startDelay (v.timeOut h (waitingChange p e (match y.source with | .tab => .tab | .counted => .counted) y.frame
      (v.hs h).speed) y.frame) (v.timeIn h (otherProj p))) (hpos : d ≠ 0) :
    ∃ k, Rule.takeEntry ⟨v, l, false⟩ h p e y = ⟨(v.setLink k).setHs h { v.hs h with
      change := some { waitingChange p e (match y.source with | .tab => .tab | .counted => .counted) y.frame (v.hs h).speed with
        phase := .delay, delay := some d, delayEnd := some (v.now + 10 * d) }
      marks := { (v.hs h).marks with motorTaken := true } }, l, false⟩ := by
  let c := waitingChange p e (match y.source with | .tab => .tab | .counted => .counted) y.frame (v.hs h).speed
  let w := v.setHs h ((v.hs h).recorded c)
  have hsame : v.SameShow w h := v.sameShow_setHs h ((v.hs h).recorded c) rfl rfl
  have hwhs : w.hs h = (v.hs h).recorded c := (State.setHs_hs ..).trans (if_pos rfl)
  have hwready : w.readyToFollow h (otherProj p) = true := (hsame.readyToFollow _).trans hr
  have hspeed : (w.hs h).speed = (v.hs h).speed := by rw [hwhs]; rfl
  have hout : w.timeOut h c y.frame = v.timeOut h c y.frame := by rw [State.timeOut, State.timeOut, hspeed]
  have hin : w.timeIn h (otherProj p) = v.timeIn h (otherProj p) := by
    rw [State.timeIn, State.timeIn, State.leaderOf, State.leaderOf, hsame.heldEntry, hspeed]
    rfl
  have hdelay : startDelay (w.timeOut h c y.frame) (w.timeIn h c.incoming) = d := by
    rw [hout, show w.timeIn h c.incoming = w.timeIn h (otherProj p) from rfl, hin, hd]
  have halign := Rule.align_eq w l false h (y := c) (by rw [hwhs]; rfl) y.frame
  rw [hdelay, if_neg hpos] at halign
  have hnot : ¬ ((v.hs h).change.isSome = true ∨ (v.hs h).marks.motorTaken = true) := by simp [hc, hm]
  refine ⟨w.leadTold h c y.frame, ?_⟩
  unfold Rule.takeEntry
  rw [hy]
  unfold Rule.takeMotor
  refine (if_neg hf).trans ((if_neg hnot).trans ?_)
  simp only [Rule.upd, State.createChange_eq]
  refine (if_pos hwready).trans (halign.trans ?_)
  rw [hwhs]
  change (⟨((v.setLink _).setHs h _).setHs h _, l, false⟩ : Rule) = _
  rw [State.setHs_setHs]
  rfl

/-! ## CHANGE (R108) -/

/-- R108: a CHANGE entry with no record, whose incoming is not ready to follow, makes a record that holds the change. -/
theorem Rule.takeEntry_holds (hy : y.code = .change) (hf : v.followingEntry h ≠ none) (hc : (v.hs h).change = none)
    (hm : (v.hs h).marks.changeTaken = false) (hr : v.readyToFollow h (otherProj p) = false) :
    Rule.takeEntry ⟨v, l, false⟩ h p e y = ⟨v.setHs h { v.hs h with
      change := some { waitingChange p e .implied (v.tr p).counter (v.hs h).speed with held := some y.source }
      marks := { (v.hs h).marks with motorTaken := true, changeTaken := true } }, l, false⟩ := by
  let c := waitingChange p e .implied (v.tr p).counter (v.hs h).speed
  let w := v.setHs h ((v.hs h).recorded c)
  have hwhs : w.hs h = (v.hs h).recorded c := (State.setHs_hs ..).trans (if_pos rfl)
  have hwready : ¬ w.readyToFollow h (otherProj p) = true := by
    rw [(v.sameShow_setHs h ((v.hs h).recorded c) rfl rfl).readyToFollow, hr]
    exact Bool.false_ne_true
  have hnot : ¬ (v.hs h).marks.changeTaken = true := by simp [hm]
  unfold Rule.takeEntry
  rw [hy]
  unfold Rule.takeChange
  refine (if_neg hf).trans ?_
  rw [hc]
  refine (if_neg hnot).trans ?_
  simp only [Rule.upd, State.createChange_eq]
  refine (if_neg hwready).trans ?_
  simp only [State.holdChange, State.modChange, State.modMarks, State.modHs, State.setHs_hs, if_true, State.setHs_setHs]
  rfl

/-- R108: a CHANGE entry with no record, whose incoming is ready to follow, starts it and calls the change. -/
theorem Rule.takeEntry_implied (hy : y.code = .change) (hf : v.followingEntry h ≠ none) (hc : (v.hs h).change = none)
    (hm : (v.hs h).marks.changeTaken = false) (hr : v.readyToFollow h (otherProj p) = true) :
    let c := waitingChange p e .implied (v.tr p).counter (v.hs h).speed
    ∃ u, (v.setHs h ((v.hs h).recorded c)).MotorOn u (otherProj p) ∧ Rule.takeEntry ⟨v, l, false⟩ h p e y =
      ⟨u.setHs h (((v.hs h).recorded c).called c y.source.change none), l ++ [.transport (otherProj p) .starting], false⟩ := by
  intro c
  let w := v.setHs h ((v.hs h).recorded c)
  have hwhs : w.hs h = (v.hs h).recorded c := (State.setHs_hs ..).trans (if_pos rfl)
  have hwready : w.readyToFollow h (otherProj p) = true :=
    ((v.sameShow_setHs h ((v.hs h).recorded c) rfl rfl).readyToFollow _).trans hr
  have hnot : ¬ (v.hs h).marks.changeTaken = true := by simp [hm]
  obtain ⟨u, hon, hu⟩ := Rule.startIncoming_due w l false h y.source.change none (y := c) (by rw [hwhs]; rfl) c rfl
    (State.readyToFollow_stopped hwready)
  rw [hwhs] at hu
  refine ⟨u, hon, ?_⟩
  unfold Rule.takeEntry
  rw [hy]
  unfold Rule.takeChange
  refine (if_neg hf).trans ?_
  rw [hc]
  refine (if_neg hnot).trans ?_
  simp only [Rule.upd, State.createChange_eq]
  exact (if_pos hwready).trans hu

section
variable {c : Changeover} (hy : y.code = .change) (hf : v.followingEntry h ≠ none) (hc : (v.hs h).change = some c)
include hy hf hc

/-- R108: a CHANGE entry calls the change of a record in RUNUP or LOCKED whose incoming is short of its picture. -/
theorem Rule.takeEntry_calls (hph : c.phase = .runup ∨ c.phase = .locked) (hw : v.shortOfPicture c.incoming) :
    Rule.takeEntry ⟨v, l, false⟩ h p e y = ⟨v.setHs h ((v.hs h).called c y.source.change none), l, false⟩ := by
  have hdue := Rule.enterDue_waits v l false h y.source.change none hc hw
  unfold Rule.takeEntry
  rw [hy]
  unfold Rule.takeChange
  refine (if_neg hf).trans ?_
  rw [hc]
  rcases hph with hph | hph <;> simp only [hph] <;> exact hdue

/-- R108: a CHANGE entry is LATE for a record in DUE or CROSSING. -/
theorem Rule.takeEntry_late (hph : c.phase = .due ∨ c.phase = .crossing) :
    Rule.takeEntry ⟨v, l, false⟩ h p e y = ⟨v.reportHouse h (.late y), l, false⟩ := by
  unfold Rule.takeEntry
  rw [hy]
  unfold Rule.takeChange
  refine (if_neg hf).trans ?_
  rw [hc]
  rcases hph with hph | hph <;> simp only [hph] <;> rfl

end

/-! ## LIGHTS and END (R109) -/

/-- R109: a LIGHTS entry of a reel whose only light cue is a TAB cue not yet fired. -/
theorem Rule.takeEntry_lights {target fade : Nat} (hy : y.code = .lights) (hcues : e.cues = [⟨.tab, target, fade, false⟩]) :
    ∃ z : Light, z.programTarget = target ∧ z.programFade = fade ∧ Rule.takeEntry ⟨v, l, false⟩ h p e y =
      ⟨(v.setHs h { v.hs h with
        plan := mapReel (v.hs h).plan e.reel (fun x => { x with cues := [⟨.tab, target, fade, true⟩] }) }).setLt h z, l, false⟩ := by
  obtain ⟨htarget, hfade⟩ := (v.lt h).giveProgram_program v.now target fade (.cue e.reel .tab)
  refine ⟨(v.lt h).giveProgram v.now target fade (.cue e.reel .tab), htarget, hfade, ?_⟩
  have hfire : fireFirstTab e.cues = some (⟨.tab, target, fade, false⟩, [⟨.tab, target, fade, true⟩]) := by rw [hcues]; rfl
  unfold Rule.takeEntry
  rw [hy]
  unfold Rule.takeLights
  dsimp only
  rw [hfire]
  rfl

theorem Rule.takeEntry_noLightCue (hy : y.code = .lights) (hcues : e.cues = []) :
    Rule.takeEntry ⟨v, l, false⟩ h p e y = ⟨v.reportHouse h (.unexpected y .noLightCue), l, false⟩ := by
  unfold Rule.takeEntry
  rw [hy]
  unfold Rule.takeLights
  dsimp only
  rw [hcues]
  rfl

theorem Rule.takeEntry_notLast (hy : y.code = .ending) (hlast : e.last = false) :
    Rule.takeEntry ⟨v, l, false⟩ h p e y = ⟨v.reportHouse h (.unexpected y .notLast), l, false⟩ := by
  unfold Rule.takeEntry
  rw [hy]
  exact if_neg (by simp [hlast])

/-- R100, R109: an END entry of the last reel. -/
theorem Rule.takeEntry_ends (hy : y.code = .ending) (hlast : e.last = true) :
    Rule.takeEntry ⟨v, l, false⟩ h p e y = Rule.endSequence ⟨v, l, false⟩ h := by
  unfold Rule.takeEntry
  rw [hy]
  exact if_pos hlast

end

/-- R28: the entry of a group that is not bad. -/
theorem TabGroup.entry_good {g : TabGroup} (hb : g.bad = none) : g.entry = ⟨g.code, g.frame, .tab, none⟩ := by
  rw [TabGroup.entry, hb]

theorem TabGroup.code_good {g : TabGroup} (hb : g.bad = none) : (g.tabs = 1 → g.code = .motor) ∧ (g.tabs = 2 → g.code = .change) ∧
    (g.tabs = 3 → g.code = .lights) ∧ (g.tabs = 4 → g.code = .ending) := by
  unfold TabGroup.code
  rw [hb]
  refine ⟨fun h => ?_, fun h => ?_, fun h => ?_, fun h => ?_⟩ <;> rw [h] <;> rfl

end Sys2Proof.Machine
end

section
/-! PROOFS. The pulse that closes a group of the live reel, by its code and the changeover record. -/

namespace Sys2Proof.Machine

/-- R106: after a counted pulse a house whose record and marks alone have changed is at rest, where its record waits. -/
theorem State.Counted.rests {s v t : State} {p : Proj} {e : ReelEntry} {c : Option Changeover} {m : ReelMarks} (a : s.Counted v p)
    (hst : (s.hs (houseOf p)).state = .showing) (hside : (s.hs (houseOf p)).liveSide = some (sideOf p)) (hheld : s.heldEntry p = some e)
    (hd : s.distinctReels (houseOf p)) (hhome : (s.tr p).armed.map (fun a => a.house) = some (houseOf p)) (hcues : e.cues = [])
    (hmf : ∀ n, e.motorFrame = some n → (s.tr p).counter + 1 < n + 48 ∨ m.motorTaken = true)
    (hcf : ∀ n, e.changeFrame = some n → (s.tr p).counter + 1 < n + 12 ∨ m.changeTaken = true)
    (hshort : (s.tr p).counter + 1 < e.leader + e.picture) (htr : t.tr p = v.tr p) (hq : (t.rd p).queue = [])
    (hhs : t.hs (houseOf p) = { s.hs (houseOf p) with change := c, marks := m })
    (hw : t.ChangeWaits (houseOf p)) : t.Rests p := by
  obtain ⟨x, hx, hxh, hxr, hfind⟩ := State.heldEntry_home hhome hheld
  have hle : (t.tr p).counter ≤ (s.tr p).counter + 1 := by
    rw [htr, a.counter]
    exact min_le_right ..
  have harmed : (t.tr p).armed = (s.tr p).armed := by rw [htr, a.armed]
  refine State.rests_showing (e := e) ?_ hq ?_ ?_ ?_ (by rw [harmed]; exact hhome) (by simp [hcues]) (fun n hn => ?_)
    (fun n hn => ?_) (Nat.lt_of_le_of_lt hle hshort) hw
  · rw [hhs]
    exact hside
  · unfold State.heldEntry
    rw [harmed, hx]
    dsimp only
    rw [hxh, hhs, hxr]
    exact hfind
  · rw [hhs]
    exact hst
  · rw [State.distinctReels, hhs]
    exact hd
  · rw [hhs]
    exact (hmf n hn).imp_left (Nat.lt_of_le_of_lt hle)
  · rw [hhs]
    exact (hcf n hn).imp_left (Nat.lt_of_le_of_lt hle)

/-- R107, R111: the pulse that closes a one-tab group of the live reel aligns the start of an incoming that is ready to follow. -/
theorem exec_tachPulse_motorTab {s : State} {dt : Nat} {p : Proj} {reading : Byte} {u : Instant} {g : TabGroup} {e : ReelEntry}
    {c d : Nat} (hst : (s.hs (houseOf p)).state = .showing)
    (hside : (s.hs (houseOf p)).liveSide = some (sideOf p)) (hc : (s.hs (houseOf p)).change = none)
    (hr : (s.hs (houseOf p)).retiring = none) (hm : (s.hs (houseOf p)).marks.motorTaken = false) (hrun : (s.tr p).state = .running)
    (hu : (s.tr p).lastPulse = some u) (hgap : (s.rd p).state = .gap) (hg : (s.rd p).group = some g) (htabs : g.tabs = 1)
    (hbad : g.bad = none) (hframes : g.gapFrames = 7) (hh : (s.rd p).held = []) (hq : (s.rd p).queue = [])
    (hlow : reading.toNat < (s.rd p).threshold) (hheld : s.heldEntry p = some e) (hcues : e.cues = [])
    (hcf : e.changeFrame = some c) (hpast : (s.tr p).counter + 1 < c + 12)
    (hshort : (s.tr p).counter + 1 < e.leader + e.picture)
    (hready : s.readyToFollow (houseOf p) (otherProj p) = true)
    (hdelay : d = startDelay (timeOut g.frame c (s.hs (houseOf p)).speed) (s.timeIn (houseOf p) (otherProj p))) (hpos : d ≠ 0)
    (hd : s.distinctReels (houseOf p)) (hhome : (s.tr p).armed.map (fun a => a.house) = some (houseOf p)) :
    ∃ v k, (s.elapse dt).Counted v p ∧ v.rd p = { s.rd p with state := .watch, group := none } ∧
      exec (.tachPulse dt p reading) s = .next ((v.setLink k).setHs (houseOf p) { s.hs (houseOf p) with
        change := some { waitingChange p e .tab g.frame (s.hs (houseOf p)).speed with
          phase := .delay, delay := some d, delayEnd := some (s.now + dt + 10 * d) }
        marks := { (s.hs (houseOf p)).marks with motorTaken := true } }) := by
  have hcode := (TabGroup.code_good hbad).1 htabs
  obtain ⟨v, l, a, hrd, -, hexec⟩ := exec_tachPulse_closes (dt := dt) (reading := reading) hst hside hr hrun hu hheld hgap hg hframes
    (by rw [hcode]; nofun) hlow hq hh
  have hvhs : v.hs (houseOf p) = s.hs (houseOf p) := a.hs _
  have hvready : v.readyToFollow (houseOf p) (otherProj p) = true := (a.readyToFollow _ (otherProj_ne p)).trans hready
  have hin : v.timeIn (houseOf p) (otherProj p) = s.timeIn (houseOf p) (otherProj p) := by
    rw [State.timeIn, State.timeIn, a.leaderOf, a.trs _ (otherProj_ne p), hvhs]
    rfl
  have hentry := TabGroup.entry_good hbad
  rw [hcode] at hentry
  rw [hentry] at hexec
  let y := waitingChange p e .tab g.frame (v.hs (houseOf p)).speed
  have hout : v.timeOut (houseOf p) y g.frame = timeOut g.frame c (s.hs (houseOf p)).speed := by
    have hframe : y.changeFrame = c := by
      dsimp only [y, waitingChange]
      rw [hcf]
    rw [State.timeOut, hframe, hvhs]
  obtain ⟨k, htake⟩ := Rule.takeEntry_aligns (v := v) (l := l) (h := houseOf p) (p := p) (e := e) (y := ⟨.motor, g.frame, .tab, none⟩)
    (d := d) rfl (State.readyToFollow_following hvready) (hvhs ▸ hc) (hvhs ▸ hm) hvready
    (hdelay.trans (congrArg₂ startDelay hout.symm hin.symm)) hpos
  rw [hvhs, show v.now = s.now + dt from a.now] at htake
  refine ⟨v, k, a, hrd, hexec _ [] (htake.trans (by rw [List.append_nil])) ?_ (.inl rfl)⟩
  have hhs := (v.setLink k).setHs_hs (houseOf p) { s.hs (houseOf p) with
      change := some { waitingChange p e .tab g.frame (s.hs (houseOf p)).speed with
        phase := .delay, delay := some d, delayEnd := some (s.now + dt + 10 * d) }
      marks := { (s.hs (houseOf p)).marks with motorTaken := true } } (houseOf p)
  rw [if_pos rfl] at hhs
  refine a.rests hst hside hheld hd hhome hcues (fun _ _ => .inr rfl) (fun n hn => .inl ?_) hshort rfl ?_ hhs fun z hz => ?_
  · obtain rfl := Option.some.inj (hcf.symm.trans hn)
    exact hpast
  · exact (congrArg Reader.queue hrd).trans hq
  · rw [hhs] at hz
    obtain rfl := Option.some.inj hz
    exact ⟨.inr (.inl ⟨rfl, rfl, nofun⟩), nofun, nofun⟩

section
variable {s : State} {dt : Nat} {p : Proj} {reading : Byte} {e : ReelEntry} {g : TabGroup}
  (hshows : s.showsReel (houseOf p) p e) (hd : s.distinctReels (houseOf p)) (hgap : (s.rd p).state = .gap)
  (hg : (s.rd p).group = some g) (hbad : g.bad = none) (hframes : g.gapFrames = 7) (hlow : reading.toNat < (s.rd p).threshold)
  (hout : (s.tr p).outCount < 23)
include hshows hgap hg hbad hframes hlow hout

/-- R106: the entry of a group of a reel that is shown. -/
theorem exec_tachPulse_tab {y : CueEntry} (hy : y = ⟨g.code, g.frame, .tab, none⟩) (hcode : g.code ≠ .bad) :
    ∃ v l, (s.elapse dt).Counted v p ∧ v.rd p = { s.rd p with state := .watch, group := none } ∧
      v.link = s.link.enqueue (projNumber p) (.cueSeen y) ∧
      ∀ t ls, Rule.takeEntry ⟨v, l, false⟩ (houseOf p) p e y = ⟨t, l ++ ls, false⟩ → t.Rests p →
        (ls = [] ∨ ∃ q, ls = [.transport q .starting]) → exec (.tachPulse dt p reading) s = .next t := by
  obtain ⟨-, hst, hside, hr, -, hrun, hu, -, hheld, -, -, hq, hh⟩ := hshows
  obtain ⟨u, hu⟩ := Option.ne_none_iff_exists'.1 hu
  obtain ⟨v, l, a, hrd, hlink, hexec⟩ := exec_tachPulse_closes (dt := dt) (reading := reading) hst hside hr hrun hu hheld hgap hg hframes
    hcode hlow hq hh
  rw [TabGroup.entry_good hbad, ← hy] at hexec hlink
  exact ⟨v, l, a, hrd, hlink hout, hexec⟩

include hd
variable (hmf : ∀ n, e.motorFrame = some n → (s.tr p).counter + 1 < n + 48)
  (hcf : ∀ n, e.changeFrame = some n → (s.tr p).counter + 1 < n + 12)
include hmf hcf

/-- R109: a LIGHTS entry of a reel whose only light cue is a TAB cue not yet fired. -/
theorem exec_tachPulse_lights {target fade : Nat} (htabs : g.tabs = 3) (hcues : e.cues = [⟨.tab, target, fade, false⟩])
    (hc : (s.hs (houseOf p)).change = none) : ∃ v z, (s.elapse dt).Counted v p ∧
      v.rd p = { s.rd p with state := .watch, group := none } ∧ z.programTarget = target ∧ z.programFade = fade ∧
      exec (.tachPulse dt p reading) s = .next ((v.setHs (houseOf p) { s.hs (houseOf p) with
        plan := mapReel (s.hs (houseOf p)).plan e.reel (fun x => { x with cues := [⟨.tab, target, fade, true⟩] }) }).setLt (houseOf p) z) ∧
      State.heldEntry ((v.setHs (houseOf p) { s.hs (houseOf p) with
        plan := mapReel (s.hs (houseOf p)).plan e.reel (fun x => { x with cues := [⟨.tab, target, fade, true⟩] }) }).setLt (houseOf p) z) p =
          some { e with cues := [⟨.tab, target, fade, true⟩] } := by
  have hcode := (TabGroup.code_good hbad).2.2.1 htabs
  obtain ⟨v, l, a, hrd, -, hexec⟩ := exec_tachPulse_tab (dt := dt) hshows hgap hg hbad hframes hlow hout rfl (by rw [hcode]; nofun)
  obtain ⟨-, hst, hside, -, -, -, -, hhome, hheld, hshort, -, hq, -⟩ := hshows
  obtain ⟨x, hx, hxh, hxr, hfind⟩ := State.heldEntry_home hhome hheld
  have hvhs : v.hs (houseOf p) = s.hs (houseOf p) := a.hs _
  obtain ⟨z, htarget, hfade, htake⟩ := Rule.takeEntry_lights (v := v) (l := l) (h := houseOf p) (p := p)
    (y := ⟨g.code, g.frame, .tab, none⟩) hcode hcues
  rw [hvhs] at htake
  let t := (v.setHs (houseOf p) { s.hs (houseOf p) with
    plan := mapReel (s.hs (houseOf p)).plan e.reel (fun x => { x with cues := [⟨.tab, target, fade, true⟩] }) }).setLt (houseOf p) z
  have hhs : t.hs (houseOf p) = { s.hs (houseOf p) with
      plan := mapReel (s.hs (houseOf p)).plan e.reel (fun x => { x with cues := [⟨.tab, target, fade, true⟩] }) } :=
    (State.setHs_hs ..).trans (if_pos rfl)
  have harmed : (t.tr p).armed = (s.tr p).armed := a.armed
  have htheld : t.heldEntry p = some { e with cues := [⟨.tab, target, fade, true⟩] } := by
    unfold State.heldEntry
    rw [harmed, hx]
    dsimp only
    rw [hxh, hhs, hxr]
    refine (findReel_mapReel (s.hs (houseOf p)).plan e.reel e.reel (fun x => { x with cues := [⟨.tab, target, fade, true⟩] })
      fun _ => rfl).trans ?_
    rw [hfind, Option.map_some, if_pos rfl]
  have hle : (t.tr p).counter ≤ (s.tr p).counter + 1 := a.counter.trans_le (min_le_right ..)
  refine ⟨v, z, a, hrd, htarget, hfade, hexec t [] (htake.trans (by rw [List.append_nil])) ?_ (.inl rfl), htheld⟩
  refine State.rests_showing (e := { e with cues := [⟨.tab, target, fade, true⟩] }) ?_ ((congrArg Reader.queue hrd).trans hq) htheld ?_ ?_
    (by rw [harmed]; exact hhome) (by simp) (fun n hn => .inl (Nat.lt_of_le_of_lt hle (hmf n hn)))
    (fun n hn => .inl (Nat.lt_of_le_of_lt hle (hcf n hn))) (Nat.lt_of_le_of_lt hle hshort) (State.changeWaits_none (by rw [hhs]; exact hc))
  · rw [hhs]
    exact hside
  · rw [hhs]
    exact hst
  · rw [State.distinctReels, hhs]
    exact (mapReel_reels (s.hs (houseOf p)).plan e.reel (fun x => { x with cues := [⟨.tab, target, fade, true⟩] }) fun _ => rfl) ▸ hd

variable (hcues : e.cues = [])
include hcues

/-- R106, R109: an entry that is only reported. -/
theorem exec_tachPulse_reported {y : CueEntry} {body : ReportBody} (hy : y = ⟨g.code, g.frame, .tab, none⟩) (hcode : g.code ≠ .bad)
    (htake : ∀ v l, (s.elapse dt).Counted v p → Rule.takeEntry ⟨v, l, false⟩ (houseOf p) p e y = ⟨v.reportHouse (houseOf p) body, l, false⟩)
    (hw : ∀ v, (s.elapse dt).Counted v p → (v.reportHouse (houseOf p) body).ChangeWaits (houseOf p)) :
    ∃ t, exec (.tachPulse dt p reading) s = .next t ∧ t.houses = s.houses ∧
      t.rd p = { s.rd p with state := .watch, group := none } ∧ (∀ x, x ≠ p → t.tr x = s.tr x) ∧ t.lights = s.lights ∧
      t.dousers = s.dousers ∧ t.link = (s.link.enqueue (projNumber p) (.cueSeen y)).enqueue (houseNumber (houseOf p)) body := by
  obtain ⟨v, l, a, hrd, hlink, hexec⟩ := exec_tachPulse_tab (dt := dt) hshows hgap hg hbad hframes hlow hout hy hcode
  obtain ⟨-, hst, hside, -, -, -, -, hhome, hheld, hshort, -, hq, -⟩ := hshows
  refine ⟨v.reportHouse (houseOf p) body, hexec _ [] ((htake v l a).trans (by rw [List.append_nil])) ?_ (.inl rfl), a.houses, hrd, a.trs,
    a.lights, a.dousers, congrArg (fun k : Link => k.enqueue (houseNumber (houseOf p)) body) hlink⟩
  exact a.rests (c := (s.hs (houseOf p)).change) (m := (s.hs (houseOf p)).marks) hst hside hheld hd hhome hcues
    (fun n hn => .inl (hmf n hn)) (fun n hn => .inl (hcf n hn)) hshort rfl ((congrArg Reader.queue hrd).trans hq) (a.hs _) (hw v a)

/-- R108: a CHANGE entry calls the change of a record in RUNUP or LOCKED. -/
theorem exec_tachPulse_calls {y : Changeover} (htabs : g.tabs = 2) (hf : s.followingEntry (houseOf p) ≠ none)
    (hy : (s.hs (houseOf p)).change = some y) (hph : y.phase = .runup ∨ y.phase = .locked) (hin : y.incoming = otherProj p)
    (hw : s.shortOfPicture (otherProj p)) : ∃ v, (s.elapse dt).Counted v p ∧
      v.rd p = { s.rd p with state := .watch, group := none } ∧
      v.link = s.link.enqueue (projNumber p) (.cueSeen ⟨.change, g.frame, .tab, none⟩) ∧
      exec (.tachPulse dt p reading) s = .next (v.setHs (houseOf p) ((s.hs (houseOf p)).called y .tab none)) := by
  have hcode := (TabGroup.code_good hbad).2.1 htabs
  obtain ⟨v, l, a, hrd, hlink, hexec⟩ := exec_tachPulse_tab (dt := dt) hshows hgap hg hbad hframes hlow hout
    (y := ⟨.change, g.frame, .tab, none⟩) (by rw [hcode]) (by rw [hcode]; nofun)
  obtain ⟨-, hst, hside, -, -, -, -, hhome, hheld, hshort, -, hq, -⟩ := hshows
  have hvhs : v.hs (houseOf p) = s.hs (houseOf p) := a.hs _
  have hwaits : v.shortOfPicture y.incoming := by
    rw [hin, State.shortOfPicture, a.trs _ (otherProj_ne p), a.leaderOf]
    exact hw
  have htake := Rule.takeEntry_calls (v := v) (l := l) (h := houseOf p) (p := p) (e := e) (y := ⟨.change, g.frame, .tab, none⟩)
    (c := y) rfl (by rw [a.followingEntry]; exact hf) (by rw [hvhs]; exact hy) hph hwaits
  rw [hvhs] at htake
  have hhs : (v.setHs (houseOf p) ((s.hs (houseOf p)).called y .tab none)).hs (houseOf p) = (s.hs (houseOf p)).called y .tab none :=
    (State.setHs_hs ..).trans (if_pos rfl)
  refine ⟨v, a, hrd, hlink, hexec _ [] (htake.trans (by rw [List.append_nil]; rfl)) ?_ (.inl rfl)⟩
  refine a.rests hst hside hheld hd hhome hcues (fun n hn => .inl (hmf n hn)) (fun n hn => .inl (hcf n hn)) hshort rfl
    ((congrArg Reader.queue hrd).trans hq) hhs fun z hz => ?_
  rw [hhs] at hz
  obtain rfl := Option.some.inj hz
  refine ⟨.inr (.inr rfl), fun _ => ?_, nofun⟩
  rw [State.shortOfPicture, State.leaderOf, (v.sameShow_setHs _ ((s.hs (houseOf p)).called y .tab none) ?_ ?_).heldEntry]
  · exact hwaits
  · rw [hvhs]
    rfl
  · rw [hvhs]
    rfl

section
variable (htabs : g.tabs = 2) (hf : s.followingEntry (houseOf p) ≠ none) (hc : (s.hs (houseOf p)).change = none)
  (hm : (s.hs (houseOf p)).marks.changeTaken = false)
include htabs hf hc hm

/-- R108: a CHANGE entry with no record, whose incoming is not ready to follow. -/
theorem exec_tachPulse_holds (hr : s.readyToFollow (houseOf p) (otherProj p) = false) : ∃ v, (s.elapse dt).Counted v p ∧
      v.rd p = { s.rd p with state := .watch, group := none } ∧
      exec (.tachPulse dt p reading) s = .next (v.setHs (houseOf p) { s.hs (houseOf p) with
        change := some { waitingChange p e .implied (v.tr p).counter (s.hs (houseOf p)).speed with held := some .tab }
        marks := { (s.hs (houseOf p)).marks with motorTaken := true, changeTaken := true } }) := by
  have hcode := (TabGroup.code_good hbad).2.1 htabs
  obtain ⟨v, l, a, hrd, -, hexec⟩ := exec_tachPulse_tab (dt := dt) hshows hgap hg hbad hframes hlow hout
    (y := ⟨.change, g.frame, .tab, none⟩) (by rw [hcode]) (by rw [hcode]; nofun)
  obtain ⟨-, hst, hside, -, -, -, -, hhome, hheld, hshort, -, hq, -⟩ := hshows
  have hvhs : v.hs (houseOf p) = s.hs (houseOf p) := a.hs _
  have hvr : v.readyToFollow (houseOf p) (otherProj p) = false := (a.readyToFollow _ (otherProj_ne p)).trans hr
  have htake := Rule.takeEntry_holds (v := v) (l := l) (h := houseOf p) (p := p) (e := e) (y := ⟨.change, g.frame, .tab, none⟩)
    rfl (by rw [a.followingEntry]; exact hf) (by rw [hvhs]; exact hc) (by rw [hvhs]; exact hm) hvr
  rw [hvhs] at htake
  let x : House := { s.hs (houseOf p) with
    change := some { waitingChange p e .implied (v.tr p).counter (s.hs (houseOf p)).speed with held := some .tab }
    marks := { (s.hs (houseOf p)).marks with motorTaken := true, changeTaken := true } }
  have hhs : (v.setHs (houseOf p) x).hs (houseOf p) = x := (State.setHs_hs ..).trans (if_pos rfl)
  refine ⟨v, a, hrd, hexec _ [] (htake.trans (by rw [List.append_nil])) ?_ (.inl rfl)⟩
  refine a.rests hst hside hheld hd hhome hcues (fun n hn => .inl (hmf n hn)) (fun n hn => .inl (hcf n hn)) hshort rfl
    ((congrArg Reader.queue hrd).trans hq) hhs fun z hz => ?_
  rw [hhs] at hz
  obtain rfl := Option.some.inj hz
  refine ⟨.inl ?_, nofun, nofun⟩
  exact ((v.sameShow_setHs (houseOf p) x (by rw [hvhs]) (by rw [hvhs])).readyToFollow _).trans hvr

/-- R108: a CHANGE entry with no record, whose incoming is ready to follow. -/
theorem exec_tachPulse_implied (hr : s.readyToFollow (houseOf p) (otherProj p) = true) : ∃ v u, (s.elapse dt).Counted v p ∧
      v.rd p = { s.rd p with state := .watch, group := none } ∧
      (v.setHs (houseOf p) ((s.hs (houseOf p)).recorded (waitingChange p e .implied (v.tr p).counter (s.hs (houseOf p)).speed))).MotorOn u
        (otherProj p) ∧
      exec (.tachPulse dt p reading) s = .next (u.setHs (houseOf p) (((s.hs (houseOf p)).recorded
        (waitingChange p e .implied (v.tr p).counter (s.hs (houseOf p)).speed)).called
          (waitingChange p e .implied (v.tr p).counter (s.hs (houseOf p)).speed) .tab none)) := by
  have hcode := (TabGroup.code_good hbad).2.1 htabs
  obtain ⟨v, l, a, hrd, -, hexec⟩ := exec_tachPulse_tab (dt := dt) hshows hgap hg hbad hframes hlow hout
    (y := ⟨.change, g.frame, .tab, none⟩) (by rw [hcode]) (by rw [hcode]; nofun)
  obtain ⟨-, hst, hside, -, -, -, -, hhome, hheld, hshort, -, hq, -⟩ := hshows
  have hvhs : v.hs (houseOf p) = s.hs (houseOf p) := a.hs _
  obtain ⟨u, hon, htake⟩ := Rule.takeEntry_implied (v := v) (l := l) (h := houseOf p) (p := p) (e := e) (y := ⟨.change, g.frame, .tab, none⟩)
    rfl (by rw [a.followingEntry]; exact hf) (by rw [hvhs]; exact hc) (by rw [hvhs]; exact hm)
    ((a.readyToFollow _ (otherProj_ne p)).trans hr)
  rw [hvhs] at hon htake
  refine ⟨v, u, a, hrd, hon, hexec _ _ htake ?_ (.inr ⟨_, rfl⟩)⟩
  let c := waitingChange p e .implied (v.tr p).counter (s.hs (houseOf p)).speed
  let x := ((s.hs (houseOf p)).recorded c).called c .tab none
  have hhs : (u.setHs (houseOf p) x).hs (houseOf p) = x := (State.setHs_hs ..).trans (if_pos rfl)
  have hup : u.rd p = v.rd p := hon.rds p (otherProj_ne p).symm
  refine a.rests (t := u.setHs (houseOf p) x) hst hside hheld hd hhome hcues (fun n hn => .inl (hmf n hn)) (fun n hn => .inl (hcf n hn))
    hshort (hon.trs p (otherProj_ne p).symm) ((congrArg Reader.queue (hup.trans hrd)).trans hq) hhs fun z hz => ?_
  rw [hhs] at hz
  obtain rfl := Option.some.inj hz
  refine ⟨.inr (.inr rfl), fun _ => .inl ?_, nofun⟩
  have hstarting : (u.tr (otherProj p)).state = .starting := by
    rw [hon.tr]
    rfl
  exact fun h => nomatch hstarting.symm.trans h

end

omit hmf hcf in
/-- R100, R109: an END entry of the last reel begins the end sequence of an OPEN douser. -/
theorem exec_tachPulse_ends (htabs : g.tabs = 4) (hlast : e.last = true) (hc : (s.hs (houseOf p)).change = none)
    (hds : (s.ds p).state = .opened) : ∃ v, (s.elapse dt).Counted v p ∧
      v.rd p = { s.rd p with state := .watch, group := none } ∧
      v.link = s.link.enqueue (projNumber p) (.cueSeen ⟨.ending, g.frame, .tab, none⟩) ∧
      exec (.tachPulse dt p reading) s = .next ((v.setDs p ((s.ds p).closingFrom true (s.now + dt))).setHs (houseOf p)
        { s.hs (houseOf p) with state := .ending, dark := false, ending := some ⟨.dousing, 0⟩ }) := by
  have hcode := (TabGroup.code_good hbad).2.2.2 htabs
  obtain ⟨v, l, a, hrd, hlink, hexec⟩ := exec_tachPulse_tab (dt := dt) hshows hgap hg hbad hframes hlow hout
    (y := ⟨.ending, g.frame, .tab, none⟩) (by rw [hcode]) (by rw [hcode]; nofun)
  obtain ⟨-, hst, hside, -, -, -, -, hhome, hheld, hshort, -, hq, -⟩ := hshows
  have hvhs : v.hs (houseOf p) = s.hs (houseOf p) := a.hs _
  have hvds : v.ds p = s.ds p := a.ds p
  have hvheld : v.heldEntry p = some e := (a.heldEntry p).trans hheld
  have hend := Rule.endSequence_opened ⟨v, l, false⟩ p (e := e) (by rw [hvhs]; exact hside) (by rw [State.distinctReels, hvhs]; exact hd)
    (by rw [a.armed]; exact hhome) hvheld hcues (by rw [hvhs]; exact hc) (by rw [hvds]; exact hds)
  dsimp only [Rule.upd] at hend
  rw [hvhs, hvds, show v.now = s.now + dt from a.now] at hend
  let t := (v.setDs p ((s.ds p).closingFrom true (s.now + dt))).setHs (houseOf p)
    { s.hs (houseOf p) with state := .ending, dark := false, ending := some ⟨.dousing, 0⟩ }
  have hhs : t.hs (houseOf p) = { s.hs (houseOf p) with state := .ending, dark := false, ending := some ⟨.dousing, 0⟩ } :=
    (State.setHs_hs ..).trans (if_pos rfl)
  have htheld : t.heldEntry p = some e := by
    have hsame := v.sameShow_setHs (houseOf p) { s.hs (houseOf p) with state := .ending, dark := false, ending := some ⟨.dousing, 0⟩ }
      (by rw [hvhs]) (by rw [hvhs])
    exact (hsame.heldEntry p).trans hvheld
  refine ⟨v, a, hrd, hlink, hexec t [] ((Rule.takeEntry_ends rfl hlast).trans (hend.trans (by rw [List.append_nil]))) ?_ (.inl rfl)⟩
  exact State.rests_ending (by rw [hhs]; exact hside) ((congrArg Reader.queue hrd).trans hq) htheld (by rw [hhs]) (by rw [hhs]; exact hc)

end

end Sys2Proof.Machine
end

section
/-! PROOFS. The counted fallback at a pulse of the live reel (R110), and the theorem that settles O35. -/

namespace Sys2Proof.Machine

theorem Bank.ext_cell {α : Type} {n : Nat} {b c : Bank α n} (h : ∀ i, b.cell i = c.cell i) : b = c :=
  Vector.ext fun k hk => h ⟨k, hk⟩

/-- R110: the counted CHANGE, with no counted MOTOR before it. -/
theorem Rule.countedFallback_change (r r1 : Rule) {h : HouseId} {p : Proj} {w : ReelEntry} (hl : r.st.liveProj h = some p)
    (hw : r.st.liveEntry h = some w) (hm : r.st.noCountedMotor p w (r.st.hs h).marks)
    (hpass : r.st.counterPasses h p w.changeFrame 12 = true) (hc : (r.st.hs h).marks.changeTaken = false)
    (hcc : (r.st.hs h).marks.countedChange = false)
    (hr1 : ((r.offerCounted p .change).upd (fun s => s.modMarks h (fun m => { m with countedChange := true }))).takeCues h = r1) :
    r.countedFallback h = r1 := by
  have hno : ¬ (r.st.counterPasses h p w.motorFrame 48 = true ∧ (r.st.hs h).marks.motorTaken = false ∧
      (r.st.hs h).marks.countedMotor = false) := by
    rw [State.counterPasses_iff]
    rintro ⟨⟨n, hn, _, _, _, hle⟩, ht, -⟩
    have := (hm n hn).resolve_left (Nat.not_lt.2 hle)
    simp [ht] at this
  have hcond : r.st.counterPasses h p w.changeFrame 12 = true ∧ (r.st.hs h).marks.changeTaken = false ∧
      (r.st.hs h).marks.countedChange = false := ⟨hpass, hc, hcc⟩
  unfold Rule.countedFallback
  rw [hl, hw]
  dsimp only
  rw [if_neg hno, if_pos hcond, hr1]

/-- R108, R110: a counted CHANGE offered to a live queue that is empty calls the change of a record in RUNUP or LOCKED. -/
theorem Rule.countedFallback_calls (s : State) (l : List Signal) {p : Proj} {w : ReelEntry} {n : Nat} {c : Changeover}
    (hst : (s.hs (houseOf p)).state = .showing) (hl : s.liveProj (houseOf p) = some p) (hw : s.heldEntry p = some w)
    (hm : s.noCountedMotor p w (s.hs (houseOf p)).marks) (hn : w.changeFrame = some n) (hpast : n + 12 ≤ (s.tr p).counter)
    (hf : s.followingEntry (houseOf p) ≠ none) (hct : (s.hs (houseOf p)).marks.changeTaken = false)
    (hcc : (s.hs (houseOf p)).marks.countedChange = false) (hc : (s.hs (houseOf p)).change = some c)
    (hph : c.phase = .runup ∨ c.phase = .locked) (hshort : s.shortOfPicture c.incoming) (hg : (s.rd p).group = none)
    (hq : (s.rd p).queue = []) : Rule.countedFallback ⟨s, l, false⟩ (houseOf p) =
      ⟨(s.reportProj p (.cueSeen ⟨.change, (s.tr p).counter, .counted, none⟩)).setHs (houseOf p)
        ({ s.hs (houseOf p) with marks := { (s.hs (houseOf p)).marks with countedChange := true } }.called c .counted none),
          l ++ [.cues p], false⟩ := by
  let y : CueEntry := ⟨.change, (s.tr p).counter, .counted, none⟩
  let x : House := { s.hs (houseOf p) with marks := { (s.hs (houseOf p)).marks with countedChange := true } }
  let u := ((s.setRd p { s.rd p with queue := [y] }).reportProj p (.cueSeen y)).setHs (houseOf p) x
  let v := u.setRd p { u.rd p with queue := [] }
  have hsame : s.SameShow u (houseOf p) :=
    ((s.sameShow_setRd p _ _).trans (State.sameShow_setLink ..)).trans (State.sameShow_setHs _ _ x rfl rfl)
  have hsamev : s.SameShow v (houseOf p) := hsame.trans (u.sameShow_setRd p _ _)
  have huhs : u.hs (houseOf p) = x := (State.setHs_hs ..).trans (if_pos rfl)
  have hvhs : v.hs (houseOf p) = x := huhs
  have hurd : u.rd p = { s.rd p with queue := [y] } := (State.setRd_rd ..).trans (if_pos rfl)
  have hentry : s.liveEntry (houseOf p) = some w := (congrArg (·.bind s.heldEntry) hl).trans hw
  have hback : v.setHs (houseOf p) (x.called c .counted none) =
      (s.reportProj p (.cueSeen y)).setHs (houseOf p) (x.called c .counted none) := by
    have hself : ({ u.rd p with queue := [] } : Reader) = s.rd p := by
      rw [hurd, ← hq]
    change (((s.setRd p { s.rd p with queue := [y] }).setRd p { u.rd p with queue := [] }).reportProj p (.cueSeen y)
      |>.setHs (houseOf p) x).setHs (houseOf p) (x.called c .counted none) = _
    rw [State.setRd_setRd, State.setHs_setHs, hself, State.setRd_self]
  have hvshort : v.shortOfPicture c.incoming := by
    rw [State.shortOfPicture, State.leaderOf, hsamev.heldEntry, hsamev.tr]
    exact hshort
  have htake := Rule.takeEntry_calls (v := v) (l := l ++ [.cues p]) (h := houseOf p) (p := p) (e := w) (y := y) rfl
    (by rw [hsamev.followingEntry]; exact hf) (by rw [hvhs]; exact hc) hph hvshort
  rw [hvhs, show y.source.change = .counted from rfl, hback] at htake
  refine Rule.countedFallback_change ⟨s, l, false⟩ _ hl hentry hm ?_ hct hcc ?_
  · exact (s.counterPasses_iff ..).2 ⟨n, hn, hst, Option.isSome_iff_ne_none.2 hf, by simp [State.badHead, hq], hpast⟩
  · have hmark : (Rule.offerCounted ⟨s, l, false⟩ p .change).upd
        (fun s => s.modMarks (houseOf p) (fun m => { m with countedChange := true })) = ⟨u, l ++ [.cues p], false⟩ := by
      rw [Rule.offerCounted_joins ⟨s, l, false⟩ .change hg hq]
      rfl
    rw [hmark]
    refine Rule.takeCues_single (e := w) (by rw [huhs]; exact hst) (hsame.liveProj.trans hl) (hsame.liveEntry.trans hentry)
      (congrArg Reader.queue hurd) (by nofun) htake ?_ hq
    have hend := (s.sameShow_setLink (s.link.enqueue (projNumber p) (.cueSeen y)) (houseOf p)).trans
      (State.sameShow_setHs _ (houseOf p) (x.called c .counted none) rfl rfl)
    exact hend.liveProj.trans hl

section
variable {s : State} {dt : Nat} {p : Proj} {reading : Byte} {e : ReelEntry} {n : Nat}
  (hshows : s.showsReel (houseOf p) p e) (hd : s.distinctReels (houseOf p)) (hw : (s.rd p).state = .watch)
  (hlow : reading.toNat < (s.rd p).threshold) (hcues : e.cues = [])
include hshows hd hw hlow hcues

/-- R110: a counted pulse of the live reel, in WATCH with nothing queued: what the counted fallback leaves, in `t`. -/
theorem exec_tachPulse_fallback : ∃ v l, (s.elapse dt).Counted v p ∧ v.rd p = s.rd p ∧
    ∀ t, Rule.countedFallback ⟨v, l, false⟩ (houseOf p) = ⟨t, l ++ [.cues p], false⟩ → t.Rests p →
      exec (.tachPulse dt p reading) s = .next t := by
  obtain ⟨-, hst, hside, hr, -, hrun, hu, hhome, hheld, -, -, hq, -⟩ := hshows
  obtain ⟨u, hu⟩ := Option.ne_none_iff_exists'.1 hu
  obtain ⟨v, l, hpulse, b, hlen, -, hl⟩ := Rule.pulse_low (s.elapse dt) p reading.toNat hu (.inl hrun) (.inl hw) hlow
  have hl := hl hrun
  have a := b.counted
  have hvhs : v.hs (houseOf p) = s.hs (houseOf p) := a.hs _
  have hvrd : v.rd p = s.rd p := b.rd.trans (congrArg (fun x => { s.rd p with state := x }) hw.symm)
  have hvside : (v.hs (houseOf p)).liveSide = some (sideOf p) := hvhs ▸ hside
  have hvframes : v.fireFrameCues (houseOf p) = v :=
    State.fireFrameCues_idle hvside (by rw [State.distinctReels, hvhs]; exact hd) (by rw [a.armed]; exact hhome)
      ((a.heldEntry p).trans hheld) (by simp [hcues])
  refine ⟨v, l, a, hvrd, fun t hfall ht => ?_⟩
  have hhouse := Rule.housePulse_rests ht (hvhs ▸ hst) hvside (hvhs ▸ hr)
    (Rule.takeCues_nothing ⟨v, l, false⟩ (State.liveProj_side hvside) ((congrArg Reader.queue hvrd).trans hq)) hvframes hfall
  refine (congrArg Rule.finish (hpulse.trans hhouse)).trans (Rule.finish_rests ht ?_ fun y hy => ?_)
  · rw [List.length_append, List.length_singleton]
    omega
  · rcases List.mem_append.1 hy with hy | hy
    · exact .inr (.inl (hl y hy))
    · exact .inl (List.mem_singleton.1 hy)

variable (hg : (s.rd p).group = none) (hf : s.followingEntry (houseOf p) ≠ none)
include hg hf

/-- R107, R110: the counted MOTOR of an incoming that is not ready to follow. -/
theorem exec_tachPulse_countedMotor (hn : e.motorFrame = some n) (hpast : n + 48 ≤ (s.tr p).counter + 1)
    (hm : (s.hs (houseOf p)).marks.motorTaken = false) (hcm : (s.hs (houseOf p)).marks.countedMotor = false)
    (hcf : ∀ c, e.changeFrame = some c → (s.tr p).counter + 1 < c + 12) (hc : (s.hs (houseOf p)).change = none)
    (hr : s.readyToFollow (houseOf p) (otherProj p) = false) : ∃ v k, (s.elapse dt).Counted v p ∧ v.rd p = s.rd p ∧
      exec (.tachPulse dt p reading) s = .next ((v.setLink k).setHs (houseOf p) { s.hs (houseOf p) with
        change := some (waitingChange p e .counted ((s.tr p).counter + 1) (s.hs (houseOf p)).speed)
        marks := { (s.hs (houseOf p)).marks with motorTaken := true, countedMotor := true } }) := by
  obtain ⟨v, l, a, hrd, hexec⟩ := exec_tachPulse_fallback (dt := dt) hshows hd hw hlow hcues
  obtain ⟨-, hst, hside, -, -, -, -, hhome, hheld, hshort, hmax, hq, -⟩ := hshows
  have hvhs : v.hs (houseOf p) = s.hs (houseOf p) := a.hs _
  have hcount : (v.tr p).counter = (s.tr p).counter + 1 := a.counter.trans (Nat.min_eq_right hmax)
  have hvr : v.readyToFollow (houseOf p) (otherProj p) = false := (a.readyToFollow _ (otherProj_ne p)).trans hr
  have hvq : (v.rd p).queue = [] := (congrArg Reader.queue hrd).trans hq
  have hfall := Rule.countedFallback_motorWaits v l (w := e) (hvhs ▸ hst) (State.liveProj_side (hvhs ▸ hside))
    ((a.heldEntry p).trans hheld) hn (by rw [hcount]; exact hpast) (by rw [a.followingEntry]; exact hf) (hvhs ▸ hc) (hvhs ▸ hm)
    (hvhs ▸ hcm) hvr (by rw [hrd]; exact hg) hvq fun c hc => .inl (by rw [hcount]; exact hcf c hc)
  have hself : v.setRd p { v.rd p with queue := [] } = v := by
    rw [← hvq]
    exact v.setRd_self p
  rw [hself, hvhs, hcount] at hfall
  let x : House := { s.hs (houseOf p) with
    change := some (waitingChange p e .counted ((s.tr p).counter + 1) (s.hs (houseOf p)).speed)
    marks := { (s.hs (houseOf p)).marks with motorTaken := true, countedMotor := true } }
  let k := v.link.enqueue (projNumber p) (.cueSeen ⟨.motor, (s.tr p).counter + 1, .counted, none⟩)
  have hhs : ((v.setLink k).setHs (houseOf p) x).hs (houseOf p) = x := (State.setHs_hs ..).trans (if_pos rfl)
  refine ⟨v, k, a, hrd, hexec _ hfall ?_⟩
  refine a.rests (t := (v.setLink k).setHs (houseOf p) x) hst hside hheld hd hhome hcues (fun _ _ => .inr rfl)
    (fun c hc => .inl (hcf c hc)) hshort rfl hvq hhs fun z hz => ?_
  rw [hhs] at hz
  obtain rfl := Option.some.inj hz
  have hsame : v.SameShow ((v.setLink k).setHs (houseOf p) x) (houseOf p) :=
    (v.sameShow_setLink k _).trans (State.sameShow_setHs _ _ x (by rw [State.setLink_hs, hvhs]) (by rw [State.setLink_hs, hvhs]))
  exact ⟨.inl ((hsame.readyToFollow _).trans hvr), nofun, nofun⟩

/-- R108, R110: the counted CHANGE of a record in RUNUP or LOCKED. -/
theorem exec_tachPulse_countedChange {y : Changeover} (hn : e.changeFrame = some n) (hpast : n + 12 ≤ (s.tr p).counter + 1)
    (hct : (s.hs (houseOf p)).marks.changeTaken = false) (hcc : (s.hs (houseOf p)).marks.countedChange = false)
    (hm : (s.hs (houseOf p)).marks.motorTaken = true) (hy : (s.hs (houseOf p)).change = some y)
    (hph : y.phase = .runup ∨ y.phase = .locked) (hin : y.incoming = otherProj p) (hpic : s.shortOfPicture (otherProj p)) :
    ∃ v k, (s.elapse dt).Counted v p ∧ v.rd p = s.rd p ∧
      exec (.tachPulse dt p reading) s = .next ((v.setLink k).setHs (houseOf p) ({ s.hs (houseOf p) with
        marks := { (s.hs (houseOf p)).marks with countedChange := true } }.called y .counted none)) := by
  obtain ⟨v, l, a, hrd, hexec⟩ := exec_tachPulse_fallback (dt := dt) hshows hd hw hlow hcues
  obtain ⟨-, hst, hside, -, -, -, -, hhome, hheld, hshort, hmax, hq, -⟩ := hshows
  have hvhs : v.hs (houseOf p) = s.hs (houseOf p) := a.hs _
  have hcount : (v.tr p).counter = (s.tr p).counter + 1 := a.counter.trans (Nat.min_eq_right hmax)
  have hvq : (v.rd p).queue = [] := (congrArg Reader.queue hrd).trans hq
  have hvpic : v.shortOfPicture y.incoming := by
    rw [hin, State.shortOfPicture, a.trs _ (otherProj_ne p), a.leaderOf]
    exact hpic
  have hfall := Rule.countedFallback_calls v l (w := e) (c := y) (hvhs ▸ hst) (State.liveProj_side (hvhs ▸ hside))
    ((a.heldEntry p).trans hheld) (fun _ _ => .inr (hvhs ▸ hm)) hn (by rw [hcount]; exact hpast) (by rw [a.followingEntry]; exact hf)
    (hvhs ▸ hct) (hvhs ▸ hcc) (hvhs ▸ hy) hph hvpic (by rw [hrd]; exact hg) hvq
  rw [hvhs] at hfall
  let x : House := { s.hs (houseOf p) with
    marks := { (s.hs (houseOf p)).marks with countedChange := true } }.called y .counted none
  let k := v.link.enqueue (projNumber p) (.cueSeen ⟨.change, (v.tr p).counter, .counted, none⟩)
  have hhs : ((v.setLink k).setHs (houseOf p) x).hs (houseOf p) = x := (State.setHs_hs ..).trans (if_pos rfl)
  refine ⟨v, k, a, hrd, hexec _ hfall ?_⟩
  refine a.rests (t := (v.setLink k).setHs (houseOf p) x) (c := x.change) (m := x.marks) hst hside hheld hd hhome hcues
    (fun _ _ => .inr hm)
    (fun _ _ => .inr rfl) hshort rfl hvq hhs fun z hz => ?_
  rw [hhs] at hz
  obtain rfl := Option.some.inj hz
  refine ⟨.inr (.inr rfl), fun _ => ?_, nofun⟩
  have hsame : v.SameShow ((v.setLink k).setHs (houseOf p) x) (houseOf p) :=
    (v.sameShow_setLink k _).trans (State.sameShow_setHs _ _ x (by rw [State.setLink_hs, hvhs]; rfl) (by rw [State.setLink_hs, hvhs]; rfl))
  rw [State.shortOfPicture, State.leaderOf, hsame.heldEntry]
  exact hvpic

end

/-! ## What the pulse leaves -/

/-- R107 to R110: a change of the live house and the link after a counted pulse leaves the rest. -/
theorem State.Counted.recorded {s v : State} {dt : Nat} {p : Proj} (a : (s.elapse dt).Counted v p) (k : Link) (x : House) :
    ((v.setLink k).setHs (houseOf p) x).hs (houseOf p) = x ∧
      (∀ i, i ≠ houseOf p → ((v.setLink k).setHs (houseOf p) x).hs i = s.hs i) :=
  ⟨(State.setHs_hs ..).trans (if_pos rfl), fun i hi => (State.setHs_hs ..).trans ((if_neg hi).trans (a.hs i))⟩

/-- R110: a reader left as it was, after a counted pulse. -/
theorem State.Counted.readers_eq {s v : State} {dt : Nat} {p : Proj} (a : (s.elapse dt).Counted v p) (hrd : v.rd p = s.rd p) :
    v.readers = s.readers := by
  refine Bank.ext_cell fun i => ?_
  by_cases hi : i = p
  · rw [hi]
    exact hrd
  · exact a.rds i hi

/-- R114, R117: after a counted pulse of the outgoing, a record in DUE whose incoming stands short of its picture, or in a crossing
that is not complete, waits still. -/
theorem State.Counted.waits {s v : State} {dt : Nat} {p : Proj} {y : Changeover} (a : (s.elapse dt).Counted v p)
    (hy : (s.hs (houseOf p)).change = some y) (hin : y.incoming = otherProj p)
    (hph : (y.phase = .due ∧ s.shortOfPicture (otherProj p)) ∨ (y.phase = .crossing ∧ s.crossingDone y = false)) :
    v.ChangeWaits (houseOf p) := fun z hz => by
  obtain rfl : y = z := Option.some.inj (hy.symm.trans ((congrArg House.change (a.hs _)).symm.trans hz))
  rcases hph with ⟨hph, hpic⟩ | ⟨hph, hopen⟩
  · refine ⟨.inr (.inr (by rw [hph]; rfl)), fun _ => ?_, fun h => nomatch hph.symm.trans h⟩
    rw [hin, State.shortOfPicture, a.trs _ (otherProj_ne p), a.leaderOf]
    exact hpic
  · refine ⟨.inr (.inr (by rw [hph]; rfl)), fun h => (nomatch hph.symm.trans h), fun _ => ?_⟩
    unfold State.crossingDone at hopen ⊢
    rw [a.ds, a.ds]
    exact hopen

/-- R111: the times of an alignment, as the statement computes them. -/
theorem State.timeIn_eq {s : State} {h : HouseId} {q : Proj} {f : ReelEntry} (hf : s.heldEntry q = some f) : s.timeIn h q =
    if (s.tr q).runUp * (s.hs h).speed / 2000 < f.leader - (s.tr q).counter then (s.tr q).runUp +
      ((f.leader - (s.tr q).counter - (s.tr q).runUp * (s.hs h).speed / 2000) * 2000 + (s.hs h).speed) / (2 * (s.hs h).speed)
    else (s.tr q).runUp := by
  rw [State.timeIn, State.leaderOf, hf]
  rfl

/-- Settles O35: the record made and aligned by a MOTOR tab; the entries of the other tabs, by code and record; the counted
fallback. -/
theorem motorTabAlignsTheStart : Obligations.MotorTabAlignsTheStart := by
  refine ⟨?_, ?_, ?_⟩
  · intro s dt h p q reading u g e f c left fu tOut tIn d speed run hh hq hst hside hc hr hm hrun hu hgap hg htabs hbad hframes hheldCues
      hqueue hlow hheld hcues hlast hmf hcf hpast hshort hf hready hspeed hrunup hleft hfu hout hin hlt hdelay hd hhome
    subst hh hq
    have hpos : d ≠ 0 := by
      rw [hdelay]
      omega
    have htimeOut : timeOut g.frame c (s.hs (houseOf p)).speed = tOut := by
      rw [hout, hspeed]
      rfl
    have htimeIn : s.timeIn (houseOf p) (otherProj p) = tIn := by
      rw [hin, State.timeIn_eq hf, hfu, hleft, hrunup, hspeed]
    obtain ⟨v, k, a, hrd, hexec⟩ := exec_tachPulse_motorTab (dt := dt) (d := d) hst hside hc hr hm hrun hu hgap hg htabs hbad hframes
      hheldCues hqueue hlow hheld hcues hcf hpast hshort hready (by rw [htimeOut, htimeIn]; exact hdelay) hpos hd hhome
    obtain ⟨hhs, hhss⟩ := a.recorded k { s.hs (houseOf p) with
        change := some { waitingChange p e .tab g.frame (s.hs (houseOf p)).speed with
          phase := .delay, delay := some d, delayEnd := some (s.now + dt + 10 * d) }
        marks := { (s.hs (houseOf p)).marks with motorTaken := true } }
    refine ⟨_, hexec, hhs.trans ?_, hrd, fun x hx => ⟨a.trs x hx, a.rds x hx, a.lps x hx⟩, a.dousers, hhss, a.lights, a.ports, a.booth⟩
    simp only [waitingChange, hcf]
  · intro s dt h p q reading g e y n f hshows hd hq hgap hg hbad hframes hlow hout hmf hcf
    subst hq
    obtain ⟨rfl, -⟩ := id hshows
    have hcount : (s.tr p).counter < 65535 := by
      obtain ⟨-, -, -, -, -, -, -, -, -, -, hmax, -⟩ := hshows
      exact hmax
    have hvc {v : State} (a : (s.elapse dt).Counted v p) : (v.tr p).counter = (s.tr p).counter + 1 :=
      a.counter.trans (Nat.min_eq_right hcount)
    refine ⟨fun htabs hcues hf hc hm htrial => ?_, fun htabs hcues hf hy hph hin hw => ?_, fun htabs hcues hf hy hin hph => ?_,
      fun htabs hcues hf hc => ?_, fun htabs hcues hc => ?_, fun hcase hc => ?_, fun htabs hcues hlast hc hds => ?_⟩
    · by_cases hr : s.readyToFollow (houseOf p) (otherProj p) = true
      · obtain ⟨v, u, a, hrd, hon, hexec⟩ := exec_tachPulse_implied (dt := dt) hshows hd hgap hg hbad hframes hlow hout hmf hcf hcues htabs hf
          hc hm hr
        rw [hvc a] at hon hexec
        obtain ⟨hdousers, -⟩ := hon.untried ((congrArg Douser.trial (a.ds (otherProj p))).trans (htrial hr))
        have hus (i : HouseId) (hi : i ≠ houseOf p) : u.hs i = s.hs i :=
          (congrArg (fun b => b.cell i) hon.houses).trans ((State.setHs_hs ..).trans ((if_neg hi).trans (a.hs i)))
        have htr := hon.tr
        refine ⟨_, hexec, (State.setHs_hs ..).trans ((if_pos rfl).trans ?_), ?_, fun _ => ?_, (hon.rds p (otherProj_ne p).symm).trans hrd,
          hdousers.trans a.dousers, hon.lights.trans a.lights, fun i hi => (State.setHs_hs ..).trans ((if_neg hi).trans (hus i hi)),
          hon.ports.trans a.ports, hon.booth.trans a.booth⟩
        · simp only [hr, if_true]
          rfl
        · rw [if_pos hr]
          exact congrArg Transport.state htr
        · exact (congrArg Transport.motorOn htr).trans (congrArg some a.now)
      · have hr' : s.readyToFollow (houseOf p) (otherProj p) = false := Bool.eq_false_iff.2 hr
        obtain ⟨v, a, hrd, hexec⟩ := exec_tachPulse_holds (dt := dt) hshows hd hgap hg hbad hframes hlow hout hmf hcf hcues htabs hf
          hc hm hr'
        rw [hvc a] at hexec
        obtain ⟨hhs, hhss⟩ := a.recorded v.link { s.hs (houseOf p) with
          change := some { waitingChange p e .implied ((s.tr p).counter + 1) (s.hs (houseOf p)).speed with held := some .tab }
          marks := { (s.hs (houseOf p)).marks with motorTaken := true, changeTaken := true } }
        refine ⟨_, hexec, hhs.trans ?_, ?_, fun h => absurd h hr, hrd, a.dousers, a.lights, hhss, a.ports, a.booth⟩
        · simp only [hr', Bool.false_eq_true, if_false]
          rfl
        · rw [if_neg hr]
          exact congrArg Transport.state (a.trs _ (otherProj_ne p))
    · obtain ⟨v, a, hrd, hlink, hexec⟩ := exec_tachPulse_calls (dt := dt) hshows hd hgap hg hbad hframes hlow hout hmf hcf hcues htabs hf
        hy hph hin hw
      obtain ⟨hhs, hhss⟩ := a.recorded v.link ((s.hs (houseOf p)).called y .tab none)
      exact ⟨_, hexec, hhs, hrd, a.trs, a.dousers, a.lights, hhss, a.ports, a.booth, hlink⟩
    · have hcode := (TabGroup.code_good hbad).2.1 htabs
      obtain ⟨t, hexec, hhs, hrd, htr, hlt, hds, hlink⟩ := exec_tachPulse_reported (dt := dt) hshows hd hgap hg hbad hframes hlow hout hmf hcf
        hcues (y := ⟨.change, g.frame, .tab, none⟩) (body := .late ⟨.change, g.frame, .tab, none⟩) (by rw [hcode]) (by rw [hcode]; nofun)
        (fun v l a => Rule.takeEntry_late rfl (by rw [a.followingEntry]; exact hf) ((congrArg House.change (a.hs _)).trans hy)
          (hph.imp (fun h => h.1) fun h => h.1)) fun v a => a.waits hy hin hph
      exact ⟨t, hexec, hhs, hrd, htr, hds, hlt, hlink⟩
    · obtain ⟨hc1, hc2, -⟩ := TabGroup.code_good hbad
      have hcode : g.code = if g.tabs = 1 then .motor else .change := by
        rcases htabs with h | h
        · rw [if_pos h, hc1 h]
        · rw [if_neg (by omega), hc2 h]
      obtain ⟨t, hexec, hhs, hrd, -, hlt, hds, hlink⟩ := exec_tachPulse_reported (dt := dt) hshows hd hgap hg hbad hframes hlow hout hmf hcf
        hcues (y := ⟨if g.tabs = 1 then .motor else .change, g.frame, .tab, none⟩)
        (body := .unexpected ⟨if g.tabs = 1 then .motor else .change, g.frame, .tab, none⟩ .noFollowing) (by rw [hcode])
        (by rw [hcode]; split <;> nofun)
        (fun v l a => Rule.takeEntry_noFollowing (htabs.imp (fun h => if_pos h) fun h => if_neg (by omega))
          (by rw [a.followingEntry]; exact hf))
        fun v a => State.changeWaits_none ((congrArg House.change (a.hs _)).trans hc)
      exact ⟨t, hexec, hhs, hrd, hlt, hds, hlink⟩
    · obtain ⟨v, z, a, hrd, htarget, hfade, hexec, htheld⟩ := exec_tachPulse_lights (dt := dt) hshows hd hgap hg hbad hframes hlow hout hmf hcf
        htabs hcues hc
      obtain ⟨hhs, hhss⟩ := a.recorded v.link { s.hs (houseOf p) with
        plan := mapReel (s.hs (houseOf p)).plan e.reel (fun x => { x with cues := [⟨.tab, n, f, true⟩] }) }
      obtain ⟨-, hst, -⟩ := hshows
      refine ⟨_, hexec, ?_, ?_, congrArg (Option.map (fun z => z.cues)) htheld, (congrArg House.state hhs).trans hst,
        ?_, hrd, fun i hi => ⟨hhss i hi, ?_⟩, a.dousers, a.ports, a.booth⟩
      · rw [State.setLt_lt, if_pos rfl]
        exact htarget
      · rw [State.setLt_lt, if_pos rfl]
        exact hfade
      · refine (congrArg House.marks ((State.setHs_hs ..).trans (if_pos rfl))).trans ?_
        rfl
      · rw [State.setLt_lt, if_neg hi]
        exact congrArg (fun b => b.cell i) a.lights
    · obtain ⟨-, -, hc3, hc4⟩ := TabGroup.code_good hbad
      have hcode : g.code = if g.tabs = 3 then .lights else .ending := by
        rcases hcase with ⟨h, -⟩ | ⟨h, -⟩
        · rw [if_pos h, hc3 h]
        · rw [if_neg (by omega), hc4 h]
      have hcues : e.cues = [] := hcase.elim (fun h => h.2) fun h => h.2.1
      have htake (v : State) (l : List Signal) : Rule.takeEntry ⟨v, l, false⟩ (houseOf p) p e
          ⟨if g.tabs = 3 then .lights else .ending, g.frame, .tab, none⟩ = ⟨v.reportHouse (houseOf p)
            (if g.tabs = 3 then .unexpected ⟨.lights, g.frame, .tab, none⟩ .noLightCue
            else .unexpected ⟨.ending, g.frame, .tab, none⟩ .notLast), l, false⟩ := by
        rcases hcase with ⟨h, -⟩ | ⟨h, -, hlast⟩
        · simp only [if_pos h]
          exact Rule.takeEntry_noLightCue rfl hcues
        · simp only [if_neg (show ¬ g.tabs = 3 by omega)]
          exact Rule.takeEntry_notLast rfl hlast
      obtain ⟨t, hexec, hhs, hrd, -, hlt, hds, hlink⟩ := exec_tachPulse_reported (dt := dt) hshows hd hgap hg hbad hframes hlow hout hmf hcf
        hcues (by rw [hcode]) (by rw [hcode]; split <;> nofun) (fun v l _ => htake v l)
        fun v a => State.changeWaits_none ((congrArg House.change (a.hs _)).trans hc)
      exact ⟨t, hexec, hhs, hrd, hlt, hds, hlink⟩
    · obtain ⟨v, a, hrd, hlink, hexec⟩ := exec_tachPulse_ends (dt := dt) hshows hd hgap hg hbad hframes hlow hout hcues htabs hlast hc hds
      refine ⟨_, hexec, (State.setHs_hs ..).trans (if_pos rfl), hrd, (State.setDs_ds ..).trans (if_pos rfl),
        fun x hx => ⟨a.trs x hx, (State.setDs_ds ..).trans ((if_neg hx).trans (a.ds x))⟩, a.lights,
        fun i hi => (State.setHs_hs ..).trans ((if_neg hi).trans (a.hs i)), a.ports, a.booth, hlink⟩
  · intro s dt h p q reading e y n hshows hd hq hw hg hlow hcues hf
    subst hq
    obtain ⟨rfl, -⟩ := id hshows
    refine ⟨fun hn hpast hm hcm hcf hc hr => ?_, fun hn hpast hct hcc hm hy hph hin hpic => ?_⟩
    · obtain ⟨v, k, a, hrd, hexec⟩ := exec_tachPulse_countedMotor (dt := dt) hshows hd hw hlow hcues hg hf hn hpast hm hcm hcf hc hr
      obtain ⟨hhs, hhss⟩ := a.recorded k { s.hs (houseOf p) with
        change := some (waitingChange p e .counted ((s.tr p).counter + 1) (s.hs (houseOf p)).speed)
        marks := { (s.hs (houseOf p)).marks with motorTaken := true, countedMotor := true } }
      exact ⟨_, hexec, hhs, a.readers_eq hrd, a.trs, a.dousers, a.lights, hhss, a.ports, a.booth⟩
    · obtain ⟨v, k, a, hrd, hexec⟩ := exec_tachPulse_countedChange (dt := dt) hshows hd hw hlow hcues hg hf hn hpast hct hcc hm hy hph hin
        hpic
      obtain ⟨hhs, hhss⟩ := a.recorded k ({ s.hs (houseOf p) with
        marks := { (s.hs (houseOf p)).marks with countedChange := true } }.called y .counted none)
      exact ⟨_, hexec, hhs, a.readers_eq hrd, a.trs, a.dousers, a.lights, hhss, a.ports, a.booth⟩

end Sys2Proof.Machine
end

section
/-! PROOFS. The refutation of O13: a changeover record whose incoming belongs to another house. -/

namespace Sys2Proof.Machine

/-- The reel of the projector that turns the pulse in. -/
def strayReel : ReelEntry :=
  { reel := 1, side := .a, leader := 100, picture := 400, motorFrame := none, changeFrame := none, last := false, cues := [],
    status := .armed }

/-- The reader of that projector: OFF, with a MOTOR entry waiting. -/
def strayReader : Reader := { Reader.powerOn with queue := [⟨.motor, 5, .tab, none⟩] }

/-- House 1 SHOWING on side B, with a record in DUE whose incoming is projector 3, of house 2. That projector is RUNNING, its
douser is OPEN and the douser of projector 4 is CLOSED, with learned times of 0. Projector 1, not live, locks its speed at the
next pulse. -/
def strayIncoming : State :=
  let s := State.reset
  (((((s.setHs 0 { s.hs 0 with
    state := .showing
    liveSide := some .b
    plan := [strayReel]
    change := some { newChange 2 .tab 140 332 with phase := .due } }).setTr 0 { s.tr 0 with
    state := .starting
    lockCount := 7
    lockRunStart := some 0
    motorOn := some 0
    lastPulse := some 0
    armed := some ⟨0, 1, 0⟩ }).setRd 0 strayReader).setTr 2 { s.tr 2 with state := .running }).setDs 2 { s.ds 2 with
    state := .opened
    openTime := 0
    closeTime := 0 }).setDs 3 { s.ds 3 with
    state := .closed
    openTime := 0
    closeTime := 0 }

/-- The outcome is a next state in which no entry waits at projector `p`. -/
def leavesNoCue (p : Proj) : Host.Outcome State Fault Refusal → Bool
  | .next t => (t.rd p).queue.isEmpty
  | _ => false

/-- R114 to R117, R106: the crossing of the stray record begins at the lock with all its offsets 0, so that it completes at once,
makes side A live, and takes the entry that waits at projector 1. -/
theorem strayIncoming_takes : leavesNoCue 0 (exec (.tachPulse 417 0 0) strayIncoming) = true := by decide

/-- Refutes O13: the statement keeps the learned times of the two dousers of the pulsed projector's house at 40 ms, but lets the
house's changeover record name an incoming of another house, whose dousers' times are then free. With those 0, the crossing that
begins at the pulse completes in the same rule and makes the pulsed projector live, so that the entry waiting at its OFF reader
is taken. -/
theorem not_readerFollowsTheTabs : ¬ Obligations.ReaderFollowsTheTabs := by
  intro hall
  obtain ⟨t, ht, hoff, -⟩ := hall strayIncoming 417 0 0 1 ⟨0, 1, none, 1, 0⟩ strayReader 0 strayReel (by decide) (by decide) (by decide)
    (by decide) (by decide) (by decide) (by decide) (by decide) (by decide) (.inr (.inl (by decide)))
  have htaken := strayIncoming_takes
  rw [ht] at htaken
  change (t.rd 0).queue.isEmpty = true at htaken
  rw [hoff rfl] at htaken
  exact nomatch htaken

end Sys2Proof.Machine
end
